-- ==== Sys2Proof/Word.lean ====
section
/-! DEFINITION. The word types of the module and the plainest arithmetic on them: 32-bit registers (R11),
bytes, and the counters that saturate or wrap as the register tables say. -/

namespace Sys2Proof

/-- A register value: every register is 32 bits wide (R11). -/
abbrev Word := BitVec 32

/-- One byte of a memory or of a frame payload. -/
abbrev Byte := BitVec 8

/-- A count that saturates at `top` ("saturating" in the register tables). -/
def satInc (top n : Nat) : Nat := min top (n + 1)

/-- Addition that saturates at `top`. -/
def satAdd (top n k : Nat) : Nat := min top (n + k)

/-- Two's complement of an integer in `w` bits, as a natural number. -/
def twos (w : Nat) (x : Int) : Nat := (x % (2 ^ w : Nat)).toNat

/-- The integer that a `w`-bit two's complement field holds. -/
def signed (w n : Nat) : Int :=
  if n % 2 ^ w < 2 ^ (w - 1) then (n % 2 ^ w : Nat) else ((n % 2 ^ w : Nat) : Int) - (2 ^ w : Nat)

/-- Division of naturals rounded up; a zero divisor gives 0. -/
def ceilDiv (a b : Nat) : Nat := (a + b - 1) / b

end Sys2Proof
end

