-- ==== Sys2Proof/Syntax.lean ====
section
/-! DEFINITION. The commands of the module, one constructor for each row of spec/opcode_table.json, and the
operands they bring from outside. The table gives no row an operand field and no bits, so the operands are the
model's: what the part itself cannot know (a measurement, a received frame, the level of a pin, the verdict of a
circuit test) is an operand; everything else a step needs is in the state (log entry 2). -/

namespace Sys2Proof

/-- The three agents that reach the register map (R431). -/
inductive Agent where
  | mainImage | hostSpi | trellis
  deriving DecidableEq, Repr

/-- The interface of a privileged session: host SPI (R298) or Trellis (R339). -/
inductive SessIface where
  | spi | trl
  deriving DecidableEq, Repr

/-- A Trellis port (R305). -/
inductive TrlPort where
  | a | b
  deriving DecidableEq, Repr

/-- Control modes of a cell, Table 2-3. -/
inductive CellMode where
  | off | standby | portI | portV | caskV
  deriving DecidableEq, Repr

/-- The protections of a cell, Table 2-6, in the bit order of CEL_TRIP. -/
inductive Trip where
  | oc | portOv | caskOv | desat | ot | uvlo | commitMissed
  deriving DecidableEq, Repr

/-- The set points and limits a SET or ARM frame carries for one cell (R53, R57, R134, R209, R275).
Voltages in 10 mV, currents in mA, powers in W, slew in 0.01 A/µs, droop in mV/A. -/
structure SetPoints where
  mode     : CellMode
  iSet     : Int     -- PORT_I set point, mA
  vSet     : Nat     -- PORT_V or CASK_V set point, 10 mV
  vMax     : Nat     -- port voltage maximum, 10 mV
  vMin     : Nat     -- port voltage minimum, 10 mV
  iPos     : Nat     -- cask-to-port limit of the cell, mA
  iNeg     : Nat     -- port-to-cask limit of the cell, mA
  pLim     : Nat     -- power limit of the cell, W
  slew     : Nat
  droop    : Nat
  vEngage  : Nat     -- engage threshold, 10 mV; 0 none
  iTarget  : Nat     -- engage target of the cell, mA
  vRegen   : Nat     -- V_CASK_REGEN, 10 mV
  share    : Nat     -- absorb share, mA; 0 does not absorb
  engage   : Bool    -- an engage SET (R57)
  iAc      : Nat     -- peak of the sinusoidal term of an impedance point, mA; 0 none (R192, R193)
  fAc      : Nat     -- its frequency, 0.01 Hz
  give     : Bool    -- the values of the second kind wait two switching periods (R275)
  deriving DecidableEq, Repr

/-- What a CMD frame asks of a cell (Table 1-7, R69). -/
inductive CellCmd where
  | regRead (addr : Nat)
  | regWrite (addr : Nat) (data : Word)
  | ucErase                                        -- enter UPDATE, erase the inactive slot
  | ucBody (bytes : List Byte)                      -- next bytes of the slot body
  | ucHeader (vintage lo hi length : Nat) (crc : Word)   -- the header, completion mark last
  | ucActivate                                     -- order the new slot active
  deriving DecidableEq, Repr

/-- A telemetry frame of a cell, as it arrives (R33, Table 2-17 scales). -/
structure Telem where
  seq   : Nat          -- sequence number of the frame
  vPort : Nat          -- 10 mV
  vCask : Nat          -- 10 mV
  iPort : Int          -- mA, sign of R7
  t1    : Int          -- 0.1 °C
  t2    : Int
  absorbed : Nat       -- absorbed current, mA (R210)
  regulating : Bool    -- the cell holds its target or its cask set point (R137)
  deriving DecidableEq, Repr

/-- The side of a source's band on which a report finds it (R122, R123). -/
inductive Band where
  | under | inside | over | slope
  deriving DecidableEq, Repr

/-- What engaged a cell (R57). -/
inductive EngageBy where
  | setFrame | crossing
  deriving DecidableEq, Repr

/-- The content of an EVENT frame (Table 1-7). -/
inductive CellEvent where
  | trips (set : List Trip)
  | crossing (b : Band)
  | engaged (by_ : EngageBy)
  | regenOn
  | regenOff
  | commitMissed
  | portMax (n : Nat)     -- the port read its maximum in four consecutive samples (R179)
  deriving DecidableEq, Repr

/-- Loop-converter readings of the board probe (R90): every port and the cask at step 1, and, for each cell, the
rise of every port while that cell drives its own. 10 mV. -/
structure Probe where
  cask  : Nat
  ports : Vector Nat 7
  rises : Vector (Vector Nat 7) 7
  deriving DecidableEq, Repr

/-- The inputs of the OR-ing bus (R37), in 10 mV: the cask, the ports of cells 1 to 7 and VAUX. -/
structure OrInputs where
  cask  : Nat
  ports : Vector Nat 7
  vaux  : Nat
  deriving DecidableEq, Repr

/-- What the outside and the part's circuit tests give to a cold start (Table 4-3). Masks have bit n − 1 for cell n. -/
structure ColdEnv where
  inputs     : OrInputs     -- the OR-ing inputs whose rise brought the logic rail (R37)
  privEn     : Bool         -- PRIV_EN when the reset is released (R297)
  btnLow     : Bool         -- a press already in progress (R201)
  trained    : BitVec 7     -- links trained within three attempts (R31)
  probe      : Probe
  crystal    : Bool         -- the crystal qualified during the start (R25)
  delays     : Vector Nat 7 -- one-way link delays measured at training, ns (R31)
  cellPass   : BitVec 7     -- cells that pass their self-test (step 10)
  cellAddr   : Vector Word 7 -- where the self-test of a cell that fails located the fault (R65)
  adcPass    : BitVec 5     -- slices A to D and S that pass (R254)
  adcAborts  : Nat          -- self-tests aborted by requests (Table 9-9)
  sramOk     : Bool
  kataOk     : Bool         -- crypto known-answer tests
  paths      : BitVec 8     -- source table entries whose qualification ended valid before step 11
  srcIdMv    : Vector Nat 7 -- SRC_ID pin voltages read at the qualifications of the cold start, mV (R129)
  duration   : Nat          -- 10 µs units (SYS_STAGING)
  deriving DecidableEq, Repr

/-- The gate monitor's averages over a commit-tick interval (R236). -/
structure GateReading where
  ain7 : Int    -- mA, positive from the source into the cask
  ain8 : Nat    -- 10 mV
  deriving DecidableEq, Repr

/-- The wake inputs as they stand at a check or a latch (Table 7-5): ports in 10 mV, and AIN8. -/
structure WakeLevels where
  ports : Vector Nat 7
  ain8  : Nat
  deriving DecidableEq, Repr

/-- What the wake domain has seen when the module wakes (R204): the press of BTN_N and how long it had seen BTN_N high in SHIP before, the
wake inputs with the time each stayed at its level, and the OR-ing inputs at the wake. -/
structure WakeReport where
  pressMs  : Nat
  highMs   : Nat
  levels   : WakeLevels
  aboveMs  : Nat
  inputs   : OrInputs
  deriving DecidableEq, Repr

/-- CAPS payload, Table 8-5. Voltages 0.1 V, powers credits, resistance mΩ. -/
structure Caps where
  unitId : BitVec 64
  addr   : Nat
  mayExport : Bool
  mayImport : Bool
  ownFeed   : Bool
  limp      : Bool
  vMin   : Nat
  vMax   : Nat
  expLim : Nat
  impLim : Nat
  swapP  : Nat
  rCable : Nat
  deriving DecidableEq, Repr

/-- The terms of a contract (R224). -/
structure Terms where
  vC : Nat
  pC : Nat
  pS : Nat
  rC : Nat
  deriving DecidableEq, Repr

/-- STATUS payload, Table 8-5. -/
structure PeerStatus where
  mayExport : Bool
  mayImport : Bool
  ownFeed   : Bool
  limp      : Bool
  leakK     : Nat    -- kΩ
  power     : Int    -- 0.1 W
  deriving DecidableEq, Repr

/-- HEARTBEAT payload, Table 12-4, with the SRC of its frame. -/
structure Hb where
  src     : Nat
  isModule : Bool    -- the frame's MOD bit
  unitId  : BitVec 64
  port    : Nat
  longReq : Bool
  noNbr   : Bool
  limp    : Bool
  locked  : Bool
  chainEnd : Bool
  named   : Nat
  mode    : Nat
  tHb     : Nat      -- ms
  master  : Nat
  rank    : Nat
  hops    : Nat
  cr      : Nat      -- the frame's CR field (R327)
  deriving DecidableEq, Repr

/-- TIME payload (R333), with the local time stamp of the frame's OPEN edge. -/
structure TimeFrame where
  master : Nat
  rank   : Nat
  hops   : Nat
  time   : Nat      -- Trellis time, µs, at the sender's OPEN edge
  frac   : Nat      -- ns
  valid  : Bool
  cr     : Nat
  deriving DecidableEq, Repr

/-- What every accepted Trellis frame brings beside its payload: the port, PRIO, MOD and CR (R311, R327). -/
structure Via where
  port  : TrlPort
  prio  : Nat
  isModule : Bool
  cr    : Nat
  deriving DecidableEq, Repr

/-- REG_REQ payload (Table 12-7) with its requester. -/
structure RegReq where
  src   : Nat
  tag   : Nat
  op    : Nat       -- 1 READ, 2 WRITE
  count : Nat
  addr  : Nat
  data  : List Word
  deriving DecidableEq, Repr

/-- AUTH operations a requester sends (R339). -/
inductive AuthOp where
  | request (lease : Nat)
  | verify (signature : List Byte)
  | close
  deriving DecidableEq, Repr

/-- A Trellis frame that is not segment-local, as a port accepts it (R311, R330). -/
structure TrlFrame where
  prio  : Nat
  bcast : Bool
  isModule : Bool   -- MOD
  dest  : Nat
  src   : Nat
  typ   : Nat
  cr    : Nat
  body  : List Byte
  fcrc  : Word
  deriving DecidableEq, Repr

/-- How a frame fails on the wire (R318). -/
inductive TrlErr where
  | bit | ripple | form | clash
  deriving DecidableEq, Repr

/-- The outcome of one send attempt (R316, R318). -/
inductive SendResult where
  | taken | noTake | arbLost | error
  deriving DecidableEq, Repr

/-- GRAFT_OFFER payload (Table 13-7). -/
structure GraftOffer where
  gid      : BitVec 64
  release  : Nat
  total    : Nat
  prefix_  : Nat
  complete : Bool
  verified : Bool
  deriving DecidableEq, Repr

/-- GRAFT_WINDOW payload (Table 13-7). -/
structure GraftWin where
  gid   : BitVec 64
  first : Nat
  count : Nat
  crc   : Word
  deriving DecidableEq, Repr

/-- Health tests of the generator (R421). -/
inductive RngTest where
  | repetition | proportion
  deriving DecidableEq, Repr

/-- Which wire level a wire fault shows (R386). -/
inductive WireLevel where
  | bothHigh | bothLow
  deriving DecidableEq, Repr

/-- The commands of the module: one constructor per row of spec/opcode_table.json, in the table's order. -/
inductive Instr where
  /-- POWER_ON_RESET (R101). -/
  | powerOnReset (env : ColdEnv)
  /-- LOGIC_RAIL_FAIL (R39). -/
  | logicRailFail (low : OrInputs) (rearms : Bool)
  /-- GATE_DRIVE_UVLO (R41). -/
  | gateDriveUvlo (cell : Nat)
  /-- CRYSTAL_QUALIFIED (R25). -/
  | crystalQualified
  /-- CRYSTAL_LOST (R25). -/
  | crystalLost
  /-- LINK_TRAINING_COMPLETE (R31). -/
  | linkTrainingComplete (cell delay : Nat)
  /-- LINK_TRAINING_FAIL (R66). -/
  | linkTrainingFail (cell : Nat)
  /-- LINK_DOWN (R36). -/
  | linkDown (cell : Nat) (byMerja : Bool)
  /-- LINK_HOLD_EXPIRY (R36). -/
  | linkHoldExpiry (cell : Nat)
  /-- SYNC (R34). -/
  | sync (cell : Nat)
  /-- SET (R53). -/
  | set (cell : Nat) (sp : SetPoints)
  /-- ARM (R34). -/
  | arm (cell tick : Nat) (sp : SetPoints)
  /-- CMD (R29). -/
  | cmd (cell : Nat) (c : CellCmd)
  /-- ABORT (R71). -/
  | abort (cell : Nat)
  /-- APPLY_ARMED_SET (R34). -/
  | applyArmedSet (cell : Nat)
  /-- COMMIT_MISSED (R35). -/
  | commitMissed (cell : Nat)
  /-- TELEM (R33). -/
  | telem (cell : Nat) (f : Telem)
  /-- EVENT (R30). -/
  | event (cell : Nat) (e : CellEvent)
  /-- RSP (R29). -/
  | rsp (cell seq : Nat) (data : Word)
  /-- ACK (R29). -/
  | ack (cell seq : Nat) (toMerja ok : Bool)
  /-- COMMIT_TICK (R26). -/
  | commitTick (gate : GateReading)
  /-- GIVE_APPLIED (R275). -/
  | giveApplied (cordon : Nat)
  /-- OVERLOAD_ACCOUNT_EMPTY (R47). -/
  | overloadAccountEmpty (cell : Nat)
  /-- ENGAGE (R57). -/
  | engage (cell : Nat)
  /-- PROTECTION_TRIP (R60). -/
  | protectionTrip (cell : Nat) (t : Trip)
  /-- TRIP_CLEARED (R62). -/
  | tripCleared (cell : Nat) (t : Trip)
  /-- OC_RESTART (R63). -/
  | ocRestart (cell : Nat)
  /-- START_SELFTEST (R70). -/
  | startSelftest (cell : Nat)
  /-- RESTART (R63). -/
  | restart (cell : Nat)
  /-- WITHDRAW (R74). -/
  | withdraw (cell : Nat)
  /-- RETURN (R74). -/
  | returnCell (cell : Nat)
  /-- CLEAR_FAILED (R66). -/
  | clearFailed (cell : Nat)
  /-- SELFTEST_DUE (R70). -/
  | selftestDue (cell : Nat)
  /-- SELFTEST_COMPLETE (R70). -/
  | selftestComplete (cell : Nat) (pass : Bool) (addr : Word)
  /-- SELFTEST_RESCHEDULE (R71). -/
  | selftestReschedule (cell : Nat)
  /-- MICROCODE_TRANSFER_END (R69). -/
  | microcodeTransferEnd (cell : Nat) (ok : Bool)
  /-- RESTART_CORDON (R63). -/
  | restartCordon (cordon : Nat)
  /-- LAST_GOOD_COPY_WRITE (R93). -/
  | lastGoodCopyWrite
  /-- ENTER_SERVICE (R116). -/
  | enterService (lease : Nat)
  /-- LEAVE_SERVICE (R116). -/
  | leaveService
  /-- SERVICE_LEASE_EXPIRY (R116). -/
  | serviceLeaseExpiry
  /-- CORE_RESET (R106). -/
  | coreReset (key : Nat)
  /-- ENTER_SHIP (R202). -/
  | enterShip (key : Nat) (levels : WakeLevels)
  /-- CLEAR_LIMP_LOCK (R108). -/
  | clearLimpLock
  /-- READY (R103). -/
  | ready (by_ : Agent) (env : ColdEnv)
  /-- READY_TIMEOUT (R103). -/
  | readyTimeout (env : ColdEnv)
  /-- LIMP_CAUSE (R107). -/
  | limpCause (cause : Nat)
  /-- HELD_EXPIRY (R108). -/
  | heldExpiry
  /-- WARM_RESTART (R113). -/
  | warmRestart
  /-- LIMP_COUNT_AGE (R115). -/
  | limpCountAge
  /-- LIMP_SOURCE_READMIT (R109). -/
  | limpSourceReadmit (ref : Nat)
  /-- CASK_HELD (R104). -/
  | caskHeld
  /-- SOURCE_CROSSING_REPORT (R123). -/
  | sourceCrossingReport (entry : Nat) (b : Band)
  /-- SOURCE_QUALIFY_START (R124). -/
  | sourceQualifyStart (entry srcIdMv : Nat)
  /-- QUALIFICATION_END (R124). -/
  | qualificationEnd (entry : Nat)
  /-- SOURCE_DROP (R124). -/
  | sourceDrop (entry : Nat)
  /-- DROP_COUNT_AGE (R125). -/
  | dropCountAge (entry : Nat)
  /-- CO_LATE (R137). -/
  | coLate
  /-- HANDBACK (R138). -/
  | handback
  /-- HANDBACK_COMPLETE (R138). -/
  | handbackComplete
  /-- HANDBACK_TIMEOUT (R137). -/
  | handbackTimeout
  /-- CASK_LOW (R139). -/
  | caskLow
  /-- CASK_LOW_CLEAR (R139). -/
  | caskLowClear
  /-- SUPPLEMENT_END (R133). -/
  | supplementEnd
  /-- TEST_DROP (R124). -/
  | testDrop (entry hold : Nat)
  /-- TEST_DROP_HOLD_END (R124). -/
  | testDropHoldEnd (entry : Nat)
  /-- CHARGE_EVALUATION (R149). -/
  | chargeEvaluation
  /-- QUALIFY_REST_END (R153). -/
  | qualifyRestEnd (index : Nat)
  /-- SAFE_TIMEOUT (R160). -/
  | safeTimeout (index : Nat)
  /-- PRE_TIMEOUT (R161). -/
  | preTimeout (index : Nat)
  /-- CV_TIMER_EXPIRY (R162). -/
  | cvTimerExpiry (index : Nat)
  /-- CHG_RESTART (R171). -/
  | chgRestart (index : Nat)
  /-- HOLD (R150). -/
  | hold (index : Nat)
  /-- NEW_CYCLE (R150). -/
  | newCycle (index : Nat)
  /-- NICD_PULSE_END (R156). -/
  | nicdPulseEnd (index : Nat)
  /-- BATSW_SETTLED (R176). -/
  | batswSettled (index vBefore vNow : Nat)
  /-- BATSW_SETTLE_TIMEOUT (R176). -/
  | batswSettleTimeout (index : Nat)
  /-- BATSW_RETRY (R176). -/
  | batswRetry (index : Nat)
  /-- MISSING_PULSE_END (R180). -/
  | missingPulseEnd (index vStart vEnd : Nat)
  /-- PRESENCE_PROBE (R182). -/
  | presenceProbe (index : Nat)
  /-- PRESENCE_PROBE_END (R182). -/
  | presenceProbeEnd (index : Nat) (stayedBelow : Bool)
  /-- BOOK_CELLAR_WRITE (R187). -/
  | bookCellarWrite
  /-- SWITCH_OPEN (R177). -/
  | switchOpen (index : Nat)
  /-- SWITCH_RELEASE (R177). -/
  | switchRelease (index : Nat)
  /-- RUN (R188). -/
  | run (index : Nat)
  /-- RUN_DEEP (R189). -/
  | runDeep (index : Nat)
  /-- EIS_ABORT (R200). -/
  | eisAbort (index : Nat)
  /-- SET_REF (R198). -/
  | setRef (index : Nat)
  /-- BOOK_RESET (R185). -/
  | bookReset (index : Nat)
  /-- EIS_SCHEDULED_DUE (R188). -/
  | eisScheduledDue (index : Nat)
  /-- EIS_SCHEDULED_SKIP (R188). -/
  | eisScheduledSkip (index : Nat)
  /-- EIS_POINT_COMPLETE (R194). -/
  | eisPointComplete (index : Nat) (samples : List (Int × Int))
  /-- BTN_PRESS (R201). -/
  | btnPress
  /-- SHIP_ENTRY_DONE (R203). -/
  | shipEntryDone
  /-- SHIP_WAKE (R204). -/
  | shipWake (r : WakeReport)
  /-- LONG_PRESS_RESET (R205). -/
  | longPressReset
  /-- LONG_PRESS_HOLD_END (R205). -/
  | longPressHoldEnd (env : ColdEnv)
  /-- ABSORB_ENTRY (R210). -/
  | absorbEntry (cell : Nat)
  /-- ABSORB_RELEASE (R210). -/
  | absorbRelease (cell : Nat)
  /-- BRK_GATE_RISE (R213). -/
  | brkGateRise
  /-- BRK_GATE_FALL (R213). -/
  | brkGateFall
  /-- REGEN_OV (R215). -/
  | regenOv
  /-- PRESENTATION_TOGGLE (R218). -/
  | presentationToggle (peer : Nat) (idle : Bool)
  /-- PARTNER_RECOGNISED (R218). -/
  | partnerRecognised (peer : Nat)
  /-- QUIET_WINDOW_END (R219). -/
  | quietWindowEnd (peer ownK : Nat)
  /-- MOISTURE_PERIODIC (R219). -/
  | moisturePeriodic (peer : Nat)
  /-- WET_RETRY (R219). -/
  | wetRetry (peer : Nat)
  /-- CAPS (R223). -/
  | caps (peer seq : Nat) (c : Caps)
  /-- OFFER (R224). -/
  | offer (peer seq : Nat) (t : Terms)
  /-- ACCEPT (R225). -/
  | accept (peer seq : Nat)
  /-- REJECT (R221). -/
  | reject (peer reason : Nat)
  /-- STATUS (R226). -/
  | status (peer seq : Nat) (st : PeerStatus)
  /-- END (R228). -/
  | peerEnd (peer seq reason : Nat)
  /-- QUIET (R219). -/
  | quiet (peer seq : Nat)
  /-- TEST (R233). -/
  | peerTest (peer seq power duration : Nat)
  /-- PEER_ACK (R221). -/
  | peerAck (peer seq : Nat)
  /-- PEER_STATUS_SEND (R222). -/
  | peerStatusSend (peer : Nat)
  /-- PEER_REPLY_TIMEOUT (R222). -/
  | peerReplyTimeout (peer : Nat)
  /-- SWAP_PULSE (R227). -/
  | swapPulse (peer : Nat)
  /-- SWAP_FAIL (R227). -/
  | swapFail (peer : Nat)
  /-- SWAP_OFFER_TIMEOUT (R227). -/
  | swapOfferTimeout (peer : Nat)
  /-- PARTNER_LOST (R229). -/
  | partnerLost (peer : Nat)
  /-- BACKOFF_END (R230). -/
  | backoffEnd (peer : Nat)
  /-- EXPORT_TEST (R233). -/
  | exportTest (peer power duration : Nat)
  /-- EXPORT_TEST_END (R233). -/
  | exportTestEnd (peer : Nat)
  /-- END_CONTRACT (R234). -/
  | endContract (peer : Nat)
  /-- RECHECK_MOISTURE (R234). -/
  | recheckMoisture (peer : Nat)
  /-- SLOT_CONVERSION_DONE (R242). -/
  | slotConversionDone (conv slot : Nat) (raw : BitVec 24)
  /-- TRIGGER (R246). -/
  | trigger (route : Nat)
  /-- TRIGGERED_CONVERSION_DONE (R246). -/
  | triggeredConversionDone (conv : Nat) (raw : BitVec 24)
  /-- ADC_TIMER_EXPIRY (R245). -/
  | adcTimerExpiry (timer : Nat)
  /-- COMPARATOR_TRANSITION (R247). -/
  | comparatorTransition (cmp : Nat) (active : Bool)
  /-- REFERENCE_SETTLED (R250). -/
  | referenceSettled (conv : Nat)
  /-- CALIBRATION_FRAME_BOUNDARY (R251). -/
  | calibrationFrameBoundary (diff : Nat) (selfTestPass : Bool)
  /-- DIAG (R255). -/
  | diag (conv channel : Nat)
  /-- ADC_CLEAR_FAILED (R253). -/
  | adcClearFailed (slice : Nat) (pass : Bool)
  /-- ADC_SWTRG_WRITE (R245). -/
  | adcSwtrgWrite (routes : BitVec 8)
  /-- STG_WRITE (R262). -/
  | stgWrite (by_ : Agent) (addr : Nat) (data : Word)
  /-- STG_IMG_DATA_WRITE (R260). -/
  | stgImgDataWrite (by_ : Agent) (data : Word)
  /-- CHECK (R264). -/
  | check (by_ : Agent)
  /-- CHECK_COMPLETE (R264). -/
  | checkComplete
  /-- COMMIT (R265). -/
  | commit (by_ : Agent)
  /-- COMMIT_AT (R269). -/
  | commitAt (by_ : Agent)
  /-- CANCEL (R263). -/
  | cancel (by_ : Agent)
  /-- CLEAR (R261). -/
  | clear (by_ : Agent)
  /-- COMMIT_AT_ARM (R269). -/
  | commitAtArm
  /-- ARM_ACK_MISSING (R267). -/
  | armAckMissing
  /-- STAGED_SET_APPLY (R266). -/
  | stagedSetApply
  /-- SCHEDULED_TIME_LOST (R269). -/
  | scheduledTimeLost
  /-- BANK_OWNER_IDLE (R261). -/
  | bankOwnerIdle
  /-- SPI_READ (R285). -/
  | spiRead (addr : Nat) (late : Bool)
  /-- SPI_WRITE (R287). -/
  | spiWrite (addr : Nat) (data : Word) (late : Bool)
  /-- NOP (R284). -/
  | nop (addr : Nat) (late : Bool)
  /-- RESEND (R290). -/
  | resend (addr : Nat) (late : Bool)
  /-- IF_READ (R284). -/
  | ifRead (addr : Nat) (late : Bool)
  /-- IF_WRITE (R284). -/
  | ifWrite (addr : Nat) (data : Word) (late : Bool)
  /-- UNKNOWN_CMD (R284). -/
  | unknownCmd (addr : Nat) (late : Bool)
  /-- FRAME_DISCARDED (R289). -/
  | frameDiscarded (edges : Nat) (late : Bool)
  /-- REGISTER_WRITE (R13). -/
  | registerWrite (by_ : Agent) (addr : Nat) (data : Word)
  /-- REQUEST (R298). -/
  | request (lease : Nat)
  /-- VERIFY (R299). -/
  | verify
  /-- CLOSE (R300). -/
  | close
  /-- CHALLENGE_FORMED (R299). -/
  | challengeFormed (iface : SessIface)
  /-- VERIFY_COMPLETE (R300). -/
  | verifyComplete (iface : SessIface)
  /-- CHALLENGE_EXPIRY (R300). -/
  | challengeExpiry (iface : SessIface)
  /-- SESSION_LEASE_EXPIRY (R300). -/
  | sessionLeaseExpiry (iface : SessIface)
  /-- LOCKOUT_END (R300). -/
  | lockoutEnd (iface : SessIface)
  /-- SPI_AUTH_DATA_ACCESS (R298). -/
  | spiAuthDataAccess (write : Option Word)
  /-- HEARTBEAT (R322). -/
  | heartbeat (port : TrlPort) (hb : Hb)
  /-- TIME (R333). -/
  | time (port : TrlPort) (t : TimeFrame)
  /-- DELAY_REQ (R334). -/
  | delayReq (via : Via) (src t1 t2 t3 : Nat)
  /-- DELAY_RSP (R334). -/
  | delayRsp (via : Via) (src t1 t2 t3 t4 : Nat)
  /-- CREDIT (R327). -/
  | credit (port : TrlPort) (count : Nat)
  /-- REG_REQ (R336). -/
  | regReq (via : Via) (r : RegReq)
  /-- AUTH (R339). -/
  | auth (via : Via) (src : Nat) (op : AuthOp)
  /-- TRELLIS_FORWARD (R330). -/
  | trellisForward (port : TrlPort) (f : TrlFrame)
  /-- TRELLIS_FRAME_ERROR (R318). -/
  | trellisFrameError (port : TrlPort) (e : TrlErr)
  /-- TRELLIS_SEND_RESULT (R318). -/
  | trellisSendResult (port : TrlPort) (r : SendResult)
  /-- CLASH_BACKOFF_END (R317). -/
  | clashBackoffEnd (port : TrlPort)
  /-- HEARTBEAT_SEND (R320). -/
  | heartbeatSend (port : TrlPort)
  /-- NEIGHBOUR_LOST (R321). -/
  | neighbourLost (port : TrlPort)
  /-- TIME_SEND (R333). -/
  | timeSend
  /-- TIME_LOCK_LOST (R333). -/
  | timeLockLost
  /-- DELAY_MEASURE (R334). -/
  | delayMeasure
  /-- CREDIT_OWED_SEND (R327). -/
  | creditOwedSend (port : TrlPort)
  /-- LEARN_AGE (R329). -/
  | learnAge (addr : Nat)
  /-- CENSUS_AGE (R323). -/
  | censusAge (port : TrlPort) (addr : Nat)
  /-- PASS_THROUGH_OPEN (R324). -/
  | passThroughOpen
  /-- SET_ADDR (R310). -/
  | setAddr (addr : Nat)
  /-- FLUSH_LEARN (R329). -/
  | flushLearn
  /-- MEASURE_DELAY (R334). -/
  | measureDelay
  /-- END_SESSION (R339). -/
  | endSession
  /-- TRL_TIME_LO_READ (R341). -/
  | trlTimeLoRead (by_ : Agent)
  /-- GRAFT_OFFER (R355). -/
  | graftOffer (via : Via) (src : Nat) (o : GraftOffer)
  /-- GRAFT_WANT (R355). -/
  | graftWant (via : Via) (src : Nat) (gid : BitVec 64) (first count : Nat)
  /-- GRAFT_WINDOW (R356). -/
  | graftWindow (via : Via) (src : Nat) (w : GraftWin)
  /-- GRAFT_CHUNK (R356). -/
  | graftChunk (via : Via) (src : Nat) (bytes : List Byte)
  /-- GRAFT_WINDOW_COMPLETE (R353). -/
  | graftWindowComplete
  /-- GRAFT_WINDOW_TIMEOUT (R356). -/
  | graftWindowTimeout
  /-- GRAFT_OFFER_SEND (R355). -/
  | graftOfferSend
  /-- GRAFT_WANT_REPEAT (R355). -/
  | graftWantRepeat
  /-- STORE_CHUNK (R357). -/
  | storeChunk (by_ : Agent)
  /-- UPD_HX_IDX_WRITE (R357). -/
  | updHxIdxWrite (by_ : Agent) (data : Word)
  /-- UPD_HX_DATA_WRITE (R357). -/
  | updHxDataWrite (by_ : Agent) (data : Word)
  /-- MANIFEST_COMPLETE (R345). -/
  | manifestComplete
  /-- GRAFT_VERIFY (R347). -/
  | graftVerify
  /-- DISCARD (R348). -/
  | discard
  /-- ACTIVATE (R358). -/
  | activate
  /-- ACTIVATE_AT (R358). -/
  | activateAt
  /-- CANCEL_ACT (R358). -/
  | cancelAct
  /-- ACTIVATION_TIME_REACHED (R358). -/
  | activationTimeReached
  /-- PEER_GUARD_RECHECK (R365). -/
  | peerGuardRecheck
  /-- TRIAL_END (R361). -/
  | trialEnd
  /-- ACTIVATION_CELL_STEP (R362). -/
  | activationCellStep
  /-- ACT_STALLED (R362). -/
  | actStalled (cell : Nat)
  /-- ACTIVATION_STRUCTURE (R363). -/
  | activationStructure
  /-- REPAIR_ACTIVATION (R366). -/
  | repairActivation
  /-- ERASE_SECTOR (R351). -/
  | eraseSector (bank sector : Nat)
  /-- PROGRAM_PAGE (R351). -/
  | programPage (bank sector page : Nat)
  /-- FLASH_OP_COMPLETE (R351). -/
  | flashOpComplete (ok : Bool)
  /-- FLS_DATA_ACCESS (R372). -/
  | flsDataAccess (write : Option Word)
  /-- SHA_START (R370). -/
  | shaStart
  /-- SHA_FINAL (R370). -/
  | shaFinal (bytes : Nat)
  /-- ECDSA_VERIFY (R370). -/
  | ecdsaVerify
  /-- GCM_ENC_START (R370). -/
  | gcmEncStart (aad : Nat)
  /-- GCM_DEC_START (R370). -/
  | gcmDecStart (aad : Nat)
  /-- GCM_FINAL (R370). -/
  | gcmFinal
  /-- CRY_RELEASE (R370). -/
  | cryRelease
  /-- CRY_DATA_ACCESS (R370). -/
  | cryDataAccess (write : Option Word)
  /-- CRY_BUF_ACCESS (R370). -/
  | cryBufAccess (write : Option Word)
  /-- CRYPTO_OP_COMPLETE (R369). -/
  | cryptoOpComplete
  /-- RNG_DATA_READ (R370). -/
  | rngDataRead
  /-- RNG_READY (R422). -/
  | rngReady
  /-- RNG_WINDOW_FAIL (R424). -/
  | rngWindowFail (t : RngTest)
  /-- WDG_WINDOW_OPEN (R381). -/
  | wdgWindowOpen
  /-- WDG_ANSWER (R378). -/
  | wdgAnswer (token : Word)
  /-- WDG_ANSWER_EFFECTIVE (R379). -/
  | wdgAnswerEffective (count : Nat)
  /-- WDG_EXPIRY (R380). -/
  | wdgExpiry
  /-- WDG_HARD_TIMER_END (R380). -/
  | wdgHardTimerEnd
  /-- WDG_PERIOD_WRITE (R384). -/
  | wdgPeriodWrite (data : Word)
  /-- FAULT_SOURCE_ACTIVE (R387). -/
  | faultSourceActive (source arg : Nat) (addr : Word)
  /-- WIRE_FAULT (R386). -/
  | wireFault (source : Nat) (level : WireLevel)
  /-- C2_WINDOW_ESCALATION (R388). -/
  | c2WindowEscalation (group : Nat)
  /-- FLT_PEND_CLEAR (R390). -/
  | fltPendClear (k : Nat) (data : Word)
  /-- FLT_EVENT_READ (R390). -/
  | fltEventRead (by_ : Agent)
  /-- FLT_COMPAT_READ (R395). -/
  | fltCompatRead (by_ : Agent)
  /-- FLT_FORCE (R391). -/
  | fltForce (data : Word)
  /-- ALIVE_EDGE (R396). -/
  | aliveEdge
  /-- ALIVE_FEEDBACK (R398). -/
  | aliveFeedback
  /-- CELLAR_RECORD_WRITE (R408). -/
  | cellarRecordWrite
  /-- NOTE (R406). -/
  | note
  /-- CLR_SEL_WRITE (R426). -/
  | clrSelWrite (by_ : Agent) (data : Word)
  /-- CLR_DATA15_READ (R426). -/
  | clrData15Read (by_ : Agent)
  /-- PROGRAM_WORD (R415). -/
  | programWord (by_ : Agent) (word : Nat)
  /-- ARM_TRANSITION (R419). -/
  | armTransition (by_ : Agent) (key target : Nat)
  /-- TRANSITION (R419). -/
  | transition (by_ : Agent) (key target : Nat)
  /-- ARM_TRANSITION_EXPIRY (R419). -/
  | armTransitionExpiry
  /-- BTN_RELEASE (R201). -/
  | btnRelease (len10ms : Nat)
  /-- FAULT_SOURCE_INACTIVE (R468). -/
  | faultSourceInactive (source : Nat)
  /-- DIAG_COMPLETE (R255). -/
  | diagComplete (v1 v2 : Nat)
  /-- SWAP_PULSE_END (R227). -/
  | swapPulseEnd (peer : Nat)
  /-- PEER_MESSAGE_CRC_FAIL (R222). -/
  | peerMessageCrcFail (peer : Nat)
  /-- PEER_TRANSMIT_COLLISION (R220). -/
  | peerTransmitCollision (peer : Nat)
  /-- TRELLIS_FCRC_FAIL (R318). -/
  | trellisFcrcFail (port : TrlPort)
  /-- LONG_REQ_EXPIRY (R319). -/
  | longReqExpiry (port : TrlPort)
  deriving DecidableEq, Repr

end Sys2Proof
end

