-- ==== Sys2Proof/Config.lean ====
section
/-! DEFINITION. The free values: constants without a body, so that nothing can evaluate them or prove a value of
them. A statement that holds in the model holds whatever they are (log entry 5). -/

namespace Sys2Proof.Config

/-- The n-th random word the generator delivers (R370, R421). -/
opaque randomWord : Nat → BitVec 32

/-- The SHA-384 digest of a message, 48 bytes as one number, byte 0 highest (R343, R370). The manual names the
function by its standard. -/
opaque sha384 : List (BitVec 8) → BitVec 384

/-- ECDSA P-384 verification: public key (x then y), digest, signature (r then s), each a list of bytes as the manual
lays them out (R298, R347, R370). -/
opaque ecdsaP384 : (key digest signature : List (BitVec 8)) → Bool

/-- Whether 96 bytes form a valid P-384 point, x then y (R413). -/
opaque p384Point : List (BitVec 8) → Bool

/-- Output word `index` of AES-256-GCM: key, IV, the stream words so far, the bytes of additional data; `true`
encrypts (R370). -/
opaque gcmWord : (encrypt : Bool) → (key iv stream : List (BitVec 32)) → (aad index : Nat) → BitVec 32

/-- The AES-256-GCM tag over the whole stream, 128 bits, first word highest (R370). -/
opaque gcmTag : (encrypt : Bool) → (key iv stream : List (BitVec 32)) → (aad : Nat) → BitVec 128

/-- The temperature in 0.1 °C that a valid NTC result stands for: the manual gives the fraction of VREF and no thermistor
curve. -/
opaque ntcTemp : BitVec 24 → Int

/-- A value that the manual does not state, picked by a counter of the state: the n-th one of `w` bits. -/
opaque openValue : (w : Nat) → Nat → BitVec w

end Sys2Proof.Config
end

