-- ==== Sys2Proof/Machine/Mem.lean ====
section
/-! DEFINITION. The two containers the state is built from: byte memories as sorted lists of the cells that differ
from what an unlisted address reads as, and banks of windows numbered from 1 (cells, cordons, strings, peers). -/

namespace Sys2Proof.Machine

/-- A byte memory: (address, byte) pairs, addresses strictly rising, no pair whose byte is the fill byte. -/
abbrev Mem := List Host.Cell

/-- The byte at address `a`; an address not listed reads as `fill`. -/
def memRead (fill : Byte) : Mem → Nat → Byte
  | [], _ => fill
  | (k, b) :: m, a => if k = a then b else memRead fill m a

/-- Put byte `b` at address `a`, keeping the canonical form: writing the fill byte removes the entry. -/
def memWrite (fill : Byte) : Mem → Nat → Byte → Mem
  | [], a, b => if b = fill then [] else [(a, b)]
  | (k, c) :: m, a, b =>
    if a < k then (if b = fill then (k, c) :: m else (a, b) :: (k, c) :: m)
    else if a = k then (if b = fill then m else (a, b) :: m)
    else (k, c) :: memWrite fill m a b

/-- Remove every entry with an address from `lo` up to but not including `hi` (an erased range reads as fill). -/
def memErase (m : Mem) (lo hi : Nat) : Mem := m.filter (fun e => e.1 < lo || hi ≤ e.1)

/-- Write a run of bytes from address `a` upwards. -/
def memWriteList (fill : Byte) (m : Mem) (a : Nat) : List Byte → Mem
  | [] => m
  | b :: bs => memWriteList fill (memWrite fill m a b) (a + 1) bs

/-- `n` bytes from address `a` upwards. -/
def memReadList (fill : Byte) (m : Mem) (a : Nat) : Nat → List Byte
  | 0 => []
  | n + 1 => memRead fill m a :: memReadList fill m (a + 1) n

/-- The first address of a memory is above `lo`, addresses rise, and no byte is the fill byte. -/
def memWfFrom (fill : Byte) (lo : Nat) : Mem → Bool
  | [] => true
  | (k, b) :: m => decide (lo ≤ k) && decide (b ≠ fill) && memWfFrom fill (k + 1) m

/-- The canonical form: equal memories are equal lists. -/
def memWf (fill : Byte) (m : Mem) : Bool := memWfFrom fill 0 m

/-- The value of window `i`, counted from 1; a number outside the bank gives `d`. -/
def bankGet {α : Type} {k : Nat} (d : α) (v : Vector α k) (i : Nat) : α :=
  if h : 0 < i ∧ i - 1 < k then v[i - 1]'h.2 else d

/-- Set window `i`, counted from 1; a number outside the bank changes nothing. -/
def bankPut {α : Type} {k : Nat} (v : Vector α k) (i : Nat) (x : α) : Vector α k :=
  if h : 0 < i ∧ i - 1 < k then v.set (i - 1) x h.2 else v

/-- Change window `i` by `f`. -/
def bankMod {α : Type} {k : Nat} (v : Vector α k) (i : Nat) (f : α → α) : Vector α k :=
  if h : 0 < i ∧ i - 1 < k then v.set (i - 1) (f (v[i - 1]'h.2)) h.2 else v

/-- Change every window, each with its number. -/
def bankMap {α β : Type} {k : Nat} (v : Vector α k) (f : Nat → α → β) : Vector β k :=
  v.mapFinIdx (fun i x _ => f (i + 1) x)

/-- The windows with their numbers. -/
def bankList {α : Type} {k : Nat} (v : Vector α k) : List (Nat × α) :=
  (v.toList.zipIdx 1).map (fun p => (p.2, p.1))

end Sys2Proof.Machine
end

