-- ==== Sys2Proof/Machine/PowerState.lean ====
section
/-! DEFINITION. The state of the power side: cells and their links, cordons and the running structure, modes,
source paths, charge engines. A field's default is its value right after reset; fields whose docstring names no
register are state the rules imply (a timer that runs, a count in progress). Voltages are in 10 mV, currents in mA,
powers in 0.1 W, times in µs of the controller timebase, unless a field says otherwise. -/

namespace Sys2Proof.Machine

/-- A command register's last code and its result (…_CMDSTAT). -/
structure CmdStat where
  code   : Nat := 0
  result : Nat := 0
  fresh  : Bool := false          -- the command under way has written the result (Table 11-9a, bit 7)
  deriving DecidableEq, Repr

/-- Cell states, Table 2-8; the codes of CEL_STAT.STATE in order. -/
inductive CellState where
  | off | training | ready | standby | run | selftest | tripped | failed | update
  deriving DecidableEq, Repr

/-- Set points of a cell that has received none: OFF, every value 0 (log entry 3). -/
def noSetPoints : SetPoints :=
  { mode := .off, iSet := 0, vSet := 0, vMax := 0, vMin := 0, iPos := 0, iNeg := 0, pLim := 0, slew := 0,
    droop := 0, vEngage := 0, iTarget := 0, vRegen := 0, share := 0, iAc := 0, fAc := 0, engage := false, give := false }

/-- The self-test record of a cell (R70, R71; CEL_ST, CEL_STADDR, CEL_STCFG). -/
structure SelfTest where
  aborts    : Nat := 0        -- consecutive aborts
  result    : Nat := 0        -- 0 none, 1 pass, 2 fail, 3 aborted
  doneAt    : Nat := 0        -- instant of the last completed test
  addr      : Word := 0
  interval  : Nat := 24       -- h
  commanded : Bool := false   -- ordered by CEL_CMD (R71: waits for nothing)
  waiting   : Bool := false   -- due or ordered, and waits for an impedance run to end (R190) or for relief (R70)
  deriving DecidableEq, Repr

/-- A frame that waits for its ACK on an inter-die link (R29): sequence number, type code of Table 1-7, and how
often it was sent again. -/
structure LinkWait where
  seq   : Nat
  typ   : Nat
  tries : Nat
  deriving DecidableEq, Repr

/-- A dual-clock queue of an inter-die link (Table 1-6): its frames by type code of Table 1-7 in the order they leave, the first
one on the line, at most four; and the frames whose writer a full queue holds off (R28). -/
structure LinkQueue where
  frames : List Nat := []
  held   : List Nat := []
  deriving DecidableEq, Repr

/-- Which end of a link declared it down (R36). -/
inductive LinkEnd where
  | merja | cell
  deriving DecidableEq, Repr

/-- One inter-die link (R29–R36). -/
structure Link where
  trained : Bool := false
  delayNs : Nat := 0            -- one-way delay measured at training
  fails   : Nat := 0            -- failed trainings in a row
  down    : Bool := false       -- declared down and not yet trained again (R36)
  holding : Bool := false       -- the 1 ms of R36 runs: the cell holds its set points
  nextSeq : Nat := 0
  waits   : List LinkWait := [] -- frames Merja sent and the cell has not yet acknowledged
  upSeq   : Nat := 0            -- next sequence number of the cell's frames
  upWaits : List LinkWait := [] -- frames the cell sent and Merja has not yet acknowledged
  toCell  : LinkQueue := {}     -- SET, ARM and CMD frames queued at the Merja end
  toMerja : LinkQueue := {}     -- TELEM, EVENT, RSP and ACK frames queued at the cell end
  slot    : Option (Nat × Bool) := none  -- the SYNC in the reserved slot of the running link cycle: tick and commit-go (R30)
  downBy  : LinkEnd := .cell    -- which end declared the link down last
  rsp     : Word := 0           -- data of the last RSP frame
  deriving DecidableEq, Repr

/-- The operating regions of a cell (R44). -/
inductive Region where
  | buck | band | boost
  deriving DecidableEq, Repr

/-- One Oppol cell, with what the CEL window shows of it (Table 2-17). -/
structure Cell where
  state   : CellState := .off
  mode    : CellMode := .off
  uc      : Nat := 0            -- running microcode: 0 base, 1 slot A, 2 slot B
  freq    : Nat := 2
  cordon  : Nat := 0
  phaseK  : Nat := 0
  phaseN  : Nat := 0
  limitReason : Nat := 0
  overRated   : Bool := false   -- CEL_STAT.OVLD
  valid   : Bool := false
  seq     : Nat := 0
  dropped : Nat := 0
  vPort   : Nat := 0
  vCask   : Nat := 0
  iPort   : Int := 0
  pPort   : Int := 0
  region  : Option Region := none  -- operating region at its last frame (R44); none before one
  t1      : Int := 0            -- 0.1 °C
  t2      : Int := 0
  trip    : BitVec 10 := 0      -- CEL_TRIP
  latched : List Trip := []     -- protections set in the cell: latching ones not released, others while they hold
  cntOc     : Nat := 0
  cntPortOv : Nat := 0
  cntCaskOv : Nat := 0
  cntOt     : Nat := 0
  ocTimes : List Nat := []      -- instants of the OC trips counted under R63, newest first
  restart : Bool := false       -- an OC restart is due (R63)
  runBefore : Bool := false     -- the state before the trip was RUN, not STANDBY (R62)
  iLim    : Nat := 0            -- current limit in effect, mA
  pLim    : Nat := 0            -- power limit in effect, W
  ovld    : Nat := 9000000      -- overload account in ninths of 10 µs: 9,000,000 is 10.0 s (R47)
  ovldLow : Bool := false       -- the account ran empty and has not reached 1.0 s again (R47)
  vPortOv : Nat := 47000        -- port overvoltage threshold, 10 mV: 470 V before a structure image loads (Table 2-6)
  sp      : SetPoints := noSetPoints            -- last committed set points
  armed   : Option (Nat × SetPoints) := none        -- held ARM and its commit tick (R34)
  syncs   : List (Nat × Bool) := []  -- tick and commit-go flag of the last two SYNC frames received, newest first
  appliedAt : Option Nat := none  -- commit tick of the last armed set the cell applied
  engaged : Bool := false       -- the cell has engaged and is not yet released (R57, R136)
  engagedBySet : Bool := false  -- its CASK_V set point is the one of the engage SET
  absorbing : Bool := false     -- the absorb condition of R210 holds
  absorbed  : Nat := 0          -- absorbed current of its last frame, mA
  regulating : Bool := false    -- its last frame shows target or cask set point held (R137)
  reportMax : Bool := false     -- EVENT portMax counted
  portShort : Bool := false     -- the held OC trip is judged a port short (R63)
  removed : Bool := false       -- removed from its cordon (R35, R36)
  withdrawn : Bool := false     -- withdrawn by plan (R74)
  replaces : Nat := 0           -- a spare: the cell whose share it carries
  st      : SelfTest := {}
  slotA   : Mem := []           -- the 64 KiB microcode slots, erased bytes 0xFF (R67)
  slotB   : Mem := []
  activeSlot : Nat := 0         -- slot marked active: 0 none, 1 A, 2 B
  ucFill  : Nat := 0            -- body bytes written in the transfer under way
  ucInto  : Nat := 0            -- slot that the transfer under way writes: 0 none, 1 A, 2 B
  eraseWait : Bool := false     -- an update waits for the end of an impedance run (R190)
  contOnly : Bool := false      -- the module binds the cell to its continuous ratings (Table 4-6, R105)
  baseVintage : Nat := 0
  link    : Link := {}
  deriving DecidableEq, Repr

/-- Cordon roles, Table 3-1. -/
inductive Role where
  | off | source | battery | system | peer | spare
  deriving DecidableEq, Repr

/-- Cordon states, Table 3-10; the codes of CRD_STATE.STATE in order. -/
inductive CordonState where
  | absent | idle | standby | run | degraded | stopped
  deriving DecidableEq, Repr

/-- The values of a cordon entry that are in effect (Table 3-4). Voltages 0.1 V, currents 10 mA, power credits. -/
structure Entry where
  role  : Role := .off
  cells : BitVec 7 := 0
  host  : Nat := 0
  index : Nat := 0
  freq  : Nat := 0
  l     : Nat := 0       -- 0.1 µH
  c     : Nat := 0       -- 0.1 µF
  vOv   : Nat := 0
  vMax  : Nat := 0
  vMin  : Nat := 0
  iPos  : Nat := 0
  iNeg  : Nat := 0
  pLim  : Nat := 0
  slew  : Nat := 0       -- 0.01 A/µs
  droop : Nat := 0       -- mV/A
  vSet  : Nat := 0
  vEngage : Nat := 0
  iTarget : Nat := 0
  deriving DecidableEq, Repr

/-- One cordon (R96, Tables 3-10 to 3-13). -/
structure Cordon where
  e      : Entry := {}
  state  : CordonState := .absent
  mode   : CellMode := .off        -- control mode its cells were last set to
  iSet   : Int := 0                -- commanded cordon current, mA
  vCmd   : Nat := 0                -- commanded voltage set point, 10 mV
  vMaxCmd : Nat := 0               -- port voltage maximum sent with it, 10 mV
  vMinCmd : Nat := 0
  replaced : Nat := 0              -- CRD_STATE.REPLACED
  stops  : Nat := 0
  stopReason : Nat := 0
  shortTimes : List Nat := []      -- instants of the port shorts of the last 60 s, newest first
  ocSpan : Option (Nat × BitVec 7 × BitVec 7) := none   -- first OC event of a span of 10 µs, the cells that reported, and those
                                                        -- that were active when the span began (R63)
  rephase : Bool := false          -- the remaining cells re-phase at the next commit tick (R56)
  maintI  : Option Nat := none     -- cask-to-port limit in force below the entry's, 10 mA (Table 4-6)
  give   : Bool := false           -- values of the second kind wait two switching periods (R275)
  deriving DecidableEq, Repr

/-- The structure image and what the checks said of it (R85–R97). -/
structure Structure where
  state    : Nat := 0              -- CRD_STRUCT.STATE
  image    : List Byte := []       -- the running image; empty before one takes effect
  reason   : Nat := 0              -- CRD_LOADSTAT
  cordon   : Nat := 0
  origin   : Nat := 0
  offset   : Nat := 0
  copyBad  : Bool := false         -- the last good copy marked unusable for this power cycle (R91)
  copyDue  : Bool := false         -- the running image waits to be written to the last good copy (R93)
  split    : BitVec 7 := 0
  join     : BitVec 7 := 0
  probed   : BitVec 7 := 0
  probe    : Probe := { cask := 0, ports := Vector.replicate 7 0, rises := Vector.replicate 7 (Vector.replicate 7 0) }
                                   -- what the board probe reads in the running cold start (R90)
  cmd      : CmdStat := {}
  deriving DecidableEq, Repr

/-- The six operating modes, Table 4-1; the codes of SYS_MODE.MODE in order. -/
inductive Mode where
  | ship | staging | normal | reserve | limp | service
  deriving DecidableEq, Repr

/-- LIMP sub-states, Table 4-5; the codes of SYS_MODE.LIMP_SUB in order. -/
inductive LimpSub where
  | none | held | rom | locked
  deriving DecidableEq, Repr

/-- What the LIMP sequencer holds (R109, SYS_LIMPSTAT). -/
structure Limp where
  power  : Bool := false           -- LIMP transfers power: a usable last good copy exists (R112)
  gate   : Bool := false
  src    : BitVec 7 := 0           -- SOURCE cordons admitted
  maint  : BitVec 4 := 0
  disch  : BitVec 4 := 0
  dischSeen : BitVec 4 := 0        -- strings that discharged at any time in this LIMP (R163)
  linksHeld : Bool := false        -- the always-on domain holds the command path of the links (R107)
  stayHeld  : Bool := false        -- HELD entered by a watchdog expiry in LOCKED (Table 4-5)
  locked : Bool := false           -- the lock of R115 holds: HELD ends in LOCKED whatever the count (Table 4-5)
  since  : Nat := 0                -- instant of the last LIMP cause (SYS_WARM.DURATION)
  warm   : Nat := 0                -- 0 none, 7 the warm restart waits for READY (Table 4-8)
  deriving DecidableEq, Repr

/-- The SYS block (Tables 4-10 to 4-14). -/
structure Sys where
  mode     : Mode := .staging
  prev     : Mode := .ship
  shown    : Option (Mode × Mode) := none   -- mode and previous mode that SYS_MODE shows until the next commit tick (R99)
  sub      : LimpSub := .none
  reason   : Nat := 0
  entries  : List Nat := []        -- instants of the LIMP entries of the last 10 min, newest first (R115)
  caskHeld : Bool := false
  leaseEnd : Nat := 0              -- end of the SERVICE lease; 0 outside SERVICE
  coldCause : Nat := 0
  coreCause : Nat := 0
  coreCount : Nat := 0
  cmd      : CmdStat := {}
  romVintage  : Nat := 0
  mainVintage : Nat := 0           -- 0 when no main image runs
  vResult  : Nat := 0              -- SYS_VCHECK
  vCells   : BitVec 7 := 0
  vPartner : Nat := 0
  lastStep : Nat := 0              -- SYS_STAGING
  outcome  : Nat := 0
  duration : Nat := 0
  warmCount : Nat := 0             -- SYS_WARM
  warmDuration : Nat := 0
  mainRuns  : Bool := false        -- the main image has been started and not reset since
  awaitReady : Bool := false       -- step 8 of Table 4-3 waits for READY
  deriving DecidableEq, Repr

/-- Source path states, Table 5-3; the codes of PWR_SRC_STAT.STATE in order. -/
inductive SrcState where
  | absent | invalid | qualifying | usable | feeding | testDropped
  deriving DecidableEq, Repr

/-- One entry of the source table (Table 3-7) and its window (Table 5-11). -/
structure Source where
  ref      : Nat := 0
  declared : Nat := 0              -- declared source type
  tQual    : Nat := 0              -- ms
  vSrcMin  : Nat := 0              -- 0.1 V
  vSrcMax  : Nat := 0
  dvdt     : Nat := 0              -- 0.1 V/µs, 0 none
  vInreg   : Nat := 0
  state    : SrcState := .absent
  type_    : Nat := 0
  origin   : Nat := 0
  limited  : Bool := false
  inreg    : Bool := false
  qualEnd  : Nat := 0              -- instant at which the window ends
  tQualEff : Nat := 0              -- ms
  v        : Nat := 0
  iLim     : Nat := 0              -- 10 mA
  pLim     : Nat := 0              -- credits
  band     : Band := .under        -- latest report of the path's band (R123)
  srcIdShort : Bool := false       -- the SRC_ID pin reads short (R129)
  drops    : Nat := 0
  lastCause : Nat := 0
  dropTimes : List Nat := []       -- instants of the drops of the last 10 min, newest first
  lastDrop : Option Nat := none
  deriving DecidableEq, Repr

/-- Power path states, Table 5-7; the codes of PWR_STAT.PATH_STATE in order. -/
inductive PathState where
  | unfed | fed | changeover | carried | handback
  deriving DecidableEq, Repr

/-- The source gate (R126, R211, R236). -/
structure Gate where
  closed   : Bool := false         -- SRC_GATE drives the switch on
  surge    : Bool := false         -- opened for a regeneration surge (R211)
  ramp     : Option Nat := none    -- the gate follows the slope of R104: the cask voltage it lets through, µV
  ain7     : Int := 0              -- gate monitor averages of the last interval
  ain8     : Nat := 0
  cut      : Nat := 0              -- charge cut of the R128 loop, mW
  deriving DecidableEq, Repr

/-- The power path (Tables 5-9 and 5-10). -/
structure Pwr where
  path     : PathState := .unfed
  src      : Vector Source 8 := Vector.replicate 8 {}
  gate     : Gate := {}
  supplement : Bool := false
  suppPower  : Nat := 0            -- PWR_ALLOC.SUPPLEMENT, credits
  suppOk     : Nat := 0            -- commit ticks in a row with 10 % headroom (R133)
  budget   : Nat := 0              -- PWR_ALLOC.CHARGE_BUDGET
  cut      : Bool := false         -- PWR_STAT.CHARGE_CUT
  caskLow  : Bool := false
  coCount  : Nat := 0
  coTrigger : Nat := 0
  coLate   : Bool := false
  coDuration : Nat := 0
  coStart  : Nat := 0              -- start of the changeover as R137 places it, in 10 ns
  coVMin   : Nat := 0
  coEntry  : Nat := 0
  coCause  : Nat := 0
  handTo   : Nat := 0              -- entry a hand-back moves the load to; 0 none
  handSet  : Bool := false         -- the hand-back set is in effect (Table 5-8 step 2)
  rise     : Option Nat := none    -- the cask rise of R104: the voltage it has reached, µV; none outside a rise
  tDone    : Nat := 0              -- PWR_CHK_T
  pCap     : Nat := 0
  eGap     : Nat := 0
  eRes     : Nat := 0
  pCo      : Nat := 0
  srcId    : Vector Nat 7 := Vector.replicate 7 0    -- PWR_SRCID, last code of each pin
  cmd      : CmdStat := {}
  testEntry : Nat := 0             -- entry whose TEST_DROP hold runs; 0 none
  deriving DecidableEq, Repr

/-- Charge phases, Table 6-2; the codes of CHG_STAT.PHASE in order. -/
inductive Phase where
  | none | qualify | trickle | pre | cc | cv | maint | halted | hold
  deriving DecidableEq, Repr

/-- Sum and count of the valid results of one slot in the running second (R149). -/
structure Accu where
  sum   : Int := 0
  count : Nat := 0
  deriving DecidableEq, Repr

/-- Conditions counted in consecutive evaluations or seconds (R149, R155–R159, R166, R167, R170). -/
structure ChgCounts where
  deep   : Nat := 0     -- evaluations at or above n × V_DEEP
  pre    : Nat := 0
  chg    : Nat := 0
  cutoff : Nat := 0
  term1  : Nat := 0     -- seconds
  drop   : Nat := 0
  slope  : Nat := 0
  ceil   : Nat := 0     -- rule 6
  recharge : Nat := 0   -- below n × V_MAINT
  floatHi  : Nat := 0
  overV  : Nat := 0     -- overvoltage
  trim   : Nat := 0
  inTemp : Nat := 0     -- back inside the narrowed charge window
  ntcOk  : Nat := 0
  ntcBad : Nat := 0
  rearm  : Nat := 0     -- evaluations above 1.05 × n × V_CUTOFF
  inCc   : Nat := 0     -- evaluations spent in CC since the cut-off
  measOk : Nat := 0     -- evaluations with both slots valid
  measBad : Nat := 0
  pulseCeil : Nat := 0
  deriving DecidableEq, Repr

/-- One instance of the charge engine (Tables 6-2, 6-10, 6-11). -/
structure Chg where
  phase  : Phase := .none
  recharge : Bool := false        -- kind of the running cycle (CHG_STAT.KIND)
  susp   : BitVec 9 := 0          -- bit k: suspension reason k of Table 6-7
  lim    : BitVec 4 := 0          -- CHG_STAT.LIM
  half   : Bool := false
  haltBy : Nat := 0               -- in HALTED: the bit of CHG_FLT whose condition halted it
  tempHigh : Bool := false        -- suspension 3 is for a string too hot
  tempSide : Nat := 0             -- where the latest NTC average lies: 0 inside the window, 1 below, 2 above (R158)
  cycleWait : Nat := 0            -- a cycle accepted while suspended: 1 kind start, 2 recharge; 0 none (R163)
  vEval  : Nat := 0               -- string voltage at the latest completed evaluation, 10 mV (R171)
  term   : Nat := 0               -- CHG_STAT.TERM
  cutoff : Bool := false
  clamp  : Bool := false
  trimLimit : Bool := false
  trim   : Int := 0               -- trim of the PORT_V set point, 10 mV
  pulse  : Bool := false
  pulseAt : Nat := 0              -- instant the last pulse or termination ended (NICD)
  vTarget : Nat := 0
  v      : Nat := 0               -- latest 1 s averages
  i      : Int := 0
  temp   : Int := 0               -- 0.1 °C
  dtdt   : Int := 0               -- 0.01 K/min
  temps  : List Int := []         -- the last 1 s NTC averages, newest first, at most 60
  vNow   : Option Nat := none     -- latest valid result of each slot
  iNow   : Option Int := none
  tNow   : Option Int := none
  fresh  : BitVec 3 := 0          -- valid results since the last evaluation: bit 0 voltage, 1 current, 2 NTC
  accV   : Accu := {}
  accI   : Accu := {}
  accT   : Accu := {}
  rest   : Accu := {}             -- valid voltage results of the last 50 ms of QUALIFY
  restRuns : Bool := false        -- the 100 ms of R153 run
  restAt : Nat := 0               -- instant at which they began
  demand : Nat := 0               -- phase current demanded, mA
  iPh    : Nat := 0               -- I_PH, mA
  grant  : Nat := 0               -- credits granted
  safe   : Nat := 0               -- safety timer, 5 ms
  pre    : Nat := 0               -- pre-charge timer, 5 ms
  cv     : Nat := 0               -- CV or backup timer, 10 ms
  ccTime : Nat := 0               -- time in CC of the cycle, 10 ms
  ccSeen : Bool := false          -- CC entered in the cycle
  setSafe : Nat := 0              -- timer settings taken at the cycle start, min (R169)
  setPre  : Nat := 0
  setCv   : Nat := 0
  peak   : Nat := 0
  drop   : Nat := 0               -- 0.1 mV/cell
  flt    : BitVec 12 := 0         -- CHG_FLT
  fltLast : BitVec 32 := 0        -- CHG_FLT_LAST
  haltUnread : BitVec 12 := 0     -- halting bits set since CHG_FLT was last read (R171)
  count  : Nat := 0               -- CHG_CYCLE
  lastTerm : Option Nat := none   -- instant of the last termination
  lTerm  : Nat := 0               -- CHG_LAST
  lWall  : Nat := 0
  lTimer : Nat := 0
  cycleAt : Nat := 0              -- instant the running cycle began
  suspAt : Nat := 0               -- instant the suspension began
  suspNet : Int := 0              -- coulomb book NET when the suspension began, µC
  short   : Bool := false         -- the credit books withhold part of the grant (R160)
  eisHold : Nat := 0              -- evaluations left after a run below 1 Hz (R164)
  n      : ChgCounts := {}
  deriving DecidableEq, Repr

/-- The charge engine block (Table 6-9). -/
structure ChgBlock where
  inst : Vector Chg 4 := Vector.replicate 4 {}
  cmd  : CmdStat := {}
  evals : Nat := 0                 -- evaluations since the mode was entered, for the 1 s averages
  deriving DecidableEq, Repr

end Sys2Proof.Machine
end

