-- ==== Sys2Proof/Machine/FieldState.lean ====
section
/-! DEFINITION. The state of battery supervision, regeneration, the peer ports and the measurement converters.
Units as in PowerState. -/

namespace Sys2Proof.Machine

/-- Battery switch states, Table 7-2. -/
inductive SwState where
  | open_ | settle | closed
  deriving DecidableEq, Repr

/-- States of the missing-string check (EIS_SUP.MISS_STATE in order). -/
inductive Miss where
  | none | suspected | pulse | confirmed
  deriving DecidableEq, Repr

/-- One coulomb book (R184–R187). Charges in µC (mA × ms). -/
structure Book where
  net   : Int := 0
  chgIn : Nat := 0
  chgOut : Nat := 0
  gapMs : Nat := 0
  uncertain : Bool := false
  lastI : Int := 0            -- previous valid string current result, mA
  lastAt : Nat := 0           -- the instant up to which the book has counted
  bridged : Nat := 0          -- time bridged by the previous value since its result, µs (R186)
  counting : Bool := false    -- the book counts (a first result has arrived since the engine began to run)
  inTerm  : Nat := 0          -- charge in and out since the last termination (R199)
  outTerm : Nat := 0
  sinceTerm : Bool := false
  deriving DecidableEq, Repr

/-- One impedance point of the last run (EIS_PT_F, EIS_PT_RE, EIS_PT_IM). -/
structure EisPoint where
  f     : Nat                 -- mHz
  re    : Int
  im    : Int
  clipped  : Bool
  lowAmp   : Bool
  noisy    : Bool
  repeated : Bool
  deriving DecidableEq, Repr

/-- An impedance run and its results (R188–R200, Tables 7-10 and 7-11). -/
structure EisRun where
  running : Bool := false
  kind   : Nat := 0
  abort  : Nat := 0
  points : Nat := 0
  cur    : Nat := 0
  f0     : Nat := 0           -- parameters of the run, 0.01 Hz
  f1     : Nat := 0
  ppd    : Nat := 0
  ampl   : Nat := 0
  pair   : Nat := 0
  iDc    : Int := 0           -- I_DC of the run outside CC, mA (R193)
  acOn   : Nat := 0           -- peak of the sinusoid commanded to the cordon, mA (R192)
  acHz   : Nat := 0           -- its frequency, 0.001 Hz
  snap   : List Nat := []     -- set points under which the point in progress began (R195)
  dirty  : Bool := false      -- they have changed since
  tempSum : Int := 0          -- sum and number of the 1 s NTC averages of the run (R198)
  tempN  : Nat := 0
  repeating : Bool := false   -- the point in progress is a repeat (R195)
  pts    : List EisPoint := []  -- completed points, last first
  rInt   : Nat := 0
  r25    : Nat := 0
  rRef   : Nat := 0
  sohZ   : Nat := 0
  sohQ   : Nat := 0xFFFF
  sohQAt : Int := 0           -- instant of SOH_Q; negative when restored from the Cellar
  sohZOk : Bool := false      -- SOH_Z has been computed
  rExtrap  : Bool := false
  noCorner : Bool := false
  noTemp   : Bool := false
  refAuto  : Bool := false
  disagree : Bool := false
  fD     : Nat := 0
  runs   : Nat := 0
  lastRun : Option Int := none -- its instant; negative when restored from the Cellar
  due    : Option Nat := none -- instant a scheduled run fell due and waits (R188)
  retryAt : Nat := 0          -- an aborted scheduled run starts again then (R200)
  deriving DecidableEq, Repr

/-- Supervision of one string (R174–R183). -/
structure Bat where
  sw      : SwState := .open_
  holdStaging : Bool := true   -- held open from reset (Table 7-1)
  holdShip : Bool := false
  holdCmd  : Bool := false
  holdStop : Bool := false
  settleAt : Nat := 0          -- instant the switch began to settle
  retry    : Bool := false     -- a settle that failed is tried again 10 s later (R176)
  reversed : Bool := false     -- the latest valid STRV result lies below −5.0 V (R176)
  revOkAt  : Nat := 0          -- since when it reads −5.0 V or above again; 0 never reversed
  revBad   : Nat := 0          -- valid STRV results in a row below −5.0 V, and not below (R468)
  revGood  : Nat := 0
  ocBad    : Nat := 0          -- valid STRI results in a row above the limit of STR_OC, and within it
  ocGood   : Nat := 0
  miss     : Miss := .none
  suspicions : Nat := 0        -- suspicions in succession below 20 V (R180)
  chargeAt : Nat := 0          -- instant a charge current started or its result fell (R179)
  maxSeen  : Bool := false     -- the port reached its maximum within 10 ms of that instant
  probing  : Bool := false
  probes   : Nat := 0
  shortRun : Nat := 0          -- evaluations of TRICKLE with the set current delivered (R183)
  shortOff : Bool := false     -- an evaluation of TRICKLE found the string at or above n × V_SHORT
  book     : Book := {}
  run      : EisRun := {}
  deriving DecidableEq, Repr

/-- BTN_N as the always-on domain sees it (R201, R205). -/
structure Button where
  low     : Bool := false      -- debounced level
  ignored : Bool := false      -- a press in progress at power-on reset
  presses : Nat := 0
  last10  : Nat := 0           -- length of the last press, 10 ms
  longRun : Bool := false      -- the sequence of Table 7-8 runs
  deriving DecidableEq, Repr

/-- The EIS block's common part (Table 7-9) and what SHIP needs (R202–R204). -/
structure EisBlock where
  bat     : Vector Bat 4 := Vector.replicate 4 {}
  cmd     : CmdStat := {}
  deepF0  : Nat := 0
  deepF1  : Nat := 0
  deepAmpl : Nat := 0
  deepPair : Nat := 0
  deepPpd : Nat := 0
  btn     : Button := {}
  entries : Nat := 0           -- SHIP entries recorded
  gateIn  : Bool := false      -- wake mask of the last entry
  mask    : BitVec 7 := 0
  shipRun : Bool := false      -- entry into SHIP under way (Table 7-6, steps 1 and 2)
  wakeV   : Vector Nat 7 := Vector.replicate 7 0   -- latched wake thresholds of the ports, 10 mV
  wakeGate : Nat := 0
  deriving DecidableEq, Repr

/-- Regeneration episode states, Table 8-2. -/
inductive RegenState where
  | none | absorb | chop
  deriving DecidableEq, Repr

/-- Regeneration (R207–R216, PPT_REGEN…). -/
structure Regen where
  state    : RegenState := .none
  episodes : Nat := 0
  brk      : Bool := false     -- BRK_GATE
  brkAt    : Nat := 0          -- instant BRK_GATE last rose
  brkCount : Nat := 0
  brkTime  : Nat := 0          -- high time in the episode, µs
  vPeak    : Nat := 0
  absPeak  : Nat := 0          -- credits
  pAbs     : Nat := 0
  dvSurge  : Nat := 0
  overAt   : Option Nat := none  -- since when the cask has stayed above V_CASK_REGEN
  ovBrk    : Bool := false     -- REGEN_OV raised in the running BRK_GATE episode
  ovTrip   : Bool := false     -- REGEN_OV raised for a cask overvoltage trip in the running episode
  ovCask   : Bool := false     -- REGEN_OV raised in the running episode above V_CASK_REGEN
  deriving DecidableEq, Repr

/-- Peer port states, Table 8-7; the codes of PPT_STAT.STATE in order. -/
inductive PeerState where
  | disabled | seek | check | wet | negotiate | idle | contract | swap | backoff
  deriving DecidableEq, Repr

/-- What a peer port presents on its wire (R218). -/
inductive Present where
  | released | pullUp | pullDown
  deriving DecidableEq, Repr

/-- Contract roles (PPT_STAT.ROLE in order). -/
inductive PeerRole where
  | none | supplier | consumer
  deriving DecidableEq, Repr

/-- A message that waits for its reply (R222): its type code and sequence number, and how often it was sent. -/
structure PeerWait where
  typ   : Nat
  seq   : Nat
  sends : Nat
  frame : List (BitVec 8) := []   -- as it went out, for its repeats
  deriving DecidableEq, Repr

/-- One peer port (Tables 8-7 and 8-10). -/
structure Peer where
  state   : PeerState := .disabled
  role    : PeerRole := .none
  present : Present := .released
  frozen  : Bool := false      -- the presentation is frozen (R218)
  upper   : Bool := false
  swapTerms : Bool := false
  test    : Bool := false
  testImport : Bool := false   -- the test this port runs is one the partner asked for
  testPower : Nat := 0
  partnerFeed : Bool := false
  partnerLimp : Bool := false
  lastEnd : Nat := 0
  lastReject : Nat := 0
  vC      : Nat := 0
  rC      : Nat := 0
  pS      : Nat := 0
  pC      : Nat := 0
  pOwn    : Int := 0
  pPartner : Int := 0
  pAcc    : Int := 0           -- sum and count of the port power since the last STATUS exchange, 0.1 W
  pCount  : Nat := 0
  balM    : Nat := 0
  balFails : Nat := 0
  ownK    : Nat := 0
  partnerK : Nat := 0
  ownDry  : Bool := false      -- results of the check under way
  ownChecked : Bool := false
  partnerChecked : Bool := false
  quiet   : Bool := false      -- a quiet window is open (R219)
  recheck : Bool := false      -- a quiet window is to open at the next STATUS exchange
  unitId  : BitVec 64 := 0     -- partner unit ID
  addr    : Nat := 0           -- partner Trellis address
  caps    : Option Caps := none
  capsSent : Bool := false
  partnerExport : Bool := false
  swaps   : Nat := 0
  contracts : Nat := 0
  losses  : Nat := 0
  crcErr  : Nat := 0
  flt     : BitVec 6 := 0
  fltLast : BitVec 32 := 0
  seq     : Nat := 0           -- own sequence number
  waits   : Option PeerWait := none
  statusAt : Nat := 0          -- instant of the last STATUS exchange
  noContract : Nat := 0        -- no new contract before this instant (R226)
  pulse   : Bool := false      -- this side drives the swap pulse (R227)
  swapAt  : Nat := 0           -- instant of the swap pulse
  fromBalance : Bool := false  -- the BACKOFF under way lasts 60 s
  sent    : List (BitVec 8) := []     -- the last frame this side put on the wire (Table 8-4)
  aborted : List (BitVec 8) := []     -- a frame aborted by a mismatch (R220)
  resendAt : Option Nat := none       -- when it is tried again
  deriving DecidableEq, Repr

/-- The PPT block (Table 8-9). -/
structure PptBlock where
  regen : Regen := {}
  peer  : Vector Peer 4 := Vector.replicate 4 {}
  cmd   : CmdStat := {}
  deriving DecidableEq, Repr

/-- A converter result, Table 9-2. -/
structure AdcResult where
  valid  : Bool := false
  settle : Nat := 0
  ovr    : Bool := false
  trig   : Nat := 0
  result : BitVec 24 := 0
  deriving DecidableEq, Repr

/-- One slot of a converter's layout with its register (R242, Table 9-14). -/
structure AdcSlot where
  used    : Bool := false
  channel : Nat := 0
  range   : Nat := 0
  rate    : Nat := 0            -- declared rate, Hz
  res     : AdcResult := {}
  left    : Nat := 0            -- invalid results still to follow (Table 9-3)
  deriving DecidableEq, Repr

/-- A held sample that waits for conversion (R246): the TRIG code of its source. -/
structure AdcHold where
  trig : Nat
  deriving DecidableEq, Repr

/-- One converter role (Table 9-12). -/
structure Conv where
  channel : Nat := 0            -- ADC_CHSELx
  range   : Nat := 0
  left    : Nat := 0            -- invalid triggered results still to follow (Table 9-3)
  res     : AdcResult := {}
  unread  : Bool := false       -- ADC_RESx has not been read since it was written
  lo      : BitVec 24 := 0
  hi      : BitVec 24 := 0x7FFFFF
  en      : Bool := false
  armed   : Bool := false
  hyst    : Nat := 0
  wsrc    : Nat := 0
  osr     : Nat := 0
  ref     : Nat := 0
  nSlots  : Nat := 0
  calAt   : Nat := 0            -- instant its slice last completed calibration
  diff    : Nat := 0
  slots   : Vector AdcSlot 16 := Vector.replicate 16 {}
  held    : Option AdcHold := none     -- sample awaiting conversion
  displaced : Option AdcHold := none   -- trigger displaced by a comparator (R246)
  lastStart : Option Nat := none -- start of the last triggered conversion
  load    : Nat := 0            -- ADC_LOAD, 0.5 %
  deriving DecidableEq, Repr

/-- One trigger route (R245). -/
structure Route where
  en   : Bool := false
  src  : Nat := 0
  conv : BitVec 4 := 0
  deriving DecidableEq, Repr

/-- One ADC timer (R245). -/
structure AdcTimer where
  en     : Bool := false
  period : Nat := 0
  deriving DecidableEq, Repr

/-- One comparator (R247, R248). -/
structure Cmp where
  en      : Bool := false
  module_ : Bool := false
  out     : Bool := false
  mode    : Nat := 0
  filter  : Nat := 0
  channel : Nat := 0
  hi      : Nat := 0
  lo      : Nat := 0
  deriving DecidableEq, Repr

/-- The background calibration's place in Table 9-7. -/
structure Rotation where
  conv     : Nat := 0           -- converter whose period runs
  frame    : Nat := 0           -- frame of the period, 0 to 9
  mismatches : Nat := 0         -- shadow mismatches in a row
  repeats  : Bool := false      -- steps 4 to 9 are being repeated (Table 9-8)
  deriving DecidableEq, Repr

/-- The ADC block (Tables 9-11 to 9-14). -/
structure AdcBlock where
  conv     : Vector Conv 4 := Vector.replicate 4 {}
  out      : Nat := 7
  calState : Nat := 4
  runs     : Bool := false      -- the layouts run (R256)
  due      : Bool := false      -- a layout takes effect at the next frame boundary (R244, R256)
  sCalAt   : Nat := 0           -- instant slice S last completed calibration
  failed   : BitVec 5 := 0
  byS      : BitVec 4 := 0
  periods  : Nat := 0
  rot      : Rotation := {}
  settled  : BitVec 4 := 0
  refinBad : Bool := false
  cmd      : CmdStat := {}
  irq      : BitVec 12 := 0
  irqEn    : BitVec 12 := 0
  merged   : Nat := 0
  displaced : Nat := 0
  deferred : Nat := 0
  stAbort  : Nat := 0
  diagState : Nat := 0
  diagOpen : Bool := false
  diagShort : Bool := false
  diagChan : Nat := 0
  diagConv : Nat := 0
  rSrc     : Nat := 0
  routes   : Vector Route 8 := Vector.replicate 8 {}
  timers   : Vector AdcTimer 4 := Vector.replicate 4 {}
  cmps     : Vector Cmp 8 := Vector.replicate 8 {}
  deriving DecidableEq, Repr

end Sys2Proof.Machine
end

