-- ==== Sys2Proof/Machine/HostState.lean ====
section
/-! DEFINITION. The state of the staged bank and credit books, the host SPI interface, sessions, Trellis, Graft
transfer and activation, flash and the crypto engine. Units as in PowerState. -/

namespace Sys2Proof.Machine

/-- Staged bank states, Table 10-1; the codes of STG_STAT.STATE in order. -/
inductive StgState where
  | empty | open_ | checking | checked | armed | scheduled
  deriving DecidableEq, Repr

/-- One trim window (Table 10-7). `en` has the bits of STG_TRIM_EN. -/
structure Trim where
  iPos : Nat := 0
  iNeg : Nat := 0
  pLim : Nat := 0
  slew : Nat := 0
  vSet : Nat := 0
  en   : BitVec 5 := 0
  deriving DecidableEq, Repr

/-- What runs once the check in progress has passed (Table 10-1). -/
inductive AfterCheck where
  | stay | commit | commitAt
  deriving DecidableEq, Repr

/-- The STG block (Tables 10-5 to 10-7). -/
structure Stg where
  state   : StgState := .empty
  owner   : Option Agent := none
  overrun : Bool := false
  at_     : Bool := false
  foreign : Nat := 0
  actAt   : Nat := 0              -- instant of the owner's last write or command
  cmd     : CmdStat := {}
  takeover : Bool := false
  imgSrc  : Nat := 0
  reason  : Nat := 0              -- STG_RESULT
  rCordon : Nat := 0
  rTrim   : Bool := false
  rOffset : Nat := 0
  imgPtr  : Nat := 0
  buf     : Mem := []             -- staging buffer, 8,192 bytes, fill 0
  tLo     : BitVec 32 := 0
  tHi     : BitVec 16 := 0
  tick    : BitVec 32 := 0
  digest  : BitVec 32 := 0
  applied : Nat := 0
  defers  : Nat := 0
  cancels : Nat := 0
  trims   : Vector Trim 7 := Vector.replicate 7 {}   -- of the staged set
  trimsIn : Vector Trim 7 := Vector.replicate 7 {}   -- in effect
  after   : AfterCheck := .stay
  k       : Nat := 0              -- commit tick chosen
  cells   : BitVec 7 := 0         -- cells the set concerns
  acked   : BitVec 7 := 0         -- of those, the cells that acknowledged their ARM
  goSent  : Bool := false         -- commit-go has left in the SYNC of k − 2
  tries   : Nat := 0              -- failed armings in a row (R267)
  bySeq   : Bool := false         -- the set is the update sequencer's (R363)
  deriving DecidableEq, Repr

/-- One account of the credit books (Table 10-3). `kind`: 0 none, 1 grant, 2 use. -/
structure Account where
  kind    : Nat := 0
  credits : Nat := 0
  deriving DecidableEq, Repr

/-- The credit books (Tables 10-3, 10-4 and 10-9). -/
structure Books where
  grant   : Nat := 0
  use     : Nat := 0
  transit : Nat := 0
  state   : Nat := 0              -- PWR_BK_STATE.STATE
  load    : Int := 0
  gate    : Account := {}
  crd     : Vector Account 7 := Vector.replicate 7 {}
  trnCount : Nat := 0
  trnLongest : Nat := 0           -- 0.1 µs
  trnAt   : Nat := 0              -- instant TRANSIT became non-zero
  drawCount : Nat := 0
  drawLongest : Nat := 0          -- µs
  drawE   : Nat := 0              -- mJ
  drawAt  : Option (Nat × Nat) := none   -- instant and cask voltage at which a changeover moment began
  surgeCount : Nat := 0
  surgeLongest : Nat := 0         -- ms
  surgeAt : Option Nat := none
  violT   : Nat := 0
  violD   : Nat := 0
  violS   : Nat := 0
  short   : Nat := 0
  vCask   : Nat := 0              -- cask voltage of the last interval, 10 mV
  deriving DecidableEq, Repr

/-- Session states, Table 11-8a; the codes of SPI_AUTH_STAT.STATE in order. -/
inductive SessState where
  | none | waitRng | challenge | verifying | open_ | lockedOut
  deriving DecidableEq, Repr

/-- A privileged session over host SPI (R298) or Trellis (R339). -/
structure Session where
  state   : SessState := .none
  result  : Nat := 0
  waitCrypto : Bool := false
  fails   : Nat := 0
  lease   : Nat := 0              -- min, of the challenge
  until_  : Nat := 0              -- end of the lease, of the challenge or of the lockout
  count   : Nat := 0              -- challenges since power-on reset
  buf     : Mem := []             -- challenge block and signature, 144 bytes, fill 0
  requester : Nat := 0            -- Trellis only
  prio    : Nat := 0              -- PRIO of the requester's frames, of the answers; Trellis only
  deriving DecidableEq, Repr

/-- A response frame: status code, address and data (Table 11-1). -/
structure Resp where
  status : Nat := 0
  addr   : Nat := 0
  data   : Word := 0
  deriving DecidableEq, Repr

/-- The host SPI interface (Tables 11-7 to 11-9). -/
structure Spi where
  serving : Bool := false
  privEn  : Bool := false         -- PRIV_EN grants the privileged view (R297)
  privIgn : Bool := false
  unknown : Bool := false
  late    : Bool := false
  denied  : Bool := false
  crcErr  : Bool := false
  frameErr : Bool := false
  discarded : Nat := 0
  crcCount : Nat := 0
  deniedCount : Nat := 0
  frames  : BitVec 32 := 0
  irq     : BitVec 10 := 0        -- latched bits 9 to 4
  irqEn   : BitVec 10 := 0
  sess    : Session := {}
  authPtr : Nat := 0
  next    : Resp := { status := 0x30 }   -- response prepared for the next frame (R285)
  loaded  : Resp := {}            -- response loaded at the start of the frame just received (R290)
  deriving DecidableEq, Repr

/-- Trellis port states, Table 12-5; the codes of TRL_PSTAT.STATE in order. -/
inductive PortState where
  | off | alone | linked | merged
  deriving DecidableEq, Repr

/-- A census entry (R323). -/
structure Tap where
  addr     : Nat
  isModule : Bool
  heardAt  : Nat
  deriving DecidableEq, Repr

/-- The buffer that a forwarded frame occupies on the port where it arrived (R326): an open one, or a reserved one whose
credit is still due to the other module port, or is no longer because that module was lost (R328). -/
inductive Buf where
  | open_ | due | lost
  deriving DecidableEq, Repr

/-- A frame that waits on a port (R318, R330): its failed attempts, and the buffer that a forwarded one occupies. -/
structure Queued where
  f     : TrlFrame
  tries : Nat
  via   : Option (TrlPort × Buf)
  deriving DecidableEq, Repr

/-- One Trellis port (Table 12-10). -/
structure Port where
  state   : PortState := .off
  term    : Bool := false         -- the port's 120 Ω termination is switched in (R306)
  longAt  : Option Nat := none    -- instant a HEARTBEAT with LONG_REQ was last heard
  census  : List Tap := []
  peer    : Nat := 0              -- neighbour in LINKED, partner in MERGED
  hasPeer : Bool := false
  lastNbr : Nat := 0
  farNamed : Nat := 0
  peerHb  : Nat := 0              -- T_HB the peer announces, ms
  held    : Nat := 0
  owed    : Nat := 0
  modUsed : Nat := 0              -- reserved buffer frames in use
  openUsed : Nat := 0
  delay   : Nat := 0
  rx      : BitVec 32 := 0
  tx      : BitVec 32 := 0
  crc     : Nat := 0
  bit     : Nat := 0
  noAck   : Nat := 0
  dropped : Nat := 0
  lost    : BitVec 16 := 0
  clash   : Nat := 0
  losses  : Nat := 0
  merges  : Nat := 0
  changedAt : Nat := 0
  queue   : List Queued := []     -- frames to send on this port, in the order they leave (R330)
  backoff : Bool := false         -- a clash backoff runs (R317)
  line    : List Bool := []       -- bits of the last frame delivered on the segment, recessive true (Table 12-1)
  deriving DecidableEq, Repr

/-- A kept response (R337). -/
structure Kept where
  src   : Nat
  tag   : Nat
  at_   : Nat
  code  : Nat
  count : Nat
  addr  : Nat
  data  : List Word
  deriving DecidableEq, Repr

/-- An entry of the learning table (R329). -/
structure Learned where
  addr : Nat
  port : TrlPort
  at_  : Nat
  deriving DecidableEq, Repr

/-- The TRL block (Tables 12-9 and 12-10) and the pass-through switch (R324). -/
structure Trl where
  addr    : Nat := 0              -- of the BLANK unit: the low 16 bits of a unit ID of 0
  tmRank  : Nat := 255
  endA    : Bool := false
  endB    : Bool := false
  cmd     : CmdStat := {}
  timeAt  : Nat := 0              -- Trellis time `timeBase` held at this instant
  timeBase : Nat := 0
  rateT   : Nat := 1              -- tracked rate (R333): Trellis µs that pass
  rateL   : Nat := 1              -- in this many local µs
  locked  : Bool := false
  wasLocked : Bool := false       -- it has been locked since the cold start (R468)
  lostAt  : Nat := 0              -- instant lock was lost (R333)
  master  : Nat := 0
  rank    : Nat := 255
  follow  : Nat := 0              -- TRL_TSTAT.FOLLOW
  hops    : Nat := 0
  timeSeen : Option Nat := none   -- instant of the last valid TIME frame
  good    : Nat := 0              -- valid TIME frames in a row from the master followed
  sess    : Session := {}
  flt     : BitVec 9 := 0
  fltLast : BitVec 32 := 0
  learn   : List Learned := []
  noBcastB : Bool := false        -- broadcasts are no longer forwarded out of port B (R331)
  sent    : List (Nat × Word) := []   -- TYPE and FCRC of the last 16 frames originated, newest first
  strays  : Nat := 0              -- frames discarded and counted under R331
  kept    : List Kept := []       -- newest first, at most four requesters
  portA   : Port := {}
  portB   : Port := {}
  passThrough : Bool := true      -- the switch is closed
  hb      : Nat := 0              -- HEARTBEAT frames sent
  deriving DecidableEq, Repr

/-- Graft states, Table 13-5; the codes of UPD_STAT.STATE in order. -/
inductive GraftState where
  | none | receiving | complete | verified | carried | refused | activating | active
  deriving DecidableEq, Repr

/-- Activation phases (UPD_ACT.PHASE in order). -/
inductive ActPhase where
  | idle | scheduled | guard | main | trial | cells | structure_ | done | ended
  deriving DecidableEq, Repr

/-- A window of chunks in flight (R356). -/
structure Window where
  port  : TrlPort
  src   : Nat
  first : Nat
  count : Nat
  crc   : Word
  got   : List (List Byte)        -- chunks received, first first
  deriving DecidableEq, Repr

/-- The last GRAFT_OFFER heard from a tap of a port (R355). -/
structure Offer where
  port  : TrlPort
  src   : Nat
  gid   : BitVec 64
  total : Nat
  held  : Nat
  whole : Bool
  deriving DecidableEq, Repr

/-- The UPD block (Table 13-9). -/
structure Upd where
  state   : GraftState := .none
  bound   : Bool := false
  area    : Nat := 0
  gid     : BitVec 64 := 0
  total   : Nat := 0
  release : Nat := 0
  bitmap  : BitVec 8192 := 0      -- chunks held; kept in the Cellar (R353)
  formOk  : Bool := false         -- R345 has passed
  reason  : Nat := 0
  kind    : Nat := 0
  cmd     : CmdStat := {}
  phase   : ActPhase := .idle
  cell    : Nat := 0
  done    : BitVec 7 := 0
  skipped : BitVec 7 := 0         -- FAILED cells marked done without the new microcode (R362)
  pendingFrame : Bool := false
  repair  : Bool := false
  trialEnd : Nat := 0
  trialBy : Bool := false         -- the 60 s of the trial run (R361)
  atLo    : BitVec 32 := 0
  atHi    : BitVec 16 := 0
  guardAt : Nat := 0              -- instant the peer guard first deferred step 2
  waitAt  : Vector Nat 7 := Vector.replicate 7 0   -- since when a cell waits (R362); 0 not waiting
  mismatch : BitVec 3 := 0        -- images whose digest has mismatched once (R347)
  served  : Nat := 0
  badWindows : Nat := 0
  reErase : Nat := 0
  offers  : List Offer := []      -- newest first
  want    : Option (TrlPort × Nat × Nat × Nat) := none   -- port, supplier, first chunk and count of the outstanding GRAFT_WANT
  window  : Option Window := none
  newSlot : Option (Nat × Nat) := none   -- store slot written by the activation: bank and slot
  deriving DecidableEq, Repr

/-- A flash operation of the FLS commands that has begun (R351). -/
structure FlashOp where
  program : Bool
  bank    : Nat
  sector  : Nat
  page    : Nat
  data    : List Byte             -- the page buffer as it stood at the command
  deriving DecidableEq, Repr

/-- The flash (R350) and the FLS block (Table 13-11). -/
structure Fls where
  bank0   : Mem := []             -- 2 MiB each, erased bytes 0xFF
  bank1   : Mem := []
  active  : Nat := 0              -- the bank record (R350)
  previous : Nat := 0             -- bank to which a reversion returns (R361)
  trial   : Bool := false
  cmd     : CmdStat := {}
  ptr     : Nat := 0
  buf     : Mem := []             -- page buffer, 256 bytes, fill 0
  op      : Option FlashOp := none
  deriving DecidableEq, Repr

/-- What the register interface of the crypto engine has under way (R370). -/
inductive CryMode where
  | none | sha | ecdsa | gcmEnc | gcmDec
  deriving DecidableEq, Repr

/-- Generator states (CRY_RNG.STATE in order). -/
inductive RngState where
  | notReady | ready | failed
  deriving DecidableEq, Repr

/-- The CRY block (Table 13-12). -/
structure Cry where
  slot0   : Nat := 0
  slot1   : Nat := 0
  running : Nat := 0
  busyCnt : Nat := 0
  cmd     : CmdStat := {}
  mode    : CryMode := .none
  fin     : Bool := false         -- the final operation has been ordered
  aad     : Nat := 0
  lastBytes : Nat := 4
  stream  : List Word := []       -- words written, last first
  out     : List Word := []       -- GCM output words not yet read, first first
  ctx     : List Word := []       -- key (8 words) and IV (3 words) that GCM took at its start
  ptr     : Nat := 0
  buf     : Mem := []             -- 64 words, fill 0
  rng     : RngState := .notReady
  rngFail : Bool := false         -- a start-up window failed
  deriving DecidableEq, Repr

end Sys2Proof.Machine
end

