-- ==== Sys2Proof/Machine/SafeState.lean ====
section
/-! DEFINITION. The state of the watchdog, the fault collector, ALIVE, the Cellar, the OTP and the life cycle.
Units as in PowerState. -/

namespace Sys2Proof.Machine

/-- Watchdog states, Table 14-3; the codes of WDG_STAT.STATE in order. -/
inductive WdgState where
  | reset | closed | open_ | trap
  deriving DecidableEq, Repr

/-- The watchdog (Tables 14-1 to 14-3 and 14-8). -/
structure Wdg where
  state   : WdgState := .reset
  q       : BitVec 16 := 0
  answer  : Option Word := none   -- an answer that is crossing (R378)
  rej     : Bool := false
  frac    : Nat := 0
  count   : Nat := 0              -- at the last event or read that told it
  startAt : Nat := 0              -- instant the running period began
  wakeReq : Bool := false         -- wake request to sleeping cores (R381, R383)
  period  : Nat := 16384          -- P of the running period
  newPeriod : Option Nat := none  -- written, in effect from the next period that begins once it has crossed (R27, R384)
  newAt   : Nat := 0              -- instant of that write
  opensAt : Nat := 0              -- O of the running period, RC cycles (R377)
  wake    : Bool := false
  lock    : Bool := false
  lastResult : Nat := 0
  lastCount  : Nat := 0
  expiries : Nat := 0
  ignored  : Nat := 0
  serviced : BitVec 16 := 0
  deriving DecidableEq, Repr

/-- What the collector keeps of one source (FLT_SRCINFO, FLT_SRCADDR). -/
structure FltSrc where
  live    : Bool := false
  pend    : Bool := false
  wire    : Bool := false         -- wire fault on this pair now
  count   : Nat := 0
  latchedAt : Option Nat := none  -- instant of the last latch
  recordAt  : Option Nat := none  -- instant of the last latch that wrote a Cellar record (R394)
  addr    : Word := 0
  deriving DecidableEq, Repr

/-- An open C2 window (R388): the source that opened it and its end. -/
structure C2Win where
  source : Nat
  end_   : Nat
  deriving DecidableEq, Repr

/-- An entry of the event queue: the FLT_EVENT word and the fault address. -/
structure FltEvent where
  word : Word
  addr : Word
  deriving DecidableEq, Repr

/-- A force in progress (R391). -/
structure Force where
  source : Nat
  kind   : Nat
  deriving DecidableEq, Repr

/-- The FLT block (Tables 14-9 and 14-10) and ALIVE. -/
structure Flt where
  src     : Vector FltSrc 256 := Vector.replicate 256 {}
  raised  : List (Nat × Nat) := []    -- source and class of the running image's FAULT_CLASS section (R84)
  win     : Vector (Option C2Win) 16 := Vector.replicate 16 none
  masked  : BitVec 16 := 0
  c2win   : Nat := 20
  escalated : Bool := false
  evq     : List FltEvent := []       -- oldest first
  evOvf   : Bool := false
  evSeq   : BitVec 8 := 0
  last    : Word := 0
  lastAddr : Word := 0
  cmq     : List Word := []           -- compatibility queue, oldest first
  cmOvf   : Bool := false
  cmLast  : Word := 0
  cmd     : CmdStat := {}
  force   : Option Force := none
  alive   : Bool := false             -- ALIVE makes edges
  aliveLevel : Bool := false
  aliveStop  : Nat := 1
  aliveStops : Nat := 0
  deriving DecidableEq, Repr

/-- A Cellar record that waits in the write controller's queue (Table 15-2, without sequence number and CRC). -/
structure Record where
  kind   : Nat
  mode   : Nat                  -- byte 5
  flags  : Nat                  -- byte 6, bits 0 to 2
  source : Nat
  time   : Nat
  arg    : Nat
  addr   : Word
  uptime : Word
  words  : List Word            -- bytes 24 to 55: snapshot and kind word, or the NOTE words
  deriving DecidableEq, Repr

/-- The CLR block (Table 15-11) and the array behind it. -/
structure Clr where
  mem     : Mem := []                -- the array, 524,288 bytes, fill 0xFF (R405); an uncorrectable word reads as 0
  bad     : List Nat := []           -- the uncorrectable 8-byte words, by number (R402)
  undo    : List (Nat × List Byte) := []  -- 8-byte words the controller may not have written yet, with what they held before, newest
                                     -- first: each takes at most 100 ns, so a commit tick completes a hundred (R402)
  queue   : List Record := []        -- oldest first
  lostFlag : Bool := false           -- records were dropped since the last one queued (flag [4])
  droppedBit : Bool := false
  dropped : Nat := 0
  errors  : Nat := 0
  head    : Nat := 0                 -- unit of the newest complete circular record
  seq     : BitVec 32 := 0           -- its sequence number
  nextSeq : BitVec 32 := 1
  incomplete : Nat := 0
  fallback : Nat := 0
  uncorr  : Nat := 0
  cmd     : CmdStat := {}
  errAddr : Word := 0
  notes   : Vector Word 8 := Vector.replicate 8 0
  deriving DecidableEq, Repr

/-- Life-cycle states, Table 15-7; the codes of LCS_STATE.STATE in order. -/
inductive Life where
  | blank | factory | provisioned | field | return_ | scrapped
  deriving DecidableEq, Repr

/-- An ARM_TRANSITION that awaits its TRANSITION (R419). -/
structure ArmT where
  target : Nat
  until_ : Nat
  deriving DecidableEq, Repr

/-- The LCS block (Table 15-12) and the OTP (R413). -/
structure Lcs where
  otp     : Mem := []                -- 256 words of 4 bytes, fill 0
  held    : Mem := []                -- words as read at step 3 or as a transition programmed them (R415)
  state   : Life := .blank
  resolved : Bool := false
  resT    : Nat := 0
  rolledBack : Bool := false
  weak    : Bool := false
  arm     : Option ArmT := none
  cmd     : CmdStat := {}
  data    : Word := 0
  rngFails : Nat := 0
  rngTimes : List Nat := []          -- instants of the failed windows of the last 64 windows, newest first
  unblinded : Bool := false
  lastTest : Nat := 0
  starts  : Nat := 0
  deriving DecidableEq, Repr

end Sys2Proof.Machine
end

