-- ==== Sys2Proof/Machine/State.lean ====
section
/-! DEFINITION. The whole state of the module, the reasons a step can stop, and the state right after reset. -/

namespace Sys2Proof.Machine

/-- The variants of Table 0-2. -/
inductive Variant where
  | q2 | q4 | q8
  deriving DecidableEq, Repr

/-- What the part is (R1, R2, SYS_ID): it never changes. Reset: a Q8 of stepping A (log entry 4). -/
structure Hw where
  variant : Variant := .q8
  merja   : Nat := 1
  oppol   : Nat := 1
  deriving DecidableEq, Repr

/-- The registers each of the three agents holds for itself (R431, Table 16-17). -/
structure AgentRegs where
  clrSel : Nat := 0                -- CLR_SEL
  clrBuf : Vector Word 16 := Vector.replicate 16 0   -- the buffer behind CLR_DATA0 to CLR_DATA15
  fltSel : Nat := 0                -- FLT_SEL
  ptSel  : Vector Nat 4 := Vector.replicate 4 0      -- EIS_PT_SEL of each window
  pcSel  : Vector Nat 2 := Vector.replicate 2 0      -- TRL_PCSEL of ports A and B
  otpSel : Nat := 0                -- LCS_OTP_SEL
  hxIdx  : Nat := 0                -- UPD_HX_IDX
  hxWord : Nat := 0
  hxBuf  : Mem := []               -- chunk buffer behind UPD_HX_DATA, 256 bytes, fill 0
  timeHi : Word := 0               -- TRL_TIME_HI as latched (R341)
  deriving DecidableEq, Repr

/-- The common registers of the CEL block (Tables 2-15 and 2-16). -/
structure CelBlock where
  cmd      : CmdStat := {}
  count    : Nat := 0              -- spare takeovers
  spare    : Nat := 0
  replaced : Nat := 0
  duration : Nat := 0              -- µs
  deriving DecidableEq, Repr

/-- What woke the module from SHIP, as the wake domain latched it (Table 15-5). -/
inductive Wake where
  | none | button | source
  deriving DecidableEq, Repr

/-- The state of the module and the queue of commands that wait. Every field is plain data. -/
structure State where
  pending : List Instr := []
  freeIx  : Nat := 0               -- counter that picks the next free value (log entry 5); the model's own field
  now     : Nat := 0               -- controller timebase, µs since the last cold reset (R26)
  powered : Bool := true           -- the logic rail is valid
  orIn    : OrInputs := { cask := 0, ports := Vector.replicate 7 0, vaux := 4800 }  -- OR-ing inputs as last known (R37; log entry 59)
  upset   : Bool := false          -- a sag that turned back left the core logic in any state (text after R41)
  sram    : Mem := []              -- the 512 KiB SRAM of the Merja die (Table 1-1): no command of the manual reaches it
  wake    : Wake := .none
  hw      : Hw := {}
  crystal : Bool := false          -- the core PLL runs from the crystal (R25)
  xtalLost : Bool := false         -- it returned to the internal oscillator after a crystal loss
  agents  : Vector AgentRegs 3 := Vector.replicate 3 {}   -- main image, host SPI, Trellis
  cel     : CelBlock := {}
  cells   : Vector Cell 7 := Vector.replicate 7 {}
  cordons : Vector Cordon 7 := Vector.replicate 7 {}
  str     : Structure := {}
  sys     : Sys := {}
  limp    : Limp := {}
  pwr     : Pwr := {}
  chg     : ChgBlock := {}
  eis     : EisBlock := {}
  ppt     : PptBlock := {}
  adc     : AdcBlock := {}
  stg     : Stg := {}
  bk      : Books := {}
  spi     : Spi := {}
  trl     : Trl := {}
  upd     : Upd := {}
  fls     : Fls := {}
  cry     : Cry := {}
  wdg     : Wdg := {}
  flt     : Flt := {}
  clr     : Clr := {}
  lcs     : Lcs := {}
  deriving DecidableEq, Repr

/-- The faults: none. Every command of the table has an effect in the manual, so no meaning stops. -/
inductive Fault where
  deriving DecidableEq, Repr

/-- The refusals. -/
inductive Refusal where
  /-- A command whose meaning is not written yet; only an arm of the dispatch answers with it. Safe. -/
  | notModelled (mnemonic : String)
  deriving DecidableEq, Repr

/-- The module right after reset: every field at the value its register table gives, the logic rail valid, the mode
STAGING, nothing in any memory, no command waiting. -/
def State.reset : State := {}

end Sys2Proof.Machine
end

