-- ==== Sys2Proof/Machine/Base.lean ====
section
/-! DEFINITION. The helpers every block uses: codes of the state enumerations, fields of words, little-endian bytes,
the CRCs, the variant, and the accessors of the banks of the state. -/

namespace Sys2Proof.Machine

/-! ### Codes of the enumerations, as the register tables number them -/

/-- Table 4-1. -/
def Mode.code : Mode → Nat
  | .ship => 0 | .staging => 1 | .normal => 2 | .reserve => 3 | .limp => 4 | .service => 5
/-- SYS_MODE.LIMP_SUB. -/
def LimpSub.code : LimpSub → Nat
  | .none => 0 | .held => 1 | .rom => 2 | .locked => 3
/-- CEL_STAT.STATE. -/
def CellState.code : CellState → Nat
  | .off => 0 | .training => 1 | .ready => 2 | .standby => 3 | .run => 4 | .selftest => 5 | .tripped => 6
  | .failed => 7 | .update => 8
/-- Table 2-3. -/
def cellModeCode : CellMode → Nat
  | .off => 0 | .standby => 1 | .portI => 2 | .portV => 3 | .caskV => 4
/-- Table 3-1. -/
def Role.code : Role → Nat
  | .off => 0 | .source => 1 | .battery => 2 | .system => 3 | .peer => 4 | .spare => 5
/-- The role of a code; any other code is OFF (the consistency check refuses it before). -/
def roleOf : Nat → Role
  | 1 => .source | 2 => .battery | 3 => .system | 4 => .peer | 5 => .spare | _ => .off
/-- CRD_STATE.STATE. -/
def CordonState.code : CordonState → Nat
  | .absent => 0 | .idle => 1 | .standby => 2 | .run => 3 | .degraded => 4 | .stopped => 5
/-- PWR_SRC_STAT.STATE. -/
def SrcState.code : SrcState → Nat
  | .absent => 0 | .invalid => 1 | .qualifying => 2 | .usable => 3 | .feeding => 4 | .testDropped => 5
/-- PWR_STAT.PATH_STATE. -/
def PathState.code : PathState → Nat
  | .unfed => 0 | .fed => 1 | .changeover => 2 | .carried => 3 | .handback => 4
/-- CHG_STAT.PHASE. -/
def Phase.code : Phase → Nat
  | .none => 0 | .qualify => 1 | .trickle => 2 | .pre => 3 | .cc => 4 | .cv => 5 | .maint => 6 | .halted => 7
  | .hold => 8
/-- EIS_SUP.SW_STATE. -/
def SwState.code : SwState → Nat
  | .open_ => 0 | .settle => 1 | .closed => 2
/-- EIS_SUP.MISS_STATE. -/
def Miss.code : Miss → Nat
  | .none => 0 | .suspected => 1 | .pulse => 2 | .confirmed => 3
/-- PPT_REGEN.STATE. -/
def RegenState.code : RegenState → Nat
  | .none => 0 | .absorb => 1 | .chop => 2
/-- PPT_STAT.STATE. -/
def PeerState.code : PeerState → Nat
  | .disabled => 0 | .seek => 1 | .check => 2 | .wet => 3 | .negotiate => 4 | .idle => 5 | .contract => 6
  | .swap => 7 | .backoff => 8
/-- PPT_STAT.ROLE. -/
def PeerRole.code : PeerRole → Nat
  | .none => 0 | .supplier => 1 | .consumer => 2
/-- STG_STAT.STATE. -/
def StgState.code : StgState → Nat
  | .empty => 0 | .open_ => 1 | .checking => 2 | .checked => 3 | .armed => 4 | .scheduled => 5
/-- SPI_AUTH_STAT.STATE. -/
def SessState.code : SessState → Nat
  | .none => 0 | .waitRng => 1 | .challenge => 2 | .verifying => 3 | .open_ => 4 | .lockedOut => 5
/-- TRL_PSTAT.STATE. -/
def PortState.code : PortState → Nat
  | .off => 0 | .alone => 1 | .linked => 2 | .merged => 3
/-- UPD_STAT.STATE. -/
def GraftState.code : GraftState → Nat
  | .none => 0 | .receiving => 1 | .complete => 2 | .verified => 3 | .carried => 4 | .refused => 5
  | .activating => 6 | .active => 7
/-- UPD_ACT.PHASE. -/
def ActPhase.code : ActPhase → Nat
  | .idle => 0 | .scheduled => 1 | .guard => 2 | .main => 3 | .trial => 4 | .cells => 5 | .structure_ => 6
  | .done => 7 | .ended => 8
/-- WDG_STAT.STATE. -/
def WdgState.code : WdgState → Nat
  | .reset => 0 | .closed => 1 | .open_ => 2 | .trap => 3
/-- CRY_RNG.STATE. -/
def RngState.code : RngState → Nat
  | .notReady => 0 | .ready => 1 | .failed => 2
/-- LCS_STATE.STATE. -/
def Life.code : Life → Nat
  | .blank => 0 | .factory => 1 | .provisioned => 2 | .field => 3 | .return_ => 4 | .scrapped => 5
/-- The life-cycle state of a code (Table 15-7). -/
def lifeOf : Nat → Option Life
  | 0 => some .blank | 1 => some .factory | 2 => some .provisioned | 3 => some .field | 4 => some .return_
  | 5 => some .scrapped | _ => none
/-- Place of an agent in the bank of per-agent registers; also STG_STAT.OWNER (Table 10-5). -/
def agentIx : Agent → Nat
  | .mainImage => 1 | .hostSpi => 2 | .trellis => 3
/-- Bit number of a protection in CEL_TRIP (Table 2-17). -/
def tripBit : Trip → Nat
  | .oc => 1 | .portOv => 2 | .caskOv => 3 | .desat => 4 | .ot => 5 | .uvlo => 6 | .commitMissed => 7
/-- Offset of a protection's fault source within the cell's group (Table 14-6). -/
def tripSource : Trip → Nat
  | .oc => 0 | .desat => 1 | .portOv => 2 | .caskOv => 3 | .ot => 4 | .uvlo => 5 | .commitMissed => 6
/-- Latching protections of Table 2-6; the others clear by themselves. -/
def tripLatching : Trip → Bool
  | .oc => true | .desat => true | .uvlo => true | .commitMissed => true
  | .portOv => false | .caskOv => false | .ot => false
/-- Variant code of SYS_ID and of the hardware type code. -/
def Variant.code : Variant → Nat
  | .q2 => 2 | .q4 => 4 | .q8 => 8

/-! ### Fields, bits and bytes -/

/-- A word assembled from fields, each (lowest bit, width, value); a value is cut to its width. -/
def pack (fs : List (Nat × Nat × Nat)) : Word :=
  BitVec.ofNat 32 (fs.foldl (fun acc f => acc + f.2.2 % 2 ^ f.2.1 * 2 ^ f.1) 0)
/-- The field of `n` bits from bit `lo` of a word. -/
def field (w : Word) (lo n : Nat) : Nat := w.toNat / 2 ^ lo % 2 ^ n
/-- One bit of a word. -/
def bit (w : Word) (i : Nat) : Bool := w.getLsbD i
/-- A value that saturates at the top of an `n`-bit field. -/
def sat (n v : Nat) : Nat := min v (2 ^ n - 1)
/-- Set or clear bit `i`. -/
def putBit {n : Nat} (v : BitVec n) (i : Nat) (b : Bool) : BitVec n :=
  if b then v ||| (BitVec.ofNat n (2 ^ i)) else v &&& ~~~(BitVec.ofNat n (2 ^ i))
/-- Numbers (from 1) of the bits set in a mask: bit n − 1 stands for n. -/
def maskList {n : Nat} (m : BitVec n) : List Nat := ((List.range n).filter (fun i => m.getLsbD i)).map (· + 1)
/-- Mask of numbers that satisfy `p`: bit n − 1 stands for n. -/
def maskOf (n : Nat) (p : Nat → Bool) : BitVec n :=
  (List.range n).foldl (fun m i => putBit m i (p (i + 1))) 0
/-- Number of bits set. -/
def popCount {n : Nat} (m : BitVec n) : Nat := ((List.range n).filter (fun i => m.getLsbD i)).length
/-- `n` bytes of `v`, least significant first. -/
def le : (n v : Nat) → List Byte
  | 0, _ => []
  | n + 1, v => BitVec.ofNat 8 (v % 256) :: le n (v / 256)
/-- The number whose bytes, least significant first, are `bs`. -/
def ofLe : List Byte → Nat
  | [] => 0
  | b :: bs => b.toNat + 256 * ofLe bs
/-- `n` bytes of `bs` from offset `o`; missing ones read 0. -/
def bytesAt (bs : List Byte) (o n : Nat) : List Byte := (List.range n).map (fun i => bs.getD (o + i) 0)
/-- Unsigned little-endian field of `n` bytes at offset `o`. -/
def uAt (bs : List Byte) (o n : Nat) : Nat := ofLe (bytesAt bs o n)
/-- Two's complement field of `n` bytes at offset `o`. -/
def iAt (bs : List Byte) (o n : Nat) : Int := signed (8 * n) (uAt bs o n)
/-- The four bytes of a word, least significant first. -/
def wordBytes (w : Word) : List Byte := le 4 w.toNat
/-- The word at byte offset `o` of a memory. -/
def memWord (fill : Byte) (m : Mem) (o : Nat) : Word := BitVec.ofNat 32 (ofLe (memReadList fill m o 4))
/-- Put a word at byte offset `o` of a memory. -/
def memPutWord (fill : Byte) (m : Mem) (o : Nat) (w : Word) : Mem := memWriteList fill m o (wordBytes w)

/-! ### CRCs -/

/-- One bit of the reflected CRC-32 of R464. -/
def crcBit (c : Nat) : Nat := if c % 2 = 1 then (c / 2) ^^^ 0xEDB88320 else c / 2
/-- One byte of the reflected CRC-32. -/
def crcByte (c : Nat) (b : Byte) : Nat :=
  crcBit (crcBit (crcBit (crcBit (crcBit (crcBit (crcBit (crcBit (c ^^^ b.toNat))))))))
/-- CRC-32 of R464 over bytes in order. -/
def crc32 (bs : List Byte) : Word := BitVec.ofNat 32 (bs.foldl crcByte 0xFFFFFFFF ^^^ 0xFFFFFFFF)
/-- One bit of the unreflected CRC-32 of R312, `b` the bit that comes in. -/
def fcrcBit (c : Nat) (b : Bool) : Nat :=
  let top := (decide (2 ^ 31 ≤ c)) ^^ b
  let c' := c * 2 % 2 ^ 32
  if top then c' ^^^ 0x04C11DB7 else c'
/-- The bits of an `n`-bit number, most significant first. -/
def bitsMsb : (n v : Nat) → List Bool
  | 0, _ => []
  | n + 1, v => decide (v / 2 ^ n % 2 = 1) :: bitsMsb n v
/-- CRC-32 of R312 over a run of bits: initial value 0xFFFFFFFF, no reflection, no final XOR. -/
def fcrc (bits : List Bool) : Word := BitVec.ofNat 32 (bits.foldl fcrcBit 0xFFFFFFFF)
/-- The same over bytes, each most significant bit first. -/
def fcrcBytes (bs : List Byte) : Word := fcrc (bs.flatMap (fun b => bitsMsb 8 b.toNat))
/-- One bit of the CRC-8 of R283. -/
def crc8Bit (c : Nat) (b : Bool) : Nat :=
  let fb := (decide (128 ≤ c)) ^^ b
  let c' := c * 2 % 256
  if fb then c' ^^^ 0x2F else c'
/-- CRC-8 of R283 over the 56 bits [63:8] of a frame, most significant first. -/
def crc8 (upper56 : Nat) : Nat := (bitsMsb 56 upper56).foldl crc8Bit 0xFF
/-- One bit of the CRC-16 of R29 and R220. -/
def crc16Bit (c : Nat) (b : Bool) : Nat :=
  let top := (decide (2 ^ 15 ≤ c)) ^^ b
  let c' := c * 2 % 2 ^ 16
  if top then c' ^^^ 0x1021 else c'
/-- CRC-16 of polynomial 0x1021 and initial value 0xFFFF over bytes, each most significant bit first (R29, R220). -/
def crc16 (bs : List Byte) : Nat := (bs.flatMap (fun b => bitsMsb 8 b.toNat)).foldl crc16Bit 0xFFFF
/-- The 64 bits of a response frame (Table 11-1). -/
def respFrame (r : Resp) : BitVec 64 :=
  let up := (r.status * 2 ^ 16 + r.addr % 2 ^ 16) * 2 ^ 32 + r.data.toNat
  BitVec.ofNat 64 (up * 256 + crc8 up)

/-! ### Variant (Tables 0-2, 3-1a and 16-16) -/

/-- Cells of the variant. -/
def cellCount : Variant → Nat
  | .q2 => 1 | .q4 => 3 | .q8 => 7
/-- Battery indices of the variant. -/
def batMax : Variant → Nat
  | .q2 => 1 | .q4 => 2 | .q8 => 4
/-- Peer indices of the variant. -/
def peerMax : Variant → Nat
  | .q2 => 0 | .q4 => 2 | .q8 => 4
/-- The cell is fitted (R5). -/
def cellFitted (s : State) (n : Nat) : Bool := decide (1 ≤ n ∧ n ≤ cellCount s.hw.variant)
/-- Mask of the fitted cells. -/
def fittedMask (s : State) : BitVec 7 := maskOf 7 (fun n => cellFitted s n)
/-- Numbers of the fitted cells. -/
def fittedCells (s : State) : List Nat := (List.range (cellCount s.hw.variant)).map (· + 1)
/-- The hardware type code of the module (Table 3-2, SYS_ID). -/
def hwType (s : State) : Word := pack [(24, 8, 0x51), (16, 8, s.hw.variant.code), (8, 8, s.hw.merja), (0, 8, s.hw.oppol)]

/-! ### Accessors of the banks -/

/-- Cell n. -/
def State.cell (s : State) (n : Nat) : Cell := bankGet {} s.cells n
/-- Change cell n; an absent cell stays as it is (R4). -/
def State.modCell (s : State) (n : Nat) (f : Cell → Cell) : State :=
  if cellFitted s n then { s with cells := bankMod s.cells n f } else s
/-- Change every fitted cell of a list. -/
def State.modCells (s : State) (ns : List Nat) (f : Nat → Cell → Cell) : State :=
  ns.foldl (fun t n => t.modCell n (f n)) s
/-- Cordon n. -/
def State.cordon (s : State) (n : Nat) : Cordon := bankGet {} s.cordons n
/-- Change cordon n. -/
def State.modCordon (s : State) (n : Nat) (f : Cordon → Cordon) : State := { s with cordons := bankMod s.cordons n f }
/-- Source entry i. -/
def State.src (s : State) (i : Nat) : Source := bankGet {} s.pwr.src i
/-- Change source entry i. -/
def State.modSrc (s : State) (i : Nat) (f : Source → Source) : State :=
  { s with pwr := { s.pwr with src := bankMod s.pwr.src i f } }
/-- Charge instance i. -/
def State.chgI (s : State) (i : Nat) : Chg := bankGet {} s.chg.inst i
/-- Change charge instance i. -/
def State.modChg (s : State) (i : Nat) (f : Chg → Chg) : State :=
  { s with chg := { s.chg with inst := bankMod s.chg.inst i f } }
/-- Supervision of string i. -/
def State.bat (s : State) (i : Nat) : Bat := bankGet {} s.eis.bat i
/-- Change the supervision of string i. -/
def State.modBat (s : State) (i : Nat) (f : Bat → Bat) : State :=
  { s with eis := { s.eis with bat := bankMod s.eis.bat i f } }
/-- Change the impedance run of string i. -/
def State.modRun (s : State) (i : Nat) (f : EisRun → EisRun) : State := s.modBat i (fun b => { b with run := f b.run })
/-- Change the coulomb book of string i. -/
def State.modBook (s : State) (i : Nat) (f : Book → Book) : State := s.modBat i (fun b => { b with book := f b.book })
/-- Peer port i. -/
def State.peerI (s : State) (i : Nat) : Peer := bankGet {} s.ppt.peer i
/-- Change peer port i. -/
def State.modPeer (s : State) (i : Nat) (f : Peer → Peer) : State :=
  { s with ppt := { s.ppt with peer := bankMod s.ppt.peer i f } }
/-- Converter x, 0 to 3. -/
def State.convX (s : State) (x : Nat) : Conv := bankGet {} s.adc.conv (x + 1)
/-- Change converter x. -/
def State.modConv (s : State) (x : Nat) (f : Conv → Conv) : State :=
  { s with adc := { s.adc with conv := bankMod s.adc.conv (x + 1) f } }
/-- Trellis port. -/
def State.port (s : State) : TrlPort → Port
  | .a => s.trl.portA
  | .b => s.trl.portB
/-- Change a Trellis port. -/
def State.modPort (s : State) (p : TrlPort) (f : Port → Port) : State :=
  match p with
  | .a => { s with trl := { s.trl with portA := f s.trl.portA } }
  | .b => { s with trl := { s.trl with portB := f s.trl.portB } }
/-- The registers an agent holds for itself. -/
def State.agent (s : State) (a : Agent) : AgentRegs := bankGet {} s.agents (agentIx a)
/-- Change them. -/
def State.modAgent (s : State) (a : Agent) (f : AgentRegs → AgentRegs) : State :=
  { s with agents := bankMod s.agents (agentIx a) f }
/-- Fault source n, 0 to 255. -/
def State.fsrc (s : State) (n : Nat) : FltSrc := bankGet {} s.flt.src (n + 1)
/-- Change fault source n. -/
def State.modFsrc (s : State) (n : Nat) (f : FltSrc → FltSrc) : State :=
  { s with flt := { s.flt with src := bankMod s.flt.src (n + 1) f } }
/-- The flash bank b. -/
def State.bank (s : State) (b : Nat) : Mem := if b = 0 then s.fls.bank0 else s.fls.bank1
/-- Put flash bank b. -/
def State.setBank (s : State) (b : Nat) (m : Mem) : State :=
  if b = 0 then { s with fls := { s.fls with bank0 := m } } else { s with fls := { s.fls with bank1 := m } }
/-- An OTP word as held since step 3 or as a transition programmed it (R415). -/
def State.otpWord (s : State) (w : Nat) : Word := memWord 0 s.lcs.held (4 * w)
/-- The unit ID (Table 15-6). -/
def State.unitId (s : State) : BitVec 64 := BitVec.ofNat 64 ((s.otpWord 0).toNat + (s.otpWord 1).toNat * 2 ^ 32)
/-- Cordon of battery index i: the cordon in use of role BATTERY with that index; 0 none (R78). -/
def batCordon (s : State) (i : Nat) : Nat :=
  (([1, 2, 3, 4, 5, 6, 7].find? (fun n =>
    let c := s.cordon n
    decide (c.state ≠ .absent ∧ c.e.role = .battery ∧ c.e.index = i)))).getD 0
/-- Cordon of peer index i; 0 none. -/
def peerCordon (s : State) (i : Nat) : Nat :=
  (([1, 2, 3, 4, 5, 6, 7].find? (fun n =>
    let c := s.cordon n
    decide (c.state ≠ .absent ∧ c.e.role = .peer ∧ c.e.index = i)))).getD 0
/-- The battery index has a cordon in the running image and the variant has it. -/
def batUsed (s : State) (i : Nat) : Bool := decide (1 ≤ i ∧ i ≤ batMax s.hw.variant ∧ batCordon s i ≠ 0)
/-- The peer index has a cordon in the running image and the variant has it. -/
def peerUsed (s : State) (i : Nat) : Bool := decide (1 ≤ i ∧ i ≤ peerMax s.hw.variant ∧ peerCordon s i ≠ 0)
/-- The four indices. -/
def four : List Nat := [1, 2, 3, 4]
/-- The seven cordons. -/
def seven : List Nat := [1, 2, 3, 4, 5, 6, 7]
/-- The eight source entries. -/
def eight : List Nat := [1, 2, 3, 4, 5, 6, 7, 8]
/-- The modes in which the charge engine, the books and the allocator run (R147). -/
def working (m : Mode) : Bool := decide (m = .normal ∨ m = .reserve ∨ m = .service)

/-- A command's code and result for its CMDSTAT register. -/
def cmdRes (code result : Nat) : CmdStat := { code := code, result := result, fresh := true }
/-- A later result of the last command. -/
def cmdAnswer (c : CmdStat) (result : Nat) : CmdStat := { c with result := result, fresh := true }

end Sys2Proof.Machine
end

