-- ==== Sys2Proof/Machine/ImageFields.lean ====
section
/-! DEFINITION. The structure image as bytes: the fields of Tables 3-2 to 3-7 read from it, its sections, and the
small arithmetic the checks need (fractions of naturals, square root). Units are those of the tables. -/

namespace Sys2Proof.Machine

/-- The bytes of a structure image. -/
abbrev Image := List Byte

/-! ### Fractions and square root -/

/-- A fraction of naturals; a zero denominator under a positive numerator stands above every number. -/
abbrev Frac := Nat × Nat
/-- a ≤ b. -/
def fLe (a b : Frac) : Bool := decide (a.1 * b.2 ≤ b.1 * a.2)
/-- The larger of two fractions. -/
def fMax (a b : Frac) : Frac := if fLe a b then b else a
/-- Sum. -/
def fAdd (a b : Frac) : Frac := (a.1 * b.2 + b.1 * a.2, a.2 * b.2)
/-- Product. -/
def fMul (a b : Frac) : Frac := (a.1 * b.1, a.2 * b.2)
/-- Rounded up. -/
def fCeil (a : Frac) : Nat := ceilDiv a.1 a.2
/-- Rounded down. -/
def fFloor (a : Frac) : Nat := a.1 / a.2
/-- Square root rounded down, one bit per step from bit `k` down. -/
def sqrtFrom (n : Nat) : (k acc : Nat) → Nat
  | 0, acc => acc
  | k + 1, acc => sqrtFrom n k (if (acc + 2 ^ k) * (acc + 2 ^ k) ≤ n then acc + 2 ^ k else acc)
/-- Integer square root of a number below 2 ^ 128. -/
def isqrt (n : Nat) : Nat := sqrtFrom n 64 0

/-! ### Header (Table 3-2) and module block (Table 3-3) -/

/-- Image vintage. -/
def imVintage (im : Image) : Nat := uAt im 6 2
/-- Lowest accepted main-image vintage. -/
def imMainLo (im : Image) : Nat := uAt im 8 2
/-- Highest accepted main-image vintage. -/
def imMainHi (im : Image) : Nat := uAt im 10 2
/-- Total length. -/
def imLength (im : Image) : Nat := uAt im 20 2
/-- Image CRC-32 as the header holds it. -/
def imCrc (im : Image) : Word := BitVec.ofNat 32 (uAt im 60 4)
/-- The CRC-32 over the whole length with the CRC field taken as 0. -/
def imCrcOf (im : Image) : Word :=
  crc32 ((im.take 60) ++ [0, 0, 0, 0] ++ ((im.take (imLength im)).drop 64))
/-- V_CASK_SET, 0.1 V. -/
def vCaskSet (im : Image) : Nat := uAt im 64 2
/-- V_CASK_MIN, 0.1 V. -/
def vCaskMin (im : Image) : Nat := uAt im 66 2
/-- V_CASK_REGEN, 0.1 V; a written 0 stands for 4,200. -/
def vCaskRegen (im : Image) : Nat := if uAt im 68 2 = 0 then 4200 else uAt im 68 2
/-- C_CASK, 0.01 mF. -/
def cCask (im : Image) : Nat := uAt im 70 2
/-- T_CO, µs. -/
def tCo (im : Image) : Nat := uAt im 72 4
/-- P_LOAD_MAX, credits. -/
def pLoadMax (im : Image) : Nat := uAt im 76 2
/-- P_REGEN_MAX, credits. -/
def pRegenMax (im : Image) : Nat := uAt im 78 2
/-- Self-test interval, h. -/
def stInterval (im : Image) : Nat := uAt im 80 1
/-- Source gate fitted. -/
def gateFitted (im : Image) : Bool := decide (uAt im 81 1 % 2 = 1)
/-- Crystal fitted. -/
def crystalFitted (im : Image) : Bool := decide (uAt im 81 1 / 4 % 2 = 1)
/-- Brake chopper fitted. -/
def chopperFitted (im : Image) : Bool := decide (uAt im 81 1 / 8 % 2 = 1)
/-- BTN_RESET_EN. -/
def btnResetEn (im : Image) : Bool := decide (uAt im 82 1 % 2 = 1)
/-- T_HB, ms. -/
def tHb (im : Image) : Nat := uAt im 84 2
/-- T_TRL_LOSS, ms. -/
def tTrlLoss (im : Image) : Nat := uAt im 86 2

/-! ### Cordon entries (Table 3-4) -/

/-- Offset of entry i. -/
def entryOff (i : Nat) : Nat := 128 + 64 * (i - 1)
/-- A field of entry i at offset o of `n` bytes. -/
def eAt (im : Image) (i o n : Nat) : Nat := uAt im (entryOff i + o) n
/-- Role code of entry i. -/
def eRoleCode (im : Image) (i : Nat) : Nat := eAt im i 0 1
/-- Role of entry i. -/
def eRole (im : Image) (i : Nat) : Role := roleOf (eRoleCode im i)
/-- Cell mask of entry i, as the byte holds it. -/
def eMask (im : Image) (i : Nat) : Nat := eAt im i 1 1
/-- Cells of entry i in ascending order. -/
def eCells (im : Image) (i : Nat) : List Nat := maskList (BitVec.ofNat 7 (eMask im i))
/-- Cell count of entry i. -/
def eN (im : Image) (i : Nat) : Nat := (eCells im i).length
/-- The entry is in use. -/
def eUsed (im : Image) (i : Nat) : Bool := decide (eRoleCode im i ≠ 0 ∨ eMask im i ≠ 0)
/-- Host cordon of entry i. -/
def eHost (im : Image) (i : Nat) : Nat := eAt im i 2 1
/-- Role index of entry i. -/
def eIndex (im : Image) (i : Nat) : Nat := eAt im i 3 1
/-- Frequency code of entry i. -/
def eFreq (im : Image) (i : Nat) : Nat := eAt im i 4 1
/-- L, 0.1 µH. -/
def eL (im : Image) (i : Nat) : Nat := eAt im i 6 2
/-- C_PORT, 0.1 µF. -/
def eC (im : Image) (i : Nat) : Nat := eAt im i 8 2
/-- V_PORT_OV, 0.1 V. -/
def eOv (im : Image) (i : Nat) : Nat := eAt im i 10 2
/-- V_PORT_MAX, 0.1 V. -/
def eMax (im : Image) (i : Nat) : Nat := eAt im i 12 2
/-- V_PORT_MIN, 0.1 V. -/
def eMin (im : Image) (i : Nat) : Nat := eAt im i 14 2
/-- I_POS, 10 mA. -/
def eIPos (im : Image) (i : Nat) : Nat := eAt im i 16 2
/-- I_NEG, 10 mA. -/
def eINeg (im : Image) (i : Nat) : Nat := eAt im i 18 2
/-- P_LIM, credits. -/
def ePLim (im : Image) (i : Nat) : Nat := eAt im i 20 2
/-- Slew, 0.01 A/µs. -/
def eSlew (im : Image) (i : Nat) : Nat := eAt im i 22 2
/-- Droop, mV/A. -/
def eDroop (im : Image) (i : Nat) : Nat := eAt im i 24 2
/-- V_SET, 0.1 V. -/
def eVSet (im : Image) (i : Nat) : Nat := eAt im i 26 2
/-- V_ENGAGE, 0.1 V. -/
def eVEng (im : Image) (i : Nat) : Nat := eAt im i 28 2
/-- Engage target, 10 mA. -/
def eTarget (im : Image) (i : Nat) : Nat := eAt im i 30 2
/-- Entries of a role in ascending order. -/
def entriesOf (im : Image) (r : Role) : List Nat := seven.filter (fun i => decide (eRole im i = r) && eUsed im i)
/-- The entry that names cell n; 0 none. -/
def entryOfCell (im : Image) (n : Nat) : Nat :=
  (seven.find? (fun i => decide (eMask im i / 2 ^ (n - 1) % 2 = 1))).getD 0
/-- The spare entry strapped to entry i; 0 none. -/
def spareOf (im : Image) (i : Nat) : Nat := ((entriesOf im .spare).find? (fun j => decide (eHost im j = i))).getD 0
/-- Switching frequency of a code, kHz (Table 2-1). -/
def freqKHz : Nat → Nat
  | 0 => 200 | 1 => 300 | 2 => 400 | 3 => 500 | 4 => 600 | _ => 800
/-- The values of entry i (a spare takes its limits from its host, Table 3-4). -/
def entryOf (im : Image) (i : Nat) : Entry :=
  let k := if eRole im i = .spare then eHost im i else i
  { role := eRole im i, cells := BitVec.ofNat 7 (eMask im i), host := eHost im i, index := eIndex im i,
    freq := eFreq im i, l := eL im i, c := eC im i, vOv := eOv im k, vMax := eMax im k, vMin := eMin im k,
    iPos := eIPos im k, iNeg := eINeg im k, pLim := ePLim im k, slew := eSlew im k, droop := eDroop im k,
    vSet := eVSet im k, vEngage := eVEng im k, iTarget := eTarget im k }
/-- The BATTERY entry of battery index b; 0 none. -/
def batEntry (im : Image) (b : Nat) : Nat :=
  ((entriesOf im .battery).find? (fun i => decide (eIndex im i = b))).getD 0
/-- The PEER entry of peer index p; 0 none. -/
def peerEntry (im : Image) (p : Nat) : Nat :=
  ((entriesOf im .peer).find? (fun i => decide (eIndex im i = p))).getD 0

/-- Put a 16-bit field into an image. -/
def imPut16 (im : Image) (o v : Nat) : Image := (im.set o (BitVec.ofNat 8 (v % 256))).set (o + 1) (BitVec.ofNat 8 (v / 256 % 256))
/-- Trim fields in the order of STG_TRIM_EN: bit, offset in the entry, value. -/
def trimFields (t : Trim) : List (Nat × Nat × Nat) := [(0, 16, t.iPos), (1, 18, t.iNeg), (2, 20, t.pLim), (3, 22, t.slew), (4, 26, t.vSet)]
/-- One cordon's trim applied to an image (R259). -/
def trimEntry (n : Nat) (t : Trim) (im : Image) : Image :=
  (trimFields t).foldl (fun m f => if t.en.getLsbD f.1 then imPut16 m (entryOff n + f.2.1) f.2.2 else m) im
/-- The image as trimmed. -/
def trimImage (ts : Vector Trim 7) (im : Image) : Image := seven.foldl (fun m n => trimEntry n (bankGet {} ts n) m) im

/-! ### Profile blocks (Table 3-5) -/

/-- Offset of block b. -/
def profOff (b : Nat) : Nat := 576 + 64 * (b - 1)
/-- A profile block. -/
structure Profile where
  chem   : Nat
  cells  : Nat
  cap    : Nat
  vDeep  : Nat
  vPre   : Nat
  vChg   : Nat
  vMaint : Nat
  vCut   : Nat
  iCc    : Nat
  iTerm  : Nat
  tSafe  : Nat
  tPre   : Nat
  tCv    : Nat
  dV     : Nat
  dTdt   : Nat
  ntc    : Nat
  comp   : Int
  tLow   : Int
  tHigh  : Int
  deriving DecidableEq, Repr
/-- Block b of an image. -/
def profile (im : Image) (b : Nat) : Profile :=
  let o := profOff b
  { chem := uAt im o 1, cells := uAt im (o + 2) 2, cap := uAt im (o + 4) 2, vDeep := uAt im (o + 6) 2,
    vPre := uAt im (o + 8) 2, vChg := uAt im (o + 10) 2, vMaint := uAt im (o + 12) 2, vCut := uAt im (o + 14) 2,
    iCc := uAt im (o + 16) 2, iTerm := uAt im (o + 18) 2, tSafe := uAt im (o + 20) 2, tPre := uAt im (o + 22) 2,
    tCv := uAt im (o + 24) 2, dV := uAt im (o + 26) 2, dTdt := uAt im (o + 28) 2, ntc := uAt im (o + 30) 1,
    comp := iAt im (o + 31) 1, tLow := iAt im (o + 32) 2, tHigh := iAt im (o + 34) 2 }

/-! ### Sections (Tables 3-6 and 3-7) -/

/-- A section: type, instance, offset of its header, body length. -/
structure Sec where
  typ  : Nat
  inst : Nat
  off  : Nat
  len  : Nat
  deriving DecidableEq, Repr
/-- Walk the sections from `off`; the second component is the offset at which the walk fails, if it does. -/
def walkSecs (im : Image) (total : Nat) : (fuel off : Nat) → List Sec × Option Nat
  | 0, off => ([], some off)
  | fuel + 1, off =>
    if total < off + 4 then ([], some off)
    else
      let x : Sec := { typ := uAt im off 1, inst := uAt im (off + 1) 1, off := off, len := uAt im (off + 2) 2 }
      if x.len % 4 ≠ 0 ∨ total < off + 4 + x.len then ([x], some off)
      else if x.typ = 0xFF then
        ([x], if x.len = 0 ∧ x.inst = 0 ∧ off + 4 = total then none else some off)
      else
        let r := walkSecs im total fuel (off + 4 + x.len)
        (x :: r.1, r.2)
/-- Sections of an image and the offset of a layout failure. -/
def sections (im : Image) : List Sec × Option Nat := walkSecs im (imLength im) 64 832
/-- The section of a type and instance. -/
def findSec (im : Image) (typ inst : Nat) : Option Sec :=
  (sections im).1.find? (fun x => decide (x.typ = typ ∧ x.inst = inst))

/-- A source table entry with the offset it stands at. -/
structure SrcE where
  off    : Nat
  ref    : Nat
  typ    : Nat
  tQual  : Nat
  vMin   : Nat
  vMax   : Nat
  dvdt   : Nat
  inreg  : Nat
  deriving DecidableEq, Repr
/-- The source table in priority order. -/
def srcEntries (im : Image) : List SrcE :=
  match findSec im 1 0 with
  | none => []
  | some x => (List.range (x.len / 12)).map (fun k =>
      let o := x.off + 4 + 12 * k
      { off := o, ref := uAt im o 1, typ := uAt im (o + 1) 1, tQual := uAt im (o + 2) 2, vMin := uAt im (o + 4) 2,
        vMax := uAt im (o + 6) 2, dvdt := uAt im (o + 8) 2, inreg := uAt im (o + 10) 2 })
/-- TYPE_LIMITS of type t, 1 to 6: current in 10 mA and power in credits. -/
def typeLimit (im : Image) (t : Nat) : Option (Nat × Nat) :=
  if 1 ≤ t ∧ t ≤ 6 then
    (findSec im 2 0).map (fun x => (uAt im (x.off + 4 * t) 2, uAt im (x.off + 4 * t + 2) 2))
  else none
/-- A slot of a schedule: channel, range, declared rate. -/
structure MeasSlot where
  channel : Nat
  range   : Nat
  rate    : Nat
  deriving DecidableEq, Repr
/-- The schedule of converter x: oversampling code, reference code, slots. -/
def measSched (im : Image) (x : Nat) : Option (Nat × Nat × List MeasSlot) :=
  (findSec im 3 x).map (fun sc =>
    (uAt im (sc.off + 4) 1, uAt im (sc.off + 5) 1,
      (List.range (uAt im (sc.off + 6) 1)).map (fun k =>
        let o := sc.off + 8 + 4 * k
        { channel := uAt im o 1, range := uAt im (o + 1) 1, rate := uAt im (o + 2) 2 })))
/-- Rate in effect of a declared rate, Hz (R242). -/
def rateEff (r : Nat) : Nat := ceilDiv r 100 * 100
/-- An impedance schedule: start, stop (0.01 Hz), points per decade, amplitude, mode, pair, interval (h). -/
structure EisSched where
  f0   : Nat
  f1   : Nat
  ppd  : Nat
  ampl : Nat
  mode : Nat
  pair : Nat
  interval : Nat
  deriving DecidableEq, Repr
/-- The impedance schedule of battery index b. -/
def eisSched (im : Image) (b : Nat) : Option EisSched :=
  (findSec im 4 b).map (fun sc =>
    let o := sc.off + 4
    { f0 := uAt im o 4, f1 := uAt im (o + 4) 4, ppd := uAt im (o + 8) 1, ampl := uAt im (o + 9) 1,
      mode := uAt im (o + 10) 1, pair := uAt im (o + 11) 1, interval := uAt im (o + 12) 2 })
/-- Peer bounds: V_MIN, V_MAX (0.1 V), export and import limits, swap power (credits), cable mΩ, permissions. -/
structure PeerBounds where
  vMin   : Nat
  vMax   : Nat
  expLim : Nat
  impLim : Nat
  swapP  : Nat
  rCable : Nat
  mayExport : Bool
  mayImport : Bool
  deriving DecidableEq, Repr
/-- The bounds of peer index p. -/
def peerBounds (im : Image) (p : Nat) : Option PeerBounds :=
  (findSec im 5 p).map (fun sc =>
    let o := sc.off + 4
    { vMin := uAt im o 2, vMax := uAt im (o + 2) 2, expLim := uAt im (o + 4) 2, impLim := uAt im (o + 6) 2,
      swapP := uAt im (o + 8) 2, rCable := uAt im (o + 10) 2, mayExport := decide (uAt im (o + 12) 1 % 2 = 1),
      mayImport := decide (uAt im (o + 12) 1 / 2 % 2 = 1) })
/-- FAULT_CLASS overrides: offset, source, class. -/
def faultClasses (im : Image) : List (Nat × Nat × Nat) :=
  match findSec im 6 0 with
  | none => []
  | some x => (List.range (x.len / 4)).map (fun k =>
      let o := x.off + 4 + 4 * k
      (o, uAt im o 2, uAt im (o + 2) 1))

/-! ### Frame fields (R81, column F) -/

/-- The frame fields in the order of the image: offset, size and the cordon concerned. -/
def frameFields (im : Image) : List (Nat × Nat × Nat) :=
  [(70, 2, 0), (81, 1, 0)] ++
    seven.flatMap (fun i => ([(0, 1), (1, 1), (2, 1), (3, 1), (4, 1), (6, 2), (8, 2)] : List (Nat × Nat)).map (fun f => (entryOff i + f.1, f.2, i))) ++
    four.flatMap (fun b => [(profOff b, 1, batEntry im b), (profOff b + 2, 2, batEntry im b)])
/-- The first frame field in which an image differs from another: offset, size, cordon; none: they have one frame. -/
def frameChange (old im : Image) : Option (Nat × Nat × Nat) :=
  (frameFields im).find? (fun f => decide (bytesAt old f.1 f.2.1 ≠ bytesAt im f.1 f.2.1))

/-! ### Fault sources and their classes (Table 14-6, R84) -/

/-- Default class of a fault source: 0 to 4 for C0 to C4; none for a reserved number. -/
def defaultClass (n : Nat) : Option Nat :=
  if n % 16 = 15 then (if n < 256 then some 2 else none)
  else if n ≤ 8 then
    some (if n = 3 ∨ n = 4 ∨ n = 7 ∨ n = 8 then 1 else 3)
  else if n < 16 then none
  else if n < 128 then
    (if n % 16 ≤ 10 ∨ n % 16 = 12 then some 1 else if n % 16 = 11 then some 0 else none)
  else if n < 144 then (if n = 133 then some 0 else if n ≤ 138 then some 1 else none)
  else if n < 208 then
    (if n % 16 ≤ 9 then some 1 else if n % 16 ≤ 11 then some 4 else if n % 16 ≤ 13 then some 0
     else if n % 16 = 14 then some 1 else none)
  else if n < 224 then
    (if n = 211 ∨ n = 214 ∨ n = 215 then some 0 else if n ≤ 213 then some 1 else none)
  else if n < 240 then
    (if n = 226 ∨ n = 227 ∨ n = 230 ∨ n = 231 ∨ n = 232 then some 0 else if n ≤ 236 then some 1 else none)
  else if n = 240 ∨ n = 241 then some 0
  else if n = 242 then some 1
  else none
/-- Place of a class in the order of severity C0, C1, C2, C4, C3 (R84). -/
def severity : Nat → Nat
  | 0 => 0 | 1 => 1 | 2 => 2 | 4 => 3 | _ => 4
/-- A source a FAULT_CLASS entry may name (R393). -/
def overridable (n : Nat) : Bool := (defaultClass n).isSome && decide (n % 16 ≠ 15) && decide (n ≠ 240)

end Sys2Proof.Machine
end

