-- ==== Sys2Proof/Machine/Flags.lean ====
section
/-! DEFINITION. The status words and status bits that more than one rule reads: the seven words of a record's
snapshot (Table 15-2), the interrupt levels of Table 11-9a, the classes of fault sources and the conditions of the
level sources (R468). -/

namespace Sys2Proof.Machine

/-! ### Time -/

/-- The instant t lies less than d µs back. -/
def within (s : State) (d t : Nat) : Bool := decide (s.now < t + d)
/-- Ten minutes, one minute and one second in µs. -/
def tenMin : Nat := 600000000
/-- One minute in µs. -/
def oneMin : Nat := 60000000
/-- One second in µs. -/
def oneSec : Nat := 1000000
/-- Seconds from now to an instant, rounded up; 0 once it has come. -/
def leftS (s : State) (t : Nat) : Nat := ceilDiv (t - s.now) oneSec
/-- Trellis time at the present instant, modulo 2 ^ 48 µs, at the tracked rate (R333, R335). -/
def trlTime (s : State) : Nat := (s.trl.timeBase + (s.now - s.trl.timeAt) * s.trl.rateT / s.trl.rateL) % 2 ^ 48
/-- Trellis time that passes until an instant of Trellis time; times are compared modulo 2 ^ 48 (R335). -/
def trlUntil (s : State) (t : Nat) : Nat := (t % 2 ^ 48 + 2 ^ 48 - trlTime s) % 2 ^ 48
/-- SYS_UPTIME. -/
def uptime (s : State) : Word := BitVec.ofNat 32 (s.now / oneSec)
/-- Number of the last commit tick (R264: count divided by ten). -/
def tickNow (s : State) : Nat := s.now / 10

/-! ### SYS -/

/-- LIMP count of R115. -/
def limpCount (s : State) : Nat := (s.sys.entries.filter (within s tenMin)).length
/-- Mode and previous mode as SYS_MODE shows them: a change between NORMAL and RESERVE from the next commit tick on (R99). -/
def shownModes (s : State) : Mode × Mode := s.sys.shown.getD (s.sys.mode, s.sys.prev)
/-- SYS_MODE. -/
def sysModeWord (s : State) : Word :=
  pack [(24, 8, if s.sys.mode = .service then ceilDiv (s.sys.leaseEnd - s.now) oneMin else 0),
        (20, 4, sat 4 (limpCount s)), (12, 1, s.sys.caskHeld.toNat), (8, 4, s.sys.reason),
        (6, 2, s.sys.sub.code), (3, 3, (shownModes s).2.code), (0, 3, (shownModes s).1.code)]
/-- SYS_RSTCAUSE. -/
def rstCauseWord (s : State) : Word :=
  pack [(24, 8, s.sys.coreCount), (8, 8, s.sys.coreCause), (0, 8, s.sys.coldCause)]
/-- SYS_STAGING. -/
def stagingWord (s : State) : Word :=
  pack [(28, 4, s.sys.lastStep), (24, 4, s.sys.outcome), (0, 16, sat 16 s.sys.duration)]

/-! ### PWR and the books -/

/-- Mask of source entries whose state satisfies p. -/
def srcMask (s : State) (p : SrcState → Bool) : BitVec 8 := maskOf 8 (fun i => p (s.src i).state)
/-- A path the cask may be fed from: USABLE or FEEDING. -/
def usableState (x : SrcState) : Bool := decide (x = .usable ∨ x = .feeding)
/-- Rank of the highest-ranked feeding path; 0 none. -/
def feedRank (s : State) : Nat := (eight.find? (fun i => decide ((s.src i).state = .feeding))).getD 0
/-- Limits of the type of a source path on Q8 (R131): current 10 mA and power in credits. -/
def typeLimits (s : State) (t : Nat) : Option (Nat × Nat) :=
  if s.hw.variant ≠ .q8 then none
  else match typeLimit s.str.image t with
    | some l => some l
    | none =>
      -- undetermined type: the smallest of the six entries
      match [1, 2, 3, 4, 5, 6].filterMap (typeLimit s.str.image) with
      | [] => none
      | x :: xs => some (xs.foldl (fun m y => (min m.1 y.1, min m.2 y.2)) x)
/-- Current of a cordon: the sum of the latest frames of its cells and of the spare that carries a share, mA (R97). -/
def cordonI (s : State) (c : Nat) : Int :=
  (seven.map (fun n =>
    let x := s.cell n
    if (s.cordon c).e.cells.getLsbD (n - 1) ∨ (x.replaces ≠ 0 ∧ (s.cordon c).e.cells.getLsbD (x.replaces - 1) = true)
    then x.iPort else 0)).sum
/-- Power of a cordon, 0.1 W. -/
def cordonP (s : State) (c : Nat) : Int :=
  (seven.map (fun n =>
    let x := s.cell n
    if (s.cordon c).e.cells.getLsbD (n - 1) ∨ (x.replaces ≠ 0 ∧ (s.cordon c).e.cells.getLsbD (x.replaces - 1) = true)
    then x.pPort else 0)).sum
/-- Entry i is held at a type limit: the gate at its limit, or a cordon that draws as much as a limit which its type sets below
its own (TYPELIM). -/
def typeHeld (s : State) (i : Nat) : Bool :=
  let x := s.src i
  let e := (s.cordon x.ref).e
  x.limited && (match typeLimits s x.type_ with
    | none => false
    | some l => decide (x.ref = 0) ||
        decide ((l.1 < e.iNeg ∧ (l.1 : Int) * 10 ≤ -cordonI s x.ref) ∨ (l.2 < e.pLim ∧ (l.2 : Int) * 250 ≤ -cordonP s x.ref)))
/-- PWR_STAT. -/
def pwrStatWord (s : State) : Word :=
  pack [(28, 4, s.pwr.path.code), (24, 4, feedRank s), (16, 8, (srcMask s usableState).toNat),
        (8, 8, (srcMask s (fun x => decide (x = .feeding))).toNat), (4, 1, s.pwr.supplement.toNat),
        (3, 1, (eight.any (fun i => (s.src i).inreg)).toNat),
        (2, 1, (eight.any (typeHeld s)).toNat), (1, 1, s.pwr.cut.toNat), (0, 1, s.pwr.caskLow.toNat)]
/-- FREE of R274, credits. -/
def freeCredits (s : State) : Int := (s.bk.grant : Int) - s.bk.use - s.bk.transit
/-- PWR_BK_FREE. -/
def bkFreeWord (s : State) : Word := pack [(16, 16, twos 16 (freeCredits s)), (0, 16, s.bk.transit)]

/-! ### CRD, CHG -/

/-- Mask of cordons in use. -/
def cordonMask (s : State) : BitVec 7 := maskOf 7 (fun n => decide ((s.cordon n).state ≠ .absent))
/-- CRD_STRUCT. -/
def crdStructWord (s : State) : Word :=
  pack [(28, 4, s.str.state), (16, 7, (cordonMask s).toNat), (0, 16, imVintage s.str.image)]
/-- A charging phase. -/
def chargingPhase (p : Phase) : Bool :=
  decide (p = .trickle ∨ p = .pre ∨ p = .cc ∨ p = .cv ∨ p = .maint)
/-- The instance receives charge current: a charging phase, no suspension, and a grant above 0. -/
def chargingNow (c : Chg) : Bool := chargingPhase c.phase && decide (c.susp = 0) && decide (0 < c.grant)
/-- CHG_SUMMARY. -/
def chgSummaryWord (s : State) : Word :=
  let m (p : Chg → Bool) : Nat := (maskOf 4 (fun i => p (s.chgI i))).toNat
  pack [(28, 4, (s.chgI 4).phase.code), (24, 4, (s.chgI 3).phase.code), (20, 4, (s.chgI 2).phase.code),
        (16, 4, (s.chgI 1).phase.code), (8, 4, m (fun c => decide (c.flt ≠ 0))), (4, 4, m (fun c => decide (c.susp ≠ 0))),
        (0, 4, m chargingNow)]

/-! ### Fault collector -/

/-- The class in effect of a source: raised by the running image, or its default (R84, R387). Of two entries that name one source the
first holds: the manual does not say which (DESIGN CHOICE, log entry 79). -/
def srcClass (s : State) (n : Nat) : Nat :=
  match s.flt.raised.find? (fun p => decide (p.1 = n)) with
  | some p => if overridable n then p.2 else (defaultClass n).getD 0
  | none => (defaultClass n).getD 0
/-- All source numbers. -/
def sources : List Nat := List.range 256
/-- Some C4 source is pending. -/
def c4Pending (s : State) : Bool := sources.any (fun n => (s.fsrc n).pend && decide (srcClass s n = 4))
/-- Group g's window is open. -/
def winOpen (s : State) (g : Nat) : Bool := (bankGet none s.flt.win (g + 1)).isSome
/-- Mask of groups with a wire fault now. -/
def wireMask (s : State) : Nat :=
  ((List.range 16).filter (fun g => (List.range 16).any (fun j => (s.fsrc (16 * g + j)).wire))).foldl (fun a g => a + 2 ^ g) 0
/-- FLT_STAT. -/
def fltStatWord (s : State) : Word :=
  let w := ((List.range 16).filter (winOpen s)).foldl (fun a g => a + 2 ^ g) 0
  pack [(16, 16, w), (11, 5, s.flt.evq.length), (10, 1, s.flt.evOvf.toNat), (9, 1, (c4Pending s).toNat),
        (8, 1, s.flt.escalated.toNat)]
/-- The snapshot of Table 15-2. -/
def snapshot (s : State) : List Word :=
  [sysModeWord s, rstCauseWord s, pwrStatWord s, bkFreeWord s, crdStructWord s, fltStatWord s, chgSummaryWord s]

/-! ### Interrupt levels (Table 11-9a, bits 3 to 0) -/

/-- SPI_IRQ.LEVEL. -/
def irqLevel (s : State) : BitVec 4 :=
  let flt := sources.any (fun n => (s.fsrc n).pend && decide (srcClass s n = 1 ∨ srcClass s n = 2))
  let adc := decide (s.adc.irq &&& s.adc.irqEn ≠ 0)
  let chg := four.any (fun i => decide ((s.chgI i).flt ≠ 0))
  let ppt := four.any (fun i => decide ((s.peerI i).flt ≠ 0))
  BitVec.ofNat 4 (flt.toNat + 2 * adc.toNat + 4 * chg.toNat + 8 * ppt.toNat)
/-- IRQ_N is driven low: an enabled bit of SPI_IRQ is set and the interface serves (R302, R303). -/
def irqLow (s : State) : Bool :=
  s.spi.serving && decide ((s.spi.irq ||| (irqLevel s).setWidth 10) &&& s.spi.irqEn ≠ 0)

/-! ### Level sources (R468) -/

/-- The condition of a level source that the state itself shows; false for every other source. -/
def levelCond (s : State) (n : Nat) : Bool :=
  let c := s.cell (n / 16)
  if n = 3 then s.xtalLost
  else if n < 16 then false
  else if n < 128 then
    (match n % 16 with
     | 0 => decide (Trip.oc ∈ c.latched)
     | 1 => decide (Trip.desat ∈ c.latched)
     | 2 => decide (Trip.portOv ∈ c.latched)
     | 3 => decide (Trip.caskOv ∈ c.latched)
     | 4 => decide (Trip.ot ∈ c.latched)
     | 5 => decide (Trip.uvlo ∈ c.latched)
     | 6 => decide (Trip.commitMissed ∈ c.latched)
     | 7 => c.portShort
     | 8 => c.link.down
     | 9 => decide (c.state = .failed)
     | 12 => decide (100 < (c.t1 - c.t2).natAbs)
     | _ => false)
  else if n = 130 then s.pwr.caskLow
  else if n = 137 then seven.any (fun k => decide ((s.cordon k).state = .degraded))
  else if n = 138 then seven.any (fun k => decide ((s.cordon k).state = .stopped))
  else if 144 ≤ n ∧ n < 208 then
    let g := s.chgI (n / 16 - 8)
    (match n % 16 with
     | 0 => decide (g.phase = .halted ∧ g.haltBy = 0)
     | 1 => decide (g.phase = .halted ∧ g.haltBy = 1)
     | 2 => decide (g.phase = .halted ∧ g.haltBy = 2)
     | 3 => decide (g.phase = .halted ∧ g.haltBy = 3)
     | 4 => decide ((s.bat (n / 16 - 8)).miss = .confirmed)
     | 5 => g.susp.getLsbD 3 && !g.tempHigh
     | 6 => g.susp.getLsbD 3 && g.tempHigh
     | 7 => g.susp.getLsbD 4
     | 8 => g.susp.getLsbD 5
     | 9 => g.cutoff
     | _ => false)
  else if n = 209 then decide (s.adc.failed ≠ 0)
  else if n = 210 then s.adc.refinBad
  else if n = 230 then s.trl.wasLocked && !s.trl.locked
  else if n = 215 then four.any (fun i => decide ((s.peerI i).state = .wet))
  else false
/-- Level sources whose condition the outside reports: FAULT_SOURCE_ACTIVE begins it, FAULT_SOURCE_INACTIVE ends it. -/
def isLevel (n : Nat) : Bool :=
  decide (n = 3 ∨ n = 8 ∨ n = 130 ∨ n = 137 ∨ n = 138 ∨ n = 209 ∨ n = 210 ∨ n = 215 ∨ n = 230 ∨ n = 242) ||
  decide (16 ≤ n ∧ n < 128 ∧ (n % 16 ≤ 9 ∨ n % 16 = 12)) || decide (144 ≤ n ∧ n < 208 ∧ n % 16 ≤ 11) ||
  decide (n % 16 = 15)
/-- A fault address of Table 1-4; a value of all ones is unresolved. -/
def faultAddr (die sub block macro_ leaf bitCell : Nat) : Word :=
  pack [(29, 3, die), (25, 4, sub), (20, 5, block), (14, 6, macro_), (8, 6, leaf), (0, 8, bitCell)]
/-- Resolved to block level (R65). -/
def blockAddr (die sub block : Nat) : Word := faultAddr die sub block 63 63 255
/-- A logical fault that no circuit locates (text after Table 14-6). -/
def noAddr : Word := 0x1FFFFFFF
/-- Stages of the random number generator (Table 15-10): 0 noise source, 1 health tests, 2 conditioner, 3 DRBG. -/
def rngAddr (stage : Nat) : Word := faultAddr 0 4 1 stage 0 255
/-- Bit b of OTP word w (Table 15-10). -/
def otpAddr (w b : Nat) : Word := faultAddr 0 5 0 (w / 32) (w % 32) b
/-- The OTP programming controller (Table 15-10). -/
def otpCtlAddr : Word := faultAddr 0 5 1 0 0 255
/-- The Cellar's 8-byte word w: its 32 KiB unit, its 1 KiB row there and its place in the row (Table 15-10). -/
def clrWordAddr (w : Nat) : Word := faultAddr 0 6 0 (w / 4096) (w / 128 % 32) (w % 128)
/-- The Cellar's write controller (Table 15-10). -/
def clrCtlAddr : Word := faultAddr 0 6 1 0 0 255
/-- An address as the module may produce it (R22): below a field of all ones every field is all ones, and no absent cell is named. -/
def normAddr (s : State) (a : Word) : Word :=
  let die := field a 29 3
  let sub := field a 25 4
  let block := field a 20 5
  let macro_ := field a 14 6
  let leaf := field a 8 6
  if die ≠ 0 ∧ cellFitted s die = false then noAddr
  else if sub = 15 then blockAddr die 15 31
  else if block = 31 then blockAddr die sub 31
  else if macro_ = 63 then blockAddr die sub block
  else if leaf = 63 then faultAddr die sub block macro_ 63 255
  else a
/-- The same for a fault that lies in cell n: the address names cell n whatever the located field holds. -/
def cellAddr (s : State) (n : Nat) (a : Word) : Word :=
  normAddr s ((a &&& 0x1FFFFFFF) ||| BitVec.ofNat 32 (n % 8 * 2 ^ 29))
/-- The argument of Table 14-6 for a level source of the state. -/
def sourceArg (s : State) (n : Nat) : Nat :=
  if n = 137 then (seven.find? (fun k => decide ((s.cordon k).state = .degraded))).getD 0
  else if n = 138 then (seven.find? (fun k => decide ((s.cordon k).state = .stopped))).getD 0
  else if n = 209 then ([0, 1, 2, 3, 4].find? (fun k => s.adc.failed.getLsbD k)).getD 0
  else if n = 215 then (four.find? (fun i => decide ((s.peerI i).state = .wet))).getD 0
  else 0
/-- The location a level source of the state reports: Table 2-7 for the cells, R36 for links, R25, R257 and R340. -/
def sourceAddr (s : State) (n : Nat) : Word :=
  if 16 ≤ n ∧ n < 128 then
    let d := n / 16
    match n % 16 with
    | 0 => blockAddr d 3 0
    | 1 => blockAddr d 3 3
    | 2 => blockAddr d 3 1
    | 3 => blockAddr d 3 2
    | 4 => blockAddr d 3 4
    | 5 => blockAddr d 0 1
    | 7 => blockAddr d 3 0
    | 8 => if (s.cell d).link.downBy = .merja then blockAddr 0 10 31 else blockAddr d 6 31
    | 12 => blockAddr d 4 31
    | _ => blockAddr d 15 31
  else if n = 3 then blockAddr 0 0 31
  else if n = 209 then blockAddr 0 3 (sourceArg s 209)
  else if n = 210 then faultAddr 0 3 7 1 63 255
  else if n = 230 then blockAddr 0 8 2
  else noAddr

/-! ### ALIVE (R396) -/

/-- The conditions under which ALIVE makes edges; none follows step 2 of SHIP entry or step 4 of the long-press reset (R397). -/
def aliveOk (s : State) : Bool :=
  working s.sys.mode && !c4Pending s && decide (s.wdg.state ≠ .trap) && !s.eis.shipRun && !s.eis.btn.longRun

end Sys2Proof.Machine
end

