-- ==== Sys2Proof/Machine/ImageChecks.lean ====
section
/-! DEFINITION. The checks of Table 3-8 in the order of R85: read, consistency, apply (CHECK and COMMIT only),
deadline, and the board probe of R90. The first failing check gives reason, cordon and offset. Where the manual names
no offset for a check, the offset is the model's (log entry 7). -/

namespace Sys2Proof.Machine

/-- What a check run reports in CRD_LOADSTAT: reason code, cordon concerned, offset of the field concerned. -/
structure Verdict where
  reason : Nat := 0
  cordon : Nat := 0
  offset : Nat := 0
  deriving DecidableEq, Repr

/-- The verdict of an image that passes. -/
def passed : Verdict := {}
/-- The first check of a list that fails (its first component is true). -/
def firstFail : List (Bool × Verdict) → Verdict
  | [] => passed
  | (b, v) :: cs => if b then v else firstFail cs
/-- Run a second stage only when the first passed. -/
def thenCheck (a : Verdict) (b : Unit → Verdict) : Verdict := if a.reason = 0 then b () else a
/-- A check. -/
def chk (bad : Bool) (reason cordon offset : Nat) : Bool × Verdict := (bad, { reason, cordon, offset })
/-- n is outside lo to hi. -/
def out (n lo hi : Nat) : Bool := decide (n < lo ∨ hi < n)
/-- Bytes of a range of the image that are not all 0. -/
def nonZero (im : Image) (o n : Nat) : Bool := (bytesAt im o n).any (fun b => decide (b ≠ 0))

/-! ### Read stage -/

/-- STR_MAGIC, STR_LENGTH, STR_CRC, STR_HWTYPE, STR_VINTAGE. `held` is the length recorded with the image. -/
def readChecks (s : State) (im : Image) (held : Nat) : Verdict :=
  let n := imLength im
  let mask := BitVec.ofNat 32 (uAt im 16 4)
  firstFail
    [ chk (decide (uAt im 0 4 ≠ 0x51534D49)) 1 0 0,
      chk (decide (uAt im 4 2 ≠ 1)) 1 0 4,
      chk (out n 852 8192 || decide (n % 4 ≠ 0) || decide (held < n)) 2 0 20,
      chk (decide (imCrc im ≠ imCrcOf im)) 3 0 60,
      chk (decide (mask >>> 16 ≠ 0xFFFF)) 4 0 16,
      chk (decide ((BitVec.ofNat 32 (uAt im 12 4) ^^^ hwType s) &&& mask ≠ 0)) 4 0 12,
      chk (decide (s.sys.mainVintage ≠ 0) && out s.sys.mainVintage (imMainLo im) (imMainHi im)) 5 0
        (if s.sys.mainVintage < imMainLo im then 8 else 10) ]

/-! ### STR_SECTION (R82, Table 3-6, R148) -/

/-- A body length that Table 3-7 permits. -/
def secSizeOk (im : Image) (x : Sec) : Bool :=
  match x.typ with
  | 1 => decide (x.len % 12 = 0 ∧ 12 ≤ x.len ∧ x.len ≤ 96)
  | 2 => decide (x.len = 24)
  | 3 => decide (4 ≤ x.len ∧ x.len = 4 + 4 * uAt im (x.off + 6) 1)
  | 4 => decide (x.len = 16)
  | 5 => decide (x.len = 16)
  | 6 => true
  | 0xFF => decide (x.len = 0)
  | _ => false
/-- A type and instance that Table 3-6 permits on this variant and in this image. -/
def secKnown (s : State) (im : Image) (x : Sec) : Bool :=
  match x.typ with
  | 1 => decide (x.inst = 0)
  | 2 => decide (x.inst = 0 ∧ s.hw.variant = .q8)
  | 3 => decide (x.inst < 4)
  | 4 => decide (1 ≤ x.inst ∧ x.inst ≤ 4 ∧ batEntry im x.inst ≠ 0)
  | 5 => decide (1 ≤ x.inst ∧ x.inst ≤ 4 ∧ peerEntry im x.inst ≠ 0)
  | 6 => decide (x.inst = 0)
  | 0xFF => decide (x.inst = 0)
  | _ => false
/-- The checks of each section in the order they stand. -/
def secChecks (s : State) (im : Image) : List Sec → List Sec → List (Bool × Verdict)
  | _, [] => []
  | seen, x :: xs =>
    chk (!secKnown s im x || !secSizeOk im x || seen.any (fun y => decide (y.typ = x.typ ∧ y.inst = x.inst))) 6 0 x.off
      :: secChecks s im (x :: seen) xs
/-- Some schedule of the image has a slot on channel c. -/
def hasSlot (im : Image) (c : Nat) : Bool :=
  [0, 1, 2, 3].any (fun x => match measSched im x with
    | none => false
    | some m => m.2.2.any (fun sl => decide (sl.channel = c)))
/-- STR_SECTION as a whole. -/
def sectionCheck (s : State) (im : Image) : Verdict :=
  let r := sections im
  let tot := imLength im
  firstFail (secChecks s im [] r.1 ++
    [ chk r.2.isSome 6 0 (r.2.getD 0),
      chk (decide (uAt im 22 1 ≠ r.1.length)) 6 0 22,
      chk (findSec im 1 0).isNone 6 0 (tot - 4),
      chk (decide (s.hw.variant = .q8) && (findSec im 2 0).isNone) 6 0 (tot - 4) ] ++
    four.map (fun p => chk (decide (peerEntry im p ≠ 0) && (findSec im 5 p).isNone) 6 (peerEntry im p) (tot - 4)) ++
    four.map (fun b => chk (decide (batEntry im b ≠ 0) && !(hasSlot im (b - 1) && hasSlot im (b + 3))) 6
      (batEntry im b) (profOff b)))

/-! ### STR_RANGE (Tables 3-2 to 3-7 and 5-4) -/

/-- Header and module block. -/
def rangeModule (im : Image) : List (Bool × Verdict) :=
  [ chk (decide (imVintage im = 0)) 7 0 6,
    chk (decide (imMainHi im < imMainLo im)) 7 0 10,
    chk (nonZero im 23 1) 7 0 23,
    chk (nonZero im 40 20) 7 0 40,
    chk (out (vCaskSet im) 3600 4400) 7 0 64,
    chk (out (vCaskMin im) 3000 4300) 7 0 66,
    chk (out (vCaskRegen im) 3650 4490) 7 0 68,
    chk (out (cCask im) 100 2000) 7 0 70,
    chk (out (tCo im) 20 500000) 7 0 72,
    chk (out (pLoadMax im) 1 960) 7 0 76,
    chk (out (pRegenMax im) 0 960) 7 0 78,
    chk (out (stInterval im) 6 168) 7 0 80,
    chk (decide (16 ≤ uAt im 81 1)) 7 0 81,
    chk (decide (2 ≤ uAt im 82 1)) 7 0 82,
    chk (nonZero im 83 1) 7 0 83,
    chk (out (tHb im) 2 1000) 7 0 84,
    chk (out (tTrlLoss im) 6 10000) 7 0 86,
    chk (nonZero im 88 40) 7 0 88 ]
/-- Cordon entry i. A SPARE entry is read at offsets 0 to 8 only; of an unused entry only the reserved fields and the fields given
as 0 for other roles are judged (log entry 20). -/
def rangeEntry (im : Image) (i : Nat) : List (Bool × Verdict) :=
  let o := entryOff i
  let r := eRole im i
  let notSpare := decide (r ≠ .spare)
  let lim := notSpare
  if !eUsed im i then
    [ chk (decide (eHost im i ≠ 0)) 7 i (o + 2), chk (decide (eIndex im i ≠ 0)) 7 i (o + 3), chk (nonZero im (o + 5) 1) 7 i (o + 5),
      chk (decide (eVSet im i ≠ 0)) 7 i (o + 26), chk (decide (eVEng im i ≠ 0)) 7 i (o + 28),
      chk (decide (eTarget im i ≠ 0)) 7 i (o + 30), chk (nonZero im (o + 32) 32) 7 i (o + 32) ]
  else
  [ chk (decide (5 < eRoleCode im i)) 7 i o,
    chk (notSpare && decide (eHost im i ≠ 0)) 7 i (o + 2),
    chk (decide (r = .spare) && out (eHost im i) 1 7) 7 i (o + 2),
    chk (decide (r ≠ .battery ∧ r ≠ .peer ∧ eIndex im i ≠ 0)) 7 i (o + 3),
    chk (decide (5 < eFreq im i)) 7 i (o + 4),
    chk (nonZero im (o + 5) 1) 7 i (o + 5),
    chk (lim && out (eOv im i) 250 4700) 7 i (o + 10),
    chk (lim && out (eSlew im i) 1 500) 7 i (o + 22),
    chk (lim && out (eDroop im i) 0 2000) 7 i (o + 24),
    chk (decide (r = .system) && out (eVSet im i) (eMin im i) (eMax im i)) 7 i (o + 26),
    chk (notSpare && decide (r ≠ .system ∧ eVSet im i ≠ 0)) 7 i (o + 26),
    chk (notSpare && decide (r ≠ .battery ∧ eVEng im i ≠ 0)) 7 i (o + 28),
    chk (notSpare && decide (r ≠ .battery ∧ eTarget im i ≠ 0)) 7 i (o + 30),
    chk (notSpare && nonZero im (o + 32) 32) 7 i (o + 32) ]
/-- Profile block b: all zeros without a BATTERY cordon of that index, Table 3-5 otherwise. -/
def rangeProfile (im : Image) (b : Nat) : List (Bool × Verdict) :=
  let o := profOff b
  let p := profile im b
  let c := batEntry im b
  if c = 0 then
    match (bytesAt im o 64).findIdx? (fun x => decide (x ≠ 0)) with
    | none => []
    | some k => [chk true 7 0 (o + k)]
  else
    [ chk (decide (3 < p.chem)) 7 c o,
      chk (nonZero im (o + 1) 1) 7 c (o + 1),
      chk (out p.cells 1 200) 7 c (o + 2),
      chk (out p.tSafe 60 2880) 7 c (o + 20),
      chk (out p.tPre 1 120) 7 c (o + 22),
      chk (decide (8 < p.ntc)) 7 c (o + 30),
      chk (nonZero im (o + 36) 28) 7 c (o + 36) ]
/-- V_FLOOR of R127 in 10 µV; none when no entry gives a term. -/
def vFloor (im : Image) : Option Int :=
  let terms := (srcEntries im).zipIdx.filterMap (fun (x, i) =>
    if x.ref = 0 then (if gateFitted im then some ((10000 * x.vMin : Nat) : Int) else none)
    else if eRole im x.ref = .source ∨ eRole im x.ref = .peer then
      some ((10000 * vCaskSet im : Nat) - (200000 * i : Nat) - ((eDroop im x.ref * eINeg im x.ref : Nat) : Int))
    else none)
  terms.foldl (fun m t => match m with | none => some t | some u => some (min u t)) none
/-- Section fields of Table 3-7, in the order the sections stand. PEER_BOUNDS flags beyond bits 0 and 1 are taken for reserved and
must be 0: Table 3-7 gives them no meaning (DESIGN CHOICE, log entry 65). -/
def rangeSection (s : State) (im : Image) (x : Sec) : List (Bool × Verdict) :=
  let o := x.off + 4
  match x.typ with
  | 1 => (srcEntries im).flatMap (fun e =>
      [ chk (decide (7 < e.ref)) 7 0 e.off,
        chk (decide (6 < e.typ)) 7 0 (e.off + 1),
        chk (out e.tQual 1 60000) 7 0 (e.off + 2),
        chk (decide (s.hw.variant = .q8 ∧ e.inreg ≠ 0)) 7 0 (e.off + 10) ])
  | 3 =>
      [ chk (decide (8 < uAt im o 1)) 7 0 o, chk (decide (2 < uAt im (o + 1) 1)) 7 0 (o + 1),
        chk (out (uAt im (o + 2) 1) 1 16) 7 0 (o + 2), chk (nonZero im (o + 3) 1) 7 0 (o + 3) ] ++
      (List.range (uAt im (o + 2) 1)).flatMap (fun k =>
        [ chk (decide (31 < uAt im (o + 4 + 4 * k) 1)) 7 0 (o + 4 + 4 * k),
          chk (decide (3 < uAt im (o + 5 + 4 * k) 1)) 7 0 (o + 5 + 4 * k),
          chk (out (uAt im (o + 6 + 4 * k) 2) 1 50000) 7 0 (o + 6 + 4 * k) ])
  | 4 =>
      let c := batEntry im x.inst
      [ chk (out (uAt im o 4) 10 200000) 7 c o, chk (out (uAt im (o + 4) 4) 10 200000) 7 c (o + 4),
        chk (out (uAt im (o + 8) 1) 1 20) 7 c (o + 8), chk (out (uAt im (o + 9) 1) 1 20) 7 c (o + 9),
        chk (out (uAt im (o + 10) 1) 0 1) 7 c (o + 10), chk (out (uAt im (o + 11) 1) 0 1) 7 c (o + 11),
        chk (out (uAt im (o + 12) 2) 1 720) 7 c (o + 12), chk (nonZero im (o + 14) 2) 7 c (o + 14) ]
  | 5 =>
      let c := peerEntry im x.inst
      [ chk (out (uAt im o 2) 480 4000) 7 c o, chk (out (uAt im (o + 2) 2) (uAt im o 2) 4000) 7 c (o + 2),
        chk (decide (4 ≤ uAt im (o + 12) 1)) 7 c (o + 12), chk (nonZero im (o + 13) 3) 7 c (o + 13) ]
  | 6 => (faultClasses im).flatMap (fun f =>
      [ chk (decide (255 < f.2.1)) 7 0 f.1, chk (decide (4 < f.2.2)) 7 0 (f.1 + 2), chk (nonZero im (f.1 + 3) 1) 7 0 (f.1 + 3) ])
  | _ => []
/-- Table 5-4. -/
def rangePower (s : State) (im : Image) : List (Bool × Verdict) :=
  (entriesOf im .battery).map (fun i =>
    let v : Int := (10000 * eVEng im i : Nat)
    let lo : Int := (10000 * vCaskMin im + 500000 : Nat)
    chk (decide (v < lo) || (match vFloor im with | none => false | some f => decide (f - 500000 < v))) 7 i
      (entryOff i + 28)) ++
  (srcEntries im).flatMap (fun e =>
    [ chk (decide (e.ref = 0 ∧ vCaskRegen im < e.vMax)) 7 0 (e.off + 6),
      chk (decide (s.hw.variant ≠ .q8 ∧ e.inreg ≠ 0 ∧ (e.inreg ≤ e.vMin ∨ e.vMax < e.inreg))) 7 0 (e.off + 10),
      chk (decide (e.ref ≠ 0 ∧ eRole im e.ref = .source ∧ e.vMin < eMin im e.ref)) 7 e.ref (e.off + 4),
      chk (decide (e.ref ≠ 0 ∧ eRole im e.ref = .source ∧ eMax im e.ref < e.vMax)) 7 e.ref (e.off + 6) ])

/-! ### The other consistency checks -/

/-- Minimum inductance of Table 2-2, 0.1 µH. -/
def lMin : Nat → Nat
  | 0 => 458 | 1 => 306 | 2 => 229 | 3 => 183 | 4 => 153 | _ => 115
/-- The numbers follow one another. -/
def consecutive : List Nat → Bool
  | a :: b :: l => decide (b = a + 1) && consecutive (b :: l)
  | _ => true
/-- Limits of Table 3-1a: entries, BATTERY, SOURCE, SYSTEM, PEER, SPARE. -/
def roleLimits : Variant → Nat × Nat × Nat × Nat × Nat × Nat
  | .q2 => (1, 1, 0, 0, 0, 0)
  | .q4 => (3, 2, 2, 1, 2, 1)
  | .q8 => (7, 4, 4, 2, 4, 3)
/-- STR_CELL_ABSENT and STR_CELL_TWICE. -/
def cellChecks (s : State) (im : Image) : List (Bool × Verdict) :=
  seven.map (fun i => chk (decide (2 ^ cellCount s.hw.variant ≤ eMask im i)) 8 i (entryOff i + 1)) ++
  seven.map (fun i => chk (seven.any (fun j => decide (j < i) &&
    (eCells im i).any (fun n => (eCells im j).contains n))) 9 i (entryOff i + 1))
/-- STR_NONCONTIG. -/
def contigChecks (im : Image) : List (Bool × Verdict) :=
  seven.map (fun i =>
    let r := eRole im i
    chk (eUsed im i && (if r = .spare then decide (eN im i ≠ 1)
      else (!consecutive (eCells im i) || decide (r ≠ .off ∧ eN im i = 0)))) 0x0A i (entryOff i + 1))
/-- STR_ROLE_VARIANT (R77). -/
def roleChecks (s : State) (im : Image) : List (Bool × Verdict) :=
  let l := roleLimits s.hw.variant
  let used := seven.filter (eUsed im)
  let tooMany (xs : List Nat) (n : Nat) : Bool × Verdict :=
    chk (decide (n < xs.length)) 0x0B (xs.getD n 0) (entryOff (xs.getD n 1))
  [ tooMany used l.1, tooMany (entriesOf im .battery) l.2.1, tooMany (entriesOf im .source) l.2.2.1,
    tooMany (entriesOf im .system) l.2.2.2.1, tooMany (entriesOf im .peer) l.2.2.2.2.1,
    tooMany (entriesOf im .spare) l.2.2.2.2.2,
    chk (decide (s.hw.variant = .q2) && decide (entriesOf im .battery = [])) 0x0B 1 128,
    chk (decide (s.hw.variant = .q2) && !gateFitted im) 0x0B 0 81,
    chk (decide (entriesOf im .source = [] ∧ entriesOf im .peer = []) && !gateFitted im) 0x0B 0 81 ]
/-- STR_INDEX (R78). -/
def indexChecks (s : State) (im : Image) : List (Bool × Verdict) :=
  seven.map (fun i =>
    let r := eRole im i
    let top := if r = .battery then batMax s.hw.variant else peerMax s.hw.variant
    chk (decide (r = .battery ∨ r = .peer) &&
      (out (eIndex im i) 1 top || seven.any (fun j => decide (j < i ∧ eRole im j = r ∧ eIndex im j = eIndex im i))))
      0x0C i (entryOff i + 3))
/-- STR_SPARE (R79). -/
def spareChecks (im : Image) : List (Bool × Verdict) :=
  (entriesOf im .spare).flatMap (fun i =>
    let h := eHost im i
    let hr := eRole im h
    let hi := max (eL im i) (eL im h)
    let lo := min (eL im i) (eL im h)
    [ chk (decide (hr = .off ∨ hr = .spare) || (entriesOf im .spare).any (fun j => decide (j < i ∧ eHost im j = h)))
        0x0D i (entryOff i + 2),
      chk (decide (eFreq im i ≠ eFreq im h)) 0x0D i (entryOff i + 4),
      chk (decide (12 * lo < 10 * hi)) 0x0D i (entryOff i + 6) ])
/-- STR_INDUCTANCE (Table 2-2). -/
def inductanceChecks (im : Image) : List (Bool × Verdict) :=
  seven.map (fun i => chk (eUsed im i && decide (eL im i < lMin (eFreq im i))) 0x0E i (entryOff i + 6))
/-- STR_PORT_CAP (R51, R181). -/
def portCapChecks (im : Image) : List (Bool × Verdict) :=
  seven.map (fun i =>
    let r := eRole im i
    let p := profile im (eIndex im i)
    let bound := decide (r = .source ∨ r = .system ∨ r = .peer) && decide (eMax im i < eOv im i) &&
      decide (eC im i * (eOv im i ^ 2 - eMax im i ^ 2) < 562500 * eL im i)
    chk (eUsed im i && (decide (eC im i < 100) || bound ||
      (decide (r = .battery) && decide (40000000 < eC im i * (p.cells * p.vChg))))) 0x0F i (entryOff i + 8))
/-- STR_PORTV (R80). -/
def portVChecks (im : Image) : List (Bool × Verdict) :=
  (seven.filter (fun i => decide (eRole im i ≠ .off ∧ eRole im i ≠ .spare))).flatMap (fun i =>
    let o := entryOff i
    let p := profile im (eIndex im i)
    [ chk (decide (eMax im i ≤ eMin im i)) 0x10 i (o + 14),
      chk (decide (100 * eOv im i < 105 * eMax im i ∨ 4700 < eOv im i)) 0x10 i (o + 10),
      chk (decide (4500 < eMax im i)) 0x10 i (o + 12),
      chk (decide (eRole im i = .battery ∧ eMax im i * 100 < p.cells * p.vChg)) 0x10 i (o + 12),
      chk (decide (eRole im i = .peer) && (match peerBounds im (eIndex im i) with
        | none => false | some pb => decide (eMax im i < pb.vMax))) 0x10 i (o + 12) ])
/-- STR_CASK. -/
def caskChecks (im : Image) : List (Bool × Verdict) :=
  [ chk (decide (vCaskSet im < vCaskMin im + 100)) 0x11 0 66,
    chk (decide (vCaskRegen im < vCaskSet im + 50)) 0x11 0 68 ]
/-- STR_PRIORITY. -/
def priorityChecks (im : Image) : List (Bool × Verdict) :=
  let es := srcEntries im
  let o := match findSec im 1 0 with | none => 832 | some x => x.off
  es.zipIdx.map (fun (e, k) =>
    chk (decide (e.ref = 0) && !gateFitted im ||
      (es.take k).any (fun f => decide (f.ref = e.ref)) ||
      decide (e.ref ≠ 0 ∧ eRole im e.ref ≠ .source ∧ eRole im e.ref ≠ .peer)) 0x12 e.ref e.off) ++
  seven.map (fun i => chk (decide (eRole im i = .source ∨ eRole im i = .peer) &&
    !(es.any (fun e => decide (e.ref = i)))) 0x12 i o)
/-- A range of Table 6-4 for a chemistry: LFP, LEAD, NICD. -/
def byChem (c : Nat) (lfp lead nicd : Int × Int) : Int × Int := if c = 1 then lfp else if c = 2 then lead else nicd
/-- n is outside a range. -/
def outI (n : Int) (r : Int × Int) : Bool := decide (n < r.1 ∨ r.2 < n)
/-- STR_PROFILE (R154, Table 6-4). -/
def profileChecks (im : Image) : List (Bool × Verdict) :=
  (four.filter (fun b => decide (batEntry im b ≠ 0))).flatMap (fun b =>
    let p := profile im b
    let o := profOff b
    let c := batEntry im b
    let k := p.chem
    let noNtc := decide (p.ntc = 0)
    [ chk (decide (k = 0)) 0x13 c o,
      chk (outI p.cap (10, 65535)) 0x13 c (o + 4),
      chk (outI p.vDeep (byChem k (1500, 2500) (1500, 1800) (800, 1000))) 0x13 c (o + 6),
      chk (outI p.vPre (byChem k (2000, 3000) (1800, 2000) (900, 1100)) || decide (p.vPre ≤ p.vDeep)) 0x13 c (o + 8),
      chk (outI p.vChg (byChem k (3400, 3650) (2300, 2450) (1450, 1650))) 0x13 c (o + 10),
      chk (outI p.vMaint (byChem k (3200, 3450) (2200, 2300) (1300, 1420)) ||
        decide (p.vMaint ≤ p.vPre ∨ p.vChg < p.vMaint)) 0x13 c (o + 12),
      chk (outI p.vCut (byChem k (2000, 3000) (1600, 1850) (900, 1100)) || decide (p.vCut < p.vDeep)) 0x13 c (o + 14),
      chk (outI p.iCc (byChem k (50, 1000) (50, 300) (100, 1000))) 0x13 c (o + 16),
      chk (outI p.iTerm (byChem k (10, 40) (5, 30) (10, 100)) || decide (p.iCc ≤ p.iTerm)) 0x13 c (o + 18),
      chk (outI p.tSafe (60, 2880)) 0x13 c (o + 20),
      chk (outI p.tPre (1, 120)) 0x13 c (o + 22),
      chk (outI p.tCv (byChem k (10, 240) (60, 1440) (60, 900))) 0x13 c (o + 24),
      chk (outI p.dV (byChem k (0, 0) (0, 0) (10, 200))) 0x13 c (o + 26),
      chk (outI p.dTdt (byChem k (0, 0) (0, 0) (50, 300))) 0x13 c (o + 28),
      chk (noNtc && decide (k = 3 ∨ p.comp ≠ 0)) 0x13 c (o + 30),
      chk (outI p.comp (byChem k (0, 0) (-50, 0) (-40, 0))) 0x13 c (o + 31),
      chk (if noNtc then decide (p.tLow ≠ 0) else outI p.tLow (byChem k (0, 200) (-300, 50) (-200, 100))) 0x13 c (o + 32),
      chk (if noNtc then decide (p.tHigh ≠ 0) else outI p.tHigh (byChem k (300, 550) (350, 550) (350, 500))) 0x13 c
        (o + 34) ])
/-- STR_FAULT_CLASS (R84, R393). -/
def faultClassChecks (im : Image) : List (Bool × Verdict) :=
  (faultClasses im).flatMap (fun f =>
    [ chk (!overridable f.2.1) 0x14 0 f.1,
      chk (decide (severity f.2.2 < severity ((defaultClass f.2.1).getD 0))) 0x14 0 (f.1 + 2) ])

/-- The consistency stage in the order of the code values (R85). -/
def consistencyChecks (s : State) (im : Image) : Verdict :=
  thenCheck (sectionCheck s im) (fun _ => firstFail
    (rangeModule im ++ seven.flatMap (rangeEntry im) ++ four.flatMap (rangeProfile im) ++
      (sections im).1.flatMap (rangeSection s im) ++ rangePower s im ++ cellChecks s im ++ contigChecks im ++
      roleChecks s im ++ indexChecks s im ++ spareChecks im ++ inductanceChecks im ++ portCapChecks im ++
      portVChecks im ++ caskChecks im ++ priorityChecks im ++ profileChecks im ++ faultClassChecks im))

/-! ### Deadline stage -/

/-- Power of `n` cells at port voltage v (0.1 V) under a current and a power rating, mW (R46). -/
def ratedPower (n v amps watts : Nat) : Nat := n * min (amps * v * 100) (watts * 1000)
/-- The term of one BATTERY cordon in P_CAP before η_CHK, mW (R142). -/
def capTerm (im : Image) (i : Nat) : Nat :=
  let v := eMin im i
  min (min (eTarget im i * v) (eINeg im i * v)) (min (ratedPower (eN im i) v 40 3000) (25000 * ePLim im i))
/-- P_CAP in mW (R142). -/
def pCapMw (im : Image) : Nat := ((entriesOf im .battery).map (capTerm im)).sum * 97 / 100
/-- P_CO in mW as a fraction (R142). -/
def pCoMw (im : Image) : Frac :=
  (25000 * pLoadMax im * 97 + ((entriesOf im .system).map (fun i => 25000 * ePLim im i)).sum * 100, 97)
/-- Lowest switching frequency among BATTERY cordons, kHz. -/
def fMin (im : Image) : Nat := ((entriesOf im .battery).map (fun i => freqKHz (eFreq im i))).foldl min 800
/-- t_ON of R143 in 0.01 µs. -/
def tOn (im : Image) : Frac := (1041 * fMin im + 50000, fMin im)
/-- τ_k of R143 in 0.01 µs: current over n times the slew min(5 A/µs, 0.9 × V / L). -/
def tauOf (i10mA n v l : Nat) : Frac := if 50 * l ≤ 9 * v then (i10mA, 5 * n) else (i10mA * l * 10, 9 * n * v)
/-- The longest τ_k. -/
def tauMax (im : Image) : Frac :=
  (entriesOf im .battery).foldl (fun m i =>
    fMax m (tauOf (eIPos im i + eTarget im i) (eN im i) (eMin im i) (eL im i))) (0, 1)
/-- t_ON + max τ_k in 0.01 µs. -/
def tDone (im : Image) : Frac := fAdd (tOn im) (tauMax im)
/-- E_GAP in 10⁻¹¹ J, that is mW times 0.01 µs (R144). -/
def eGap (im : Image) : Frac := fMul (pCoMw im) (fAdd (tOn im) (fMul (tauMax im) (1, 2)))
/-- E_RES in 10⁻¹⁵ J (R144). -/
def eRes (im : Image) : Nat :=
  match vFloor im with
  | none => 0
  | some f => cCask im * (f * f - ((10000 * vCaskMin im : Nat) : Int) ^ 2).toNat / 2
/-- Conversions per second of the slots with their settling windows, before the oversampling ratio (R87). -/
def slotLoad (slots : List MeasSlot) : Nat :=
  let prev := match slots.getLast? with | none => [] | some l => l :: slots.dropLast
  ((slots.zip prev).map (fun (a, b) =>
    rateEff a.rate * (1 + (if a.range ≠ b.range then 2 else if a.channel ≠ b.channel then 1 else 0)))).sum
/-- Highest stop frequency of an impedance run on a converter pair, 0.01 Hz. -/
def eisStop (im : Image) (pair : Nat) : Nat :=
  four.foldl (fun m b => match eisSched im b with
    | none => m
    | some e => if e.pair = pair then max m e.f1 else m) 0
/-- Oversampling ratio of converter x. -/
def osrOf (im : Image) (x : Nat) : Nat := match measSched im x with | none => 1 | some m => 2 ^ m.1
/-- Schedule term of converter x, in hundredths of a conversion per second. -/
def schedTerm (im : Image) (x : Nat) : Nat :=
  match measSched im x with
  | none => 0
  | some m => 100 * (2 ^ m.1 * slotLoad m.2.2)
/-- Impedance term of converter x for a stop frequency in 0.01 Hz. -/
def eisTerm (im : Image) (x stop : Nat) : Nat := osrOf im x * (64 * stop * 3)
/-- Offset of the schedule section of converter x. -/
def measOff (im : Image) (x : Nat) : Nat := match findSec im 3 x with | none => 832 | some sc => sc.off
/-- Battery absorption of a cordon at its V_PORT_MIN, mW (Table 3-8). -/
def absorbTerm (im : Image) (i : Nat) : Nat :=
  let v := eMin im i
  min (min (eIPos im i * v) (25000 * ePLim im i)) (ratedPower (eN im i) v 60 4500)
/-- Battery absorption of the image, mW. -/
def absorbMw (im : Image) : Nat := ((entriesOf im .battery).map (absorbTerm im)).sum
/-- Source paths of the image. -/
def sourcePaths (im : Image) : Nat :=
  (entriesOf im .source).length + (entriesOf im .peer).length + (if gateFitted im then 1 else 0)
/-- R88 binds this cordon and nothing relieves its cells. -/
def selftestBad (im : Image) (i : Nat) : Bool :=
  let r := eRole im i
  (decide (r = .system) ||
    (decide (r = .source) && decide (sourcePaths im = 1) && decide (entriesOf im .battery = []))) &&
  decide (spareOf im i = 0) && decide (ratedPower (eN im i - 1) (eMin im i) 40 3000 < 25000 * ePLim im i)
/-- R89 for battery index b, entry i: T_SAFE is too short under one of the three bounds of I_eff. -/
def chargeTimeBad (im : Image) (b i : Nat) : Bool :=
  let p := profile im b
  let t := p.tSafe - p.tPre
  let n := eN im i
  decide (p.tSafe < p.tPre ∨ t * p.iCc * p.cap < 75000 * p.cap ∨ t * eIPos im i < 750 * p.cap ∨
    t * n * 80 < 15 * p.cap ∨ t * n * 6000000 < 15 * p.cap * (p.cells * p.vChg))
/-- The deadline stage in the order of the code values. -/
def deadlineChecks (im : Image) : Verdict :=
  let bats := entriesOf im .battery
  let any := decide (bats ≠ [])
  let xs := [0, 1, 2, 3]
  firstFail
    ([ chk (any && !(fLe (fMul (eGap im) (10000, 1)) (eRes im, 1))) 0x40 0 70,
       chk (any && decide (9409 * (bats.map (capTerm im)).sum < 100 * (pCoMw im).1)) 0x41 0 76,
       chk (any && !(fLe (tDone im) (100 * tCo im, 1))) 0x42 0 72 ] ++
     xs.map (fun x => chk (decide (90000000 < schedTerm im x)) 0x43 0 (measOff im x)) ++
     xs.map (fun x => chk (decide (90000000 < schedTerm im x + eisTerm im x (eisStop im (x / 2)))) 0x44 0 (measOff im x)) ++
     [ chk (decide (tTrlLoss im < 3 * tHb im)) 0x45 0 84 ] ++
     seven.map (fun i => chk (selftestBad im i) 0x46 i (entryOff i + 1)) ++
     four.map (fun b => let i := batEntry im b
       chk (decide (i ≠ 0) && chargeTimeBad im b i) 0x47 i (profOff b + 20)) ++
     [ chk (decide (absorbMw im < 25000 * pRegenMax im) && !chopperFitted im) 0x48 0 78 ])

/-! ### Surge margin (R212) -/

/-- E_SURGE in nJ·… as a fraction of mW times 0.01 µs, which is 10⁻¹¹ J. -/
def eSurge (im : Image) : Frac :=
  let f := fMin im
  let t : Frac := (30 * f + 50000, f)
  let vr := vCaskRegen im
  let tau := (entriesOf im .battery).foldl (fun m i =>
    let l := eL im i
    let n := eN im i
    let v := eMin im i
    let pw := absorbTerm im i
    fMax m (if 50 * l ≤ 9 * vr then (pw, 5 * n * v) else (pw * l * 10, 9 * n * v * vr))) (0, 1)
  fMul (25000 * pRegenMax im, 1) (fAdd t (fMul tau (1, 2)))
/-- ΔV_SURGE in µV, rounded up; 0 without a BATTERY cordon. -/
def dvSurgeUv (im : Image) : Nat :=
  if entriesOf im .battery = [] then 0
  else
    let v := vCaskRegen im * 100000
    -- 2 E / C in µV²: E in 10⁻¹¹ J, C in 10⁻⁵ F
    let e := fMul (eSurge im) (2000000, cCask im)
    let x := v * v + fCeil e
    let r := isqrt x
    (if r * r = x then r else r + 1) - v

/-! ### Whole runs -/

/-- Consistency and deadline stages (R85); the apply stage between them is CHECK's and COMMIT's own. -/
def imageChecks (s : State) (im : Image) : Verdict := thenCheck (consistencyChecks s im) (fun _ => deadlineChecks im)

/-- What the board probe finds: the verdict and the three masks of CRD_STRAP. -/
structure ProbeResult where
  v      : Verdict := {}
  split  : BitVec 7 := 0
  join   : BitVec 7 := 0
  probed : BitVec 7 := 0
  deriving DecidableEq, Repr
/-- Reading of cell n in a bank of readings. -/
def reading (v : Vector Nat 7) (n : Nat) : Nat := bankGet 0 v n
/-- Cells on the port of cordon i, its spare included. -/
def portCells (im : Image) (i : Nat) : List Nat := eCells im i ++ (if spareOf im i = 0 then [] else eCells im (spareOf im i))
/-- Cordon whose port cell n drives: a spare's host, else its own entry; 0 for a cell that no entry names. -/
def portOf (im : Image) (n : Nat) : Nat :=
  let i := entryOfCell im n
  if i = 0 then 0 else if eRole im i = .spare then eHost im i else i
/-- Cells of cordon i that disagree with the highest reading of its port (R90 step 2). -/
def splitCells (im : Image) (p : Probe) (i : Nat) : List Nat :=
  let cs := portCells im i
  let top := (cs.map (reading p.ports)).foldl max 0
  cs.filter (fun n => decide (top + 10000 < 100 * (top - reading p.ports n)))
/-- Join probe of cell n (R90 step 4): whether it was judged, and the ports found joined to it. -/
def joinProbe (im : Image) (p : Probe) (n : Nat) : Bool × List Nat :=
  let rise (m : Nat) : Nat := reading (bankGet (Vector.replicate 7 0) p.rises n) m
  if reading p.ports n < 100 ∧ 2000 ≤ p.cask then
    if rise n < 200 then (false, [])
    else (true, seven.filter (fun m => decide (entryOfCell im m ≠ 0 ∧ portOf im m ≠ portOf im n ∧
      reading p.ports m < 100 ∧ rise n < 2 * rise m ∧ 100 < rise m)))
  else (false, [])
/-- The join probe over cells in ascending order; the first cell found joined to another cordon's port ends it. A cell that no entry
names is probed too, and the cordon concerned is then that of the port it was found joined to. -/
def joinRun (im : Image) (p : Probe) : List Nat → ProbeResult → ProbeResult
  | [], r => r
  | n :: ns, r =>
    let j := joinProbe im p n
    let r := if j.1 then { r with probed := putBit r.probed (n - 1) true } else r
    match j.2 with
    | [] => joinRun im p ns r
    | m :: _ =>
      let c := if portOf im n = 0 then portOf im m else portOf im n
      { r with v := { reason := 0x21, cordon := c, offset := entryOff c + 1 },
               join := maskOf 7 (fun x => decide (x = n ∨ x ∈ j.2)) }
/-- The board probe of R90 on a part of `fit` cells: split, then voltage, then join. A cell that no entry names has no cordon to
agree with and no V_PORT_OV. -/
def boardProbe (fit : Nat) (im : Image) (p : Probe) : ProbeResult :=
  let hosts := seven.filter (fun i => decide (eRole im i ≠ .spare ∧ eMask im i ≠ 0))
  let splits := hosts.flatMap (splitCells im p)
  let splitMask := maskOf 7 (fun n => splits.contains n)
  let cells := seven.filter (fun n => decide (n ≤ fit))
  let r0 : ProbeResult := { split := splitMask }
  match hosts.find? (fun i => decide (splitCells im p i ≠ [])) with
  | some i => { r0 with v := { reason := 0x20, cordon := i, offset := entryOff i + 1 } }
  | none =>
    match cells.find? (fun n => decide (portOf im n ≠ 0 ∧ eOv im (portOf im n) * 10 < reading p.ports n)) with
    | some n => { r0 with v := { reason := 0x22, cordon := portOf im n, offset := entryOff (portOf im n) + 10 } }
    | none => joinRun im p cells r0

end Sys2Proof.Machine
end

