-- ==== Sys2Proof/Machine/Ops.lean ====
section
/-! DEFINITION. The operations that many commands share: free values, Cellar records and protected blocks, mode
changes, driving cells and cordons, spare takeover, safe stops, the fault collector's latch and reactions, core resets
and entry into LIMP, and the frame around every command (`act`). -/

namespace Sys2Proof.Machine

/-! ### Free values (log entry 5) -/

/-- A free value of `w` bits and the state with the counter advanced. -/
def freeNat (w : Nat) (s : State) : Nat × State :=
  ((Config.openValue w s.freeIx).toNat, { s with freeIx := s.freeIx + 1 })
/-- The same as a word. -/
def freeWord (s : State) : Word × State := (Config.openValue 32 s.freeIx, { s with freeIx := s.freeIx + 1 })

/-! ### Cellar records (R404–R408) -/

/-- Queue a record with the snapshot of the present instant. A full queue drops it (R408). -/
def queueRecord (kind source arg : Nat) (addr kw : Word) (controlled resolved : Bool) (s : State) : State :=
  if 32 ≤ s.clr.queue.length then
    { s with clr := { s.clr with dropped := satInc 65535 s.clr.dropped, droppedBit := true, lostFlag := true } }
  else
    let r : Record :=
      { kind := kind, mode := (shownModes s).1.code + 8 * s.sys.sub.code + 32 * s.lcs.state.code,
        flags := s.trl.locked.toNat + 2 * controlled.toNat + 4 * resolved.toNat, source := source,
        time := trlTime s, arg := arg, addr := addr, uptime := uptime s, words := snapshot s ++ [kw] }
    { s with clr := { s.clr with queue := s.clr.queue ++ [r] } }
/-- A record without fault source, address or flags. -/
def record (kind : Nat) (kw : Word) (s : State) : State := queueRecord kind 0 0 0 kw false false s

/-- The mark of a complete record and of a block copy. -/
def doneMark : Nat := 0xCE11A5ED
/-- The fill byte of the Cellar and of flash. -/
def ff : Byte := 0xFF
/-- `n` bytes of the Cellar from offset o. -/
def clrBytes (s : State) (o n : Nat) : List Byte := memReadList ff s.clr.mem o n
/-- The little-endian number at an offset of the Cellar. -/
def clrNum (s : State) (o n : Nat) : Nat := ofLe (clrBytes s o n)
/-- The 8-byte words that `n` bytes from offset o touch. -/
def wordsOf (o n : Nat) : List Nat := (List.range ((o + n + 7) / 8 - o / 8)).map (fun k => o / 8 + k)
/-- Write bytes into the Cellar, word by word: a word written whole is correctable again, and what it held is kept until the
next commit tick (R402). -/
def clrPut (o : Nat) (bs : List Byte) (s : State) : State :=
  let ws := wordsOf o bs.length
  { s with clr := { s.clr with mem := memWriteList ff s.clr.mem o bs, bad := s.clr.bad.filter (fun w => decide (w ∉ ws)),
                               undo := ws.reverse.map (fun w => (w, clrBytes s (8 * w) 8)) ++ s.clr.undo } }
/-- Uncorrectable words that a rule inspects: counted, and the last one's address in CLR_ERRADDR (R402, R425). -/
def countBad (ws : List Nat) (s : State) : State :=
  if ws = [] then s
  else { s with clr := { s.clr with errors := sat 16 (s.clr.errors + ws.length), errAddr := clrWordAddr (ws.foldl max 0) } }
/-- Put back what the newest `n` of the words written held. -/
def unwrite : (n : Nat) → State → State
  | 0, s => s
  | n + 1, s =>
    match s.clr.undo with
    | [] => s
    | (w, bs) :: r => unwrite n { s with clr := { s.clr with mem := memWriteList ff s.clr.mem (8 * w) bs, undo := r } }
/-- A word write cut short leaves the word at its old value, its new value or uncorrectable (R402): which is the free value `c`. -/
def cutWord (c : Nat) (s : State) : State :=
  match s.clr.undo with
  | [] => s
  | (w, bs) :: r =>
    if c ≤ 1 then s
    else
      let s : State := { s with clr := { s.clr with mem := memWriteList ff s.clr.mem (8 * w) (if c = 2 then bs else le 8 0), undo := r } }
      if c = 2 then s else { s with clr := { s.clr with bad := w :: s.clr.bad.filter (fun v => decide (v ≠ w)) } }

/-! ### A supply that fails during a flash operation (R42) -/

/-- `n` free bytes, from the counter value `ix` on. -/
def freeBytes : (n ix : Nat) → List Byte
  | 0, _ => []
  | n + 1, ix => Config.openValue 8 ix :: freeBytes n (ix + 1)
/-- The page under program or the sector under erase is left partly written: the manual says no more, and its bytes are free
values (R42; DESIGN CHOICE, log entry 66). -/
def flashCut (s : State) : State :=
  match s.fls.op with
  | none => s
  | some o =>
    let n := if o.program then 256 else 4096
    let a := 4096 * o.sector + (if o.program then 256 * o.page else 0)
    let t := s.setBank o.bank (memWriteList ff (s.bank o.bank) a (freeBytes n s.freeIx))
    { t with freeIx := s.freeIx + n, fls := { t.fls with op := none } }

/-! ### Protected blocks (R409) -/

/-- Sequence number of the copy of `size` bytes at o. -/
def copySeq (s : State) (o size : Nat) : Nat := clrNum s (o + size - 16) 4
/-- The copy's mark and CRC are intact. -/
def copyValid (s : State) (o size : Nat) : Bool :=
  let len := clrNum s (o + size - 12) 4
  decide (clrNum s (o + size - 4) 4 = doneMark) && decide (len ≤ size - 16) &&
    decide (crc32 (clrBytes s o len ++ le 4 len) = BitVec.ofNat 32 (clrNum s (o + size - 8) 4))
/-- Offset of the valid copy of the block whose copies stand at base and base + size. -/
def validCopy (s : State) (base size : Nat) : Option Nat :=
  let a := copyValid s base size
  let b := copyValid s (base + size) size
  if a && b then some (if copySeq s base size < copySeq s (base + size) size then base + size else base)
  else if a then some base else if b then some (base + size) else none
/-- Body of the block; none when the block is absent. -/
def blockBody (s : State) (base size : Nat) : Option (List Byte) :=
  (validCopy s base size).map (fun o => clrBytes s o (clrNum s (o + size - 12) 4))
/-- Write a block: the copy that is not the valid one, sequence number one higher, mark last (R409). -/
def blockWrite (base size : Nat) (body : List Byte) (s : State) : State :=
  let v := validCopy s base size
  let o := if v = some base then base + size else base
  let seq := match v with | none => 0 | some p => (copySeq s p size + 1) % 2 ^ 32
  let s := clrPut (o + size - 8) (le 8 0) s
  let s := clrPut o body s
  let s := clrPut (o + size - 16) (le 4 seq ++ le 4 body.length) s
  clrPut (o + size - 8) (wordBytes (crc32 (body ++ le 4 body.length)) ++ le 4 doneMark) s

/-- Offset of slot k of the last good copy, and of its header's trailer (Table 15-4). -/
def lgcSlot (k : Nat) : Nat := 8192 * k
/-- Trailer of slot k: sequence number, length with vintage above, image CRC-32, mark. -/
def lgcTrailer (k : Nat) : Nat := 0x4000 + 64 * k + 48
/-- The image in slot k, as long as its header says. -/
def lgcBytes (s : State) (k : Nat) : List Byte := clrBytes s (lgcSlot k) (clrNum s (lgcTrailer k + 4) 2)
/-- Slot k's completion mark and image CRC-32 are intact (R93). -/
def lgcValid (s : State) (k : Nat) : Bool :=
  decide (clrNum s (lgcTrailer k + 12) 4 = doneMark) &&
    decide (imCrc (lgcBytes s k) = BitVec.ofNat 32 (clrNum s (lgcTrailer k + 8) 4)) &&
    decide (imCrcOf (lgcBytes s k) = imCrc (lgcBytes s k)) && decide (imLength (lgcBytes s k) ≤ (lgcBytes s k).length)
/-- The slot that holds the valid last good copy. -/
def lgcPick (s : State) : Option Nat :=
  let a := lgcValid s 0
  let b := lgcValid s 1
  if a && b then some (if clrNum s (lgcTrailer 0) 4 < clrNum s (lgcTrailer 1) 4 then 1 else 0)
  else if a then some 0 else if b then some 1 else none
/-- The last good copy, unless it is marked unusable for this power cycle (R91, R417). -/
def lastGood (s : State) : Option Image := if s.str.copyBad then none else (lgcPick s).map (lgcBytes s)
/-- Write an image to the last good copy if it differs from the copy held (R93). -/
def lgcWrite (im : Image) (s : State) : State :=
  let p := lgcPick s
  if (p.map (lgcBytes s)) = some im then s
  else
    let k := if p = some 0 then 1 else 0
    let seq := match p with | none => 0 | some q => (clrNum s (lgcTrailer q) 4 + 1) % 2 ^ 32
    let s := clrPut (lgcTrailer k + 8) (le 8 0) s
    let s := clrPut (lgcSlot k) im s
    let s := clrPut (lgcTrailer k) (le 4 seq ++ le 2 im.length ++ le 2 (imVintage im)) s
    clrPut (lgcTrailer k + 8) (wordBytes (imCrc im) ++ le 4 doneMark) s

/-! ### Modes (R98–R100) -/

/-- Change the mode: SYS_MODE.PREV_MODE and one record of kind MODE (R99). SYS_MODE shows a change between NORMAL and RESERVE from
the next commit tick on, every other at once. -/
def setMode (m : Mode) (s : State) : State :=
  if s.sys.mode = m then s
  else
    let p := s.sys.mode
    let s := { s with sys := { s.sys with mode := m, prev := p, leaseEnd := if m = .service then s.sys.leaseEnd else 0,
                                          sub := if m = .limp then s.sys.sub else .none,
                                          shown := if (m = .normal ∨ m = .reserve) ∧ (p = .normal ∨ p = .reserve) then
                                            some (shownModes s) else none } }
    record 2 (pack [(8, 8, p.code), (0, 8, if m = .limp then s.sys.reason else 0)]) s
/-- NORMAL or RESERVE by the rule of Table 4-1: NORMAL while a SOURCE cordon path or the source gate path is usable. -/
def ownPathUsable (s : State) : Bool :=
  eight.any (fun i =>
    let x := s.src i
    usableState x.state && (decide (x.ref = 0) || decide ((s.cordon x.ref).e.role = .source)))
/-- The mode that a usable feed gives. -/
def feedMode (s : State) : Mode := if ownPathUsable s then .normal else .reserve

/-! ### Cells -/

/-- A cell that switches: STANDBY or RUN. -/
def switching (c : Cell) : Bool := decide (c.state = .standby ∨ c.state = .run)
/-- A cell that carries its cordon's share now. -/
def activeIn (s : State) (c n : Nat) : Bool :=
  let k := s.cordon c
  let x := s.cell n
  switching x && (k.e.cells.getLsbD (n - 1) || decide (x.replaces ≠ 0 ∧ k.e.cells.getLsbD (x.replaces - 1) = true))
/-- Active cells of cordon c, spare included, in ascending order. -/
def activeCells (s : State) (c : Nat) : List Nat := seven.filter (activeIn s c)
/-- The spare cell strapped to cordon c; 0 none. -/
def spareCell (s : State) (c : Nat) : Nat :=
  match seven.find? (fun j => decide ((s.cordon j).e.role = .spare ∧ (s.cordon j).e.host = c ∧ (s.cordon j).state ≠ .absent)) with
  | none => 0
  | some j => (maskList (s.cordon j).e.cells).headD 0
/-- The cordon a cell serves: its host for a spare, else its own. -/
def servedCordon (s : State) (n : Nat) : Nat :=
  let c := (s.cell n).cordon
  if (s.cordon c).e.role = .spare then (s.cordon c).e.host else c
/-- The string's current port voltage: the latest CEL port voltage of the cordon's first valid cell, 10 mV. -/
def cordonV (s : State) (c : Nat) : Nat :=
  match (maskList (s.cordon c).e.cells).find? (fun n => (s.cell n).valid) with
  | none => 0
  | some n => (s.cell n).vPort
/-- The battery switch of cordon c's string is closed; a cordon that is no BATTERY cordon needs none. -/
def switchOk (s : State) (c : Nat) : Bool :=
  let e := (s.cordon c).e
  decide (e.role ≠ .battery) || decide ((s.bat e.index).sw = .closed)
/-- Absorb-ready (R208). -/
def absorbReady (s : State) (c : Nat) : Bool :=
  let e := (s.cordon c).e
  let g := s.chgI e.index
  decide (e.role = .battery) && decide ((s.cordon c).state ≠ .absent) && decide ((s.bat e.index).sw = .closed) &&
    decide (activeCells s c ≠ []) &&
    (decide (s.sys.mode = .limp) ||
      (!(decide (g.phase = .halted ∧ (g.haltBy = 2 ∨ g.haltBy = 3))) &&
        !(g.susp.getLsbD 3 || g.susp.getLsbD 4 || g.susp.getLsbD 5 || g.susp.getLsbD 6 || g.susp.getLsbD 8)))
/-- The string of BATTERY cordon c is connected, not cut off (R166), not halted as SHORTED (R183) and above cell count × V_CUTOFF (R134). -/
def stringAlive (s : State) (c : Nat) : Bool :=
  let e := (s.cordon c).e
  let p := profile s.str.image e.index
  decide ((s.bat e.index).sw = .closed ∧ (s.bat e.index).miss ≠ .confirmed) && !(s.chgI e.index).cutoff &&
    !(decide ((s.chgI e.index).phase = .halted ∧ (s.chgI e.index).haltBy = 3)) &&
    decide (p.cells * p.vCut < cordonV s c * 10)
/-- Cells of cordon c that could engage or have engaged. -/
def engageCells (s : State) (c : Nat) : List Nat :=
  (activeCells s c).filter (fun n => decide ((s.cell n).mode ≠ .off))
/-- Engage-ready (R134); a suspended string stays so but for reasons 6 and 8 (Table 6-7). -/
def engageReady (s : State) (c : Nat) : Bool :=
  let k := s.cordon c
  decide (k.e.role = .battery) && decide (k.state = .standby ∨ k.state = .run ∨ k.state = .degraded) &&
    stringAlive s c && decide (engageCells s c ≠ []) && !(engageCells s c).all (fun n => (s.cell n).engaged)
/-- The absorb share of each of `n` cells at port voltage v (10 mV), rounded down to 10 mA (R209), mA. -/
def absorbShare (e : Entry) (n v : Nat) : Nat :=
  min (min (e.iPos * 10) (2500000 * e.pLim / v)) (n * min 60000 (450000000 / v)) / n / 10 * 10
/-- The share the module sends to a cell of cordon c. -/
def shareFor (s : State) (c : Nat) : Nat :=
  if absorbReady s c then absorbShare (s.cordon c).e (activeCells s c).length (cordonV s c) else 0
/-- The source table entry of cordon c; 0 none. -/
def srcOfCordon (s : State) (c : Nat) : Nat :=
  (eight.find? (fun i => decide ((s.src i).state ≠ .absent ∧ (s.src i).ref = c ∧ c ≠ 0))).getD 0
/-- Contract import of a PEER path, credits. -/
def importLimit (p : Peer) : Nat := if p.swapTerms then p.pS else p.pC
/-- The image whose values hold: in LIMP the last good copy, else the running image (R94). -/
def boardImage (s : State) : Image := if s.sys.mode = .limp then (lastGood s).getD s.str.image else s.str.image
/-- The port-to-cask limits of cordon c: its entry's, on Q8 its source type's, and for an importing PEER cordon its contract's
(R131). LIMP applies no type limit. -/
def cordonINeg (s : State) (c : Nat) : Nat × Nat :=
  let e := (s.cordon c).e
  if (e.role = .source ∨ e.role = .peer) ∧ s.sys.mode ≠ .limp then
    let own := if e.role = .peer ∧ (s.peerI e.index).role = .consumer then min e.pLim (importLimit (s.peerI e.index)) else e.pLim
    match typeLimits s (s.src (srcOfCordon s c)).type_ with
    | some l => (min e.iNeg l.1, min own l.2)
    | none => (e.iNeg, own)
  else (e.iNeg, e.pLim)

/-! ### The cask rise (R104) -/

/-- Lowest cask voltage that a valid telemetry frame shows, 10 mV; 0 without one. -/
def caskNow (s : State) : Nat :=
  match ((seven.filter (fun n => (s.cell n).valid)).map (fun n => (s.cell n).vCask)) with
  | [] => 0
  | v :: vs => vs.foldl min v
/-- Where a rise begins, µV: the cask's present voltage, before any frame the reading of the board probe. -/
def riseStart (s : State) : Nat := (if caskNow s = 0 then s.str.probe.cask else caskNow s) * 10000
/-- The cask begins to rise from its present voltage. -/
def startRise (s : State) : State := if s.pwr.rise.isSome then s else { s with pwr := { s.pwr with rise := some (riseStart s) } }
/-- A set point for the cask, 10 mV: no higher than the rise has come. -/
def underRise (s : State) (v : Nat) : Nat := match s.pwr.rise with | none => v | some r => min v (r / 10000)
/-- Until the cask first reaches V_CASK_MIN the current into it is held to 10 A: an equal part of it for each cordon that runs in
CASK_V, at the port by the latest voltages and never below 10 mA (R104; DESIGN CHOICE, log entry 67). -/
def underTenAmps (s : State) (c i : Nat) : Nat :=
  if s.pwr.rise = none ∨ s.sys.caskHeld = true then i
  else
    let k := max 1 (seven.filter (fun n => decide ((s.cordon n).mode = .caskV))).length
    let v := cordonV s c
    if v = 0 then min i (1000 / k) else min i (max 1 (1000 * caskNow s / v / k))
/-- The source gate closes: at once, or where it follows the slope of R104 from the cask's present voltage on. -/
def gateFollows (s : State) : State :=
  if s.pwr.gate.closed = true ∨ s.pwr.gate.ramp.isSome then s
  else { s with pwr := { s.pwr with gate := { s.pwr.gate with ramp := some (riseStart s) } } }
/-- The source gate opens, or gives up a closing under way. -/
def gateOpens (s : State) : State :=
  { s with pwr := { s.pwr with gate := { s.pwr.gate with closed := false, ramp := none } } }
/-- Voltage at which the string of BATTERY cordon c stops discharging, 10 mV: cell count × V_CUTOFF (R166, Table 4-6). -/
def cutoffV (s : State) (c : Nat) : Nat :=
  let p := profile (boardImage s) (s.cordon c).e.index
  p.cells * p.vCut / 10
/-- The set points one of `n` cells of cordon c receives for a mode (R56, R128, R131, R134, R207, R209, R225). -/
def cellSp (s : State) (c n : Nat) (m : CellMode) (iSet : Int) (vSet vMax : Nat) : SetPoints :=
  let e := (s.cordon c).e
  let k := max n 1
  let lim := cordonINeg s c
  let inreg := if e.role = .source ∧ s.hw.variant ≠ .q8 ∧ s.sys.mode ≠ .limp then (s.src (srcOfCordon s c)).vInreg * 10 else 0
  let discharges := decide (e.role = .battery) && decide (m = .caskV ∨ m = .portI ∧ iSet < 0)
  { mode := m, iSet := iSet / (k : Int), vSet := if m = .caskV then underRise s vSet else vSet, vMax := vMax,
    vMin := if e.role = .peer ∧ (s.peerI e.index).role = .consumer then (s.peerI e.index).vC * 9
      else if discharges then max (e.vMin * 10) (cutoffV s c) else max (e.vMin * 10) inreg,
    iPos := if e.role = .source ∨ (e.role = .peer ∧ (m = .caskV ∨ (s.peerI e.index).role = .consumer)) then 0 else min e.iPos ((s.cordon c).maintI.getD e.iPos) * 10 / k, iNeg := (if m = .caskV then underTenAmps s c lim.1 else lim.1) * 10 / k, pLim := lim.2 * 25 / k,
    slew := e.slew, droop := e.droop, vEngage := e.vEngage * 10,
    iTarget := e.iTarget * 10 / k, vRegen := vCaskRegen (boardImage s) * 10, share := shareFor s c,
    iAc := if e.role = .battery ∧ m = .portI ∧ (s.bat e.index).run.running = true then (s.bat e.index).run.acOn / k else 0,
    fAc := (s.bat e.index).run.acHz / 10, engage := false, give := false }
/-- A discharge asked of a port below 20 V: PORT_I toward the cask, or CASK_V with a port-to-cask limit. The cell refuses the set
point (R48). -/
def refusedLow (c : Cell) (p : SetPoints) : Bool :=
  decide ((p.mode = .portI ∧ p.iSet < 0) ∨ (p.mode = .caskV ∧ p.iNeg ≠ 0)) && c.valid && decide (c.vPort < 2000)
/-- A mode in which the switches run. -/
def runs (m : CellMode) : Bool := decide (m ≠ .off ∧ m ≠ .standby)
/-- What a cell does with set points it accepts (R46, R48, R53, R61, Table 2-8): READY starts, RUN and STANDBY follow the
mode, a tripped cell keeps them for its return (R62), and a READY cell that a protection holds waits as a tripped one; every other
state takes none. -/
def takeSp (p : SetPoints) (c : Cell) : Cell :=
  if !c.link.trained then c
  else if refusedLow c p then { c with limitReason := 4 }
  else
    let held : Cell := { c with state := .tripped, sp := p, mode := .off, runBefore := runs p.mode, engaged := false, engagedBySet := false,
                                absorbing := false }
    match c.state with
    | .ready | .standby | .run =>
      if c.latched ≠ [] ∧ p.mode ≠ .off then held
      else
        let st := match p.mode with
          | .off => CellState.ready
          | .standby => CellState.standby
          | _ => CellState.run
        { c with state := st, mode := if c.absorbing ∧ p.mode ≠ .off then .caskV else p.mode, sp := p,
                 absorbing := if p.mode = .off then false else c.absorbing,
                 engaged := if p.mode = .caskV then c.engaged else false,
                 engagedBySet := if p.mode = .caskV then c.engagedBySet else false }
    | .tripped => held
    | _ => c
/-- The part of a set that a cell engaged under R135 takes at a commit tick: limits only (R136). -/
def limitsOnly (p : SetPoints) (c : Cell) : Cell :=
  { c with sp := { c.sp with vMax := p.vMax, vMin := p.vMin, iPos := p.iPos, iNeg := p.iNeg, pLim := p.pLim,
                             slew := p.slew, droop := p.droop, vRegen := p.vRegen, share := p.share } }
/-- A set taken at a commit tick; after a gate-drive lockout only a new SET starts the cell (R41). -/
def takeCommitted (p : SetPoints) (c : Cell) : Cell :=
  if c.engaged then limitsOnly p c else if Trip.uvlo ∈ c.latched then c else takeSp p c
/-- The cells that interleave in cordon c: those that switch, and before any does, those that could (Table 3-10, "phases set"). -/
def phaseCells (s : State) (c : Nat) : List Nat :=
  if activeCells s c = [] then
    (maskList (s.cordon c).e.cells).filter (fun n =>
      let x := s.cell n
      !(decide (x.state = .failed)) && !x.removed && !x.withdrawn)
  else activeCells s c
/-- Interleave positions of a cordon's cells in ascending order (R55); a spare has the phase of the cell it replaces (R72), and a
cell that is not active has none. -/
def rephase (c : Nat) (s : State) : State :=
  let act := (phaseCells s c).map (fun n => (if (s.cell n).replaces = 0 then n else (s.cell n).replaces, n))
  let own := (maskList (s.cordon c).e.cells).filter (fun m => act.any (fun a => decide (a.1 = m)))
  let s := s.modCells (seven.filter (fun n => decide (servedCordon s n = c))) (fun _ x => { x with phaseK := 0, phaseN := 0 })
  let s := act.foldl (fun t a => t.modCell a.2 (fun x =>
    { x with phaseK := own.findIdx (fun m => decide (m = a.1)), phaseN := act.length })) s
  s.modCordon c (fun k => { k with rephase := false })
/-- Cells of cordon c that are out of service and not replaced: removed, FAILED or holding a latching trip. -/
def lostCells (s : State) (c : Nat) : List Nat :=
  (maskList (s.cordon c).e.cells).filter (fun n =>
    let x := s.cell n
    (decide (x.state = .failed) || x.removed || x.latched.any tripLatching) &&
      !(decide ((s.cordon c).replaced = n)))
/-- Cells of cordon c that its spare may replace (R72): those lost, and those withdrawn. -/
def coverable (s : State) (c : Nat) : List Nat :=
  lostCells s c ++ (maskList (s.cordon c).e.cells).filter (fun n => (s.cell n).withdrawn && !(decide ((s.cordon c).replaced = n)))
/-- A spare that can take over for cordon c: strapped to it, in READY with nothing latched, and free. -/
def freeSpare (s : State) (c : Nat) : Nat :=
  let n := spareCell s c
  let x := s.cell n
  if n ≠ 0 ∧ x.state = .ready ∧ x.replaces = 0 ∧ x.withdrawn = false ∧ x.link.trained = true ∧ x.latched = [] ∧
    (s.cordon c).replaced = 0 then n else 0
/-- The spare n takes cell m's share and phase (R72, R73). The time of CEL_SPARE.DURATION is a free value. -/
def takeover (c n m : Nat) (s : State) : State :=
  let d := freeNat 16 s
  let x := s.cell m
  let md := (s.cordon c).mode
  let s := d.2.modCell n (fun y =>
    { y with replaces := m, sp := x.sp, mode := md, phaseK := x.phaseK, phaseN := x.phaseN,
             state := if md = .standby then .standby else if md = .off then .ready else .run,
             engaged := x.engaged, engagedBySet := x.engagedBySet })
  let s := s.modCordon c (fun k => { k with replaced := m })
  { s with cel := { s.cel with count := satInc 255 s.cel.count, spare := n, replaced := m, duration := d.1 } }
/-- A free spare takes the share of the first cell of cordon c that needs it. -/
def coverLost (c : Nat) (s : State) : State :=
  match coverable s c with
  | [] => s
  | m :: _ => if freeSpare s c = 0 then s else takeover c (freeSpare s c) m s
/-- Commit a mode to a cordon: every available cell receives its share, and the cordon follows Table 3-10. A STOPPED
or absent cordon, and roles OFF and SPARE, take nothing; neither does any cordon while SHIP entry or the long-press
sequence runs (Tables 7-6 and 7-8). -/
def driveCordon (c : Nat) (m : CellMode) (iSet : Int) (vSet vMax : Nat) (s : State) : State :=
  let k := s.cordon c
  if k.state = .absent ∨ k.state = .stopped ∨ k.e.role = .off ∨ k.e.role = .spare ∨ s.eis.shipRun = true ∨ s.eis.btn.longRun = true then s
  else
    let s := if m = .off then s else coverLost c s
    let k := s.cordon c
    let cells := seven.filter (fun n =>
      (k.e.cells.getLsbD (n - 1) && !(s.cell n).withdrawn && !(s.cell n).removed && decide (k.replaced ≠ n)) ||
        (decide ((s.cell n).replaces ≠ 0) && k.e.cells.getLsbD ((s.cell n).replaces - 1)))
    let able := cells.filter (fun n => (s.cell n).link.trained && decide ((s.cell n).latched = []) && decide ((s.cell n).state = .ready ∨ (s.cell n).state = .standby ∨
      (s.cell n).state = .run))
    let sp := cellSp s c able.length m iSet vSet vMax
    let s1 := s.modCells cells (fun _ x => takeCommitted sp x)
    let st := match m with
      | .off => CordonState.idle
      | .standby => if lostCells s c = [] then CordonState.standby else CordonState.degraded
      | _ => if lostCells s c = [] then CordonState.run else CordonState.degraded
    rephase c (s1.modCordon c (fun k => { k with state := st, mode := m, iSet := iSet, vCmd := vSet, vMaxCmd := vMax,
                                                 vMinCmd := k.e.vMin * 10 }))

/-! ### Battery switches that may settle (R176–R178) -/

/-- No hold cause of Table 7-1 holds the switch open. -/
def batFree (b : Bat) : Bool := !(b.holdStaging || b.holdShip || b.holdCmd || b.holdStop)
/-- The string is not reversed, and has not been for 1 s (R176). -/
def polarityOk (s : State) (b : Bat) : Bool := !b.reversed && (decide (b.revOkAt = 0) || decide (b.revOkAt + oneSec ≤ s.now))
/-- An open switch that nothing holds begins to settle, its cells at zero current and switches off (Table 7-2). -/
def settleStart (i : Nat) (s : State) : State :=
  let b := s.bat i
  if batUsed s i ∧ b.sw = .open_ ∧ batFree b ∧ b.retry = false ∧ polarityOk s b ∧ (s.cordon (batCordon s i)).state ≠ .stopped then
    (driveCordon (batCordon s i) .off 0 0 0 s).modBat i (fun b => { b with sw := .settle, settleAt := s.now })
  else s

/-! ### Losing and returning cells (R72–R74, R86, R96) -/

/-- Put a cordon into STOPPED (Table 3-10): every cell off, a BATTERY string's switch opened and held, the qualification window
of its source path closed (Table 5-3). -/
def stopCordon (c reason : Nat) (s : State) : State :=
  let k := s.cordon c
  if k.state = .absent ∨ k.state = .stopped then s
  else
    let cells := seven.filter (fun n => k.e.cells.getLsbD (n - 1) ||
      (decide ((s.cell n).replaces ≠ 0) && k.e.cells.getLsbD ((s.cell n).replaces - 1)))
    let s := s.modCells cells (fun _ x =>
      { x with state := if switching x then .ready else x.state, mode := .off, engaged := false, absorbing := false,
               replaces := 0 })
    let s := s.modCordon c (fun k => { k with state := .stopped, stops := satInc 255 k.stops, stopReason := reason,
                                              mode := .off, iSet := 0, replaced := 0, rephase := false })
    let s := s.modSrc (srcOfCordon s c) (fun x => if x.state = .qualifying then { x with state := .invalid } else x)
    if k.e.role = .battery then s.modBat k.e.index (fun b => { b with holdStop := true, sw := .open_, retry := false }) else s
/-- Every cell of cordon c is FAILED, and no spare carries a share of it (Table 3-10). -/
def allFailed (s : State) (c : Nat) : Bool :=
  (maskList (s.cordon c).e.cells).all (fun n => decide ((s.cell n).state = .failed)) && decide ((s.cordon c).replaced = 0)
/-- Cell m has left its cordon by a fault of R86 or by removal: its spare takes over, or the cordon is DEGRADED; a
cordon whose cells are all FAILED stops. -/
def loseCell (m : Nat) (s : State) : State :=
  let own := (s.cell m).cordon
  let c := servedCordon s m
  let k := s.cordon c
  let live := decide (k.state = .run ∨ k.state = .standby ∨ k.state = .degraded)
  if c = 0 then s
  else if own ≠ c then
    -- the spare itself: the cell it replaced is uncovered again
    let s := s.modCell m (fun x => { x with replaces := 0 })
    if k.replaced = 0 then s
    else
      let back := k.replaced
      let s := s.modCordon c (fun k => { k with replaced := 0, rephase := true })
      if live && allFailed s c then stopCordon c 3 s
      else if live && decide (back ∈ lostCells s c) then s.modCordon c (fun k => { k with state := .degraded }) else s
  else if live then
    if allFailed s c then stopCordon c 3 s
    else if k.replaced = m then s
    else if freeSpare s c ≠ 0 then takeover c (freeSpare s c) m s
    else s.modCordon c (fun k => { k with state := .degraded, rephase := true })
  else s
/-- A spare that is no longer needed: back to READY, free (R74). -/
def freed (x : Cell) : Cell :=
  { x with replaces := 0, state := if switching x then .ready else x.state, mode := .off, engaged := false,
           absorbing := false }
/-- The share that cell m takes back: that of the spare that carried it, else its part of the cordon's present command (R56). -/
def shareBack (s : State) (c m : Nat) (x : Cell) : Cell :=
  let k := s.cordon c
  match seven.find? (fun j => decide ((s.cell j).replaces = m)) with
  | some j =>
    let y := s.cell j
    { x with state := y.state, mode := y.mode, sp := y.sp, phaseK := y.phaseK, phaseN := y.phaseN, engaged := y.engaged,
             engagedBySet := y.engagedBySet }
  | none =>
    { x with state := if k.mode = .standby then .standby else .run, mode := k.mode,
             sp := cellSp s c ((activeCells s c).length + 1) k.mode k.iSet k.vCmd k.vMaxCmd }
/-- Cell m serves its cordon again (R74): it takes its share and phase back from the spare, which returns to READY and may relieve
another lost cell; a DEGRADED cordon with nothing left to replace returns to RUN or STANDBY. A withdrawn cell waits for its RETURN,
and one that a protection holds does not switch. A spare that is free again relieves a lost cell of its host. -/
def returnToCordon (m : Nat) (s : State) : State :=
  let own := (s.cell m).cordon
  let c := servedCordon s m
  let k := s.cordon c
  if c = 0 ∨ k.state = .absent ∨ k.state = .stopped ∨ (s.cell m).withdrawn = true ∨ (s.cell m).latched ≠ [] then s
  else if own ≠ c then
    if (k.state = .run ∨ k.state = .standby ∨ k.state = .degraded) then
      let s := coverLost c s
      if (s.cordon c).state = .degraded ∧ lostCells s c = [] then
        s.modCordon c (fun k => { k with state := if k.mode = .standby then .standby else .run })
      else s
    else s
  else
    let s := s.modCell m (fun x => if x.state = .ready ∧ k.mode ≠ .off then shareBack s c m x else x)
    let s := if k.replaced = m then
        coverLost c ((s.modCells seven (fun _ x => if x.replaces = m then freed x else x)).modCordon c (fun k => { k with replaced := 0 }))
      else s.modCordon c (fun k => { k with rephase := true })
    if (s.cordon c).state = .degraded ∧ lostCells s c = [] then
      s.modCordon c (fun k => { k with state := if k.mode = .standby then .standby else .run, rephase := true })
    else s
/-- The other active cells of its cordon can carry cell m's share within their continuous ratings at the cordon's present power. -/
def canCarry (s : State) (m : Nat) : Bool :=
  let c := servedCordon s m
  let others := (activeCells s c).filter (fun n => decide (n ≠ m))
  decide ((cordonP s c).natAbs * 100 ≤ others.length * min (cordonV s c * 400) 3000000 ∧ (others ≠ [] ∨ cordonP s c = 0))
/-- Which cells would carry cell m's share (R70, R74): a free spare, or the cordon's other active cells. -/
def canRelieve (s : State) (m : Nat) : Bool :=
  let c := servedCordon s m
  !(switching (s.cell m)) || decide (freeSpare s c ≠ 0) ||
    (canCarry s m && decide ((activeCells s c).filter (fun n => decide (n ≠ m)) ≠ []))

/-! ### The fault collector (R385–R395) -/

/-- ALIVE stops for a reason of FLT_ALIVE.STOP_REASON, holding its level (R397). -/
def aliveStop (reason : Nat) (s : State) : State :=
  if s.flt.alive then
    { s with flt := { s.flt with alive := false, aliveStop := reason, aliveStops := satInc 65535 s.flt.aliveStops } }
  else s
/-- The main image runs, from its READY to the next LIMP cause (R388). -/
def mainReady (s : State) : Bool := s.sys.mainRuns && !s.sys.awaitReady && decide (s.sys.mode ≠ .limp)
/-- FLT_EVENT word. -/
def eventWord (cls action seq arg n : Nat) : Word :=
  pack [(31, 1, 1), (28, 3, cls), (25, 3, action), (16, 8, seq), (8, 8, arg), (0, 8, n)]
/-- NC-40 source code of a group (Table 14-7). -/
def compatSource (g : Nat) : Nat :=
  if g = 0 then 4 else if g ≤ 7 then 1 else if g = 8 then 3 else if g ≤ 12 then 2 else if g = 13 then 6 else 5
/-- FLT_COMPAT message (Table 14-7). -/
def compatWord (n kind : Nat) (addr : Word) : Word :=
  pack [(24, 8, compatSource (n / 16)), (20, 4, kind), (16, 4, field addr 29 3), (12, 4, field addr 25 4),
        (7, 5, field addr 20 5), (1, 6, field addr 14 6), (0, 1, (decide (field addr 8 6 ≠ 63)).toNat)]
/-- KIND of a compatibility message for a latch. -/
def compatKind (n cls : Nat) : Nat :=
  if n % 16 = 15 then 4 else if cls ≤ 1 then 1 else if cls = 2 then 2 else 3
/-- Put an event and its message into the two queues of 16; a full queue drops the new entry (R390). -/
def pushEvent (w cm : Word) (addr : Word) (s : State) : State :=
  let f := s.flt
  let full := decide (16 ≤ f.evq.length)
  let cfull := decide (16 ≤ f.cmq.length)
  { s with flt := { f with evq := if full then f.evq else f.evq ++ [{ word := w, addr := addr }],
                           evOvf := f.evOvf || full, evSeq := f.evSeq + 1,
                           cmq := if cfull then f.cmq else f.cmq ++ [cm], cmOvf := f.cmOvf || cfull } }
/-- Cordon affected by a source (Table 14-6); `arg` is its argument. 0: none. -/
def affectedCordon (s : State) (n arg : Nat) : Nat :=
  if n = 137 ∨ n = 138 then arg
  else if 16 ≤ n ∧ n < 128 ∧ n % 16 ≠ 11 then servedCordon s (n / 16)
  else if 144 ≤ n ∧ n < 208 ∧ n % 16 ≤ 11 then batCordon s (n / 16 - 8)
  else 0
/-- Latch a source that has become active: pending bit, count, event, message, record, and a C2 window (R387–R394).
A source whose group's window is open is lost (R389); a level source already live does not latch again (R468). -/
def collect (n arg : Nat) (addr : Word) (s : State) : State :=
  let f := s.fsrc n
  let g := n / 16
  let cls := srcClass s n
  let s := if isLevel n then s.modFsrc n (fun x => { x with live := true }) else s
  if (isLevel n && f.live) || f.wire then s
  else if winOpen s g then { s with flt := { s.flt with masked := putBit s.flt.masked g true } }
  else
    let opens := decide (cls = 2) && mainReady s
    let action := if n % 16 = 15 then 6
      else if cls = 0 then 0 else if cls = 1 then 1 else if cls = 2 then (if opens then 2 else 1)
      else if cls = 3 then 4 else (if affectedCordon s n arg = 0 then 4 else 5)
    let w := eventWord cls action s.flt.evSeq.toNat arg n
    let rec_ := match f.recordAt with | none => true | some t => !within s oneSec t
    let s := pushEvent w (compatWord n (compatKind n cls) addr) addr s
    let s := s.modFsrc n (fun x => { x with pend := true, count := satInc 255 x.count, latchedAt := some s.now, addr := addr,
                                            recordAt := if rec_ then some s.now else x.recordAt })
    let s := if opens then
        { s with flt := { s.flt with win := bankPut s.flt.win (g + 1) (some { source := n, end_ := s.now + 1000 * s.flt.c2win }) } }
      else s
    if rec_ then queueRecord 4 n arg addr w false false s else s
/-- A level source whose condition has ended. -/
def lower (n : Nat) (s : State) : State := s.modFsrc n (fun x => { x with live := false })

/-! ### Core reset (R118, R433, Table 16-19) -/

/-- The cores are held in reset: the registers of Table 16-19 and the watchdog in RESET. -/
def coreHold (s : State) : State :=
  let s := { s with
    upset := false, sys := { s.sys with mainRuns := false, awaitReady := false, mainVintage := 0 },
    wdg := { s.wdg with state := .reset, answer := none, period := 16384, newPeriod := none, wake := false, lock := false },
    spi := { s.spi with privIgn := s.spi.privIgn, unknown := false, late := false, denied := false, crcErr := false,
                        frameErr := false, discarded := 0, crcCount := 0, deniedCount := 0, frames := 0, authPtr := 0,
                        next := { status := 0x30 }, loaded := {} },
    cry := { s.cry with mode := .none, fin := false, aad := 0, lastBytes := 4, stream := [], out := [], ctx := [], ptr := 0, buf := [],
                        slot0 := if s.cry.slot0 = 5 then 0 else s.cry.slot0,
                        slot1 := if s.cry.slot1 = 5 then 0 else s.cry.slot1 } }
  s.modAgent .mainImage (fun _ => {})
/-- A core reset: its cause and count, and one record of kind RESET. Table 4-9 has no code for LIMP causes 2, 4 and 5: their reset is
counted and leaves CORE as it is (DESIGN CHOICE, log entry 69). -/
def coreReset (code : Nat) (addr : Word) (s : State) : State :=
  let c := if code = 0 then s.sys.coreCause else code
  let s := coreHold { s with sys := { s.sys with coreCause := c, coreCount := satInc 255 s.sys.coreCount } }
  queueRecord 3 0 0 addr (pack [(0, 8, c)]) false false s
/-- The code of Table 4-9 for a LIMP cause of R106; 0 where the table has none. -/
def coreCodeOf (cause source : Nat) : Nat :=
  match cause with
  | 1 => 1
  | 3 => if source = 0 then 4 else 5
  | 6 => 2
  | 7 => 6
  | 8 => 7
  | _ => 0

/-! ### What a LIMP cause does to each block -/

/-- A session ends without its own command: RESULT 9; the lockout and FAILS stay (R300). -/
def endSession9 (x : Session) : Session :=
  if x.state = .none then x
  else { x with state := .none, result := 9, waitCrypto := false, lease := 0,
                until_ := if x.state = .lockedOut then x.until_ else 0 }
/-- A frame of the configuration wire (Table 8-4), in the order of its bytes: type below the sequence number, and the CRC-16 low byte
first (log entry 80). -/
def peerFrame (typ seq : Nat) (payload : List Byte) : List Byte :=
  let body := [BitVec.ofNat 8 (typ + 16 * seq), BitVec.ofNat 8 payload.length] ++ payload
  [0xFF, 0x2D] ++ body ++ le 2 (crc16 body)
/-- A message that expects no reply leaves under the next sequence number. -/
def tell (typ : Nat) (payload : List Byte) (p : Peer) : Peer :=
  { p with sent := peerFrame typ p.seq payload, seq := (p.seq + 1) % 16, aborted := [], resendAt := none }
/-- A message that expects a reply leaves. -/
def say (typ : Nat) (payload : List Byte) (p : Peer) : Peer :=
  { tell typ payload p with waits := some { typ := typ, seq := p.seq, sends := 1, frame := peerFrame typ p.seq payload } }
/-- A peer port ends its contract (R228, R231): END goes out and waits for its ACK. -/
def peerEndWith (reason : Nat) (next : PeerState) (p : Peer) : Peer :=
  if p.state = .contract ∨ p.state = .swap then
    { say 6 (le 1 reason) p with
      state := next, lastEnd := reason, role := .none, swapTerms := false, test := false, testImport := false,
      balFails := 0, pulse := false, fromBalance := decide (reason = 6) }
  else p
/-- An impedance run aborts (Table 7-4). -/
def runAbort (now reason : Nat) (r : EisRun) : EisRun :=
  if r.running then
    { r with running := false, abort := reason, repeating := false, due := if r.kind = 1 then some now else r.due,
             retryAt := if r.kind = 1 then now + 3600000000 else r.retryAt }
  else r
/-- A suspension reason of Table 6-7 begins outside an evaluation: the first reason marks the instant and the book (R163), and no charge
is granted or demanded. -/
def addSusp (k now : Nat) (net : Int) (g : Chg) : Chg :=
  if g.phase = .none then g
  else { g with susp := putBit g.susp k true, suspAt := if g.susp = 0 then now else g.suspAt, suspNet := if g.susp = 0 then net else g.suspNet,
                pulse := false, grant := 0, demand := 0 }
/-- What a LIMP cause does to the supervision of a string: its run aborts, a pulse or probe is abandoned, and the book
stops counting (R186, R200); a settle under way is given up, since LIMP closes no switch but those of the end of
STAGING (R177). -/
def batLimp (now : Nat) (fromLimp : Bool) (b : Bat) : Bat :=
  { b with sw := if b.sw = .settle ∧ fromLimp = false then .open_ else b.sw, run := runAbort now 7 b.run, probing := false, miss := if b.miss = .confirmed then .confirmed else .none,
           book := { b.book with counting := false, lastAt := if fromLimp then b.book.lastAt else now } }
/-- Results without their VALID tag (R256). -/
def noResult : AdcResult := {}
/-- The converters stop (R256). -/
def adcStop (a : AdcBlock) : AdcBlock :=
  { a with conv := a.conv.map (fun c => { c with res := noResult, unread := false, held := none, displaced := none,
                                                 slots := c.slots.map (fun x => { x with res := noResult, left := 0 }) }),
           settled := 0, calState := 5, out := 7, rot := {}, runs := false, due := false,
           byS := maskOf 4 (fun x => a.byS.getLsbD (x - 1) && a.failed.getLsbD (x - 1)),
           diagState := if a.diagState = 1 then 3 else a.diagState,
           cmd := if a.cmd.result = 1 then cmdAnswer a.cmd 0 else a.cmd }
/-- A Trellis port goes out of service: its termination is out (R306), frames in its buffers are lost, and with them what the port heard (R325). -/
def portOff (now : Nat) (p : Port) : Port :=
  { p with state := .off, term := false, longAt := none, census := [], hasPeer := false, queue := [], backoff := false,
           modUsed := 0, openUsed := 0, owed := 0, held := 0, changedAt := now }
/-- The pass-through switch closes and both ports are OFF (R324, Table 12-6). -/
def trlOff (now : Nat) (t : Trl) : Trl :=
  { t with portA := portOff now t.portA, portB := portOff now t.portB, passThrough := true, learn := [],
           sess := endSession9 t.sess }
/-- The pass-through switch opens and in the same instant both terminations go in: the ports are in service (R306, R324, Table 12-5). -/
def trlOn (now : Nat) (t : Trl) : Trl :=
  if t.passThrough then
    { t with portA := { t.portA with state := .alone, term := true, held := 0, changedAt := now },
             portB := { t.portB with state := .alone, term := true, held := 0, changedAt := now }, passThrough := false }
  else t
/-- The staged bank empties (Table 10-1, R272): a set whose commit-go has left keeps its place and applies at k. -/
def stgLimp (x : Stg) : Stg :=
  if x.state = .empty ∨ (x.state = .armed ∧ x.goSent) then x
  else { x with state := .empty, owner := none, overrun := false, at_ := false, after := .stay, goSent := false,
                cmd := cmdAnswer x.cmd 10, bySeq := false }

/-! ### Leaving SERVICE (R116, R117) -/

/-- A TEST that waits for its ACK is given up with its command. -/
def testWaits (p : Peer) : Bool := match p.waits with | some w => decide (w.typ = 8) | none => false
/-- What ending SERVICE aborts: deep runs, peer export tests under way or awaiting their ACK, and a test DAC diagnosis. A microcode
transfer whose erase has begun runs on. -/
def serviceEnds (s : State) : State :=
  { s with
    eis := { s.eis with bat := s.eis.bat.map (fun b => { b with run := if b.run.kind = 3 then runAbort s.now 8 b.run else b.run }) },
    ppt := { s.ppt with peer := s.ppt.peer.map (fun p => { p with test := p.test && p.testImport,
                                                                  waits := if testWaits p then none else p.waits }),
                        cmd := if s.ppt.peer.toList.any testWaits ∧ s.ppt.cmd.result = 1 then cmdAnswer s.ppt.cmd 2 else s.ppt.cmd },
    adc := { s.adc with diagState := if s.adc.diagState = 1 then 3 else s.adc.diagState,
                        cmd := if s.adc.diagState = 1 then cmdAnswer s.adc.cmd 0 else s.adc.cmd },
    flt := { s.flt with force := none } }

/-! ### The LIMP set (R107, R109, Table 4-6) -/

/-- Chemistry and cell count of a string, from the copy's profile block. -/
def limpFloat (im : Image) (b : Nat) : Nat := (profile im b).cells * (profile im b).vMaint / 10
/-- Maintenance current of a string in LIMP, 10 mA: min(0.01 C, I_POS). -/
def limpMaintI (im : Image) (b iPos : Nat) : Nat := min ((profile im b).cap / 10) iPos
/-- Any cell of the cordon is engaged. -/
def cordonEngaged (s : State) (c : Nat) : Bool := seven.any (fun n => (s.cell n).engaged && decide (servedCordon s n = c))
/-- A source feeds in LIMP: an admitted SOURCE cordon or the gate. -/
def limpFed (s : State) : Bool := decide (s.limp.src ≠ 0) || s.limp.gate
/-- Set one cordon as Table 4-6 says. -/
def limpCordon (im : Image) (c : Nat) (s : State) : State :=
  let k := s.cordon c
  let e := entryOf im c
  let vSet := vCaskSet im * 10
  let s := s.modCordon c (fun k => { k with e := if k.state = .absent then k.e else { e with role := k.e.role }, maintI := none })
  match k.e.role with
  | .source =>
    if s.limp.src.getLsbD (c - 1) then driveCordon c .caskV 0 vSet (e.vMax * 10) s
    else if k.state = .idle then s else driveCordon c .off 0 0 0 s
  | .battery =>
    let b := k.e.index
    if (s.bat b).sw ≠ .closed then (if k.state = .idle then s else driveCordon c .off 0 0 0 s)
    else if cordonEngaged s c then
      let s := { s with limp := { s.limp with disch := putBit s.limp.disch (b - 1) true, dischSeen := putBit s.limp.dischSeen (b - 1) true } }
      let p := cellSp s c (activeCells s c).length .caskV 0 vSet (e.vMax * 10)
      s.modCells (seven.filter (fun n => decide (servedCordon s n = c))) (fun _ x =>
        if x.engaged then { limitsOnly p x with sp := { (limitsOnly p x).sp with vSet := p.vSet, mode := .caskV } } else x)
    else if limpFed s ∧ ((profile im b).chem = 1 ∨ (profile im b).chem = 2) then
      let s := { s with limp := { s.limp with maint := putBit s.limp.maint (b - 1) true } }
      driveCordon c .portV 0 (limpFloat im b) (limpFloat im b) (s.modCordon c (fun k => { k with maintI := some (limpMaintI im b e.iPos) }))
    else driveCordon c .standby 0 0 (e.vMax * 10) s
  | .system => if k.state = .idle ∧ s.sys.prev ≠ .staging then s else driveCordon c .portV 0 (e.vSet * 10) (e.vMax * 10) s
  | .peer => if k.state = .idle then s else driveCordon c .off 0 0 0 s
  | _ => s
/-- The LIMP set over every cordon, from the fixed part of the last good copy; without a usable copy every cell is
switched off and the source gate opened (R112). -/
def limpSet (s : State) : State :=
  match (if s.limp.power then lastGood s else none) with
  | none =>
    let s := s.modCells seven (fun _ x => { x with state := if switching x then .ready else x.state, mode := .off, engaged := false,
                                                   absorbing := false, replaces := 0 })
    { s with cordons := s.cordons.map (fun k => { k with state := if k.state = .absent ∨ k.state = .stopped then k.state else .idle,
                                                         mode := .off, iSet := 0, replaced := 0 }),
             pwr := { s.pwr with gate := { s.pwr.gate with closed := false, surge := false, ramp := none }, path := .unfed, rise := none },
             limp := { s.limp with src := 0, gate := false, maint := 0, disch := 0 } }
  | some im =>
    let s := { s with limp := { s.limp with maint := 0, disch := 0 } }
    let s := if s.limp.gate && !s.pwr.gate.surge then gateFollows s else gateOpens s
    seven.foldl (fun t c => limpCordon im c t) s
/-- Which sources LIMP takes over: SOURCE cordons whose path is usable; the gate while it was closed and no SOURCE
cordon is admitted (R109, R111). -/
def limpAdmit (s : State) : State :=
  let src : BitVec 7 := maskOf 7 (fun n =>
    decide ((s.cordon n).e.role = .source) && decide (srcOfCordon s n ≠ 0) && usableState (s.src (srcOfCordon s n)).state)
  let gateUsable := eight.any (fun i => decide ((s.src i).ref = 0) && usableState (s.src i).state)
  let held := s.pwr.gate.closed || s.pwr.gate.surge || (decide (s.sys.mode = .staging) && gateUsable)
  { s with limp := { s.limp with src := src, gate := decide (src = 0) && held, dischSeen := 0 } }

/-! ### The banks and the main image (R105, R344, R350) -/

/-- `n` bytes of bank b from offset o. -/
def flashBytes (s : State) (b o n : Nat) : List Byte := memReadList ff (s.bank b) o n
/-- Little-endian number in bank b. -/
def flashNum (s : State) (b o n : Nat) : Nat := ofLe (flashBytes s b o n)
/-- Vintage of the main image in bank b. -/
def mainVin (s : State) (b : Nat) : Nat := flashNum s b 4 2
/-- The main image in bank b accepts a structure vintage. -/
def mainTakesStr (s : State) (b v : Nat) : Bool := decide (flashNum s b 10 2 ≤ v ∧ v ≤ flashNum s b 12 2)
/-- The main image of the active bank and a structure image accept each other (pairs 2 and 3). -/
def pairStr (s : State) (im : Image) : Bool :=
  mainTakesStr s s.fls.active (imVintage im) &&
    decide (imMainLo im ≤ mainVin s s.fls.active ∧ mainVin s s.fls.active ≤ imMainHi im)

/-! ### An image comes into use (R91, R92, R266) -/

/-- The values of PWR_CHK_T to PWR_CHK_D and PPT_REGEN_CHK of an image (R142–R144, R212); all 0 without a BATTERY cordon. -/
def applyChecks (im : Image) (s : State) : State :=
  if entriesOf im .battery = [] then
    { s with pwr := { s.pwr with tDone := 0, pCap := 0, eGap := 0, eRes := 0, pCo := 0 },
             ppt := { s.ppt with regen := { s.ppt.regen with pAbs := 0, dvSurge := 0 } } }
  else
    { s with
      pwr := { s.pwr with tDone := sat 16 (fCeil (fMul (tDone im) (1, 10))), pCap := sat 16 (pCapMw im / 25000),
                          eGap := fCeil (fMul (eGap im) (1, 100000000)), eRes := eRes im / 1000000000000,
                          pCo := sat 16 (fCeil (fMul (pCoMw im) (1, 25000))) },
      ppt := { s.ppt with regen := { s.ppt.regen with pAbs := absorbMw im / 25000, dvSurge := sat 16 (ceilDiv (dvSurgeUv im) 1000) } } }
/-- Fault classes of the running image (R84). -/
def applyClasses (s : State) : State :=
  { s with flt := { s.flt with raised := (faultClasses s.str.image).map (fun e => (e.2.1, e.2.2)) } }

/-- A comparator reserved by the module (Table 9-6). -/
def reserved (mode channel hi lo : Nat) (c : Cmp) : Cmp :=
  { c with en := true, module_ := true, mode := mode, filter := 0, channel := channel, hi := hi, lo := lo }
/-- A comparator that the module has released. -/
def released (c : Cmp) : Cmp := if c.module_ then {} else c
/-- Counts of 12 bits of 500 V for a voltage in 0.1 V. -/
def counts12 (v : Nat) : Nat := v * 4096 / 5000
/-- The comparators as the running image reserves them (R121, R213, R248). A fitted gate that the source table does not list has no
thresholds: its comparators are held at the ends of their range. -/
def reserveCmps (im : Image) (v : Vector Cmp 8) : Vector Cmp 8 :=
  let gate := (srcEntries im).find? (fun e => decide (e.ref = 0))
  let level := match gate with | some e => (counts12 e.vMax, ceilDiv (e.vMin * 4096) 5000) | none => (4095, 0)
  let slope := match gate with | some e => counts12 e.dvdt | none => 0
  bankMap v (fun k c =>
    if k = 6 then (if chopperFitted im then reserved 1 15 3686 3645 c else released c)
    else if gateFitted im ∧ k = 7 then reserved 3 31 level.1 level.2 c
    else if gateFitted im ∧ k = 8 then reserved 4 31 0 slope c
    else released c)

/-- The source table entry of an image with the path state that an entry of the same reference had; a path whose type
settings changed keeps its state, one that is new is INVALID. A PEER path has type PEER; on Q2 and Q4 every other path shows its
declared type (R130), on Q8 the type found at its last qualification (R129). -/
def sourceFrom (old : Vector Source 8) (q8 : Bool) (peer : Nat → Bool) (same : Bool) (e : Option SrcE) : Source :=
  match e with
  | none => {}
  | some e =>
    let was := (old.toList.find? (fun (x : Source) => decide (x.state ≠ .absent ∧ x.ref = e.ref))).getD { state := .invalid }
    let ty := if e.ref ≠ 0 ∧ peer e.ref = true then (5, 2) else if q8 then (was.type_, was.origin) else (e.typ, 3)
    { was with ref := e.ref, declared := e.typ, type_ := ty.1, origin := ty.2, tQual := e.tQual, vSrcMin := e.vMin, vSrcMax := e.vMax, dvdt := e.dvdt, vInreg := e.inreg,
               lastDrop := if same then was.lastDrop else none }
/-- The source table of the running image; `same` when the image bytes did not change. -/
def applySources (same : Bool) (s : State) : State :=
  let es := srcEntries s.str.image
  { s with pwr := { s.pwr with src := bankMap s.pwr.src (fun i _ =>
    sourceFrom s.pwr.src (decide (s.hw.variant = .q8)) (fun c => decide (eRole s.str.image c = .peer)) same es[i - 1]?) } }
/-- The limits of every cordon in use, as trimmed, the self-test interval of every cell, and the port overvoltage threshold of every
cell that an entry names (a spare has its host's). -/
def applyEntries (im : Image) (s : State) : State :=
  let s := { s with cordons := bankMap s.cordons (fun n (k : Cordon) => if k.state = CordonState.absent then k else { k with e := entryOf im n }) }
  s.modCells seven (fun n c => { c with st := { c.st with interval := stInterval im },
                                        vPortOv := if portOf im n = 0 then c.vPortOv else eOv im (portOf im n) * 10 })

/-- The image becomes the running one at a cold start: its cordons in IDLE, its cells placed with their frequency, phase and
thresholds (Table 3-9, step 6), its source table. -/
def installImage (im : Image) (s : State) : State :=
  let s : State := { s with
    str := { s.str with image := im },
    cordons := bankMap s.cordons (fun n _ => if eUsed im n then { e := entryOf im n, state := .idle } else {}) }
  let s := s.modCells seven (fun n c => { c with cordon := entryOfCell im n, freq := if entryOfCell im n = 0 then c.freq else eFreq im (entryOfCell im n) })
  seven.foldl (fun t c => rephase c t) (applyEntries im (applySources true s))
/-- Read, consistency and deadline checks of the last good copy (Table 3-9, steps 2 to 4); an absent copy fails the first. -/
def copyVerdict (s : State) : Verdict :=
  match lastGood s with
  | none => { reason := 1 }
  | some im => thenCheck (readChecks s im im.length) (fun _ => imageChecks s im)
/-- Neither image runs: STRUCT_NONE with the copy's reason, CRD_LOADSTAT, the copy unusable in this power cycle (R91). -/
def refuseCopy (v : Verdict) (s : State) : State :=
  collect 5 v.reason noAddr { s with str := { s.str with reason := v.reason, cordon := v.cordon, offset := v.offset, origin := 1, copyBad := true } }
/-- Steps 2 to 5 of Table 3-9 for one image: read, vintage on both sides, consistency, deadline, board probe. -/
def loadVerdict (s : State) (im : Image) : ProbeResult :=
  let v := readChecks s im im.length
  let v := if v.reason = 0 ∧ s.sys.mainVintage ≠ 0 ∧ pairStr s im = false then { reason := 5, cordon := 0, offset := 6 } else v
  let v := thenCheck v (fun _ => imageChecks s im)
  if v.reason = 0 then boardProbe (cellCount s.hw.variant) im s.str.probe else { v := v }
/-- CRD_STRAP and CRD_LOADSTAT of a load. -/
def putLoad (v : Verdict) (origin : Nat) (p : ProbeResult) (s : State) : State :=
  { s with str := { s.str with reason := v.reason, cordon := v.cordon, offset := v.offset, origin := origin, split := p.split,
                               join := p.join, probed := p.probed } }
/-- An absent image: STR_MAGIC at offset 0. -/
def noImage : ProbeResult := { v := { reason := 1 } }
/-- The last good copy is loaded, after a refusal `v0` of the store or in place of it. CRD_STRAP then shows what the probe of the
copy found, not what that of the refused store image did: the manual does not say which (DESIGN CHOICE, log entry 68). -/
def loadCopy (v0 : Option Verdict) (s : State) : State :=
  let p := match lastGood s with | none => noImage | some im => loadVerdict s im
  let s := putLoad (if p.v.reason = 0 then v0.getD {} else p.v) (if p.v.reason = 0 ∧ v0.isSome then 0 else 1) p s
  if p.v.reason ≠ 0 then refuseCopy p.v s
  else match lastGood s with
    | none => s
    | some im => installImage im { s with str := { s.str with state := 2 } }
/-- A C3 fault in STAGING: the last good copy is loaded for LIMP (Table 4-2), with every step of Table 3-9. -/
def loadForLimp (s : State) : State :=
  if s.sys.mode ≠ .staging ∨ s.str.image ≠ [] ∨ s.str.copyBad then s
  else
    let s := loadCopy none s
    if s.str.image = [] then s
    else
      let s := applyClasses (applyChecks s.str.image s)
      { s with adc := { s.adc with cmps := reserveCmps s.str.image s.adc.cmps } }
/-- The end of STAGING no longer holds the battery switches (Table 7-1). -/
def releaseStaging (s : State) : State :=
  let s : State := { s with eis := { s.eis with bat := s.eis.bat.map (fun b => { b with holdStaging := false }) } }
  four.foldl (fun t i => settleStart i t) s

/-! ### Entry into LIMP (R106–R108) -/

/-- What STAGING leaves when it ends in LIMP: SYS_STAGING, the start record, the battery switches released, and with a usable copy
the cask rise (R111). -/
def limpFromStaging (s : State) : State :=
  let s : State := { s with sys := { s.sys with outcome := if s.limp.power then 2 else 3,
                                                duration := if s.sys.duration = 0 then s.now / 10 else s.sys.duration } }
  let s := releaseStaging (record 1 (stagingWord s) s)
  if s.limp.power then startRise s else s
/-- A LIMP cause: HELD, the command path of the links taken, the LIMP set, and what each block does. The cores are
held in reset at once but for a watchdog expiry, where the hard timer runs first. -/
def limpEntry (cause coreCode : Nat) (addr : Word) (s : State) : State :=
  if s.sys.mode = .ship ∨ s.powered = false then s
  else
    let fromLimp := decide (s.sys.mode = .limp)
    let stay := decide (cause = 1) && fromLimp && decide (s.sys.sub = .locked)
    let starting := decide (s.sys.mode = .staging)
    let s := if fromLimp then s else limpAdmit (loadForLimp s)
    let s := { s with
      limp := { s.limp with power := (lastGood s).isSome, linksHeld := true, stayHeld := stay || (s.limp.stayHeld && decide (s.sys.sub = .held)),
                            since := s.now, warm := 0 },
      sys := { s.sys with reason := cause, entries := s.now :: s.sys.entries.filter (within s tenMin), awaitReady := false,
                          caskHeld := s.sys.caskHeld && (lastGood s).isSome,
                          cmd := if s.sys.cmd.result = 1 then cmdAnswer s.sys.cmd 0 else s.sys.cmd },
      flt := { s.flt with win := Vector.replicate 16 none } }
    let service := decide (s.sys.mode = .service)
    let s := setMode .limp s
    let s := { s with sys := { s.sys with sub := .held } }
    let s := s.modCells seven (fun _ x => { x with contOnly := true })
    let s := aliveStop 2 s
    let s := { s with
      spi := { s.spi with serving := false, next := { status := 0x30 }, loaded := {}, sess := endSession9 s.spi.sess },
      trl := trlOff s.now s.trl, adc := adcStop s.adc, stg := stgLimp s.stg,
      bk := { s.bk with grant := 0, use := 0, transit := 0, state := 0, gate := {}, crd := Vector.replicate 7 {}, drawAt := none,
                        surgeAt := none, trnAt := 0 },
      ppt := { s.ppt with peer := s.ppt.peer.map (peerEndWith 3 .idle) },
      upd := { s.upd with window := none, want := none, offers := [] },
      chg := { s.chg with inst := bankMap s.chg.inst (fun i => addSusp 7 s.now (s.bat i).book.net) },
      eis := { s.eis with bat := s.eis.bat.map (batLimp s.now fromLimp) },
      pwr := { s.pwr with supplement := false, suppPower := 0, suppOk := 0, budget := 0, cut := false, handTo := 0, handSet := false,
                          testEntry := 0, gate := { s.pwr.gate with cut := 0 } } }
    let s := if service then serviceEnds s else s
    let s := limpSet (if starting then limpFromStaging s else s)
    if cause = 1 then s else coreReset coreCode addr s

/-! ### Raising a source (R387, R392) -/

/-- The reaction of a source's class: C3, or C4 without a cordon, is LIMP cause 3; C4 stops the affected cordon. -/
def react (n arg : Nat) (addr : Word) (s : State) : State :=
  match srcClass s n with
  | 3 => limpEntry 3 (coreCodeOf 3 n) addr s
  | 4 =>
    let c := affectedCordon s n arg
    if c = 0 then limpEntry 3 (coreCodeOf 3 n) addr s else stopCordon c 2 (aliveStop 3 s)
  | _ => s
/-- A source becomes active: latched unless lost, and its reaction acts either way (R389). A level source that is
already live, and a source judged inactive for a wire fault, do nothing. -/
def raiseSrc (n arg : Nat) (addr : Word) (s : State) : State :=
  let f := s.fsrc n
  if (isLevel n && f.live) || f.wire then s else react n arg addr (collect n arg addr s)
/-- Raise with the address of a logical fault. -/
def raise (n arg : Nat) (s : State) : State := raiseSrc n arg noAddr s

/-! ### The frame around every command -/

/-- The level sources whose condition the state shows. -/
def derivedLevels : List Nat := sources.filter (fun n => isLevel n && decide (n % 16 ≠ 15 ∧ n ≠ 8 ∧ n ≠ 242))
/-- Raise or lower each level source whose condition began or ended between two states (R468). -/
def edges (old new : State) : State :=
  derivedLevels.foldl (fun t n =>
    let a := levelCond old n
    let b := levelCond new n
    if a = b then t
    else if b then raiseSrc n (sourceArg new n) (sourceAddr new n) t
    else lower n t) new
/-- Every CMDSTAT register of the map (Table 11-9a, bit 7). -/
def cmdStats (s : State) : List CmdStat :=
  [s.cel.cmd, s.str.cmd, s.sys.cmd, s.stg.cmd, s.pwr.cmd, s.chg.cmd, s.eis.cmd, s.ppt.cmd, s.adc.cmd, s.trl.cmd, s.upd.cmd,
   s.cry.cmd, s.flt.cmd, s.clr.cmd, s.lcs.cmd, s.fls.cmd]
/-- A CMDSTAT register once the command under way has ended. -/
def seen (c : CmdStat) : CmdStat := { c with fresh := false }
/-- The results of the command under way have been counted. -/
def seenAll (s : State) : State :=
  { s with cel := { s.cel with cmd := seen s.cel.cmd }, str := { s.str with cmd := seen s.str.cmd },
           sys := { s.sys with cmd := seen s.sys.cmd }, stg := { s.stg with cmd := seen s.stg.cmd },
           pwr := { s.pwr with cmd := seen s.pwr.cmd }, chg := { s.chg with cmd := seen s.chg.cmd },
           eis := { s.eis with cmd := seen s.eis.cmd }, ppt := { s.ppt with cmd := seen s.ppt.cmd },
           adc := { s.adc with cmd := seen s.adc.cmd }, trl := { s.trl with cmd := seen s.trl.cmd },
           upd := { s.upd with cmd := seen s.upd.cmd }, cry := { s.cry with cmd := seen s.cry.cmd },
           flt := { s.flt with cmd := seen s.flt.cmd }, clr := { s.clr with cmd := seen s.clr.cmd },
           lcs := { s.lcs with cmd := seen s.lcs.cmd }, fls := { s.fls with cmd := seen s.fls.cmd } }
/-- The bank is in CHECKING, ARMED or SCHEDULED. -/
def stgBusy (x : StgState) : Bool := decide (x = .checking ∨ x = .armed ∨ x = .scheduled)
/-- The latched bits 9 to 4 of SPI_IRQ that a command sets (Table 11-9a). -/
def latchIrq (old new : State) : State :=
  let b4 := decide ((shownModes old).1 ≠ (shownModes new).1 ∨ old.sys.sub ≠ new.sys.sub)
  let b5 := decide (old.pwr.coCount ≠ new.pwr.coCount) || (new.pwr.caskLow && !old.pwr.caskLow)
  let b6 := stgBusy old.stg.state && !stgBusy new.stg.state
  let b7 := (cmdStats new).any (fun c => c.fresh && decide (c.result ≠ 1))
  let st := new.spi.sess.state
  let b8 := decide (old.spi.sess.state ≠ st ∧ (st = .open_ ∨ st = .none ∨ st = .lockedOut))
  let b9 := (new.spi.frameErr && !old.spi.frameErr) || (new.spi.crcErr && !old.spi.crcErr) ||
    (new.spi.denied && !old.spi.denied) || (new.spi.late && !old.spi.late)
  let m := b4.toNat * 16 + b5.toNat * 32 + b6.toNat * 64 + b7.toNat * 128 + b8.toNat * 256 + b9.toNat * 512
  seenAll { new with spi := { new.spi with irq := new.spi.irq ||| BitVec.ofNat 10 m } }
/-- CARRIED ends in UNFED when no engaged cell switches any more (Table 5-7). -/
def tidyPath (s : State) : State :=
  if s.pwr.path = .carried ∧ (seven.any (fun n => (s.cell n).engaged && switching (s.cell n))) = false then
    { s with pwr := { s.pwr with path := .unfed } }
  else s
/-- A user of the crypto engine holds a context slot (R368). -/
def slotHeld (s : State) (u : Nat) : Bool := decide (s.cry.slot0 = u ∨ s.cry.slot1 = u)
/-- A user has an operation on the datapath or waits for it there (R369). -/
def cryWorks (s : State) (u : Nat) : Bool :=
  slotHeld s u && (match u with
    | 3 => decide (s.spi.sess.state = .verifying)
    | 4 => decide (s.trl.sess.state = .verifying)
    | 5 => s.cry.fin
    | _ => false)
/-- A session that no longer verifies has released its slot, and the datapath serves a user that works. -/
def tidyCrypto (s : State) : State :=
  let keep (u : Nat) : Nat :=
    if (u = 3 ∧ s.spi.sess.state ≠ .verifying) ∨ (u = 4 ∧ s.trl.sess.state ≠ .verifying) then 0 else u
  let s : State := { s with cry := { s.cry with slot0 := keep s.cry.slot0, slot1 := keep s.cry.slot1 } }
  let run : Nat := if cryWorks s s.cry.running then s.cry.running
    else if cryWorks s s.cry.slot0 then s.cry.slot0 else if cryWorks s s.cry.slot1 then s.cry.slot1 else 0
  { s with cry := { s.cry with running := run } }
/-- After a command: level sources that began or ended, those that their reactions began or ended, and the latched
interrupt bits. -/
def settle (old new : State) : State :=
  let new := tidyCrypto (tidyPath new)
  let a := edges old new
  latchIrq old (edges new a)
/-- The frame of a command: it acts only while the logic rail is valid and the module is not in SHIP (R98, Table 4-1). -/
def act (s : State) (f : State → State) : Host.Outcome State Fault Refusal :=
  .next (if s.powered ∧ s.sys.mode ≠ .ship then settle s (f s) else s)

end Sys2Proof.Machine
end

