-- ==== Sys2Proof/Machine/Cellar.lean ====
section
/-! DEFINITION. The Cellar's write controller: records into the circular and the first-fault region, NOTE, the scan of a
cold start, the read buffers of the agents (chapter 15, R401–R411). -/

namespace Sys2Proof.Machine

/-! ### Units -/

/-- First unit of the circular region. -/
def circFirst : Nat := 896
/-- Last unit of the array. -/
def circLast : Nat := 8191
/-- First unit of a life-cycle state's 64 first-fault units. -/
def ffFirst (l : Life) : Nat := 512 + 64 * l.code
/-- The unit's last word reads all ones. -/
def unitUnused (s : State) (u : Nat) : Bool := (clrBytes s (64 * u + 56) 8).all (fun b => decide (b = ff))
/-- The unit holds a complete record (R405). -/
def unitComplete (s : State) (u : Nat) : Bool :=
  decide (clrNum s (64 * u + 60) 4 = doneMark) && decide (crc32 (clrBytes s (64 * u) 56) = BitVec.ofNat 32 (clrNum s (64 * u + 56) 4))
/-- First-fault units of the present state that are not unused (CLR_STAT.FF_USED). -/
def ffUsed (s : State) : Nat := ((List.range 64).filter (fun k => !unitUnused s (ffFirst s.lcs.state + k))).length
/-- The unit after the newest complete record (R407). -/
def nextUnit (s : State) : Nat :=
  if s.clr.head < circFirst ∨ circLast ≤ s.clr.head then circFirst else s.clr.head + 1

/-! ### Writing records (R404–R408) -/

/-- Bytes 0 to 55 of a record (Table 15-2). -/
def recordBody (seq : BitVec 32) (flags : Nat) (r : Record) : List Byte :=
  le 4 seq.toNat ++ le 1 r.kind ++ le 1 r.mode ++ le 1 flags ++ le 1 r.source ++ le 6 r.time ++ le 1 r.arg ++ le 1 0 ++
    wordBytes r.addr ++ wordBytes r.uptime ++ ((List.range 8).flatMap (fun k => wordBytes (r.words.getD k 0)))
/-- The three steps of R405. -/
def unitWrite (u : Nat) (body : List Byte) (s : State) : State :=
  let s := clrPut (64 * u + 56) (le 8 0) s
  let s := clrPut (64 * u) body s
  clrPut (64 * u + 56) (wordBytes (crc32 body) ++ le 4 doneMark) s
/-- Write one record: circular, and for kinds RESET and FAULT also the lowest unused first-fault unit (R407). -/
def writeRecord (r : Record) (s : State) : State :=
  let u := nextUnit s
  let seq := s.clr.nextSeq
  let ffu := if r.kind = 3 ∨ r.kind = 4 then
      ((List.range 64).map (fun k => ffFirst s.lcs.state + k)).find? (unitUnused s) else none
  let flags := r.flags + 8 * ffu.isSome.toNat + 16 * s.clr.lostFlag.toNat
  let body := recordBody seq flags r
  let s := unitWrite u body s
  let s := match ffu with | none => s | some f => unitWrite f body s
  { s with clr := { s.clr with head := u, seq := seq, nextSeq := seq + 1, lostFlag := false } }
/-- Serve the head of the queue. -/
def serveQueue (s : State) : State :=
  match s.clr.queue with
  | [] => s
  | r :: q => writeRecord r { s with clr := { s.clr with queue := q } }
/-- Serve the queue `n` times. -/
def serveMany : Nat → State → State
  | 0, s => s
  | n + 1, s => serveMany n (serveQueue s)
/-- Serve the whole queue. -/
def flushQueue (s : State) : State := serveMany 32 s
/-- CELLAR_RECORD_WRITE (R408). -/
def execCellarRecordWrite (s : State) : Host.Outcome State Fault Refusal :=
  act s serveQueue
/-- CLR_CMD NOTE (R406): the record holds CLR_NOTE0 to CLR_NOTE7. -/
def clrNote (s : State) : State :=
  if 32 ≤ s.clr.queue.length then { s with clr := { s.clr with cmd := cmdRes 1 1 } }
  else
    let r : Record :=
      { kind := 10, mode := s.sys.mode.code + 8 * s.sys.sub.code + 32 * s.lcs.state.code, flags := s.trl.locked.toNat, source := 0,
        time := trlTime s, arg := 0, addr := 0, uptime := uptime s, words := s.clr.notes.toList }
    { s with clr := { s.clr with queue := s.clr.queue ++ [r], cmd := cmdRes 1 0 } }
/-- NOTE. -/
def execNote (s : State) : Host.Outcome State Fault Refusal := act s clrNote
/-- CLR_CMD with a code that Table 15-11 does not list. -/
def clrUnknown (code : Nat) (s : State) : State := { s with clr := { s.clr with cmd := cmdRes code 2 } }

/-! ### Reading -/

/-- Copy a unit into the agent's buffer and set its CLR_SEL; the uncorrectable words met read as 0 and are counted. -/
def clrSelect (a : Agent) (u : Nat) (s : State) : State :=
  let u := u % 8192
  let s := countBad (s.clr.bad.filter (fun w => decide (w / 8 = u))) s
  s.modAgent a (fun r => { r with clrSel := u, clrBuf := Vector.ofFn (fun w : Fin 16 => memWord ff s.clr.mem (64 * u + 4 * w.val)) })
/-- CLR_SEL_WRITE. -/
def execClrSelWrite (by_ : Agent) (data : Word) (s : State) : Host.Outcome State Fault Refusal :=
  act s (clrSelect by_ (field data 0 13))
/-- A read of CLR_DATA15: the next unit. -/
def clrAdvance (a : Agent) (s : State) : State := clrSelect a ((s.agent a).clrSel + 1) s
/-- CLR_DATA15_READ. -/
def execClrData15Read (by_ : Agent) (s : State) : Host.Outcome State Fault Refusal := act s (clrAdvance by_)
/-- Registers of the CLR block at offset o from 0x3400. -/
def clrView (s : State) (a : Agent) (o : Nat) : Word :=
  let c := s.clr
  if 0x10 ≤ o ∧ o < 0x20 then (s.agent a).clrBuf.toList.getD (o - 0x10) 0
  else if 0x20 ≤ o ∧ o < 0x28 then c.notes.toList.getD (o - 0x20) 0
  else match o with
    | 0 => pack [(19, 13, c.head), (12, 7, ffUsed s), (6, 6, c.queue.length), (5, 1, c.droppedBit.toNat),
                 (4, 1, (decide (c.queue ≠ [])).toNat)]
    | 1 => c.seq.setWidth 32
    | 2 => pack [(16, 16, c.incomplete), (8, 8, c.fallback), (0, 8, c.uncorr)]
    | 3 => pack [(16, 16, c.dropped), (0, 16, c.errors)]
    | 4 => BitVec.ofNat 32 (s.agent a).clrSel
    | 6 => pack [(8, 8, c.cmd.code), (0, 8, c.cmd.result)]
    | 7 => c.errAddr
    | _ => 0

/-! ### Scan at a cold start (R411) -/

/-- Rising numbers without repeats, from a list that does not fall. -/
def dedup : List Nat → List Nat
  | [] => []
  | [a] => [a]
  | a :: b :: r => if a = b then dedup (b :: r) else a :: dedup (b :: r)
/-- Units with any byte written; every other unit is unused. -/
def touchedUnits (s : State) : List Nat := dedup (s.clr.mem.map (fun e => e.1 / 64))
/-- Sequence number of a unit. -/
def unitSeq (s : State) (u : Nat) : Nat := clrNum s (64 * u) 4
/-- Blocks kept in two copies: base and copy size (Table 15-4). -/
def blocks : List (Nat × Nat) := [(0x4080, 64), (0x4100, 64), (0x4180, 64), (0x4200, 256), (0x4400, 64), (0x4C80, 64)]
/-- One copy of a block is valid and the other has been written but is not. -/
def fellBack (s : State) (b : Nat × Nat) : Bool :=
  let used (o : Nat) : Bool := decide (clrNum s (o + b.2 - 4) 4 ≠ 0xFFFFFFFF)
  (copyValid s b.1 b.2 && !copyValid s (b.1 + b.2) b.2 && used (b.1 + b.2)) ||
    (!copyValid s b.1 b.2 && copyValid s (b.1 + b.2) b.2 && used b.1)
/-- The newest complete circular record, the next sequence number and the counts of CLR_SCAN. The scan meets every uncorrectable
word of the array. -/
def scanCellar (s : State) : State :=
  let us := (touchedUnits s).filter (fun u => decide (512 ≤ u ∧ u ≤ circLast))
  let done := us.filter (unitComplete s)
  let top := done.foldl (fun m u => max m (unitSeq s u)) 0
  let circ := done.filter (fun u => decide (circFirst ≤ u))
  let head := circ.foldl (fun h u => if h = 0 ∨ unitSeq s h ≤ unitSeq s u then u else h) 0
  let inc := (us.filter (fun u => decide (circFirst ≤ u) && !unitComplete s u && !unitUnused s u)).length
  countBad s.clr.bad
    { s with clr := { s.clr with head := head, seq := BitVec.ofNat 32 (if head = 0 then 0 else unitSeq s head),
                                 nextSeq := BitVec.ofNat 32 (top + 1), incomplete := sat 16 inc,
                                 fallback := (blocks.filter (fellBack s)).length, uncorr := sat 8 s.clr.bad.length } }
/-- The supply or the logic fails while the write controller works (R402): a record at the head of the queue may have been begun,
the newest words may not have been written, and the word under way reads as its old value, its new value or uncorrectable. How far
the controller came is free. -/
def cellarCut (s : State) : State :=
  let b := freeNat 1 s
  let s := if b.1 = 1 then serveQueue b.2 else b.2
  let k := freeNat 16 s
  let s := unwrite (k.1 % (s.clr.undo.length + 1)) k.2
  let c := freeNat 2 s
  let s := cutWord c.1 c.2
  { s with clr := { s.clr with undo := [] } }
/-- Kind and flags of the newest complete circular record. -/
def newestRecord (s : State) : Option (Nat × Nat) :=
  if s.clr.head = 0 then none else some (clrNum s (64 * s.clr.head + 4) 1, clrNum s (64 * s.clr.head + 6) 1)

end Sys2Proof.Machine
end

