-- ==== Sys2Proof/Machine/Flash.lean ====
section
/-! DEFINITION. What the flash banks, the OTP keys and the microcode slots hold: the main image header, the manifest of
a Graft, the structure store, the signature and vintage checks (R67, R68, R105, R342–R352, R413). -/

namespace Sys2Proof.Machine

/-! ### Keys (R413) -/

/-- The 96 bytes of the key at OTP word w. -/
def keyBytes (s : State) (w : Nat) : List Byte := (List.range 24).flatMap (fun k => wordBytes (s.otpWord (w + k)))
/-- The key at OTP word w is provisioned. -/
def keyOk (s : State) (w : Nat) : Bool :=
  (keyBytes s w).any (fun b => decide (b ≠ 0)) && (keyBytes s w).any (fun b => decide (b ≠ 0xFF)) &&
    Config.p384Point (keyBytes s w)
/-- First words of the Erpomund and of the operator public key (Table 15-6). -/
def erpKey : Nat := 2
/-- First word of the operator public key. -/
def opKey : Nat := 26
/-- The 48 bytes of a SHA-384 digest, first byte highest. -/
def digestBytes (bs : List Byte) : List Byte := (le 48 (Config.sha384 bs).toNat).reverse

/-! ### Banks (R350, Table 13-6) -/

/-- Put bytes into bank b. -/
def flashPut (b o : Nat) (bs : List Byte) (s : State) : State := s.setBank b (memWriteList ff (s.bank b) o bs)
/-- Erase sector k of bank b. -/
def sectorErase (b k : Nat) (s : State) : State := s.setBank b (memErase (s.bank b) (4096 * k) (4096 * k + 4096))
/-- Erase `n` sectors from k. -/
def sectorsErase (b k n : Nat) (s : State) : State := s.setBank b (memErase (s.bank b) (4096 * k) (4096 * (k + n)))
/-- The page at offset o is blank. -/
def pageBlank (s : State) (b o : Nat) : Bool := (flashBytes s b o 256).all (fun x => decide (x = ff))
/-- First byte of the region of an image kind. -/
def regionAt : Nat → Nat
  | 1 => 0
  | 2 => 448 * 4096
  | _ => 464 * 4096
/-- First byte of the manifest region. -/
def manifestAt : Nat := 466 * 4096
/-- First byte of store slot k, and of its record. -/
def storeAt (k : Nat) : Nat := (467 + 3 * k) * 4096
/-- Record of store slot k. -/
def storeRec (k : Nat) : Nat := storeAt k + 8192
/-- The inactive bank. -/
def inactive (s : State) : Nat := 1 - s.fls.active

/-! ### Main image header (R344) -/

/-- The header identifier stands in the bank. -/
def mainPresent (s : State) (b : Nat) : Bool := decide (flashNum s b 0 4 = 0x4D4A4D49)
/-- The main image in bank b accepts a cell microcode vintage. -/
def mainTakesUc (s : State) (b v : Nat) : Bool := decide (flashNum s b 6 2 ≤ v ∧ v ≤ flashNum s b 8 2)
/-! ### Manifest (R343) -/

/-- An image descriptor (Table 13-3). -/
structure Desc where
  kind    : Nat
  vintage : Nat
  aLo     : Nat
  aHi     : Nat
  bLo     : Nat
  bHi     : Nat
  len     : Nat
  first   : Nat
  digest  : List Byte
  deriving DecidableEq, Repr

/-- The manifest bytes in bank b. -/
def manifest (s : State) (b : Nat) : List Byte := flashBytes s b manifestAt 1008
/-- Manifest length L. -/
def manLen (m : List Byte) : Nat := uAt m 6 2
/-- Image count. -/
def manN (m : List Byte) : Nat := uAt m 30 1
/-- Unit count. -/
def manU (m : List Byte) : Nat := uAt m 31 1
/-- Package length in chunks. -/
def manChunks (m : List Byte) : Nat := uAt m 28 2
/-- The operator signature is present. -/
def manHasOp (m : List Byte) : Bool := decide (uAt m 32 1 % 2 = 1)
/-- Chunks of the manifest. -/
def manOwn (m : List Byte) : Nat := ceilDiv (manLen m) 256
/-- Descriptor k. -/
def descAt (m : List Byte) (k : Nat) : Desc :=
  let o := 64 + 80 * k
  { kind := uAt m o 1, vintage := uAt m (o + 2) 2, aLo := uAt m (o + 4) 2, aHi := uAt m (o + 6) 2, bLo := uAt m (o + 8) 2,
    bHi := uAt m (o + 10) 2, len := uAt m (o + 12) 4, first := uAt m (o + 16) 2, digest := bytesAt m (o + 32) 48 }
/-- The descriptors, at most three. -/
def descs (m : List Byte) : List Desc := (List.range (min (manN m) 3)).map (descAt m)
/-- The descriptor of a kind. -/
def descOf (m : List Byte) (kind : Nat) : Option Desc := (descs m).find? (fun d => decide (d.kind = kind))
/-- Maximum size of an image kind (Table 13-1). -/
def kindMax : Nat → Nat
  | 1 => 1835008
  | 2 => 65536
  | 3 => 8192
  | _ => 0
/-- Bodies follow one another from chunk `c` and end at the last chunk. -/
def bodiesFit (total : Nat) : List Desc → Nat → Bool
  | [], c => decide (c = total)
  | d :: ds, c => decide (d.first = c) && bodiesFit total ds (c + ceilDiv d.len 256)
/-- Kinds stand in rising order, none twice. -/
def kindsRise : List Nat → Bool
  | a :: b :: r => decide (a < b) && kindsRise (b :: r)
  | _ => true
/-- The form check of R345: 0 passes, 1 GR_LAYOUT, 2 GR_ORDER. -/
def formCheck (m : List Byte) : Nat :=
  let ds := descs m
  if uAt m 0 4 ≠ 0x51475246 ∨ uAt m 4 2 ≠ 1 ∨ manLen m < 240 ∨ 1008 < manLen m ∨ manChunks m < 2 ∨ 7460 < manChunks m ∨
      manN m = 0 ∨ 3 < manN m ∨ 64 < manU m then 1
  else if !(kindsRise (ds.map Desc.kind)) then 2
  else if ds.any (fun d => decide (d.len = 0 ∨ kindMax d.kind < d.len)) || !(bodiesFit (manChunks m) ds (manOwn m)) then 1
  else 0
/-- The bytes that both signatures cover. -/
def signedPart (m : List Byte) : List Byte := bytesAt m 0 (64 + 80 * manN m + 8 * manU m)
/-- Offset of the Erpomund signature. -/
def erpSigAt (m : List Byte) : Nat := manLen m - (if manHasOp m then 192 else 96)
/-- The Erpomund signature of a manifest is valid. -/
def erpSigOk (s : State) (m : List Byte) : Bool :=
  Config.ecdsaP384 (keyBytes s erpKey) (digestBytes (signedPart m)) (bytesAt m (erpSigAt m) 96)
/-- The operator signature of a manifest is valid. -/
def opSigOk (s : State) (m : List Byte) : Bool :=
  Config.ecdsaP384 (keyBytes s opKey) (digestBytes (signedPart m)) (bytesAt m (manLen m - 96) 96)
/-- The digest of an image, read back from bank b, agrees with its descriptor. -/
def digestOk (s : State) (b : Nat) (d : Desc) : Bool :=
  decide (digestBytes (flashBytes s b (regionAt d.kind) d.len) = d.digest)
/-- An image's own header agrees with its descriptor (R347, step 4). -/
def headerOk (s : State) (b : Nat) (d : Desc) : Bool :=
  let n (o k : Nat) : Nat := flashNum s b (regionAt d.kind + o) k
  match d.kind with
  | 1 => decide (n 0 4 = 0x4D4A4D49 ∧ n 4 2 = d.vintage ∧ n 6 2 = d.aLo ∧ n 8 2 = d.aHi ∧ n 10 2 = d.bLo ∧ n 12 2 = d.bHi ∧
      n 16 4 = d.len)
  | 2 => decide (n 0 4 = 0x4F50434D ∧ n 4 2 = d.vintage ∧ n 6 2 = d.aLo ∧ n 8 2 = d.aHi ∧ n 12 4 + 32 = d.len)
  | _ =>
    let im := flashBytes s b (regionAt 3) d.len
    decide (imVintage im = d.vintage ∧ imMainLo im = d.aLo ∧ imMainHi im = d.aHi ∧ imLength im = d.len ∧ uAt im 0 4 = 0x51534D49) &&
      decide (imCrcOf im = imCrc im)
/-- The hardware type and the unit list name this module (R346). -/
def boundTo (s : State) (m : List Byte) : Bool :=
  let mask := BitVec.ofNat 32 (uAt m 24 4)
  decide (BitVec.ofNat 32 (uAt m 20 4) &&& mask = hwType s &&& mask) &&
    (decide (manU m = 0) ||
      (List.range (manU m)).any (fun k => decide (uAt m (64 + 80 * manN m + 8 * k) 8 = (s.unitId).toNat)))
/-- Verification of the package in bank b in the order of R347: reason of Table 13-10, and with GR_DIGEST the kind of
the image. -/
def verifyGraft (s : State) (b : Nat) : Nat × Nat :=
  let m := manifest s b
  if !keyOk s erpKey then (5, 0)
  else if !erpSigOk s m then (3, 0)
  else if keyOk s opKey && !(manHasOp m && opSigOk s m) then (4, 0)
  else match (descs m).find? (fun d => !digestOk s b d) with
    | some d => (6, d.kind)
    | none => match (descs m).find? (fun d => !headerOk s b d) with
      | some d => (7, d.kind)
      | none => (0, 0)
/-- The check of the main image in the active bank at a start (Table 4-3, step 5): 0 passes, 5 absent, 6 invalid. Its
digest and signature are those of the manifest kept in the bank. -/
def mainCheck (s : State) : Nat :=
  let b := s.fls.active
  if !mainPresent s b then 5
  else
    let m := manifest s b
    match descOf m 1 with
    | none => 6
    | some d => if keyOk s erpKey && erpSigOk s m && digestOk s b d then 0 else 6

/-! ### Structure store (R352) -/

/-- The image in store slot k of bank b, as long as its record says. -/
def storeImage (s : State) (b k : Nat) : Image := flashBytes s b (storeAt k) (flashNum s b (storeRec k + 4) 2)
/-- Store slot k of bank b is valid. -/
def storeValid (s : State) (b k : Nat) : Bool :=
  decide (flashNum s b (storeRec k + 64) 4 = 0x53544F52) && decide (flashNum s b (storeRec k + 68) 4 = 0xFFFFFFFF) &&
    decide (flashNum s b (storeRec k + 4) 2 ≤ 8192) &&
    decide (imLength (storeImage s b k) = flashNum s b (storeRec k + 4) 2) &&
    decide (imCrcOf (storeImage s b k) = BitVec.ofNat 32 (flashNum s b (storeRec k + 8) 4))
/-- Sequence number of a slot. -/
def storeSeq (s : State) (x : Nat × Nat) : Nat := flashNum s x.1 (storeRec x.2) 4
/-- The slot that is the structure store: the valid one of the highest sequence number. -/
def currentStore (s : State) : Option (Nat × Nat) :=
  ([(0, 0), (0, 1), (1, 0), (1, 1)].filter (fun x => storeValid s x.1 x.2)).foldl (fun best x =>
    match best with
    | none => some x
    | some y => if storeSeq s y < storeSeq s x then some x else some y) none
/-- The slot of the inactive bank for a new store image: not the current store. -/
def freeStore (s : State) : Nat × Nat :=
  if currentStore s = some (inactive s, 0) then (inactive s, 1) else (inactive s, 0)
/-- Write a store slot: three sectors erased, the image, its record, the completion mark last. -/
def storeWrite (x : Nat × Nat) (im : Image) (s : State) : State :=
  let seq := match currentStore s with | none => 0 | some y => (storeSeq s y + 1) % 2 ^ 32
  let s := sectorsErase x.1 (467 + 3 * x.2) 3 s
  let s := flashPut x.1 (storeAt x.2) im s
  let s := flashPut x.1 (storeRec x.2) (le 4 seq ++ le 2 im.length ++ le 2 (imVintage im) ++ wordBytes (imCrc im) ++
    digestBytes im) s
  flashPut x.1 (storeRec x.2 + 64) (le 4 0x53544F52) s
/-- Void a store slot. -/
def storeVoid (x : Nat × Nat) (s : State) : State := flashPut x.1 (storeRec x.2 + 68) (le 4 0) s

/-! ### Microcode slots (R67, R68) -/

/-- Field of a slot header. -/
def slotNum (m : Mem) (o n : Nat) : Nat := ofLe (memReadList ff m o n)
/-- CEL_UCSLOT code of a slot without the active mark: 0 empty, 1 partial, 2 valid, 4 CRC failed. -/
def slotCode (m : Mem) : Nat :=
  if m = [] then 0
  else if slotNum m 28 4 ≠ 0xC0DE5AFE then 1
  else if 65504 < slotNum m 12 4 ∨ crc32 (memReadList ff m 32 (slotNum m 12 4)) ≠ BitVec.ofNat 32 (slotNum m 16 4) then 4
  else 2
/-- The slot of a cell. -/
def slotOf (c : Cell) (k : Nat) : Mem := if k = 1 then c.slotA else c.slotB
/-- The microcode that the Graft of an activation brings, header first (R362); none when it has none. -/
def graftUc (s : State) : Option (List Byte) :=
  if s.upd.formOk ∧ (s.upd.state = .activating ∨ s.upd.state = .active) then
    (descOf (manifest s s.upd.area) 2).map (fun d => flashBytes s s.upd.area (regionAt 2) d.len)
  else none
/-- The slot that does not run takes a microcode image without its completion mark, which the end of the transfer writes (R69). -/
def putUc (bs : List Byte) (c : Cell) : Cell :=
  let m := memWriteList ff (memWriteList ff [] 0 bs) 28 (le 4 0xFFFFFFFF)
  if c.activeSlot = 1 then { c with slotB := m, ucInto := 2 } else { c with slotA := m, ucInto := 1 }
/-- The active slot holds the completion mark, a length within the slot and its CRC-32. -/
def activeSlotOk (c : Cell) : Bool := decide (c.activeSlot ≠ 0) && decide (slotCode (slotOf c c.activeSlot) = 2)
/-- The main image of the active bank and a slot accept each other (pair 1). -/
def pairOk (s : State) (m : Mem) : Bool :=
  mainTakesUc s s.fls.active (slotNum m 4 2) &&
    decide (slotNum m 6 2 ≤ mainVin s s.fls.active ∧ mainVin s s.fls.active ≤ slotNum m 8 2)
/-- Pair 1 for a cell; a cell without a startable slot runs base microcode, which needs no acceptance. -/
def pair1 (s : State) (c : Cell) : Bool := !activeSlotOk c || pairOk s (slotOf c c.activeSlot)
/-- Microcode a cell starts after training: its active slot when every check of R68 passes, else base. -/
def startUc (s : State) (c : Cell) : Nat :=
  if activeSlotOk c && pairOk s (slotOf c c.activeSlot) && decide (s.sys.vResult = 1 ∨ s.sys.vResult = 3 ∨ s.sys.vResult = 4) then
    c.activeSlot
  else 0

end Sys2Proof.Machine
end

