-- ==== Sys2Proof/Machine/Cells.lean ====
section
/-! DEFINITION. The commands of the clock, of the inter-die links and of the cells: training, set points, protections,
restarts, self-tests, microcode (chapters 1 and 2). -/

namespace Sys2Proof.Machine

/-! ### Clock (R25) -/

/-- CRYSTAL_QUALIFIED: during STAGING the core PLL goes to the crystal. -/
def execCrystalQualified (s : State) : Host.Outcome State Fault Refusal :=
  act s (fun s => if s.sys.mode = .staging then { s with crystal := true, xtalLost := false } else s)
/-- CRYSTAL_LOST: the PLL returns to the internal oscillator; source 3 follows `xtalLost`. -/
def execCrystalLost (s : State) : Host.Outcome State Fault Refusal :=
  act s (fun s => if s.crystal then { s with crystal := false, xtalLost := true } else s)

/-! ### Limits (R46, R47) -/

/-- I_CONT of R46 at a port voltage in 10 mV, mA. -/
def iCont (v : Nat) : Nat := if v = 0 then 40000 else min 40000 (300000000 / v)
/-- I_10S of R46, mA. -/
def iTen (v : Nat) : Nat := if v = 0 then 60000 else min 60000 (450000000 / v)
/-- The cell is bound to its continuous ratings: base microcode, an account that ran empty and is not back at 1.0 s, or the
module's order (Table 4-6, R105). -/
def boundToCont (c : Cell) : Bool := decide (c.uc = 0) || c.ovldLow || decide (c.ovld = 0) || c.contOnly
/-- During the cell-by-cell move of a repair, some cells of the cordon run slot microcode and some still the base microcode (R105). -/
def mixedCordon (s : State) (c : Nat) : Bool :=
  let on := seven.filter (fun n => decide (servedCordon s n = c) && (s.cell n).link.trained)
  on.any (fun n => decide ((s.cell n).uc = 0)) && on.any (fun n => decide ((s.cell n).uc ≠ 0))
/-- The cells that the module binds to their continuous ratings: all of them in LIMP (Table 4-6), else those of a mixed cordon (R105). -/
def bindCells (s : State) : State :=
  s.modCells seven (fun n x => { x with contOnly := decide (s.sys.mode = .limp) || (decide (servedCordon s n ≠ 0) && mixedCordon s (servedCordon s n)) })
/-- Thermal derating of R64: full at 125 °C, zero at 145 °C, on the higher sensor (0.1 °C). -/
def derate (c : Cell) (i : Nat) : Nat :=
  let t := max c.t1 c.t2
  if t ≤ 1250 then i else if 1450 ≤ t then 0 else i * (1450 - t).toNat / 200
/-- The rated limit of a cell, mA. -/
def ratedOf (c : Cell) : Nat := if boundToCont c then iCont c.vPort else iTen c.vPort
/-- The set points that hold for a cell at its own ports: while it absorbs, CASK_V at V_CASK_REGEN with nothing from port to cask and its
share the other way; an engaged cell absorbs within its share (R210). -/
def effSp (c : Cell) : SetPoints :=
  if c.absorbing then { c.sp with mode := .caskV, vSet := c.sp.vRegen, iNeg := 0, iPos := c.sp.share, iSet := 0, iAc := 0 }
  else if c.engaged then { c.sp with iPos := c.sp.share }
  else c.sp
/-- The current limit in a cell's set points, by the sign of its port current; at zero current that of the current it is set to
carry, and the positive one where nothing is set (log entry 60), mA. -/
def spLimit (c : Cell) : Nat :=
  let p := effSp c
  if c.iPort < 0 ∨ (c.iPort = 0 ∧ (p.mode = .portI ∧ p.iSet < 0 ∨ p.mode = .caskV ∧ p.iPos = 0)) then p.iNeg else p.iPos
/-- The low-port region of R48: 2 A toward the port, nothing toward the cask. -/
def lowPort (c : Cell) : Nat := if c.iPort < 0 ∨ refusedLow { c with valid := true } (effSp c) then 0 else 2000
/-- Current limit in effect (R46, R48), mA. -/
def limitOf (c : Cell) : Nat :=
  let l := min (spLimit c) (derate c (ratedOf c))
  if c.vPort < 2000 then min l (lowPort c) else l
/-- LIMIT_REASON of the limit in effect (R46, R48, R64; log entry 60 for ties). -/
def reasonOf (c : Cell) : Nat :=
  let l := limitOf c
  if c.sp.mode = .portI ∧ c.mode = .portI ∧ c.sp.vMax ≤ c.vPort ∧ c.iPort.natAbs < c.sp.iSet.natAbs then 6
  else if c.vPort < 2000 ∧ lowPort c = l then 4
  else if derate c (ratedOf c) = l ∧ l < ratedOf c then 2
  else if ratedOf c = l ∧ boundToCont c then (if c.uc = 0 then 3 else if c.contOnly ∧ c.ovldLow = false ∧ c.ovld ≠ 0 then 5 else 1)
  else if spLimit c = l ∧ ((effSp c).mode ≠ .portI ∨ l < c.sp.iSet.natAbs) ∧ l ≤ c.iPort.natAbs then 5
  else 0
/-- Power limit in effect, W. -/
def powerLimitOf (c : Cell) : Nat := min c.sp.pLim (if boundToCont c then 3000 else 4500)
/-- Refresh CEL_LIMIT and LIMIT_REASON. -/
def refreshLimit (c : Cell) : Cell := { c with iLim := limitOf c, pLim := powerLimitOf c, limitReason := reasonOf c }
/-- One frame of 10 µs on the overload account (R47): nine ninths drain, one refills, up to 10.0 s. -/
def accountFrame (c : Cell) : Cell :=
  let heavy := decide (40000 < c.iPort.natAbs ∨ 30000 < c.pPort.natAbs)
  let v := if heavy then c.ovld - 9 else min 9000000 (c.ovld + 1)
  { c with overRated := heavy, ovld := v, ovldLow := decide (v = 0) || (c.ovldLow && decide (v < 900000)) }
/-- OVERLOAD_ACCOUNT_EMPTY (R47). -/
def execOverloadAccountEmpty (cell : Nat) (s : State) : Host.Outcome State Fault Refusal :=
  act s (fun s => s.modCell cell (fun c =>
    refreshLimit { c with ovld := 0, ovldLow := true }))

/-! ### Link frames and queues (R28–R30, Tables 1-6 and 1-7) -/

/-- A link frame (R29): a header of type, sequence number, payload length and flags, a payload of at most 58 bytes, and the CRC-16
over both; none for a longer payload. Each header field is one byte and the CRC follows high byte first (log entry 61). -/
def linkFrame (typ seq flags : Nat) (payload : List Byte) : Option (List Byte) :=
  if 58 < payload.length then none
  else
    let body := [BitVec.ofNat 8 typ, BitVec.ofNat 8 seq, BitVec.ofNat 8 payload.length, BitVec.ofNat 8 flags] ++ payload
    some (body ++ [BitVec.ofNat 8 (crc16 body / 256), BitVec.ofNat 8 (crc16 body)])
/-- Type codes of Table 1-7. -/
def typSet : Nat := 2
/-- ARM. -/
def typArm : Nat := 3
/-- CMD. -/
def typCmd : Nat := 4
/-- TELEM. -/
def typTelem : Nat := 0x10
/-- EVENT. -/
def typEvent : Nat := 0x11
/-- RSP. -/
def typRsp : Nat := 0x12
/-- Where a frame joins those that wait: an EVENT behind the frame on the line and the EVENTs before it, ahead of every queued TELEM
and RSP; any other frame last (R30). -/
def joinFrames (typ : Nat) (fs : List Nat) : List Nat :=
  match fs with
  | [] => [typ]
  | x :: r => if typ = typEvent then x :: (r.takeWhile (fun y => decide (y = typEvent)) ++ typ :: r.dropWhile (fun y => decide (y = typEvent)))
    else x :: (r ++ [typ])
/-- A frame is written to a link queue; a queue of four frames holds off its writer (R28). -/
def queuePut (typ : Nat) (q : LinkQueue) : LinkQueue :=
  if q.frames.length < 4 then { q with frames := joinFrames typ q.frames } else { q with held := q.held ++ [typ] }
/-- A frame of a type has left a link queue, and the first frame held off takes the place. -/
def queueTake (typ : Nat) (q : LinkQueue) : LinkQueue :=
  let q : LinkQueue := { q with frames := q.frames.erase typ }
  match q.held with
  | [] => q
  | x :: r => if q.frames.length < 4 then { frames := joinFrames x q.frames, held := r } else q
/-- The cell writes a frame to its end of the link: an EVENT is not acknowledged, every other type waits for its ACK. -/
def cellSends (typ : Nat) (c : Cell) : Cell :=
  if c.link.trained = false then c
  else
    let l := c.link
    { c with link := { l with toMerja := queuePut typ l.toMerja, upSeq := (l.upSeq + 1) % 256,
                              upWaits := if typ = typEvent then l.upWaits else l.upWaits ++ [{ seq := l.upSeq, typ := typ, tries := 0 }] } }
/-- Merja has received a frame of a type from the cell. -/
def merjaGot (typ : Nat) (c : Cell) : Cell := { c with link := { c.link with toMerja := queueTake typ c.link.toMerja } }
/-- Merja queues a frame for the cell; it waits for its ACK (R29). -/
def merjaSends (typ : Nat) (c : Cell) : Cell :=
  let l := c.link
  { c with link := { l with toCell := queuePut typ l.toCell, waits := l.waits ++ [{ seq := l.nextSeq, typ := typ, tries := 0 }],
                            nextSeq := (l.nextSeq + 1) % 256 } }
/-- The frames that wait at one end, after the answer `ok` to the first of them with the sequence number: acknowledged it waits no
longer; refused it is sent again, at most twice, and is then dropped (Table 1-7). -/
def answered (seq : Nat) (ok : Bool) (ws : List LinkWait) : List LinkWait :=
  match ws.find? (fun w => decide (w.seq = seq)) with
  | none => ws
  | some w => (ws.filter (fun x => decide (x ≠ w))) ++ (if ok = false ∧ w.tries < 2 then [{ w with tries := w.tries + 1 }] else [])
/-- A link with nothing queued or waiting. -/
def clearLink (l : Link) : Link := { l with waits := [], upWaits := [], toCell := {}, toMerja := {}, slot := none }
/-- Merja's cores reach the cells over the links: not in LIMP, where the always-on domain holds the command path (R107), and no
cell is set to switch in STAGING (R101). -/
def coreFrames (s : State) : Bool := !s.limp.linksHeld && decide (s.sys.mode ≠ .staging)

/-! ### Link (R31–R36, R41) -/

/-- The cell no longer waits for the microcode it missed. -/
def State.clearSkipped (s : State) (n : Nat) : State := { s with upd := { s.upd with skipped := putBit s.upd.skipped (n - 1) false } }
/-- The telemetry fields of a cell before its first frame (R75). -/
def noTelem (c : Cell) : Cell :=
  { c with valid := false, seq := 0, vPort := 0, vCask := 0, iPort := 0, pPort := 0, t1 := 0, t2 := 0 }
/-- LINK_TRAINING_COMPLETE: the cell in TRAINING goes to READY on the microcode of R68 and serves its cordon again,
unless it is withdrawn or waits for a SET or a RESTART (R41, Table 2-8). -/
def execLinkTrainingComplete (cell delay : Nat) (s : State) : Host.Outcome State Fault Refusal :=
  act s (fun s =>
    if (s.cell cell).state ≠ .training then s
    else
      let uc := startUc s (s.cell cell)
      let s := s.modCell cell (fun c =>
        { noTelem c with state := .ready, mode := .off, uc := uc, removed := false, engaged := false, absorbing := false,
                         link := { clearLink c.link with trained := true, delayNs := delay, fails := 0, down := false, holding := false } })
      let e := (s.cordon (servedCordon s cell)).e
      let s := if uc = 0 ∧ e.role = .battery then s.modRun e.index (runAbort s.now 10) else s
      match (if s.upd.skipped.getLsbD (cell - 1) ∧ 1 ≤ cell then graftUc s else none) with
      | some bs =>
        -- R362: a cell that was FAILED takes the new microcode before it rejoins a cordon
        (s.modCell cell (fun c => { putUc bs c with state := .update })).clearSkipped cell
      | none =>
        returnToCordon cell s)
/-- LINK_TRAINING_FAIL: the third failed training marks the cell FAILED and reports the link end. -/
def execLinkTrainingFail (cell : Nat) (s : State) : Host.Outcome State Fault Refusal :=
  act s (fun s =>
    let c := s.cell cell
    if c.state ≠ .training then s
    else if c.link.fails + 1 < 3 then s.modCell cell (fun c => { c with link := { c.link with fails := c.link.fails + 1 } })
    else loseCell cell (s.modCell cell (fun c =>
      { c with state := .failed, mode := .off, link := { c.link with fails := 3, down := true } })))
/-- The link of a cell is lost: retraining, with no armed set and no frame waiting. A FAILED cell stays FAILED. -/
def linkLost (c : Cell) : Cell :=
  { c with state := if c.state = .off ∨ c.state = .failed then c.state else .training, armed := none, syncs := [],
           link := { clearLink c.link with trained := false } }
/-- A self-test under way on cell n aborts (R71): READY, an hour's delay, and at the third abort in succession a C0 fault. -/
def abortRecord (n : Nat) (s : State) : State :=
  let a := (s.cell n).st.aborts + 1
  let s := s.modCell n (fun x =>
    { x with state := .ready, st := { x.st with result := 3, aborts := if a = 3 then 0 else a, commanded := false, waiting := false } })
  if a = 3 then raiseSrc (16 * n + 11) 0 (blockAddr n 15 31) s else s
/-- A test aborts, and the cell serves its cordon again. -/
def abortTest (n : Nat) (s : State) : State :=
  if (s.cell n).state ≠ .selftest then s else returnToCordon n (abortRecord n s)
/-- Abort the tests of cells that serve cordon c (R71: the cordon needs them). -/
def abortTestsOf (c : Nat) (s : State) : State :=
  seven.foldl (fun t n => if servedCordon t n = c then abortTest n t else t) s
/-- A transfer or test of a cell ends without its result when the cell must leave it. -/
def leaveTest (n : Nat) (s : State) : State := if (s.cell n).state = .selftest then abortRecord n s else s
/-- LINK_DOWN (R36): the cell holds its set points for 1 ms and leaves its cordon; its spare takes over. A cell with its switches
off holds nothing. -/
def execLinkDown (cell : Nat) (byMerja : Bool) (s : State) : Host.Outcome State Fault Refusal :=
  act s (fun s =>
    if (s.cell cell).state = .off then s
    else
      let s := leaveTest cell s
      let t := s.modCell cell (fun c => let d := linkLost c
        { d with trip := putBit d.trip 8 true, removed := true, ucFill := 0, ucInto := 0,
                 link := { d.link with down := true, downBy := if byMerja then .merja else .cell, holding := switching c } })
      loseCell cell t)
/-- LINK_HOLD_EXPIRY (R36): ramp to zero, switches off. -/
def execLinkHoldExpiry (cell : Nat) (s : State) : Host.Outcome State Fault Refusal :=
  act s (fun s => s.modCell cell (fun c =>
    if c.link.holding then
      { c with mode := .off, engaged := false, absorbing := false, link := { c.link with holding := false } }
    else c))
/-- SYNC (R30, R34): the cell receives the SYNC that Merja sent in the reserved slot of the running link cycle, with its commit tick
number and commit-go flag. -/
def execSync (cell : Nat) (s : State) : Host.Outcome State Fault Refusal :=
  act s (fun s => s.modCell cell (fun c =>
    match (if c.link.trained then c.link.slot else none) with
    | none => c
    | some x => { c with syncs := (x :: c.syncs).take 2, link := { c.link with slot := none } }))
/-- A SET that orders a STANDBY cell to engage (R57): CASK_V at the set point it carries. -/
def engageBySet (p : SetPoints) (c : Cell) : Cell :=
  if c.state ≠ .standby ∨ c.latched ≠ [] then c
  else cellSends typEvent { c with state := .run, mode := .caskV, engaged := true, engagedBySet := true, sp := { p with mode := .caskV } }
/-- The cell refuses a SET as a discharge of a port below 20 V (R48). -/
def refusesSet (p : SetPoints) (c : Cell) : Bool :=
  if p.engage then decide (c.state = .standby) && refusedLow c { p with mode := .caskV } else refusedLow c p
/-- A SET reaches a trained cell (R41, R48, R53). -/
def takeSet (p : SetPoints) (c : Cell) : Cell :=
  let c : Cell := { c with link := { c.link with toCell := queueTake typSet c.link.toCell },
                           latched := if c.state = .ready then c.latched.filter (· ≠ .uvlo) else c.latched }
  if refusesSet p c then { c with limitReason := 4 } else refreshLimit (if p.engage then engageBySet p c else takeSp p c)
/-- SET (R53): the cell takes the set points; after a gate-drive lockout this is the SET of R41. A cell that no entry of the running
image names is held OFF (R76). -/
def execSet (cell : Nat) (sp : SetPoints) (s : State) : Host.Outcome State Fault Refusal :=
  act s (fun s =>
    if coreFrames s = false ∨ (s.cell cell).cordon = 0 then s
    else s.modCell cell (fun c => if c.link.trained then takeSet sp c else c))
/-- ARM (R34): the cell holds the staged set for its commit tick. -/
def execArm (cell tick : Nat) (sp : SetPoints) (s : State) : Host.Outcome State Fault Refusal :=
  act s (fun s =>
    if coreFrames s = false then s
    else s.modCell cell (fun c => if c.link.trained then
      { c with armed := some (tick, sp), link := { c.link with toCell := queueTake typArm c.link.toCell } } else c))
/-- A commit-go SYNC of tick k − 2 or k − 1 reached the cell (R34). -/
def goFor (c : Cell) (k : Nat) : Bool := c.syncs.any (fun x => x.2 && decide (x.1 + 2 = k ∨ x.1 + 1 = k))
/-- A SYNC of tick k − 2 or k − 1 reached the cell, whatever its flag (R35). -/
def syncFor (c : Cell) (k : Nat) : Bool := c.syncs.any (fun x => decide (x.1 + 2 = k ∨ x.1 + 1 = k))
/-- APPLY_ARMED_SET (R34): at its tick, with commit-go received; with SYNCs received and the flag clear the cell discards the ARM
without stopping (R267). -/
def execApplyArmedSet (cell : Nat) (s : State) : Host.Outcome State Fault Refusal :=
  act s (fun s => s.modCell cell (fun c =>
    match c.armed with
    | some (k, p) =>
      if goFor c k then refreshLimit (takeCommitted p { c with armed := none, appliedAt := some k })
      else if syncFor c k then { c with armed := none } else c
    | none => c))
/-- The slot that is not active. -/
def spareSlot (c : Cell) : Nat := if c.activeSlot = 1 then 2 else 1
/-- Change a slot. -/
def modSlot (k : Nat) (c : Cell) (f : Mem → Mem) : Cell := if k = 1 then { c with slotA := f c.slotA } else { c with slotB := f c.slotB }
/-- An impedance run is in progress on the cordon of cell n (R190). -/
def runOnCordon (s : State) (n : Nat) : Bool :=
  let e := (s.cordon (servedCordon s n)).e
  decide (e.role = .battery) && (s.bat e.index).run.running
/-- A READY cell begins an update: the slot that does not run is erased (R69). -/
def beginUpdate (x : Cell) : Cell :=
  if x.state = .ready then
    { modSlot (spareSlot x) x (fun _ => []) with state := .update, ucFill := 0, ucInto := spareSlot x, eraseWait := false }
  else { x with eraseWait := false }
/-- CMD (R29, R69). Cell registers are not described; reads and writes of them change nothing the manual names. Every CMD is answered
with an RSP. The erase of an update waits for the end of an impedance run on the cordon (R190). -/
def execCmd (cell : Nat) (c : CellCmd) (s : State) : Host.Outcome State Fault Refusal :=
  act s (fun s =>
    if (s.cell cell).link.trained = false ∨ s.limp.linksHeld = true then s
    else
      let busy := runOnCordon s cell
      let s := s.modCell cell (fun x => cellSends typRsp { x with link := { x.link with toCell := queueTake typCmd x.link.toCell } })
      match c with
      | .regRead _ => s
      | .regWrite _ _ => s
      | .ucErase => s.modCell cell (fun x => if busy then { x with eraseWait := true } else beginUpdate x)
      | .ucBody bs => s.modCell cell (fun x =>
          if x.state = .update ∧ x.ucFill + bs.length ≤ 65504 then
            { modSlot x.ucInto x (fun m => memWriteList ff m (32 + x.ucFill) bs) with ucFill := x.ucFill + bs.length }
          else x)
      | .ucHeader v lo hi len crc => s.modCell cell (fun x =>
          if x.state = .update then
            modSlot x.ucInto x (fun m => memWriteList ff m 0 (le 4 0x4F50434D ++ le 2 v ++ le 2 lo ++ le 2 hi ++ le 2 0 ++ le 4 len ++
              wordBytes crc ++ le 8 0 ++ le 4 0xC0DE5AFE))
          else x)
      | .ucActivate => s.modCell cell (fun x => if x.state = .update then { x with activeSlot := x.ucInto } else x))
/-- RSP (R29): the answer to a CMD; the CMD it answers waits no longer. -/
def execRsp (cell seq : Nat) (data : Word) (s : State) : Host.Outcome State Fault Refusal :=
  act s (fun s => s.modCell cell (fun c =>
    if c.link.trained then
      let c := merjaGot typRsp c
      { c with link := { c.link with rsp := data, waits := c.link.waits.filter (fun w => !(decide (w.seq = seq ∧ w.typ = typCmd))) } }
    else c))
/-- ACK (R29): an acknowledged frame waits no longer; a refused one is sent again, at most twice. At Merja's end it answers a frame
that Merja sent, at the cell's end one of the cell's. The acknowledgement of an ARM counts for the staged set (R34). -/
def execAck (cell seq : Nat) (toMerja ok : Bool) (s : State) : Host.Outcome State Fault Refusal :=
  act s (fun s =>
    let c := s.cell cell
    if toMerja = false then s.modCell cell (fun c => { c with link := { c.link with upWaits := answered seq ok c.link.upWaits } })
    else
      let arm := c.link.waits.any (fun w => decide (w.seq = seq ∧ w.typ = typArm))
      let s := s.modCell cell (fun c => { c with link := { c.link with waits := answered seq ok c.link.waits } })
      if ok ∧ arm = true ∧ s.stg.state = .armed ∧ cellFitted s cell = true then
        { s with stg := { s.stg with acked := putBit s.stg.acked (cell - 1) true } }
      else s)

/-! ### Self-test (R70, R71, R141, R190) -/

/-- The image without cell n: its bit cleared, and a cordon left without a cell taken out. -/
def imWithout (im : Image) (n : Nat) : Image :=
  let i := entryOfCell im n
  let m := eMask im i - 2 ^ (n - 1)
  let im := im.set (entryOff i + 1) (BitVec.ofNat 8 m)
  if m = 0 then im.set (entryOff i) 0 else im
/-- The cells that the standby capacity does not count beside cell n: those in SELFTEST or UPDATE that no spare replaces (R70). -/
def testingCells (s : State) (n : Nat) : List Nat :=
  seven.filter (fun m => decide (m ≠ n) && decide ((s.cell m).state = .selftest ∨ (s.cell m).state = .update) &&
    decide ((s.cordon (s.cell m).cordon).e.role = .battery) && !(decide ((s.cordon (s.cell m).cordon).replaced = m)))
/-- The changeover check (R142–R144) passes for the running image without cell n and the cells in test; a free spare takes the
place of cell n. Only an engage-ready cordon's cell is judged (R141). -/
def coPassesWithout (s : State) (n : Nat) : Bool :=
  let im := trimImage s.stg.trimsIn s.str.image
  let c := servedCordon s n
  if engageReady s c = false ∨ (s.cell n).cordon ≠ c then true
  else
    let gone := testingCells s n ++ (if freeSpare s c ≠ 0 then [] else [n])
    let im' := gone.foldl imWithout im
    let r := (deadlineChecks im').reason
    decide (entriesOf im' .battery ≠ []) && decide (r ≠ 0x40 ∧ r ≠ 0x41 ∧ r ≠ 0x42)
/-- The module may take cell n out by plan: its share can be carried and the changeover check holds (R70, R141). -/
def mayLeave (s : State) (n : Nat) : Bool := canRelieve s n && coPassesWithout s n
/-- Hand over cell n's share and take it out of service into a state (R70, R74). -/
def leaveFor (n : Nat) (st : CellState) (s : State) : State :=
  let c := servedCordon s n
  let sp := freeSpare s c
  let own := decide ((s.cell n).cordon = c)
  let t := if switching (s.cell n) && own then
      (if sp ≠ 0 then takeover c sp n s else s.modCordon c (fun k => { k with rephase := true }))
    else s
  t.modCell n (fun x => { x with state := st, mode := .off, engaged := false, absorbing := false })
/-- A test begins. -/
def beginTest (n : Nat) (byCmd : Bool) (s : State) : State :=
  (leaveFor n .selftest s).modCell n (fun x => { x with st := { x.st with commanded := byCmd, waiting := false } })
/-- ABORT (R71). -/
def execAbort (cell : Nat) (s : State) : Host.Outcome State Fault Refusal := act s (abortTest cell)
/-- A cell that can enter a self-test. -/
def testable (x : CellState) : Bool := decide (x = .ready ∨ x = .standby ∨ x = .run)
/-- The refusals that every CEL_CMD code shares (Table 2-15): 3 absent, 4 mode. In STAGING, where no cell switches (R101), the
commands of Table 2-14 are refused as for LIMP (log entry 62). -/
def celRefusal (s : State) (n : Nat) : Nat :=
  if !cellFitted s n then 3 else if s.sys.mode = .limp ∨ s.sys.mode = .ship ∨ s.sys.mode = .staging then 4 else 0
/-- Run a CEL_CMD command. -/
def celCmd (code n : Nat) (f : State → State × Nat) (s : State) : State :=
  let r := celRefusal s n
  if r ≠ 0 then { s with cel := { s.cel with cmd := cmdRes code r } }
  else
    let p := f s
    { p.1 with cel := { p.1.cel with cmd := cmdRes code p.2 } }
/-- CEL_CMD START_SELFTEST; a test that meets an impedance run waits for its end (R190). -/
def celStartSelftest (n : Nat) (s : State) : State :=
  celCmd 1 n (fun s =>
    let c := s.cell n
    if c.state = .failed then (s, 5)
    else if !testable c.state then (s, 1)
    else if runOnCordon s n then (s.modCell n (fun x => { x with st := { x.st with commanded := true, waiting := true } }), 1)
    else if mayLeave s n then (beginTest n true s, 0) else (s, 2)) s
/-- START_SELFTEST. -/
def execStartSelftest (cell : Nat) (s : State) : Host.Outcome State Fault Refusal := act s (celStartSelftest cell)
/-- A scheduled or waiting test starts when the cell can be relieved; while a run is in progress on the cordon it waits for its end
(R190). -/
def scheduledTest (n : Nat) (s : State) : State :=
  if working s.sys.mode && testable (s.cell n).state && !(s.cell n).withdrawn then
    if runOnCordon s n then s.modCell n (fun x => { x with st := { x.st with waiting := true } })
    else if mayLeave s n then beginTest n (s.cell n).st.commanded s else s
  else s
/-- The tests that wait for the end of an impedance run start once none is in progress (R190). -/
def waitingTests (s : State) : State :=
  let s := s.modCells (seven.filter (fun n => (s.cell n).eraseWait && !runOnCordon s n)) (fun _ x => beginUpdate x)
  seven.foldl (fun t n => if (t.cell n).st.waiting ∧ runOnCordon t n = false then scheduledTest n t else t) s
/-- Tests abort in every cordon whose demand exceeds its capacity without the cell (R71). -/
def neededTests (s : State) : State :=
  seven.foldl (fun t n => if (t.cell n).state = .selftest ∧ freeSpare t (servedCordon t n) = 0 ∧ canCarry t n = false then abortTest n t else t) s
/-- SELFTEST_DUE (R70). -/
def execSelftestDue (cell : Nat) (s : State) : Host.Outcome State Fault Refusal := act s (scheduledTest cell)
/-- SELFTEST_RESCHEDULE (R71): an hour after an abort the test is tried again. -/
def execSelftestReschedule (cell : Nat) (s : State) : Host.Outcome State Fault Refusal :=
  act s (fun s => if (s.cell cell).st.result = 3 then scheduledTest cell s else s)
/-- SELFTEST_COMPLETE (R70): the result, READY or FAILED with the fault address. -/
def execSelftestComplete (cell : Nat) (pass : Bool) (addr : Word) (s : State) : Host.Outcome State Fault Refusal :=
  act s (fun s =>
    if (s.cell cell).state ≠ .selftest then s
    else
      let done (x : Cell) (r : Nat) : SelfTest := { x.st with result := r, aborts := 0, doneAt := s.now, commanded := false, waiting := false }
      let at_ := cellAddr s cell addr
      if pass then returnToCordon cell (s.modCell cell (fun x => { x with state := .ready, st := done x 1 }))
      else
        let t := s.modCell cell (fun x => { x with state := .failed, st := { done x 2 with addr := at_ } })
        loseCell cell (raiseSrc (16 * cell + 10) 0 at_ t))

/-! ### Protections (R60–R63) -/

/-- Count a trip (CEL_TRIPCNT). -/
def countTrip (t : Trip) (c : Cell) : Cell :=
  match t with
  | .oc => { c with cntOc := satInc 255 c.cntOc }
  | .portOv => { c with cntPortOv := satInc 255 c.cntPortOv }
  | .caskOv => { c with cntCaskOv := satInc 255 c.cntCaskOv }
  | .ot => { c with cntOt := satInc 15 c.cntOt }
  | _ => c
/-- The cell's own logic on a trip: latched, counted, switches off; a desaturation condemns the cell (Table 2-8). A cell that holds
its set points without a link turns its switches off too (R18). -/
def tripCell (t : Trip) (c : Cell) : Cell :=
  let c := countTrip t { c with trip := putBit c.trip (tripBit t) true, latched := if t ∈ c.latched then c.latched else t :: c.latched,
                                portShort := if t = .oc then false else c.portShort }
  if switching c then
    { c with state := if t = .desat then .failed else .tripped, runBefore := decide (c.state = .run), mode := .off,
             absorbing := false }
  else if c.link.holding then
    { c with mode := .off, engaged := false, absorbing := false, link := { c.link with holding := false } }
  else if (c.state = .tripped ∨ c.state = .selftest) ∧ t = .desat then { c with state := .failed }
  else c
/-- The number of active cells of a cell's cordon changes: the others re-phase at the next commit tick (R56). -/
def rephaseDue (n : Nat) (s : State) : State := s.modCordon (servedCordon s n) (fun k => { k with rephase := true })
/-- GATE_DRIVE_UVLO (R41): switches off and retraining; the cell waits for a new SET. A test on it aborts, as do those of its
cordon's other cells (R71). -/
def gateUvlo (n : Nat) (s : State) : State :=
  if (s.cell n).state = .off then s
  else
    let s := leaveTest n s
    let t := s.modCell n (fun c => let d := linkLost c
      { d with trip := putBit d.trip 6 true, latched := if Trip.uvlo ∈ d.latched then d.latched else .uvlo :: d.latched,
               mode := .off, engaged := false, absorbing := false, ucFill := 0, ucInto := 0, link := { d.link with holding := false } })
    abortTestsOf (servedCordon t n) (loseCell n t)
/-- GATE_DRIVE_UVLO. -/
def execGateDriveUvlo (cell : Nat) (s : State) : Host.Outcome State Fault Refusal := act s (gateUvlo cell)
/-- A cell with an armed set for k has received no SYNC of k − 2 or k − 1 (R35): it stops switching and sends EVENT COMMIT_MISSED. -/
def commitMiss (n : Nat) (s : State) : State :=
  match (s.cell n).armed with
  | none => s
  | some (k, _) =>
    if syncFor (s.cell n) k then s
    else s.modCell n (fun c => cellSends typEvent (tripCell .commitMissed { c with armed := none }))
/-- COMMIT_MISSED (R35). -/
def execCommitMissed (cell : Nat) (s : State) : Host.Outcome State Fault Refusal := act s (commitMiss cell)
/-- PROTECTION_TRIP (R60): the comparator acts on the cell's own switches and the cell sends an EVENT; a cell in self-test aborts
(R71) unless it is condemned. -/
def execProtectionTrip (cell : Nat) (t : Trip) (s : State) : Host.Outcome State Fault Refusal :=
  act s (fun s =>
    if t = .uvlo then gateUvlo cell s
    else
      let s := rephaseDue cell (s.modCell cell (fun c => if c.state = .off then c else cellSends typEvent (tripCell t c)))
      abortTest cell s)
/-- A tripped cell resumes its last committed set points from zero current (R62). -/
def resume (c : Cell) : Cell :=
  if c.state ≠ .tripped then c
  else if c.sp.mode = .off then { c with state := .ready }
  else if c.runBefore then { c with state := .run, mode := if c.sp.mode = .standby then .caskV else c.sp.mode }
  else { c with state := .standby, mode := .standby }
/-- TRIP_CLEARED (R62): a self-clearing condition has ended; while a latching trip is set the cell does not resume. -/
def execTripCleared (cell : Nat) (t : Trip) (s : State) : Host.Outcome State Fault Refusal :=
  act s (fun s =>
    if tripLatching t then s
    else rephaseDue cell (s.modCell cell (fun c =>
      let c := { c with latched := c.latched.filter (fun x => decide (x ≠ t)) }
      if c.latched = [] then resume c else c)))
/-- RESTART to a cell (R63, Table 2-8): its latching trips are cleared, it resumes and takes its share back (R74). -/
def restartCell (n : Nat) (s : State) : State :=
  if (s.cell n).state = .failed then s
  else
    let held := (s.cell n).latched.any tripLatching
    let s := s.modCell n (fun c =>
      let c := { c with latched := c.latched.filter (fun x => !tripLatching x || decide (x = .uvlo ∧ c.state ≠ .tripped)),
                        portShort := false, restart := false, removed := if c.link.down then c.removed else false }
      if c.latched = [] then resume c else c)
    if held && !(s.cell n).latched.any tripLatching then returnToCordon n s else s
/-- Overcurrent trips counted under R63 in the 60 s up to the latest of them. -/
def ocRetries (c : Cell) : Nat :=
  match c.ocTimes with
  | [] => 0
  | t :: _ => (c.ocTimes.filter (fun u => decide (t < u + oneMin))).length
/-- The fourth counted overcurrent trip of a cell within 60 s waits for its restart: the cell is to be FAILED instead (R63). -/
def ocCondemned (c : Cell) : Bool := c.restart && !c.portShort && decide (4 ≤ ocRetries c)
/-- OC_RESTART (R63): RESTART, for a port short to every cell of the cordon that waits for it; at the fourth counted trip
within 60 s the cell is FAILED instead. -/
def execOcRestart (cell : Nat) (s : State) : Host.Outcome State Fault Refusal :=
  act s (fun s =>
    let c := s.cell cell
    if !c.restart ∨ (s.cordon (servedCordon s cell)).state = .stopped then s
    else if c.portShort then
      seven.foldl (fun t n => if servedCordon t n = servedCordon s cell ∧ (t.cell n).portShort = true ∧ (t.cell n).restart = true then
        restartCell n t else t) s
    else if ocCondemned c then loseCell cell (s.modCell cell (fun c => { c with state := .failed, restart := false }))
    else restartCell cell s)
/-- CEL_CMD RESTART: a cell that has reached the count of R63 is FAILED, not restarted. -/
def celRestart (n : Nat) (s : State) : State :=
  celCmd 2 n (fun s => if (s.cell n).state = .failed then (s, 5)
    else if ocCondemned (s.cell n) then (loseCell n (s.modCell n (fun c => { c with state := .failed, restart := false })), 5)
    else (restartCell n s, 0)) s
/-- RESTART. -/
def execRestart (cell : Nat) (s : State) : Host.Outcome State Fault Refusal := act s (celRestart cell)

/-! ### Planned withdrawal (R74) -/

/-- CEL_CMD WITHDRAW. -/
def celWithdraw (n : Nat) (s : State) : State :=
  celCmd 3 n (fun s =>
    let c := s.cell n
    if c.state = .failed then (s, 5)
    else if c.withdrawn then (s, 0)
    else if c.state = .selftest ∨ c.state = .update then (s, 1)
    else if runOnCordon s n && switching c then (s, 1)
    else if !mayLeave s n then (s, 2)
    else ((leaveFor n (if testable c.state then .ready else c.state) s).modCell n (fun x => { x with withdrawn := true }), 0)) s
/-- WITHDRAW. -/
def execWithdraw (cell : Nat) (s : State) : Host.Outcome State Fault Refusal := act s (celWithdraw cell)
/-- CEL_CMD RETURN. -/
def celReturn (n : Nat) (s : State) : State :=
  celCmd 4 n (fun s =>
    let c := s.cell n
    if c.state = .failed then (s, 5)
    else if !c.withdrawn then (s, 0)
    else (returnToCordon n (s.modCell n (fun x => { x with withdrawn := false })), 0)) s
/-- RETURN. -/
def execReturnCell (cell : Nat) (s : State) : Host.Outcome State Fault Refusal := act s (celReturn cell)
/-- CEL_CMD CLEAR_FAILED: cell reset and retraining. -/
def celClearFailed (n : Nat) (s : State) : State :=
  celCmd 5 n (fun s => (s.modCell n (fun c =>
    if c.state = .failed then
      let d := linkLost { c with state := .training }
      { d with mode := .off, latched := [], portShort := false, restart := false, ocTimes := [], withdrawn := false,
               removed := false, engaged := false, link := { d.link with fails := 0, down := false, holding := false } }
    else c), 0)) s
/-- CLEAR_FAILED. -/
def execClearFailed (cell : Nat) (s : State) : Host.Outcome State Fault Refusal := act s (celClearFailed cell)
/-- CEL_CMD with a code that Table 2-14 does not list. -/
def celUnknown (code : Nat) (s : State) : State := { s with cel := { s.cel with cmd := cmdRes code 6 } }

/-! ### Microcode (R69) -/

/-- The completion mark of a transfer that Merja ran ends its header (R69). -/
def ucMark (c : Cell) : Cell :=
  if c.ucInto = 0 ∨ slotOf c c.ucInto = [] then c else modSlot c.ucInto c (fun m => memWriteList ff m 28 (le 4 0xC0DE5AFE))
/-- MICROCODE_TRANSFER_END (R69): the cell resets and retrains; after a success the new slot is active. -/
def execMicrocodeTransferEnd (cell : Nat) (ok : Bool) (s : State) : Host.Outcome State Fault Refusal :=
  act s (fun s => s.modCell cell (fun c =>
    if c.state ≠ .update then c
    else
      let c := if ok then ucMark c else c
      let good := decide (slotCode (slotOf c c.ucInto) = 2)
      let a := if ok && good && decide (c.ucInto ≠ 0) then c.ucInto
        else if c.activeSlot = c.ucInto ∧ good = false then 0 else c.activeSlot
      { linkLost c with activeSlot := a, mode := .off, ucFill := 0, ucInto := 0 }))

/-! ### Battery switches -/

/-- The same for every string, in NORMAL, RESERVE and SERVICE. -/
def settleAll (s : State) : State := if working s.sys.mode then four.foldl (fun t i => settleStart i t) s else s

/-! ### Cordons (Table 3-10) -/

/-- CRD_CMD RESTART_CORDON: a STOPPED cordon goes to IDLE; its cells that are not FAILED lose their overcurrent and
PORT_SHORT trips and go to READY; a BATTERY string's switch is no longer held by the stop. -/
def crdRestart (n : Nat) (s : State) : State :=
  let k := s.cordon n
  let res (r : Nat) (t : State) : State := { t with str := { t.str with cmd := cmdRes 1 r } }
  if s.sys.mode = .limp ∨ s.sys.mode = .ship then res 2 s
  else if k.state ≠ .stopped then res 1 s
  else
    let s := s.modCells (maskList k.e.cells) (fun _ c =>
      if c.state = .failed then c
      else
        let l := c.latched.filter (fun x => decide (x ≠ .oc))
        { c with latched := l, portShort := false, restart := false, trip := putBit (putBit c.trip 1 false) 9 false, ocTimes := [],
                 state := if c.state = .tripped ∧ l = [] then .ready else c.state, mode := .off,
                 sp := { c.sp with mode := .off } })
    let s := s.modCordon n (fun k => { k with state := .idle, shortTimes := [], ocSpan := none, rephase := true })
    let s := if k.e.role = .battery then settleAll (s.modBat k.e.index (fun b => { b with holdStop := false })) else s
    res 0 s
/-- RESTART_CORDON. -/
def execRestartCordon (cordon : Nat) (s : State) : Host.Outcome State Fault Refusal := act s (crdRestart cordon)
/-- CRD_CMD with a code that Table 3-11 does not list. -/
def crdUnknown (code : Nat) (s : State) : State := { s with str := { s.str with cmd := cmdRes code 3 } }
/-- LAST_GOOD_COPY_WRITE (R93). -/
def execLastGoodCopyWrite (s : State) : Host.Outcome State Fault Refusal :=
  act s (fun s => if s.str.copyDue then
    { lgcWrite s.str.image s with str := { (lgcWrite s.str.image s).str with copyDue := false } } else s)

end Sys2Proof.Machine
end

