-- ==== Sys2Proof/Machine/Path.lean ====
section
/-! DEFINITION. The commands of the power path: source qualification and drop, priority, changeover, hand-back, cask
low, supplement, test drop (chapter 5). -/

namespace Sys2Proof.Machine

/-! ### Validity (R122, R225) -/

/-- The peer index whose cordon is n; 0 none. -/
def peerOf (s : State) (n : Nat) : Nat := if (s.cordon n).e.role = .peer then (s.cordon n).e.index else 0
/-- The port imports under a contract, or under swap terms once the pulse has ended (R225, R227). -/
def importing (p : Peer) : Bool :=
  decide (p.role = .consumer) && (decide (p.state = .contract) || (decide (p.state = .swap) && !p.pulse))
/-- The path of entry i is valid: the latest report finds its voltage in band, and its cordon and SRC_ID pin allow it. -/
def pathValid (s : State) (i : Nat) : Bool :=
  let x := s.src i
  if x.state = .absent then false
  else if x.ref = 0 then decide (x.band = .inside)
  else
    let k := s.cordon x.ref
    decide (k.state ≠ .absent ∧ k.state ≠ .stopped) && decide (x.band = .inside) &&
      (if k.e.role = .peer then importing (s.peerI k.e.index) else !(decide (s.hw.variant = .q8) && x.srcIdShort))
/-- Why an invalid path is dropped (PWR_COV.CAUSE). -/
def dropCause (s : State) (i : Nat) : Nat :=
  let x := s.src i
  let k := s.cordon x.ref
  if x.ref ≠ 0 ∧ k.e.role = .peer ∧ importing (s.peerI k.e.index) = false then 5
  else if x.ref ≠ 0 ∧ (k.state = .absent ∨ k.state = .stopped) then 4
  else if x.srcIdShort ∧ s.hw.variant = .q8 then 8
  else match x.band with
    | .slope => 2
    | .over => 3
    | _ => 1
/-- Drops of an entry in the last 10 min (R125). -/
def recentDrops (s : State) (i : Nat) : Nat := ((s.src i).dropTimes.filter (within s tenMin)).length
/-- Effective qualification time (R125), ms. -/
def qualTime (s : State) (i : Nat) : Nat := min 60000 ((s.src i).tQual * 2 ^ (recentDrops s i - 3))

/-! ### Priority and feeding (R126) -/

/-- Entries whose path is usable or feeding, in rank order. -/
def usableRanks (s : State) : List Nat := eight.filter (fun i => usableState (s.src i).state)
/-- The highest-ranked usable path is the source gate. -/
def gateFirst (s : State) : Bool := match usableRanks s with | [] => false | i :: _ => decide ((s.src i).ref = 0)
/-- Set point of entry i in CASK_V, 10 mV (R126). -/
def rankSet (s : State) (i : Nat) : Nat := vCaskSet s.str.image * 10 - 200 * (i - 1)
/-- Entries that feed: the gate alone when it ranks highest, else the highest cordon path and each path below one that
is at its limits or held at its V_INREG. -/
def feedList (s : State) : List Nat :=
  let cord (l : List Nat) : List Nat := l.filter (fun i => decide ((s.src i).ref ≠ 0))
  let rec take (l : List Nat) : List Nat :=
    match l with
    | [] => []
    | i :: r => if (s.src i).limited || (s.src i).inreg then i :: take r else [i]
  match usableRanks s with
  | [] => []
  | i :: r => if (s.src i).ref = 0 then [i] else take (cord (i :: r))
/-- The states of the usable paths by R126; outside FED and HANDBACK nothing feeds from a path below the strings. -/
def markFeeding (s : State) : State :=
  let f := feedList s
  { s with pwr := { s.pwr with src := bankMap s.pwr.src (fun i x =>
      if usableState x.state then { x with state := if i ∈ f then .feeding else .usable } else x) } }
/-- Drive the cordon of entry i for its rank: CASK_V at its set point, or PORT_I at zero while the gate ranks first. -/
def driveRank (i : Nat) (s : State) : State :=
  let x := s.src i
  if x.ref = 0 ∨ !usableState x.state then s
  else if gateFirst s then driveCordon x.ref .portI 0 0 ((s.cordon x.ref).e.vMax * 10) s
  else driveCordon x.ref .caskV 0 (rankSet s i) ((s.cordon x.ref).e.vMax * 10) s
/-- Apply the priority order: cordon paths to their set points, the gate closed only while it ranks first, and closing at the slope
of R104. -/
def applyPriority (s : State) : State :=
  let s := eight.foldl (fun t i => driveRank i t) s
  let g := gateFirst s
  let s := if g && !s.pwr.gate.surge && !s.eis.shipRun && !s.eis.btn.longRun then gateFollows s else gateOpens s
  markFeeding { s with pwr := { s.pwr with gate := { s.pwr.gate with surge := g && s.pwr.gate.surge } } }

/-! ### Engage (R57, R134–R136) -/

/-- What an engage does beside the cells: the string's charge is suspended as DISCHARGING, its impedance run aborts
(R164, R200), its cordon runs in CASK_V. -/
def cordonEngages (c reason : Nat) (s : State) : State :=
  let s := s.modCordon c (fun k => { k with state := if k.state = .standby then .run else k.state, mode := .caskV, iSet := 0 })
  let b := (s.cordon c).e.index
  if (s.cordon c).e.role ≠ .battery then s
  else
    let s := s.modRun b (runAbort s.now reason)
    let s := s.modBat b (fun x => if x.miss = .pulse then { x with miss := .suspected } else x)
    s.modChg b (addSusp 2 s.now (s.bat b).book.net)
/-- A cell engages; by SET it takes V_CASK_SET even when its own crossing engaged it first (R135). It discharges down to vMin, its
string's cut-off (R166). -/
def engageCell (bySet : Bool) (vSet vMin : Nat) (c : Cell) : Cell :=
  if c.engaged then (if bySet && !c.engagedBySet then { c with engagedBySet := true, sp := { c.sp with vSet := vSet } } else c)
  else { c with state := .run, mode := .caskV, engaged := true, engagedBySet := bySet, absorbing := false, regulating := false,
                sp := { c.sp with vSet := vSet, vMin := max c.sp.vMin vMin, iAc := 0, mode := .caskV } }
/-- A changeover that begins abandons every pulse of the missing-string check; the suspicion stays open (R180). -/
def abandonPulses (s : State) : State :=
  four.foldl (fun t i => if (t.bat i).miss = .pulse then
    driveCordon (batCordon t i) .standby 0 0 ((t.cordon (batCordon t i)).e.vMax * 10) (t.modBat i (fun b => { b with miss := .suspected }))
  else t) s
/-- The engage SETs of R135, to every cell of every engage-ready or engaged cordon. -/
def engageSets (s : State) : State :=
  let v := vCaskSet s.str.image * 10
  seven.foldl (fun t c =>
    if engageReady t c || (decide ((t.cordon c).e.role = .battery) && (engageCells t c).any (fun n => (t.cell n).engaged)) then
      let t := (engageCells t c).foldl (fun u n => u.modCell n (engageCell true (underRise s v) (cutoffV s c))) t
      cordonEngages c 1 t
    else t) s
/-- Put a voltage set point to every engaged cell of a cordon. -/
def engagedSet (f : Nat → Nat) (s : State) : State :=
  seven.foldl (fun t c => (engageCells t c).foldl (fun u n =>
    u.modCell n (fun x => if x.engaged then { x with engagedBySet := false, sp := { x.sp with vSet := f c } } else x)) t) s
/-- Some cell is engaged and switches. -/
def anyEngaged (s : State) : Bool := seven.any (fun n => (s.cell n).engaged && switching (s.cell n))

/-! ### Changeover and drop (R124, R135, R137, Table 5-7) -/

/-- Greatest detection time of Table 5-2 for a path, in 10 ns (R137). -/
def detectTime (s : State) (i : Nat) : Nat :=
  let x := s.src i
  if x.ref = 0 then 42 else if (s.cordon x.ref).e.role = .peer then 0 else 199
/-- A changeover begins: engage SETs at once, self-tests abort, and the usable cordon paths stand in CASK_V at their set points
(R71, R126, R135, R137). -/
def startChangeover (i cause : Nat) (s : State) : State :=
  let again := decide (s.pwr.path = .changeover)
  let t0 := s.now * 100 - detectTime s i
  let s := engageSets (eight.foldl (fun t i => driveRank i t) (seven.foldl (fun t n => abortTest n t) (abandonPulses s)))
  if again then s
  else { s with pwr := { s.pwr with path := .changeover, coCount := satInc 255 s.pwr.coCount, coTrigger := 0, coLate := false,
                                    coEntry := i, coCause := cause, coVMin := caskNow s, coStart := t0, handTo := 0,
                                    handSet := false },
                bk := { s.bk with drawAt := match s.bk.drawAt with | some d => some d | none => some (s.now, s.bk.vCask) } }
/-- A supplier whose own feed has gone ends its export: by the swap pulse when a swap is armed, else with END NO_FEED
(R140, R227). -/
def exportsEnd (s : State) : State :=
  if ownPathUsable s then s
  else
    four.foldl (fun t i =>
      let p := t.peerI i
      if p.role = .supplier ∧ p.state = .contract then
        let armed := p.partnerFeed && decide (0 < p.pS) && decide (t.now ≤ p.statusAt + 350000) && p.partnerExport
        let t := driveCordon (peerCordon t i) .portI 0 0 0 t
        t.modPeer i (fun p => if armed then
            { p with state := .swap, pulse := true, swapAt := t.now, swaps := satInc 255 p.swaps, test := false }
          else peerEndWith 2 .idle p)
      else t) s
/-- What follows when the path of entry i, with the window x it had, is no longer usable: its cordon or gate off, the mode, exports, and the
power path (Table 5-7). -/
def pathGone (i cause : Nat) (x : Source) (s : State) : State :=
  let fed := decide (x.state = .feeding) || (decide (s.pwr.path = .handback) && decide (s.pwr.handTo = i))
  let s := if x.ref = 0 then
      let t := gateOpens s
      { t with pwr := { t.pwr with gate := { t.pwr.gate with surge := false } } }
    else driveCordon x.ref .off 0 0 0 s
  let s := if (s.sys.mode = .normal ∨ s.sys.mode = .service) ∧ ownPathUsable s = false ∧
      (x.ref = 0 ∨ (s.cordon x.ref).e.role = .source) ∧ s.eis.shipRun = false then
      setMode .reserve (if s.sys.mode = .service then serviceEnds s else s)
    else s
  let s := exportsEnd s
  if fed && decide (s.pwr.path = .fed ∨ s.pwr.path = .handback ∨ s.pwr.path = .changeover) then
    if seven.any (engageReady s) || anyEngaged s then markFeeding (startChangeover i cause s)
    else if usableRanks s ≠ [] then applyPriority { s with pwr := { s.pwr with path := .fed } }
    else { s with pwr := { s.pwr with path := .unfed, handTo := 0, handSet := false } }
  else if s.pwr.path = .fed then applyPriority s
  else s
/-- The path of entry i is dropped with a cause and counted; `held` keeps it out for a TEST_DROP. -/
def dropPath (i cause : Nat) (held : Bool) (s : State) : State :=
  pathGone i cause (s.src i) (s.modSrc i (fun x =>
    { x with state := if held then .testDropped else .invalid, drops := satInc 255 x.drops, lastCause := cause, limited := false,
             inreg := false, dropTimes := s.now :: x.dropTimes.filter (within s tenMin), lastDrop := some s.now }))
/-- From UNFED a usable path gives FED, and an engage-ready cordon CARRIED, with the cask rise of R104 (Table 5-7). -/
def seekFeed (s : State) : State :=
  if working s.sys.mode ∧ s.pwr.path = .unfed ∧ s.eis.shipRun = false ∧ s.eis.btn.longRun = false then
    if usableRanks s ≠ [] then
      let s := startRise s
      applyPriority { s with pwr := { s.pwr with path := .fed } }
    else if seven.any (engageReady s) then
      let s := engageSets (startRise s)
      { s with pwr := { s.pwr with path := .carried } }
    else s
  else s
/-- SOURCE_CROSSING_REPORT (R122, R123): the latest report of the band; a slope report where the entry's threshold is 0 is no failure. A qualification window closes on an invalid tick;
in LIMP a source that leaves its band is dropped by the LIMP sequencer (Table 4-6). -/
def reportBand (i : Nat) (b : Band) (s : State) : State :=
  let s := if b = .slope ∧ (s.src i).dvdt = 0 then s else s.modSrc i (fun x => { x with band := b })
  let x := s.src i
  if s.sys.mode = .limp then
    if x.ref = 0 then
      if s.limp.gate ∧ (b = .under ∨ b = .over) ∧ s.pwr.gate.surge = false then limpSet { s with limp := { s.limp with gate := false } } else s
    else if b = .under ∧ s.limp.src.getLsbD (x.ref - 1) = true then
      limpSet { s with limp := { s.limp with src := putBit s.limp.src (x.ref - 1) false } }
    else s
  else if x.state = .qualifying ∧ pathValid s i = false then s.modSrc i (fun x => { x with state := .invalid }) else s
/-- SOURCE_CROSSING_REPORT. -/
def execSourceCrossingReport (entry : Nat) (b : Band) (s : State) : Host.Outcome State Fault Refusal :=
  act s (fun s => if (s.src entry).state = .absent then s else reportBand entry b s)
/-- SRC_ID decoding (Table 5-5): the code of PWR_SRCID for a pin voltage in mV. -/
def srcIdCode (mv : Nat) : Nat :=
  if mv < 150 then 7 else if mv < 600 then 1 else if mv < 1000 then 2 else if mv < 1500 then 3 else if mv < 1900 then 4
  else if mv < 2250 then 6 else 0
/-- The pin of a SOURCE cordon: that of its lowest-numbered cell (R6). -/
def srcIdPin (s : State) (c : Nat) : Nat := (maskList (s.cordon c).e.cells).headD 0
/-- Read the SRC_ID pin of entry i's SOURCE cordon: the reading, and on Q8 the short (R129, R130). -/
def readSrcId (i mv : Nat) (s : State) : State :=
  let x := s.src i
  if (s.cordon x.ref).e.role = .source ∧ x.ref ≠ 0 then
    let code := srcIdCode mv
    let s := { s with pwr := { s.pwr with srcId := bankPut s.pwr.srcId (srcIdPin s x.ref) code } }
    if s.hw.variant = .q8 then
      let was := x.srcIdShort
      let s := s.modSrc i (fun x => { x with srcIdShort := decide (code = 7) })
      if code = 7 ∧ was = false then raise 132 i s else s
    else s
  else s
/-- The type of entry i and its origin by R129 and R130. -/
def findType (s : State) (i : Nat) : Nat × Nat :=
  let x := s.src i
  let role := (s.cordon x.ref).e.role
  let code := bankGet 0 s.pwr.srcId (srcIdPin s x.ref)
  if x.ref ≠ 0 ∧ role = .peer then (5, 2)
  else if s.hw.variant = .q8 ∧ x.ref ≠ 0 ∧ (code = 1 ∨ code = 2 ∨ code = 3 ∨ code = 4 ∨ code = 6) then (code, 1)
  else if s.hw.variant ≠ .q8 ∨ x.declared ≠ 0 then (x.declared, 3) else (0, 0)
/-- SOURCE_QUALIFY_START (R124, R125, R129): a valid path's window opens and its pin is read. A reading on a usable path
that differs raises SRC_ID_CHANGED; a short one makes the path invalid. -/
def execSourceQualifyStart (entry srcIdMv : Nat) (s : State) : Host.Outcome State Fault Refusal :=
  act s (fun s =>
    let x := s.src entry
    if !working s.sys.mode then s
    else if x.state = .invalid then
      let s := readSrcId entry srcIdMv (s.modSrc entry (fun x => { x with srcIdShort := false }))
      if pathValid s entry then
        let t := qualTime s entry
        let ty := findType s entry
        let s := s.modSrc entry (fun x => { x with state := .qualifying, tQualEff := t, qualEnd := s.now + 1000 * t,
                                                   type_ := ty.1, origin := ty.2 })
        if ty.1 = 0 ∧ s.hw.variant = .q8 then raise 133 entry s else s
      else s
    else if usableState x.state ∧ x.ref ≠ 0 ∧ (s.cordon x.ref).e.role = .source ∧ s.hw.variant = .q8 then
      let old := bankGet 0 s.pwr.srcId (srcIdPin s x.ref)
      let s := readSrcId entry srcIdMv s
      if (s.src entry).srcIdShort then dropPath entry 8 false s
      else if bankGet 0 s.pwr.srcId (srcIdPin s x.ref) ≠ old then raise 131 entry s
      else s
    else s)
/-- V_ENGAGE of cordon c, 10 mV. -/
def vEngageOf (s : State) (c : Nat) : Nat := (s.cordon c).e.vEngage * 10
/-- The hand-back set for the path of entry i: engaged cordons go to V_ENGAGE, or for the gate to 3.0 V below the source. -/
def handSet (i : Nat) (s : State) : State :=
  let gate := decide ((s.src i).ref = 0)
  let v := s.pwr.gate.ain8 - 300
  let s := engagedSet (fun c => if gate then v else vEngageOf s c) s
  applyPriority { s with pwr := { s.pwr with path := .handback, handTo := i, handSet := true } }
/-- QUALIFICATION_END (R124, R126, R140): the path is usable; the mode and the power path follow. In a hand-back to the gate a path of
higher rank opens the gate and takes the hand-back over. -/
def execQualificationEnd (entry : Nat) (s : State) : Host.Outcome State Fault Refusal :=
  act s (fun s =>
    if (s.src entry).state ≠ .qualifying ∨ pathValid s entry = false then s
    else
      let s := s.modSrc entry (fun x => { x with state := .usable })
      let s := if s.sys.mode = .reserve ∧ ownPathUsable s ∧ s.eis.shipRun = false then setMode .normal s else s
      match s.pwr.path with
      | .unfed => seekFeed s
      | .fed => applyPriority s
      | .handback =>
        (match usableRanks s with
        | j :: _ => if j ≠ s.pwr.handTo ∧ s.pwr.handTo ≠ 0 ∧ (s.src s.pwr.handTo).ref = 0 then handSet j s else applyPriority s
        | [] => s)
      | _ => s)
/-- SOURCE_DROP (R124): a usable path that samples invalid is dropped. -/
def execSourceDrop (entry : Nat) (s : State) : Host.Outcome State Fault Refusal :=
  act s (fun s =>
    if working s.sys.mode ∧ usableState (s.src entry).state ∧ pathValid s entry = false then
      dropPath entry (dropCause s entry) false s
    else s)
/-- DROP_COUNT_AGE (R125): the oldest drop leaves the 10 min window. -/
def execDropCountAge (entry : Nat) (s : State) : Host.Outcome State Fault Refusal :=
  act s (fun s => s.modSrc entry (fun x => { x with dropTimes := x.dropTimes.dropLast }))
/-- Every engaged cell holds its target or the cask (R137): the changeover is complete. -/
def coComplete (s : State) : State :=
  let e := seven.filter (fun n => (s.cell n).engaged && switching (s.cell n))
  if s.pwr.path = .changeover ∧ e ≠ [] ∧ e.all (fun n => (s.cell n).regulating) then
    { s with pwr := { s.pwr with path := .carried, coDuration := min (2 ^ 20 - 1) (ceilDiv (s.now * 100 - s.pwr.coStart) 100) } }
  else s
/-- CO_LATE (R137). -/
def execCoLate (s : State) : Host.Outcome State Fault Refusal :=
  act s (fun s =>
    if s.pwr.path = .changeover ∧ s.pwr.coLate = false then
      raise 128 0 { s with pwr := { s.pwr with coLate := true } }
    else s)

/-! ### Hand-back (R138, Table 5-8) -/

/-- HANDBACK: in CARRIED with a usable path. In LIMP the sequencer runs it for a re-admitted source (R111). -/
def execHandback (s : State) : Host.Outcome State Fault Refusal :=
  act s (fun s =>
    if s.sys.mode = .limp then
      if limpFed s ∧ anyEngaged s then
        let s := engagedSet (fun c => if s.limp.gate then s.pwr.gate.ain8 - 300 else vEngageOf s c) s
        { s with pwr := { s.pwr with path := .handback, handTo := 0, handSet := true } }
      else s
    else if s.pwr.path = .carried then
      match usableRanks s with
      | [] => s
      | i :: _ => handSet i s
    else s)
/-- Release the engaged cells of every cordon to STANDBY by SET; the charge engine takes its strings at its next evaluation, where the
suspension for DISCHARGING ends (R163). -/
def releaseEngaged (s : State) : State :=
  seven.foldl (fun t c =>
    if (activeCells t c).any (fun n => (t.cell n).engaged) then
      let t := t.modCells (activeCells t c) (fun _ x => { x with engaged := false, engagedBySet := false })
      driveCordon c .standby 0 0 ((t.cordon c).e.vMax * 10) t
    else t) s
/-- The path is FED, with no hand-back and no supplement. -/
def fedAgain (p : Pwr) : Pwr := { p with path := .fed, handTo := 0, handSet := false, supplement := false, suppPower := 0 }
/-- HANDBACK_COMPLETE: the engaged cordons are released and the path is FED. -/
def handbackDone (s : State) : State :=
  let t := releaseEngaged s
  let u : State := { t with pwr := fedAgain t.pwr }
  if s.sys.mode = .limp then limpSet u else applyPriority u
/-- HANDBACK_COMPLETE. -/
def execHandbackComplete (s : State) : Host.Outcome State Fault Refusal :=
  act s (fun s => if s.pwr.path = .handback then handbackDone s else s)
/-- HANDBACK_TIMEOUT: the path is dropped with cause 7 and the strings carry on. -/
def execHandbackTimeout (s : State) : Host.Outcome State Fault Refusal :=
  act s (fun s =>
    if s.pwr.path ≠ .handback then s
    else
      let i := s.pwr.handTo
      let s := { s with pwr := { s.pwr with path := .carried, handTo := 0, handSet := false } }
      let s := if s.sys.mode = .limp then s else raise 129 i (dropPath i 7 false s)
      engagedSet (fun _ => vCaskSet (boardImage s) * 10) s)

/-! ### Cask low, supplement, test drop (R133, R139) -/

/-- CASK_LOW (R139). -/
def execCaskLow (s : State) : Host.Outcome State Fault Refusal :=
  act s (fun s => if s.sys.mode ≠ .staging ∧ s.pwr.path ≠ .fed then { s with pwr := { s.pwr with caskLow := true } } else s)
/-- CASK_LOW_CLEAR. -/
def execCaskLowClear (s : State) : Host.Outcome State Fault Refusal :=
  act s (fun s => { s with pwr := { s.pwr with caskLow := false } })
/-- SUPPLEMENT_END (R133): engaged strings leave by hand-back, strings ordered to discharge by SET. -/
def execSupplementEnd (s : State) : Host.Outcome State Fault Refusal :=
  act s (fun s =>
    if !s.pwr.supplement then s
    else
      let s := { s with pwr := { s.pwr with supplement := false, suppPower := 0, suppOk := 0 } }
      if anyEngaged s then
        match usableRanks s with
        | [] => s
        | i :: _ => handSet i s
      else seven.foldl (fun t c => if (t.cordon c).e.role = .battery ∧ (t.cordon c).mode = .portI ∧ (t.cordon c).iSet < 0 then
          driveCordon c .standby 0 0 ((t.cordon c).e.vMax * 10) t
        else t) s)
/-- PWR_CMD TEST_DROP. Where several refusals apply the first of mode, busy, argument, entry is answered, and an ENTRY outside 1 to 8
is answered as an absent entry (DESIGN CHOICE, log entry 70). -/
def pwrTestDrop (entry hold : Nat) (s : State) : State :=
  let res (r : Nat) (t : State) : State := { t with pwr := { t.pwr with cmd := cmdRes 1 r } }
  if s.sys.mode ≠ .service then res 2 s
  else if s.pwr.testEntry ≠ 0 then res 1 s
  else if hold = 0 ∨ 60000 < hold then res 4 s
  else if !usableState (s.src entry).state then res 3 s
  else res 0 (dropPath entry 6 true { s with pwr := { s.pwr with testEntry := entry } })
/-- TEST_DROP. -/
def execTestDrop (entry hold : Nat) (s : State) : Host.Outcome State Fault Refusal := act s (pwrTestDrop entry hold)
/-- PWR_CMD with a code that Table 5-10 does not list. -/
def pwrUnknown (code : Nat) (s : State) : State := { s with pwr := { s.pwr with cmd := cmdRes code 5 } }
/-- TEST_DROP_HOLD_END: the entry requalifies. -/
def execTestDropHoldEnd (entry : Nat) (s : State) : Host.Outcome State Fault Refusal :=
  act s (fun s =>
    let s := s.modSrc entry (fun x => if x.state = .testDropped then { x with state := .invalid } else x)
    if s.pwr.testEntry = entry then { s with pwr := { s.pwr with testEntry := 0 } } else s)
/-- ENGAGE (R57, R133, R134): a standby, charging or absorbing cell engages on its own cask reading, at V_ENGAGE; absorption ends without its release (R210). During a
changeover the engage SETs go to every ready cordon. With a feeding path this is a supplement. -/
def execEngage (cell : Nat) (s : State) : Host.Outcome State Fault Refusal :=
  act s (fun s =>
    let c := servedCordon s cell
    let x := s.cell cell
    if (s.cordon c).e.role = .battery ∧ switching x ∧ x.engaged = false ∧ x.sp.vEngage ≠ 0 ∧
        (x.absorbing ∨ x.mode = .standby ∨ x.mode = .portI ∨ x.mode = .portV) then
      let s := cordonEngages c (if s.pwr.path = .fed then 3 else 1) (s.modCell cell (engageCell false x.sp.vEngage (cutoffV s c)))
      if s.sys.mode = .limp then limpSet s
      else match s.pwr.path with
        | .changeover => engageSets s
        | .fed => { s with pwr := { s.pwr with supplement := true } }
        | .unfed => { s with pwr := { s.pwr with path := .carried } }
        | _ => s
    else s)

end Sys2Proof.Machine
end

