-- ==== Sys2Proof/Machine/Charge.lean ====
section
/-! DEFINITION. The charge engine: its evaluation every 10 ms, its timers and its commands (chapter 6). Voltages in
10 mV, currents in mA; thresholds are compared in 0.01 mV so that no rounding enters a comparison. -/

namespace Sys2Proof.Machine

/-! ### Thresholds and phase currents (R151, R152, R157) -/

/-- Profile of battery index i in the running image. -/
def prof (s : State) (i : Nat) : Profile := profile s.str.image i
/-- Temperature for compensation: −20.0 to +50.0 °C, 0.1 °C. -/
def compTemp (t : Int) : Int := max (-200) (min 500 t)
/-- n × a per-cell threshold in mV, compensated, before the clamp; 0.01 mV. -/
def effRaw (p : Profile) (temp : Int) (mv : Nat) : Nat :=
  ((p.cells : Int) * ((mv : Int) * 100 + (if p.chem = 1 then 0 else p.comp * (compTemp temp - 250)))).toNat
/-- The same clamped to V_PORT_MAX of the cordon (0.1 V). -/
def effThr (p : Profile) (temp : Int) (vMax mv : Nat) : Nat := min (effRaw p temp mv) (vMax * 10000)
/-- A threshold in 10 mV. -/
def thr10 (x : Nat) : Nat := x / 1000
/-- n × V_CHG_eff and n × V_MAINT_eff of string i, clamped, 0.01 mV. -/
def chgThr (s : State) (i : Nat) : Nat := effThr (prof s i) (s.chgI i).temp (s.cordon (batCordon s i)).e.vMax (prof s i).vChg
/-- n × V_MAINT_eff. -/
def maintThr (s : State) (i : Nat) : Nat := effThr (prof s i) (s.chgI i).temp (s.cordon (batCordon s i)).e.vMax (prof s i).vMaint
/-- A clamp of R157 is in effect. -/
def clamped (s : State) (i : Nat) : Bool :=
  let p := prof s i
  let m := (s.cordon (batCordon s i)).e.vMax * 10000
  decide (m < effRaw p (s.chgI i).temp p.vChg ∨ m < effRaw p (s.chgI i).temp p.vMaint)
/-- I_CC × capacity, mA. -/
def iCcOf (p : Profile) : Nat := p.iCc * p.cap / 10
/-- I_TERM × capacity, mA. -/
def iTermOf (p : Profile) : Nat := p.iTerm * p.cap / 10
/-- I_PH (R152), mA, at string voltage v. -/
def iPhase (s : State) (i v : Nat) : Nat :=
  let c := batCordon s i
  let e := (s.cordon c).e
  let v := max v 1
  min (min (iCcOf (prof s i)) (e.iPos * 10)) (min (2500000 * e.pLim / v) ((activeCells s c).length * iCont v))
/-- The phase current of Table 6-3, mA. -/
def phaseCurrent (s : State) (i : Nat) (g : Chg) (v : Nat) : Nat :=
  let p := prof s i
  let ph := iPhase s i v
  match g.phase with
  | .trickle => min (p.cap / 2) 500
  | .pre => min (5 * p.cap) ph
  | .cc | .cv => ph
  | .maint =>
    if p.chem = 2 then min (iCcOf p) ((s.cordon (batCordon s i)).e.iPos * 10)
    else if p.chem = 3 ∧ g.pulse then min (iTermOf p) ph else 0
  | _ => 0
/-- N_j of R191 for a start in 0.01 Hz: the largest N with (2N − 1) × f₀ × 10^(j/ppd) ≤ 62,500,000 (half up), one bit at
a time from bit `k` down. -/
def pointDivFrom (f0 ppd j : Nat) : (k acc : Nat) → Nat
  | 0, acc => acc
  | k + 1, acc =>
    let n := acc + 2 ^ k
    pointDivFrom f0 ppd j k (if ((2 * n - 1) * f0) ^ ppd * 10 ^ j ≤ 62500000 ^ ppd then n else acc)
/-- N_j. -/
def pointDiv (f0 ppd j : Nat) : Nat := pointDivFrom f0 ppd j 23 0
/-- f_j in 0.001 Hz, to the nearest. -/
def pointFreq (f0 ppd j : Nat) : Nat := let n := pointDiv f0 ppd j; (625000000 + n) / (2 * n)
/-- Frequency of the point in progress of string i, 0.001 Hz. -/
def runFreq (s : State) (i : Nat) : Nat := let r := (s.bat i).run; pointFreq r.f0 r.ppd r.cur
/-- An impedance run stands at a point below 1 Hz (R164). -/
def slowRun (s : State) (i : Nat) : Bool := (s.bat i).run.running && decide (runFreq s i < 1000)
/-- A current at a voltage in credits, rounded up. -/
def toCredits (i v : Nat) : Nat := ceilDiv (i * v) 2500000
/-- The current that credits give at a voltage, mA. -/
def fromCredits (k v : Nat) : Nat := if v = 0 then 0 else k * 2500000 / v

/-! ### Suspension (Table 6-7) -/

/-- A path that may charge strings feeds: a SOURCE cordon, the gate, or an importing PEER that runs no test (R225). -/
def feedGrants (s : State) : Bool :=
  decide (s.pwr.path = .fed) && eight.any (fun i =>
    decide ((s.src i).state = .feeding) &&
      (decide (peerOf s (s.src i).ref = 0) || !(s.peerI (peerOf s (s.src i).ref)).testImport))
/-- A BATTERY cordon discharges for the power path or absorbs. -/
def discharging (s : State) (c : Nat) : Bool :=
  seven.any (fun n => ((s.cell n).engaged || (s.cell n).absorbing) && decide (servedCordon s n = c)) ||
    decide ((s.cordon c).mode = .portI ∧ (s.cordon c).iSet < 0)
/-- Every cell of the cordon is out of service and no spare carries a share. -/
def noCells (s : State) (c : Nat) : Bool :=
  (maskList (s.cordon c).e.cells).all (fun n =>
    let x := (s.cell n).state
    decide (x = .tripped ∨ x = .failed ∨ x = .selftest ∨ x = .update)) && decide ((s.cordon c).replaced = 0)
/-- Where the latest NTC average lies: 0 inside the charge window or not yet known, 1 below, 2 above (R158). -/
def tempSideOf (p : Profile) (g : Chg) : Nat :=
  if p.ntc = 0 ∨ g.temps = [] then 0 else if p.tHigh < g.temp then 2 else if g.temp < p.tLow then 1 else 0
/-- The suspension bits of an instance, from the conditions of Table 6-7 and the counts of the instance. -/
def suspBits (s : State) (i : Nat) (g : Chg) : BitVec 9 :=
  let c := batCordon s i
  let p := prof s i
  let hasNtc := decide (p.ntc ≠ 0)
  let temp := hasNtc && (decide (tempSideOf p g ≠ 0) || (g.susp.getLsbD 3 && decide (g.n.inTemp < 60)))
  let badNtc := (match g.tNow with | none => false | some t => decide (t < -400 ∨ 1000 < t)) || decide (100 ≤ g.n.ntcBad)
  let ntc := hasNtc && (badNtc || (g.susp.getLsbD 4 && decide (g.n.ntcOk < 1000)))
  let meas := decide (100 ≤ g.n.measBad) || (g.susp.getLsbD 5 && decide (g.n.measOk < 100))
  let sw := decide ((s.bat i).sw ≠ .closed ∨ (s.bat i).miss = .confirmed)
  let b := putBit (0 : BitVec 9) 1 (!feedGrants s || seven.any (fun k => decide ((s.cordon k).e.role = .battery) && discharging s k))
  let b := putBit b 2 (discharging s c)
  let b := putBit b 3 temp
  let b := putBit b 4 ntc
  let b := putBit b 5 meas
  let b := putBit b 6 sw
  putBit b 8 (noCells s c)
/-- Latch bits of CHG_FLT; a halting bit set anew is unread (R171). -/
def setFlt (bits : BitVec 12) (g : Chg) : Chg :=
  { g with flt := g.flt ||| bits, haltUnread := g.haltUnread ||| (bits &&& 0x00F) }
/-- One bit of CHG_FLT. -/
def fltBit (k : Nat) : BitVec 12 := BitVec.ofNat 12 (2 ^ k)

/-! ### Cycles -/

/-- A new cycle (R150, R169): QUALIFY, timers and peak at zero, the timer settings of the image. -/
def newCycle (s : State) (i : Nat) (recharge : Bool) (g : Chg) : Chg :=
  let p := prof s i
  { g with
    phase := .qualify, recharge := recharge, safe := 0, pre := 0, cv := 0, ccTime := 0, ccSeen := false, peak := 0, drop := 0,
    setSafe := p.tSafe, setPre := p.tPre, setCv := p.tCv, cycleAt := s.now, haltBy := 0, pulse := false, trim := 0,
    trimLimit := false, half := false, lim := 0, restRuns := false, rest := {}, haltUnread := 0, cycleWait := 0,
    n := { g.n with
      deep := 0, pre := 0, chg := 0, term1 := 0, drop := 0, slope := 0, ceil := 0, recharge := 0,
      floatHi := 0, overV := 0, trim := 0, pulseCeil := 0 } }
/-- A phase is entered. -/
def enterPhase (ph : Phase) (g : Chg) : Chg :=
  { g with phase := ph, trim := 0, trimLimit := false, restRuns := false, ccSeen := g.ccSeen || decide (ph = .cc),
           n := { g.n with deep := 0, pre := 0, chg := 0, term1 := 0, ceil := 0, trim := 0, recharge := 0, floatHi := 0 } }
/-- HALTED by the fault of a bit of CHG_FLT (Table 6-8). -/
def halt (bit : Nat) (g : Chg) : Chg :=
  setFlt (fltBit bit) { g with phase := .halted, haltBy := bit, pulse := false, grant := 0, demand := 0, half := false, lim := 0 }
/-- Change instance i and its coulomb book by a termination rule (R155, R185). -/
def terminate (i rule : Nat) (s : State) : State :=
  let s := s.modChg i (fun g =>
    let g := enterPhase .maint g
    let g := { g with term := rule, lTerm := rule, count := satInc 65535 g.count, lastTerm := some s.now, pulseAt := s.now, pulse := false,
                      lWall := min 4095 ((s.now - g.cycleAt) / tenMin), lTimer := min 4095 (g.safe / 120000) }
    if rule = 2 ∨ rule = 3 then setFlt (fltBit 10) g else g)
  s.modBook i (fun b => { b with net := 0, inTerm := 0, outTerm := 0, sinceTerm := true, uncertain := false })
/-- Reconcile SOH_Z with the book at a cut-off (R199). -/
def reconcile (i : Nat) (s : State) : State :=
  let b := (s.bat i).book
  let capUc := (prof s i).cap * 360000000
  if b.sinceTerm ∧ b.inTerm * 100 < capUc ∧ b.uncertain = false ∧ capUc ≠ 0 then
    let q := min 1000 (b.outTerm * 1000 / capUc)
    let r := (s.bat i).run
    let diff := if r.sohZ < q then q - r.sohZ else r.sohZ - q
    let bad := r.sohZOk && decide (150 < diff)
    let s := s.modRun i (fun r => { r with sohQ := q, sohQAt := s.now, disagree := bad })
    let s := s.modBook i (fun b => { b with sinceTerm := false })
    if bad then raise (128 + 16 * i + 12) 0 s else s
  else s.modBook i (fun b => { b with sinceTerm := false })

/-! ### The evaluation (R149) -/

/-- Slope of a least-squares line through 1 s averages, newest first, in 0.01 K/min (R155 rule 5). -/
def slopeOf (ts : List Int) : Int :=
  let m : Int := ts.length
  if ts.length < 2 then 0
  else 3600 * ((ts.reverse.zipIdx.map (fun (t, k) => (2 * (k : Int) - (m - 1)) * t)).sum) / (m * (m * m - 1))
/-- Count up while a condition holds, else back to 0. -/
def run1 (b : Bool) (n : Nat) : Nat := if b then n + 1 else 0
/-- The trim of R159 at most: 2.0 % of the target. -/
def trimMax (target : Nat) : Nat := target * 2 / 100
/-- Close a second: averages, temperatures and the conditions judged on 1 s averages. -/
def secondMarks (s : State) (i : Nat) (g : Chg) : Chg :=
  let p := prof s i
  let avg (a : Accu) (d : Int) : Int := if a.count = 0 then d else a.sum / (a.count : Int)
  let v := (avg g.accV g.v).toNat
  let iS := avg g.accI g.i
  let t := avg g.accT g.temp
  let temps := if g.accT.count = 0 then g.temps else (t :: g.temps).take 60
  let g := { g with v := v, i := iS, temp := if p.ntc = 0 then 0 else t, temps := temps, dtdt := if p.ntc = 0 then 0 else slopeOf temps,
                    accV := {}, accI := {}, accT := {} }
  let live := decide (g.susp = 0)
  let judge := live && decide (g.eisHold = 0) && !slowRun s i
  let act := activeCells s (batCordon s i)
  let atMax := decide (act ≠ []) && act.all (fun n => decide ((s.cell n).limitReason = 6))
  let nicd := decide (p.chem = 3)
  let peak := if nicd && g.ccSeen && decide (g.phase = .cc) && live then max g.peak v else g.peak
  let fall := peak - v
  let late := decide (60000 ≤ g.ccTime) && decide (g.lim = 0)
  let inW := decide (p.tLow + 20 ≤ g.temp ∧ g.temp ≤ p.tHigh - 20)
  { g with
    peak := peak, drop := if nicd ∧ p.cells ≠ 0 then min 65535 (fall * 100 / p.cells) else 0,
    n := { g.n with
      term1 := run1 (judge && decide (g.phase = .cv) && decide (iS ≤ (iTermOf p : Int))) g.n.term1
      drop := run1 (judge && nicd && decide (g.phase = .cc) && late && decide (p.cells * p.dV ≤ fall * 100)) g.n.drop
      slope := run1 (judge && nicd && ((decide (g.phase = .cc) && late) || g.pulse) && decide (temps.length = 60) &&
        decide ((p.dTdt : Int) ≤ g.dtdt)) g.n.slope
      ceil := run1 (judge && nicd && decide (g.phase = .cc) && decide (g.lim = 0) && atMax &&
        decide (2 * iS < (g.iPh : Int))) g.n.ceil
      pulseCeil := run1 (judge && g.pulse && atMax && decide (2 * iS < (iTermOf p : Int))) g.n.pulseCeil
      recharge := run1 (judge && decide (g.phase = .maint) && decide (v * 1000 < p.cells * p.vMaint * 100)) g.n.recharge
      floatHi := run1 (judge && decide (g.phase = .maint) && decide (5 * (iTermOf p : Int) < iS)) g.n.floatHi
      overV := run1 (decide (103 * chgThr s i < v * 100000)) g.n.overV
      trim := run1 (decide (g.phase = .cv ∨ (g.phase = .maint ∧ p.chem = 2)) &&
        decide (trimMax g.vTarget ≤ g.trim.natAbs ∧ g.trim ≠ 0)) g.n.trim
      inTemp := run1 inW g.n.inTemp } }
/-- Counts of every evaluation: before the first NTC average the latest reading stands for the temperature, 25 °C without one (DESIGN
CHOICE, log entry 71); slot validity and the thresholds of Table 6-2, R166 and R167. -/
def evalMarks (s : State) (i : Nat) (g : Chg) : Chg :=
  let p := prof s i
  let c := batCordon s i
  let v := (g.vNow.getD 0) * 1000
  let okV := g.fresh.getLsbD 0
  let okI := g.fresh.getLsbD 1
  let okT := g.fresh.getLsbD 2
  let inR := match g.tNow with | none => false | some t => decide (-400 ≤ t ∧ t ≤ 1000)
  let dis := decide ((s.cordon c).mode = .caskV) || decide ((s.cordon c).mode = .portI ∧ (s.cordon c).iSet < 0)
  let live := decide (g.susp = 0)
  let rearmPhase := live && chargingPhase g.phase
  { g with
    fresh := 0, eisHold := if slowRun s i then 1000 else g.eisHold - 1, vEval := g.vNow.getD 0,
    temp := if p.ntc ≠ 0 ∧ g.temps = [] then g.tNow.getD 250 else g.temp,
    n := { g.n with
      measBad := if okV && okI then 0 else g.n.measBad + 1
      measOk := run1 (okV && okI) g.n.measOk
      ntcBad := if okT then 0 else g.n.ntcBad + 1
      ntcOk := run1 (okT && inR) g.n.ntcOk
      deep := run1 (live && decide (p.cells * p.vDeep * 100 ≤ v)) g.n.deep
      pre := run1 (live && decide (p.cells * p.vPre * 100 ≤ v)) g.n.pre
      chg := run1 (live && decide (995 * chgThr s i ≤ 1000 * v)) g.n.chg
      cutoff := run1 (dis && g.vNow.isSome && decide (v ≤ p.cells * p.vCut * 100)) g.n.cutoff
      rearm := run1 (rearmPhase && decide (105 * p.cells * p.vCut < v)) g.n.rearm
      inCc := if g.cutoff && live && decide (g.phase = .cc) then g.n.inCc + 1 else g.n.inCc } }
/-- The limiters of R160 that hold the current, as CHG_STAT.LIM. -/
def limiters (s : State) (i : Nat) (g : Chg) : BitVec 4 :=
  let c := batCordon s i
  let want := phaseCurrent s i g (g.vNow.getD 0)
  let held := if g.phase = .cv then decide ((g.vNow.getD 0) * 200 < 199 * g.vTarget)
    else decide ((g.iNow.getD 0) * 100 < 95 * (want : Int))
  if !held then 0
  else
    let b := putBit (0 : BitVec 4) 0 (decide (g.grant < toCredits want (g.vNow.getD 0)) && !g.short)
    let b := putBit b 1 (if s.hw.variant = .q8 then eight.any (typeHeld s)
      else eight.any (fun k => (s.src k).inreg))
    let b := putBit b 2 ((activeCells s c).any (fun n => decide ((s.cell n).limitReason = 2)))
    putBit b 3 g.short
/-- Advance the timers of an instance that is not suspended (R160–R162). -/
def tickTimers (s : State) (i : Nat) (g : Chg) : Chg :=
  let p := prof s i
  let charging := decide (g.phase = .trickle ∨ g.phase = .pre ∨ g.phase = .cc ∨ g.phase = .cv)
  let g := if charging then { g with lim := limiters s i g } else { g with lim := 0 }
  let half := charging && decide (g.lim ≠ 0)
  let k := if half then 1 else 2
  let near := decide ((g.vNow.getD 0) * 100 ≤ 101 * g.vTarget ∧ 99 * g.vTarget ≤ (g.vNow.getD 0) * 100)
  let inCc := decide (g.phase = .cc)
  { g with half := half, safe := if charging then g.safe + k else g.safe,
           pre := if g.phase = .trickle ∨ g.phase = .pre then g.pre + k else g.pre,
           cv := if (decide (g.phase = .cv) && near) || (decide (p.chem = 3) && inCc) then g.cv + 1 else g.cv,
           ccTime := if inCc then g.ccTime + 1 else g.ccTime }
/-- Count the shorted-string test of R183 in TRICKLE. -/
def shortMarks (i : Nat) (s : State) : State :=
  let g := s.chgI i
  let p := prof s i
  let below := decide ((g.vNow.getD 0) < 50 * p.cells)
  let carries := decide (((phaseCurrent s i g (g.vNow.getD 0) : Nat) : Int) ≤ 2 * g.iNow.getD 0)
  if g.phase = .trickle ∧ g.susp = 0 then
    s.modBat i (fun b => { b with shortOff := b.shortOff || !below, shortRun := if carries then b.shortRun + 1 else b.shortRun })
  else s.modBat i (fun b => if g.phase = .trickle then b else { b with shortRun := 0, shortOff := false })
/-- The transitions of Table 6-2 that an evaluation makes. -/
def transitions (i : Nat) (s : State) : State :=
  let g := s.chgI i
  let p := prof s i
  let b := (s.bat i).book
  let netOut := decide ((p.cap : Int) * 18000000 ≤ -b.net)
  let put (f : Chg → Chg) : State := s.modChg i f
  if decide (1 ≤ g.n.overV) && decide (g.phase ≠ .none ∧ g.phase ≠ .halted ∧ g.phase ≠ .hold) then put (halt 2)
  else if g.phase = .trickle ∧ 200 ≤ (s.bat i).shortRun ∧ (s.bat i).shortOff = false then put (halt 3)
  else if g.susp ≠ 0 then s
  else if chargingPhase g.phase ∧ g.phase ≠ .maint ∧ g.setSafe * 12000 ≤ g.safe then put (halt 0)
  else if (g.phase = .trickle ∨ g.phase = .pre) ∧ g.setPre * 12000 ≤ g.pre then put (halt 1)
  else match g.phase with
    | .trickle => if 10 ≤ g.n.deep then put (enterPhase .pre) else s
    | .pre => if 10 ≤ g.n.pre then put (enterPhase .cc) else s
    | .cc =>
      if p.chem ≠ 3 then (if 10 ≤ g.n.chg then put (enterPhase .cv) else s)
      else if g.setCv * 6000 ≤ g.cv then terminate i 3 s
      else if 10 ≤ g.n.drop then terminate i 4 s
      else if 10 ≤ g.n.slope then terminate i 5 s
      else if 60 ≤ g.n.ceil then terminate i 6 s
      else s
    | .cv => if 60 ≤ g.n.term1 then terminate i 1 s else if g.setCv * 6000 ≤ g.cv then terminate i 2 s else s
    | .maint =>
      if netOut && decide (g.eisHold = 0) then put (newCycle s i true)
      else match p.chem with
        | 1 => if 60 ≤ g.n.recharge then put (newCycle s i true) else s
        | 2 => if 60 ≤ g.n.floatHi then put (newCycle s i true) else s
        | _ =>
          if g.pulse then
            (if 60 ≤ g.n.pulseCeil ∨ 10 ≤ g.n.slope then
              put (fun g => { g with pulse := false, pulseAt := s.now, n := { g.n with slope := 0, pulseCeil := 0, recharge := 0 } })
            else s)
          else if 60 ≤ g.n.recharge ∨ g.pulseAt + 86400000000 ≤ s.now then
            put (fun g => { g with pulse := true, n := { g.n with recharge := 0, slope := 0, pulseCeil := 0 } })
          else s
    | _ => s
/-- Suspension bits of an evaluation; the latched fault bits of Table 6-8, TEMP_LOW and TEMP_HIGH at each swing; resumption under R163,
where a cycle that a command ordered meanwhile begins (DESIGN CHOICE, log entry 72). -/
def suspend (i : Nat) (s : State) : State :=
  let g := s.chgI i
  let b := suspBits s i g
  let p := prof s i
  let rise (k : Nat) : Bool := b.getLsbD k && !g.susp.getLsbD k
  let side := tempSideOf p g
  let f : BitVec 12 := putBit 0 5 (decide (side = 1 ∧ g.tempSide ≠ 1))
  let f := putBit f 6 (decide (side = 2 ∧ g.tempSide ≠ 2))
  let f := putBit f 7 (rise 4)
  let f := putBit f 8 (rise 5)
  let net := (s.bat i).book.net
  let s := s.modChg i (fun g => setFlt f { g with
    susp := b, tempSide := side, tempHigh := if side = 0 then g.tempHigh else decide (side = 2),
    suspAt := if g.susp = 0 ∧ b ≠ 0 then s.now else g.suspAt, suspNet := if g.susp = 0 ∧ b ≠ 0 then net else g.suspNet,
    restRuns := g.restRuns && decide (b = 0), grant := if b = 0 then g.grant else 0 })
  if g.susp ≠ 0 ∧ b = 0 then
    let fresh := decide ((p.cap : Int) * 18000000 ≤ g.suspNet - net) || s.limp.dischSeen.getLsbD (i - 1) ||
      decide (g.suspAt + 86400000000 < s.now) || decide (g.phase = .qualify)
    let s := { s with limp := { s.limp with dischSeen := putBit s.limp.dischSeen (i - 1) false } }
    if g.cycleWait ≠ 0 then s.modChg i (newCycle s i (decide (g.cycleWait = 2)))
    else if fresh && decide (g.phase ≠ .halted ∧ g.phase ≠ .hold) then s.modChg i (newCycle s i false) else s
  else s
/-- Cut-off and its re-arming (R166, R167, R199). -/
def cutoffs (i : Nat) (s : State) : State :=
  let g := s.chgI i
  let c := batCordon s i
  if g.cutoff then
    if 6000 ≤ g.n.inCc ∨ 6000 ≤ g.n.rearm then
      s.modChg i (fun g => { g with cutoff := false, n := { g.n with inCc := 0, rearm := 0 } })
    else s
  else if 10 ≤ g.n.cutoff then
    let s := s.modChg i (fun g => setFlt (fltBit 9) { g with cutoff := true, n := { g.n with inCc := 0, rearm := 0, cutoff := 0 } })
    let s := s.modCells (activeCells s c) (fun _ x => { x with engaged := false, engagedBySet := false })
    reconcile i (driveCordon c .standby 0 0 (thr10 (chgThr s i)) s)
  else s
/-- The trim of R159: at most 0.05 % of the target at each evaluation, ±2.0 % in all. -/
def trimStep (target : Nat) (g : Chg) : Int :=
  let err : Int := (target : Int) - g.vNow.getD target
  let step : Int := (target * 5 / 10000 : Nat)
  let lim : Int := trimMax target
  if g.trimLimit then g.trim else max (-lim) (min lim (g.trim + max (-step) (min step err)))
/-- What the cells of a string are commanded to (Table 6-3): mode, current set point, voltage set point, maximum. During
an impedance run they hold the current (R193). -/
def chargeCommand (s : State) (i : Nat) : CellMode × Int × Nat × Nat :=
  let g := s.chgI i
  let p := prof s i
  let v := g.vNow.getD 0
  let vm := thr10 (chgThr s i)
  let iC : Int := min (phaseCurrent s i g v) (fromCredits g.grant v)
  let r := (s.bat i).run
  let loop := decide (g.phase = .cv) || decide (g.phase = .maint ∧ p.chem = 2)
  if g.susp ≠ 0 then (.standby, 0, 0, vm)
  else if r.running then
    (.portI, if g.phase = .cc ∨ g.pulse then iC else if loop then r.iDc else 0, 0, if loop then g.vTarget * 1005 / 1000 else vm)
  else match g.phase with
    | .trickle | .pre | .cc => (.portI, iC, 0, vm)
    | .cv => (.portV, iC, (((g.vTarget : Int) + g.trim).toNat), (s.cordon (batCordon s i)).e.vMax * 10)
    | .maint =>
      if p.chem = 2 then (.portV, iC, (((g.vTarget : Int) + g.trim).toNat), (s.cordon (batCordon s i)).e.vMax * 10)
      else if g.pulse then (.portI, iC, 0, vm) else (.standby, 0, 0, vm)
    | _ => (.standby, 0, 0, vm)
/-- A string below 20 V cannot be discharged by its cells (R48, R180). -/
def lowString (s : State) (i : Nat) : Bool := decide (chgThr s i < 2000000)
/-- The discharge pulse of R180 begins: −100 mA from every active cell. -/
def startPulse (i : Nat) (s : State) : State :=
  let c := batCordon s i
  (driveCordon c .portI (-100 * ((activeCells s c).length : Int)) 0 (thr10 (chgThr s i)) s).modBat i (fun b => { b with miss := .pulse })
/-- A charge current of R179 starts: 20 mA or more in TRICKLE, PRE or CC where none was commanded. -/
def startsCharge (s : State) (i : Nat) (iC : Int) : Bool :=
  let k := s.cordon (batCordon s i)
  let ph := (s.chgI i).phase
  decide (ph = .trickle ∨ ph = .pre ∨ ph = .cc) && decide (20 ≤ iC) && !(decide (k.mode = .portI ∧ 20 ≤ k.iSet))
/-- The intended peak of the sinusoid around a mean of `dc` mA (R192), mA. -/
def acWanted (s : State) (i : Nat) (dc : Int) : Nat := (s.bat i).run.ampl * max dc.natAbs 50000 / 1000
/-- I_AC of string i: the intended peak, reduced until it fits the limits of the cordon, a grant that lies below the demand, and the
low-port bar of R48. A grant that meets the demand bounds the mean alone, as the example after R199 shows (DEDUCED, log entry 73). -/
def acPeak (s : State) (i : Nat) (dc : Int) : Nat :=
  let c := batCordon s i
  let e := (s.cordon c).e
  let g := s.chgI i
  let v := g.vNow.getD 0
  let top : Int := (e.iPos : Int) * 10 - dc
  let top : Int := if g.grant < toCredits (phaseCurrent s i g v) v then min top ((fromCredits g.grant v : Nat) - dc) else top
  let bot : Int := dc + (if cordonV s c < 2000 then 0 else (e.iNeg : Int) * 10)
  (min (acWanted s i dc : Int) (min top bot)).toNat
/-- The set points under which an impedance point runs: limits, phase, a grant below the demand, the active cells (R195). -/
def pointSnap (s : State) (i : Nat) : List Nat :=
  let c := batCordon s i
  let e := (s.cordon c).e
  let g := s.chgI i
  let v := g.vNow.getD 0
  [e.iPos, e.iNeg, e.pLim, e.vMax, g.phase.code, if g.grant < toCredits (phaseCurrent s i g v) v then g.grant + 1 else 0] ++ activeCells s c
/-- The run of string i as it stands under the present set points: the first look at a point notes them, a later change makes the point
invalid (R195). -/
def watchPoint (s : State) (i : Nat) (r : EisRun) : EisRun :=
  if !r.running then { r with acOn := 0 }
  else
    let dc := (chargeCommand s i).2.1
    let p := pointSnap s i
    { r with acOn := acPeak s i dc, acHz := runFreq s i, snap := p, dirty := r.dirty || decide (r.snap ≠ [] ∧ r.snap ≠ p) }
/-- Command the cordon of string i, unless the power path holds it, its switch is open, or nothing changes. A charge start with a suspicion open runs the pulse; below 20 V a suspicion withholds charge for 1 s. -/
def commandString (i : Nat) (s : State) : State :=
  let c := batCordon s i
  let s := s.modBat i (fun b => if b.miss = .suspected ∧ lowString s i = true ∧ b.chargeAt + oneSec ≤ s.now then
    { b with miss := .none } else b)
  let ac := (s.bat i).run.acOn
  let k := s.cordon c
  let cmd := chargeCommand s i
  if discharging s c ∨ (s.bat i).sw ≠ .closed ∨ (s.bat i).probing ∨ (s.bat i).miss = .pulse then s
  else if (s.bat i).miss = .suspected ∧ cmd.1 = .portI ∧ cmd.2.1 ≠ 0 then
    (if lowString s i then (if k.mode = .standby then s else driveCordon c .standby 0 0 cmd.2.2.2 s)
     else if startsCharge s i cmd.2.1 then startPulse i s else s)
  else
    let s := if cmd.1 = .portI ∧ startsCharge s i cmd.2.1 then s.modBat i (fun b => { b with chargeAt := s.now, maxSeen := false }) else s
    let s := s.modRun i (watchPoint s i)
    let (m, iC, v, vm) := cmd
    if k.mode = m ∧ k.iSet = (if m = .portI then iC else 0) ∧ k.vCmd = v ∧ k.vMaxCmd = vm ∧ m ≠ .portV ∧ (s.bat i).run.acOn = ac then s
    else
      let s := driveCordon c m (if m = .portI then iC else 0) v vm s
      if m = .portV then
        s.modCells (activeCells s c) (fun _ x => { x with sp := { x.sp with iPos := iC.toNat / max (activeCells s c).length 1 } })
      else s
/-- Demand, I_PH, targets and trim after the transitions. -/
def demands (i : Nat) (s : State) : State :=
  let v := (s.chgI i).vNow.getD 0
  let target := thr10 (if (s.chgI i).phase = .maint then maintThr s i else chgThr s i)
  let cl := clamped s i
  let p := prof s i
  let was := (s.chgI i).trimLimit
  let s := s.modChg i (fun g =>
    let live := decide (g.susp = 0)
    let trims := live && (decide (g.phase = .cv) || decide (g.phase = .maint ∧ p.chem = 2))
    let tl := trims && (g.trimLimit || decide (60 ≤ g.n.trim))
    let g := { g with vTarget := if chargingPhase g.phase then target else 0, clamp := cl, trimLimit := tl }
    let g := { g with trim := if trims then trimStep target g else g.trim, iPh := iPhase s i v }
    let g := { g with demand := if live then phaseCurrent s i g v else 0 }
    if cl && !(g.clamp && g.flt.getLsbD 11) then setFlt (fltBit 11) g else g)
  if (s.chgI i).trimLimit ∧ was = false then raise (128 + 16 * i + 13) 0 s else s
/-- In QUALIFY at zero current the 100 ms of R153 begin, unless the missing-battery check runs. -/
def restStart (i : Nat) (s : State) : State :=
  let g := s.chgI i
  if g.phase = .qualify ∧ g.susp = 0 ∧ g.restRuns = false ∧ (s.bat i).miss ≠ .pulse then
    s.modChg i (fun g => { g with restRuns := true, restAt := s.now, rest := {} })
  else s
/-- One instance's evaluation. -/
def evalString (sec : Bool) (i : Nat) (s : State) : State :=
  if !batUsed s i then s
  else
    let s := if (s.chgI i).phase = .none then s.modChg i (newCycle s i false) else s
    let ph := (s.chgI i).phase
    let s := s.modChg i (fun g => evalMarks s i (if sec then secondMarks s i g else g))
    let s := cutoffs i (suspend i s)
    let s := s.modChg i (fun g => if g.susp = 0 then tickTimers s i g else { g with half := false, lim := 0 })
    let s := transitions i (shortMarks i s)
    -- a run does not outlive a suspension or the phases of R188; where CC becomes CV it goes on at the last average (R193)
    let was := ph
    let g := s.chgI i
    let s := s.modRun i (fun r => if r.running then
      { r with iDc := if was ≠ g.phase ∧ g.phase = .cv then g.i else r.iDc,
               tempSum := if sec ∧ g.temps ≠ [] then r.tempSum + g.temp else r.tempSum,
               tempN := if sec ∧ g.temps ≠ [] then r.tempN + 1 else r.tempN } else r)
    let s := if g.susp ≠ 0 then s.modRun i (runAbort s.now 4)
      else if g.phase = .cc ∨ g.phase = .cv ∨ g.phase = .maint ∨ (g.phase = .hold ∧ (s.bat i).run.kind = 3) then s else s.modRun i (runAbort s.now 5)
    commandString i (restStart i (demands i s))
/-- CHARGE_EVALUATION (R149). -/
def execChargeEvaluation (s : State) : Host.Outcome State Fault Refusal :=
  act s (fun s =>
    if !working s.sys.mode ∨ s.eis.shipRun ∨ s.eis.btn.longRun then s
    else
      let n := s.chg.evals + 1
      let s := { s with chg := { s.chg with evals := n } }
      four.foldl (fun t i => evalString (decide (n % 100 = 0)) i t) s)

/-! ### Events of the engine -/

/-- The engine runs and instance i is not suspended. -/
def runningIn (s : State) (i : Nat) : Bool := working s.sys.mode && batUsed s i && decide ((s.chgI i).susp = 0)
/-- QUALIFY_REST_END (R153): the rest voltage decides the starting phase. Without a valid result in the last 50 ms the latest valid one
stands for it, and QUALIFY waits when there is none; in MAINT entered here the 24 h of the NICD pulse begin at the entry (R156): the
manual states neither (DESIGN CHOICE, log entry 74). -/
def execQualifyRestEnd (index : Nat) (s : State) : Host.Outcome State Fault Refusal :=
  act s (fun s =>
    let g := s.chgI index
    if !runningIn s index ∨ g.phase ≠ .qualify ∨ g.restRuns = false then s
    else
      let p := prof s index
      let v := if g.rest.count = 0 then (g.vNow.getD 0) * 1000 else (g.rest.sum * 1000 / (g.rest.count : Int)).toNat
      let ph := if v < p.cells * p.vDeep * 100 then Phase.trickle else if v < p.cells * p.vPre * 100 then .pre
        else if g.recharge ∨ v < p.cells * p.vMaint * 100 then .cc else .maint
      if g.rest.count = 0 ∧ g.vNow = none then s
      else commandString index (demands index (s.modChg index (fun g =>
        let g := enterPhase ph g
        if ph = .maint then { g with pulseAt := s.now } else g))))
/-- SAFE_TIMEOUT (R160). -/
def execSafeTimeout (index : Nat) (s : State) : Host.Outcome State Fault Refusal :=
  act s (fun s =>
    let g := s.chgI index
    if runningIn s index ∧ chargingPhase g.phase ∧ g.phase ≠ .maint then
      commandString index (s.modChg index (fun g => halt 0 { g with safe := max g.safe (g.setSafe * 12000) }))
    else s)
/-- PRE_TIMEOUT (R161). -/
def execPreTimeout (index : Nat) (s : State) : Host.Outcome State Fault Refusal :=
  act s (fun s =>
    let g := s.chgI index
    if runningIn s index ∧ (g.phase = .trickle ∨ g.phase = .pre) then
      commandString index (s.modChg index (fun g => halt 1 { g with pre := max g.pre (g.setPre * 12000) }))
    else s)
/-- CV_TIMER_EXPIRY (R162): rule 2, or for NICD rule 3. -/
def execCvTimerExpiry (index : Nat) (s : State) : Host.Outcome State Fault Refusal :=
  act s (fun s =>
    let g := s.chgI index
    let nicd := decide ((prof s index).chem = 3)
    if runningIn s index ∧ ((g.phase = .cv ∧ nicd = false) ∨ (g.phase = .cc ∧ nicd = true)) then
      commandString index (demands index (terminate index (if nicd then 3 else 2)
        (s.modChg index (fun g => { g with cv := max g.cv (g.setCv * 6000) }))))
    else s)
/-- NICD_PULSE_END (R156). -/
def execNicdPulseEnd (index : Nat) (s : State) : Host.Outcome State Fault Refusal :=
  act s (fun s => if (s.chgI index).pulse ∧ working s.sys.mode then
    commandString index (s.modChg index (fun g => { g with pulse := false, pulseAt := s.now })) else s)
/-- Run a CHG_CMD command (Table 6-12): 3 mode, 4 index. -/
def chgCmd (code i : Nat) (f : State → State × Nat) (s : State) : State :=
  let r := if !working s.sys.mode then 3 else if !batUsed s i then 4 else 0
  if r ≠ 0 then { s with chg := { s.chg with cmd := cmdRes code r } }
  else
    let p := f s
    { p.1 with chg := { p.1.chg with cmd := cmdRes code p.2 } }
/-- CHG_CMD RESTART (R171). While the instance is suspended the new cycle waits for the resumption (R163; log entry 72). -/
def chgRestart (i : Nat) (s : State) : State :=
  chgCmd 1 i (fun s =>
    let g := s.chgI i
    let go : State × Nat := if g.susp = 0 then (commandString i (s.modChg i (newCycle s i false)), 0)
      else (s.modChg i (fun g => { g with cycleWait := 1 }), 0)
    if g.phase = .hold then go
    else if g.phase ≠ .halted then (s, 2)
    else if g.haltUnread ≠ 0 then (s, 1)
    else if g.haltBy = 2 ∧ 103 * chgThr s i < g.v * 100000 then (s, 6)
    else if g.haltBy = 3 ∧ g.vEval < 50 * (prof s i).cells then (s, 6)
    else go) s
/-- CHG_RESTART. -/
def execChgRestart (index : Nat) (s : State) : Host.Outcome State Fault Refusal := act s (chgRestart index)
/-- CHG_CMD HOLD; a deep run goes on, since R188 permits it there. -/
def chgHold (i : Nat) (s : State) : State :=
  chgCmd 2 i (fun s =>
    let ph := (s.chgI i).phase
    if ph = .halted ∨ ph = .hold ∨ ph = .none then (s, 2)
    else
      let s := s.modChg i (fun g => { g with phase := .hold, pulse := false, grant := 0, demand := 0, half := false, lim := 0,
                                             restRuns := false, cycleWait := 0 })
      (commandString i (s.modRun i (fun r => if r.kind = 3 then r else runAbort s.now 5 r)), 0)) s
/-- HOLD. -/
def execHold (index : Nat) (s : State) : Host.Outcome State Fault Refusal := act s (chgHold index)
/-- CHG_CMD NEW_CYCLE: a recharge cycle from MAINT; NET is set to zero (R185). While the instance is suspended the cycle waits for the
resumption (R163; log entry 72). -/
def chgNewCycle (i : Nat) (s : State) : State :=
  chgCmd 3 i (fun s =>
    if (s.chgI i).phase ≠ .maint then (s, 2)
    else
      let s := s.modBook i (fun b => { b with net := 0 })
      if (s.chgI i).susp ≠ 0 then (s.modChg i (fun g => { g with cycleWait := 2 }), 0)
      else ((s.modChg i (newCycle s i true)).modRun i (runAbort s.now 5), 0)) s
/-- NEW_CYCLE. -/
def execNewCycle (index : Nat) (s : State) : Host.Outcome State Fault Refusal := act s (chgNewCycle index)
/-- CHG_CMD with a code that Table 6-9 does not list. -/
def chgUnknown (code : Nat) (s : State) : State := { s with chg := { s.chg with cmd := cmdRes code 5 } }

/-! ### Register views (R173) -/

/-- CHG_STAT of string i. -/
def chgStatWord (s : State) (i : Nat) : Word :=
  let g := s.chgI i
  let reason := ([1, 2, 3, 4, 5, 6, 7, 8].find? (fun k => g.susp.getLsbD k)).getD 0
  pack [(28, 4, g.phase.code), (24, 4, reason), (20, 4, g.lim.toNat), (19, 1, g.half.toNat), (16, 3, g.term), (14, 2, (prof s i).chem),
        (13, 1, g.cutoff.toNat), (12, 1, (engageReady s (batCordon s i)).toNat), (11, 1, g.clamp.toNat), (10, 1, g.trimLimit.toNat),
        (9, 1, g.pulse.toNat), (8, 1, g.recharge.toNat)]
/-- Register at offset o of the CHG window of string i. -/
def chgWindow (s : State) (i o : Nat) : Word :=
  let g := s.chgI i
  let p := prof s i
  if !batUsed s i then 0
  else match o with
    | 0 => chgStatWord s i
    | 1 => pack [(16, 16, g.vTarget), (0, 16, sat 16 g.v)]
    | 2 => BitVec.ofInt 32 g.i
    | 3 => pack [(16, 16, sat 16 (g.demand / 10)), (0, 16, sat 16 (g.iPh / 10))]
    | 4 => BitVec.ofNat 32 (g.safe / 100)
    | 5 => pack [(0, 16, sat 16 (g.pre / 200))]
    | 6 => BitVec.ofNat 32 (g.cv / 100)
    | 7 => pack [(16, 16, if g.temps = [] then 0 else twos 16 g.temp), (0, 16, twos 16 g.dtdt)]
    | 8 => pack [(16, 16, if p.chem = 3 then sat 16 g.peak else 0), (0, 16, g.drop)]
    | 9 => g.flt.setWidth 32
    | 10 => g.fltLast
    | 11 => pack [(16, 16, g.count), (0, 16, match g.lastTerm with | none => 0 | some t => sat 16 ((s.now - t) / oneMin))]
    | 12 => pack [(29, 3, g.lTerm), (12, 12, g.lWall), (0, 12, g.lTimer)]
    | 13 => pack [(30, 2, p.chem), (16, 8, p.ntc), (0, 8, p.cells)]
    | _ => 0

end Sys2Proof.Machine
end

