-- ==== Sys2Proof/Machine/Battery.lean ====
section
/-! DEFINITION. Battery supervision: switches, missing and present strings, coulomb books, impedance runs, BTN_N and the
EIS registers (chapter 7). -/

namespace Sys2Proof.Machine

/-! ### Battery switches (R176–R178) -/

/-- Two readings of a port 20 ms apart, 10 mV, change by less than 0.2 % of reading + 0.5 V. -/
def portStill (before now : Nat) : Bool := decide (1000 * (if before < now then now - before else before - now) < 2 * now + 50000)
/-- BATSW_SETTLED: with the cells off for 20 ms or more, two readings of the loop converters 20 ms apart show a settled port and the
switch closes; in LIMP the string takes its part of the LIMP set (R176). -/
def execBatswSettled (index vBefore vNow : Nat) (s : State) : Host.Outcome State Fault Refusal :=
  act s (fun s =>
    if (s.bat index).sw ≠ .settle ∨ polarityOk s (s.bat index) = false ∨ s.now < (s.bat index).settleAt + 20000 ∨
        portStill vBefore vNow = false then s
    else
      let s := s.modBat index (fun b => { b with sw := .closed })
      if s.sys.mode = .limp then limpSet s else s)
/-- BATSW_SETTLE_TIMEOUT. -/
def execBatswSettleTimeout (index : Nat) (s : State) : Host.Outcome State Fault Refusal :=
  act s (fun s =>
    if (s.bat index).sw ≠ .settle then s
    else raise (128 + 16 * index + 14) 0 (s.modBat index (fun b => { b with sw := .open_, retry := true })))
/-- BATSW_RETRY. -/
def execBatswRetry (index : Nat) (s : State) : Host.Outcome State Fault Refusal :=
  act s (fun s =>
    let s := s.modBat index (fun b => { b with retry := false })
    if working s.sys.mode then settleStart index s else s)

/-! ### A string that is missing (R179–R182) -/

/-- A missing string is confirmed: CHG_FLT bit 4, suspension reason 6, the cordon in standby. -/
def confirmMissing (i : Nat) (s : State) : State :=
  let s := s.modBat i (fun b => { b with miss := .confirmed, probes := 0, suspicions := 0, probing := false })
  let s := s.modChg i (fun g => setFlt (fltBit 4) (addSusp 6 s.now (s.bat i).book.net g))
  let s := s.modRun i (runAbort s.now 4)
  driveCordon (batCordon s i) .standby 0 0 (thr10 (chgThr s i)) s
/-- A string current result of R179 meets both conditions: the pulse begins, or below 20 V the third suspicion in
succession confirms. -/
def suspectMissing (i : Nat) (s : State) : State :=
  if lowString s i then
    let n := (s.bat i).suspicions + 1
    if 3 ≤ n then confirmMissing i s
    else
      let s := s.modBat i (fun b => { b with miss := .suspected, suspicions := n, chargeAt := s.now, maxSeen := false })
      driveCordon (batCordon s i) .standby 0 0 (thr10 (chgThr s i)) s
  else startPulse i s
/-- A valid string current result i0 in mA: a charge current that fails to flow (R179). -/
def missingMarks (i : Nat) (i0 : Int) (s : State) : State :=
  let b := s.bat i
  let k := s.cordon (batCordon s i)
  let ph := (s.chgI i).phase
  let charging := decide (k.mode = .portI ∧ 20 ≤ k.iSet) && decide (ph = .trickle ∨ ph = .pre ∨ ph = .cc)
  if !charging || b.probing || decide (b.miss ≠ .none) then s
  else if i0 < max 20 (k.iSet / 10) then
    if b.maxSeen then suspectMissing i s
    else if s.now < b.chargeAt + 10000 then s
    else s.modBat i (fun b => { b with chargeAt := s.now, maxSeen := false })
  else s.modBat i (fun b => { b with suspicions := 0, maxSeen := false, chargeAt := 0 })
/-- The port of cordon c read its maximum in four consecutive samples (EVENT portMax): within 10 ms of the instant of
R179 the suspicion waits for the next current result. -/
def portMaxSeen (c : Nat) (s : State) : State :=
  let e := (s.cordon c).e
  if e.role ≠ .battery then s
  else s.modBat e.index (fun b => if b.chargeAt ≠ 0 ∧ s.now < b.chargeAt + 10000 then { b with maxSeen := true } else b)
/-- MISSING_PULSE_END (R180). -/
def execMissingPulseEnd (index vStart vEnd : Nat) (s : State) : Host.Outcome State Fault Refusal :=
  act s (fun s =>
    if (s.bat index).miss ≠ .pulse then s
    else if 10 * vEnd < 9 * vStart then confirmMissing index s
    else commandString index (driveCordon (batCordon s index) .standby 0 0 (thr10 (chgThr s index))
      (s.modBat index (fun b => { b with miss := .none, suspicions := 0 }))))
/-- Probe current of R182, mA. -/
def probeCurrent (s : State) (i : Nat) : Nat := min ((prof s i).cap / 2) 500
/-- PRESENCE_PROBE (R182). -/
def execPresenceProbe (index : Nat) (s : State) : Host.Outcome State Fault Refusal :=
  act s (fun s =>
    let b := s.bat index
    if b.miss = .confirmed ∧ b.probing = false ∧ b.sw = .closed ∧ working s.sys.mode ∧ discharging s (batCordon s index) = false then
      let s := s.modBat index (fun b => { b with probing := true, probes := satInc 255 b.probes })
      driveCordon (batCordon s index) .portI (probeCurrent s index) 0 (thr10 (chgThr s index)) s
    else s)
/-- PRESENCE_PROBE_END (R182). -/
def execPresenceProbeEnd (index : Nat) (stayedBelow : Bool) (s : State) : Host.Outcome State Fault Refusal :=
  act s (fun s =>
    if (s.bat index).probing = false then s
    else
      let i0 := (s.chgI index).iNow.getD 0
      let here := stayedBelow && decide ((probeCurrent s index : Int) ≤ 2 * i0)
      let s := s.modBat index (fun b => { b with probing := false, miss := if here then .none else b.miss })
      driveCordon (batCordon s index) .standby 0 0 (thr10 (chgThr s index)) s)

/-! ### Coulomb books (R184–R187) -/

/-- Charge i mA × d µs in µC, toward zero. -/
def chargeUc (i : Int) (d : Nat) : Int := (i * (d : Int)).tdiv 1000
/-- Put a charge into a book. -/
def bookAdd (q : Int) (b : Book) : Book :=
  { b with net := b.net + q, chgIn := b.chgIn + q.toNat, chgOut := b.chgOut + (-q).toNat, inTerm := b.inTerm + q.toNat,
           outTerm := b.outTerm + (-q).toNat }
/-- A gap of d µs (R186). -/
def bookGap (d : Nat) (b : Book) : Book := if d = 0 then b else { b with gapMs := b.gapMs + d / 1000, uncertain := true }
/-- An interval of d µs without a valid result: the previous value bridges it until it has done so for 1 s, and the rest is a gap
(R186). -/
def bookBridge (d : Nat) (b : Book) : Book :=
  let k := min d (oneSec - b.bridged)
  bookGap (d - k) { bookAdd (chargeUc b.lastI k) b with bridged := b.bridged + k }
/-- An invalid string current result: the interval up to it is bridged; an open switch counts zero current. -/
def bookMiss (now : Nat) (closed : Bool) (b : Book) : Book :=
  let b' := if b.counting && closed then bookBridge (now - b.lastAt) b else b
  { b' with lastAt := now }
/-- A valid string current result of a slot with a period of `period` µs: the interval since the previous one counts at its own value;
where results are missing before it, one period does and what lies before is bridged; an open switch counts zero current (R184, R186). -/
def bookResult (now period : Nat) (closed : Bool) (i0 : Int) (b : Book) : Book :=
  let d := now - b.lastAt
  let own := if 2 * d ≤ 3 * period then d else period
  let b' := if !b.counting then { b with counting := true }
    else if !closed then b
    else bookAdd (chargeUc i0 own) (bookBridge (d - own) b)
  { b' with lastI := i0, lastAt := now, bridged := 0 }
/-- SOH_Z, SOH_Q and the age of SOH_Q in hours, ten bits each; 1023 of SOH_Q none. -/
def sohBytes (now : Nat) (r : EisRun) : List Byte :=
  let age : Nat := min 1023 (((now : Int) - r.sohQAt).toNat / 3600000000)
  le 4 (min 1023 r.sohZ + 1024 * min 1023 r.sohQ + 1048576 * age)
/-- One string's part of the block, 60 bytes (log entry 75). -/
def bookBytes (s : State) (b : Bat) : List Byte :=
  let k := b.book
  let r := b.run
  let age : Nat := match r.lastRun with | none => 65535 | some t => min 65534 (((s.now : Int) - t).toNat / 3600000000)
  le 7 (twos 56 k.net) ++ le 7 k.chgIn ++ le 7 k.chgOut ++ le 5 k.gapMs ++ le 4 r.rRef ++ le 4 r.rInt ++ le 4 r.r25 ++
    sohBytes s.now r ++ le 3 r.fD ++
    le 1 (r.rExtrap.toNat + 2 * r.noCorner.toNat + 4 * r.noTemp.toNat + 8 * r.refAuto.toNat + 16 * r.disagree.toNat + 32 * r.sohZOk.toNat +
      64 * k.sinceTerm.toNat + 128 * k.uncertain.toNat) ++
    le 2 r.runs ++ le 2 age ++ le 5 (min (2 ^ 40 - 1) (k.inTerm / 1000)) ++ le 5 (min (2 ^ 40 - 1) (k.outTerm / 1000))
/-- Write the books of the four battery indices (R187). -/
def writeBooks (s : State) : State := blockWrite 0x4200 256 (s.eis.bat.toList.flatMap (bookBytes s)) s
/-- Restore one string's part; `uncertain` after a cold start with cause 2. -/
def bookRestore (bs : List Byte) (o : Nat) (uncertain : Bool) (b : Bat) : Bat :=
  let f := uAt bs (o + 45) 1
  let z := uAt bs (o + 38) 4
  let q := z / 1024 % 1024
  { b with
    book := { net := iAt bs o 7, chgIn := uAt bs (o + 7) 7, chgOut := uAt bs (o + 14) 7, gapMs := uAt bs (o + 21) 5,
              sinceTerm := decide (f / 64 % 2 = 1), uncertain := decide (f / 128 % 2 = 1) || uncertain,
              inTerm := 1000 * uAt bs (o + 50) 5, outTerm := 1000 * uAt bs (o + 55) 5 },
    run := { rRef := uAt bs (o + 26) 4, rInt := uAt bs (o + 30) 4, r25 := uAt bs (o + 34) 4, sohZ := z % 1024,
             sohQ := if q = 1023 then 0xFFFF else q, sohQAt := -(3600000000 * (z / 1048576 % 1024 : Int)),
             fD := uAt bs (o + 42) 3, rExtrap := decide (f % 2 = 1), noCorner := decide (f / 2 % 2 = 1),
             noTemp := decide (f / 4 % 2 = 1), refAuto := decide (f / 8 % 2 = 1), disagree := decide (f / 16 % 2 = 1),
             sohZOk := decide (f / 32 % 2 = 1), runs := uAt bs (o + 46) 2,
             lastRun := if uAt bs (o + 48) 2 = 65535 then none else some (-(3600000000 * (uAt bs (o + 48) 2 : Int))) } }
/-- Restore the books at a cold start (R187): the latest complete record, else zero books and no reference; UNCERTAIN after
cold cause 2. -/
def restoreBooks (cause : Nat) (s : State) : State :=
  let f : Nat → Bat → Bat := match blockBody s 0x4200 256 with
    | none => fun _ b => { b with book := { b.book with uncertain := decide (cause = 2) } }
    | some bs => fun i b => bookRestore bs (60 * (i - 1)) (decide (cause = 2)) b
  { s with eis := { s.eis with bat := bankMap s.eis.bat f } }
/-- BOOK_CELLAR_WRITE. -/
def execBookCellarWrite (s : State) : Host.Outcome State Fault Refusal :=
  act s (fun s => if working s.sys.mode then writeBooks s else s)

/-! ### Impedance runs (R188–R200) -/

/-- Number of points: every j with f₀ × 10^(j/ppd) ≤ f₁. -/
def pointCount (f0 f1 ppd : Nat) : Nat := ((List.range 87).filter (fun j => decide (f0 ^ ppd * 10 ^ j ≤ f1 ^ ppd))).length
/-- log2 of a fixed-point number in [1, 2) with 48 fraction bits, `k` bits of it. -/
def logBits : (k x acc : Nat) → Nat
  | 0, _, acc => acc
  | k + 1, x, acc =>
    let y := x * x / 2 ^ 48
    if 2 ^ 49 ≤ y then logBits k (y / 2) (2 * acc + 1) else logBits k y (2 * acc)
/-- log2 of a natural number with 32 fraction bits; the mantissa squaring keeps 48 bits. -/
def log2Fix (n : Nat) : Nat := if n = 0 then 0 else let e := Nat.log2 n; e * 2 ^ 32 + logBits 32 (n * 2 ^ 48 / 2 ^ e) 0
/-- The largest number below 2^k whose logarithm does not pass x. -/
def exp2Fix (x : Nat) : (k acc : Nat) → Nat
  | 0, acc => acc
  | k + 1, acc => exp2Fix x k (if log2Fix (acc + 2 ^ k) ≤ x then acc + 2 ^ k else acc)
/-- R196 over points with falling frequency: R_INT and R_EXTRAP; none when the run yields no R_INT. -/
def rIntOf (ps : List EisPoint) : Option (Nat × Bool) :=
  let rec cross : List EisPoint → Option Nat
    | a :: b :: r =>
      if 0 < a.im ∧ b.im ≤ 0 then some (((2 * (a.re * (a.im - b.im) + a.im * (b.re - a.re)) + (a.im - b.im)) / (2 * (a.im - b.im))).toNat)
      else cross (b :: r)
    | _ => none
  match ps with
  | [] => none
  | p :: _ => if ps.all (fun q => decide (q.im ≤ 0)) then some (p.re.toNat, true) else (cross ps).map (fun r => (r, false))
/-- The parabola through three points of (log f, −Im): its vertex, on the logarithmic scale. -/
def vertex (a b c : Int × Int) : Int :=
  let p := b.1 - a.1
  let q := b.1 - c.1
  let num := p * p * (b.2 - c.2) - q * q * (b.2 - a.2)
  let den := 2 * (p * (b.2 - c.2) - q * (b.2 - a.2))
  if den = 0 then b.1 else b.1 - num / den
/-- Place of the best element of a list under a strict order; the first on a tie. -/
def bestIx (better : Int → Int → Bool) : List Int → Nat
  | [] => 0
  | x :: xs => (xs.zipIdx 1).foldl (fun (m : Int × Nat) y => if better y.1 m.1 then y else m) (x, 0) |>.2
/-- R197 over points with falling frequency: the corner in 0.001 Hz, 0 when none lies within the run. -/
def cornerOf (ps : List EisPoint) : Nat :=
  let ys := ps.map (fun p => -p.im)
  let top := bestIx (fun a b => decide (b < a)) ys
  let below := ys.drop (top + 1)
  let k := top + 1 + bestIx (fun a b => decide (a < b)) below
  if below = [] ∨ k + 1 = ps.length then 0
  else
    let at_ (j : Nat) : Int × Int := ((log2Fix ((ps.map (·.f)).getD j 1) : Int), ys.getD j 0)
    exp2Fix (vertex (at_ (k - 1)) (at_ k) (at_ (k + 1))).toNat 24 0
/-- α of R198 in thousandths per K. -/
def alphaOf (chem : Nat) : Int := if chem = 1 then 10 else if chem = 2 then 8 else 6
/-- R_25 of R198, to the nearest µΩ; T in 0.1 °C. -/
def r25Of (chem : Nat) (t : Int) (r : Nat) : Nat :=
  let d := (10000 - alphaOf chem * (compTemp t - 250)).toNat
  (2 * 10000 * r + d) / (2 * d)
/-- Differences of SOH_Z and SOH_Q of more than 15.0 points, SOH_Q at most 30 days old (R199). -/
def sohApart (s : State) (r : EisRun) : Bool :=
  r.sohZOk && decide (r.sohQ ≠ 0xFFFF ∧ (s.now : Int) ≤ r.sohQAt + 2592000000000) &&
    decide (150 < (if r.sohZ < r.sohQ then r.sohQ - r.sohZ else r.sohZ - r.sohQ))
/-- The last point is in: R196 to R199. -/
def finishRun (i : Nat) (s : State) : State :=
  let r := (s.bat i).run
  match rIntOf r.pts with
  | none => s.modRun i (runAbort s.now 6)
  | some (ri, ext) =>
    let p := prof s i
    let t := if r.tempN = 0 then (s.chgI i).temp else r.tempSum / (r.tempN : Int)
    let r25 := if p.ntc = 0 then ri else r25Of p.chem t ri
    let auto := decide (r.rRef = 0)
    let ref := if auto then r25 else r.rRef
    let z := if ref = 0 then freeNat 10 s else (min 1000 (1000 * (2 * ref - r25) / ref), s)
    let s := z.2
    let fd := cornerOf r.pts
    let s := s.modRun i (fun r => { r with
      running := false, rInt := ri, r25 := r25, rExtrap := ext, fD := fd, noCorner := decide (fd = 0), noTemp := decide (p.ntc = 0),
      rRef := ref, refAuto := r.refAuto || auto, sohZ := z.1, sohZOk := true, runs := satInc 65535 r.runs,
      lastRun := some (s.now : Int), due := if r.kind = 1 then none else r.due })
    let bad := sohApart s (s.bat i).run
    let was := (s.bat i).run.disagree
    let s := s.modRun i (fun r => { r with disagree := bad })
    if bad ∧ was = false then raise (128 + 16 * i + 12) 0 s else s
/-- The point runs below half its intended amplitude (LOW_AMP, R192). -/
def lowAmplitude (s : State) (i : Nat) : Bool := decide (2 * (s.bat i).run.acOn < acWanted s i (chargeCommand s i).2.1)

/-! ### The DFT engine (R194) -/

/-- cos(2πk/64) for k = 0 to 16, in units of 2⁻³⁰ (DESIGN CHOICE, log entry 76). -/
def cosQuarter : List Int :=
  [1073741824, 1068571464, 1053110176, 1027506862, 992008094, 946955747, 892783698, 830013654, 759250125, 681174602, 596538995, 506158392, 410903207, 311690799, 209476638, 105245103, 0]
/-- cos(2πk/64), same units. -/
def cos64 (k : Nat) : Int :=
  let k := k % 64
  if k ≤ 16 then cosQuarter.getD k 0 else if k ≤ 32 then -(cosQuarter.getD (32 - k) 0)
  else if k ≤ 48 then -(cosQuarter.getD (k - 32) 0) else cosQuarter.getD (64 - k) 0
/-- Real and imaginary part of Σ x_k × e^(−j2πk/64), in 2⁻³⁰. -/
def fundamental (xs : List Int) : Int × Int :=
  xs.zipIdx.foldl (fun a x => (a.1 + x.1 * cos64 x.2, a.2 - x.1 * cos64 (x.2 + 48))) (0, 0)
/-- Whole periods integrated at f in 0.001 Hz: max(4, ⌈f × 1 s⌉). -/
def pointPeriods (f : Nat) : Nat := max 4 (ceilDiv f 1000)
/-- Samples of one channel that a point integrates: after the settling period, M periods of 64. -/
def pointSamples (f : Nat) (xs : List Int) : List Int := (xs.drop 64).take (64 * pointPeriods f)
/-- Z = V̂ / Î in µΩ, from samples in µV and µA; none without a current. -/
def pointZ (v i : List Int) : Option (Int × Int) :=
  let a := fundamental v
  let b := fundamental i
  let d := b.1 * b.1 + b.2 * b.2
  if d = 0 then none else some (1000000 * (a.1 * b.1 + a.2 * b.2) / d, 1000000 * (a.2 * b.1 - a.1 * b.2) / d)
/-- The quality Q lies below 10: |V̂| against the RMS of the samples without their mean and fundamental. -/
def pointNoisy (v : List Int) : Bool :=
  let n : Int := v.length
  let a := fundamental v
  let f := (a.1 * a.1 + a.2 * a.2) / 2 ^ 60
  decide (4 * f < 100 * (n * (v.map (fun x => x * x)).sum - v.sum * v.sum - 2 * f))

/-! ### Runs -/

/-- Conditions of R188 that RESULT 3 names: phase, slot microcode, no self-test or update on the cordon. -/
def runPhaseOk (s : State) (i kind : Nat) : Bool :=
  let g := s.chgI i
  let c := batCordon s i
  decide (g.susp = 0) && (decide (g.phase = .cc ∨ g.phase = .cv ∨ g.phase = .maint) || decide (kind = 3 ∧ g.phase = .hold)) &&
    decide (activeCells s c ≠ []) && (activeCells s c).all (fun n => decide ((s.cell n).uc ≠ 0)) &&
    seven.all (fun n => decide (servedCordon s n ≠ c) || decide ((s.cell n).state ≠ .selftest ∧ (s.cell n).state ≠ .update))
/-- No run holds the pair or the cordon. -/
def pairFree (s : State) (i pair : Nat) : Bool :=
  !(s.bat i).run.running && four.all (fun k => !(s.bat k).run.running || decide ((s.bat k).run.pair ≠ pair))
/-- A run starts: point 0 is armed. -/
def startRun (i kind f0 f1 ppd ampl pair : Nat) (s : State) : State :=
  let g := s.chgI i
  let loop := decide (g.phase = .cv) || decide (g.phase = .maint ∧ (prof s i).chem = 2)
  commandString i (s.modRun i (fun r => { r with
    running := true, snap := [], dirty := false, tempSum := 0, tempN := 0, kind := kind, points := pointCount f0 f1 ppd, cur := 0, f0 := f0, f1 := f1, ppd := ppd,
    ampl := if s.sys.mode = .service then ampl else if kind = 3 then ampl else min ampl 5, pair := pair,
    iDc := if loop then g.i else 0, repeating := false, pts := [] }))
/-- A scheduled run that is due starts when its conditions hold (R188). -/
def startScheduled (i : Nat) (s : State) : State :=
  let r := (s.bat i).run
  match eisSched s.str.image i, r.due with
  | some e, some _ =>
    if batUsed s i && working s.sys.mode && (decide (e.mode = 1) || decide (s.sys.mode = .service)) && decide (r.retryAt ≤ s.now) &&
      runPhaseOk s i 1 && pairFree s i e.pair then startRun i 1 e.f0 e.f1 e.ppd e.ampl e.pair s else s
  | _, _ => s
/-- EIS_SCHEDULED_DUE. -/
def execEisScheduledDue (index : Nat) (s : State) : Host.Outcome State Fault Refusal :=
  act s (fun s =>
    if batUsed s index && (eisSched s.str.image index).isSome then
      startScheduled index (s.modRun index (fun r => { r with due := match r.due with | none => some s.now | some t => some t }))
    else s)
/-- EIS_SCHEDULED_SKIP: not started within 24 h, skipped. -/
def execEisScheduledSkip (index : Nat) (s : State) : Host.Outcome State Fault Refusal :=
  act s (fun s => s.modRun index (fun r => if r.running then r else { r with due := none, retryAt := 0 }))
/-- The point in progress is over and the next, or its repeat, is armed. -/
def nextPoint (r : EisRun) : EisRun := { r with snap := [], dirty := false }
/-- EIS_POINT_COMPLETE (R193–R195): the samples of both channels from the trigger on, voltage in µV and current in µA. Once the last one is
in, the point is computed, or repeated where its set points changed; then the next point, or the run's results. -/
def execEisPointComplete (index : Nat) (samples : List (Int × Int)) (s : State) : Host.Outcome State Fault Refusal :=
  act s (fun s =>
    let r := (s.bat index).run
    let f := runFreq s index
    if !r.running ∨ samples.length < 64 * (1 + pointPeriods f) then s
    else if r.dirty || decide (r.snap ≠ [] ∧ r.snap ≠ pointSnap s index) then
      (if r.repeating then commandString index (s.modRun index (runAbort s.now 6))
       else commandString index (s.modRun index (fun r => { nextPoint r with repeating := true })))
    else
      let v := pointSamples f (samples.map (·.1))
      let z := pointZ v (pointSamples f (samples.map (·.2)))
      let fr := freeWord s
      let vm := (chargeCommand s index).2.2.2
      let q : EisPoint := { f := f, re := (z.map (·.1)).getD fr.1.toInt, im := (z.map (·.2)).getD fr.1.toInt,
                            clipped := samples.any (fun p => decide ((vm : Int) * 9990 ≤ p.1)), lowAmp := lowAmplitude s index,
                            noisy := pointNoisy v, repeated := r.repeating }
      let s := if z.isSome then s else fr.2
      let s := s.modRun index (fun r => { nextPoint r with pts := q :: r.pts, cur := r.cur + 1, repeating := false })
      if r.points ≤ r.cur + 1 then commandString index (finishRun index s) else commandString index s)

/-! ### EIS_CMD (Tables 7-9 and 7-12) -/

/-- Run an EIS_CMD command: 2 mode, 5 index. -/
def eisCmd (code i : Nat) (f : State → State × Nat) (s : State) : State :=
  let r := if !working s.sys.mode then 2 else if !batUsed s i then 5 else 0
  if r ≠ 0 then { s with eis := { s.eis with cmd := cmdRes code r } }
  else
    let p := f s
    { p.1 with eis := { p.1.eis with cmd := cmdRes code p.2 } }
/-- EIS_CMD SWITCH_OPEN: refused while the cordon discharges; ramped to zero, then opened. -/
def eisSwitchOpen (i : Nat) (s : State) : State :=
  eisCmd 1 i (fun s =>
    if discharging s (batCordon s i) then (s, 8)
    else
      let s := driveCordon (batCordon s i) .off 0 0 0 s
      (s.modBat i (fun b => { b with holdCmd := true, sw := .open_, run := runAbort s.now 4 b.run, probing := false,
                                     miss := if b.miss = .confirmed then .confirmed else .none }), 0)) s
/-- SWITCH_OPEN. -/
def execSwitchOpen (index : Nat) (s : State) : Host.Outcome State Fault Refusal := act s (eisSwitchOpen index)
/-- EIS_CMD SWITCH_RELEASE. -/
def eisSwitchRelease (i : Nat) (s : State) : State :=
  eisCmd 2 i (fun s => (settleStart i (s.modBat i (fun b => { b with holdCmd := false })), 0)) s
/-- SWITCH_RELEASE. -/
def execSwitchRelease (index : Nat) (s : State) : Host.Outcome State Fault Refusal := act s (eisSwitchRelease index)
/-- EIS_CMD RUN. -/
def eisRun (i : Nat) (s : State) : State :=
  eisCmd 3 i (fun s =>
    match eisSched s.str.image i with
    | none => (s, 6)
    | some e =>
      if e.mode ≠ 1 ∧ s.sys.mode ≠ .service then (s, 2)
      else if !pairFree s i e.pair then (s, 1)
      else if !runPhaseOk s i 2 then (s, 3)
      else (startRun i 2 e.f0 e.f1 e.ppd e.ampl e.pair s, 0)) s
/-- RUN. -/
def execRun (index : Nat) (s : State) : Host.Outcome State Fault Refusal := act s (eisRun index)
/-- The deep run's parameters lie in their ranges. -/
def deepOk (s : State) : Bool :=
  let e := s.eis
  decide (10 ≤ e.deepF0 ∧ e.deepF0 ≤ 200000 ∧ e.deepF0 ≤ e.deepF1 ∧ e.deepF1 ≤ 200000 ∧ 1 ≤ e.deepAmpl ∧ e.deepAmpl ≤ 20 ∧
    1 ≤ e.deepPpd ∧ e.deepPpd ≤ 20)
/-- R189: the budget of R87 with the deep run's stop frequency. -/
def deepBudgetOk (s : State) : Bool :=
  [2 * s.eis.deepPair, 2 * s.eis.deepPair + 1].all (fun x =>
    decide (schedTerm s.str.image x + eisTerm s.str.image x s.eis.deepF1 ≤ 90000000))
/-- EIS_CMD RUN_DEEP. -/
def eisRunDeep (i : Nat) (s : State) : State :=
  eisCmd 4 i (fun s =>
    let e := s.eis
    if s.sys.mode ≠ .service then (s, 2)
    else if !deepOk s then (s, 6)
    else if !pairFree s i e.deepPair then (s, 1)
    else if !runPhaseOk s i 3 then (s, 3)
    else if !deepBudgetOk s then (s, 4)
    else (startRun i 3 e.deepF0 e.deepF1 e.deepPpd e.deepAmpl e.deepPair s, 0)) s
/-- RUN_DEEP. -/
def execRunDeep (index : Nat) (s : State) : Host.Outcome State Fault Refusal := act s (eisRunDeep index)
/-- EIS_CMD ABORT. -/
def eisAbortCmd (i : Nat) (s : State) : State := eisCmd 5 i (fun s => (commandString i (s.modRun i (runAbort s.now 9)), 0)) s
/-- EIS_ABORT. -/
def execEisAbort (index : Nat) (s : State) : Host.Outcome State Fault Refusal := act s (eisAbortCmd index)
/-- EIS_CMD SET_REF. -/
def eisSetRef (i : Nat) (s : State) : State :=
  eisCmd 6 i (fun s =>
    if (s.bat i).run.lastRun = none then (s, 6)
    else (s.modRun i (fun r => { r with rRef := r.r25, refAuto := false }), 0)) s
/-- SET_REF. -/
def execSetRef (index : Nat) (s : State) : Host.Outcome State Fault Refusal := act s (eisSetRef index)
/-- EIS_CMD BOOK_RESET (R185). -/
def eisBookReset (i : Nat) (s : State) : State :=
  eisCmd 7 i (fun s => (s.modBat i (fun b =>
    { b with book := { b.book with net := 0, chgIn := 0, chgOut := 0, gapMs := 0, uncertain := false },
             run := { b.run with rRef := 0, refAuto := false, runs := 0 } }), 0)) s
/-- BOOK_RESET. -/
def execBookReset (index : Nat) (s : State) : Host.Outcome State Fault Refusal := act s (eisBookReset index)
/-- EIS_CMD with a code that Table 7-9 does not list. -/
def eisUnknown (code : Nat) (s : State) : State := { s with eis := { s.eis with cmd := cmdRes code 7 } }

/-! ### BTN_N (R201, R205) -/

/-- BTN_RESET_EN in effect (R205). -/
def btnResetEnabled (s : State) : Bool :=
  match s.sys.mode with
  | .limp => (match lastGood s with | none => false | some im => btnResetEn im)
  | _ => decide (s.str.image ≠ []) && btnResetEn s.str.image
/-- EIS_BTN. -/
def btnWord (s : State) : Word :=
  pack [(31, 1, s.eis.btn.low.toNat), (30, 1, (btnResetEnabled s).toNat), (16, 8, s.eis.btn.presses), (0, 16, s.eis.btn.last10)]
/-- BTN_PRESS: a debounced falling edge. -/
def execBtnPress (s : State) : Host.Outcome State Fault Refusal :=
  act s (fun s => if s.eis.btn.low then s else
    { s with eis := { s.eis with btn := { s.eis.btn with low := true, presses := satInc 255 s.eis.btn.presses } } })
/-- BTN_RELEASE: the press ends; one that was in progress at power-on reset is not recorded. -/
def execBtnRelease (len10ms : Nat) (s : State) : Host.Outcome State Fault Refusal :=
  act s (fun s => if s.eis.btn.low then
    { s with eis := { s.eis with btn := { s.eis.btn with low := false, ignored := false,
                                                         last10 := if s.eis.btn.ignored then s.eis.btn.last10 else sat 16 len10ms } } }
    else s)

/-! ### Register views (R206) -/

/-- EIS_SHIP. -/
def shipWord (s : State) : Word := pack [(24, 8, s.eis.entries), (7, 1, s.eis.gateIn.toNat), (0, 7, s.eis.mask.toNat)]
/-- Common registers at offset o from 0x1800. -/
def eisCommon (s : State) (o : Nat) : Word :=
  let e := s.eis
  match o with
  | 0 => pack [(8, 4, (maskOf 4 (fun i => batUsed s i && !batFree (s.bat i))).toNat),
               (0, 4, (maskOf 4 (fun i => decide ((s.bat i).sw = .closed))).toNat)]
  | 2 => pack [(8, 8, e.cmd.code), (0, 8, e.cmd.result)]
  | 3 => BitVec.ofNat 32 e.deepF0
  | 4 => BitVec.ofNat 32 e.deepF1
  | 5 => pack [(8, 8, e.deepAmpl), (7, 1, e.deepPair), (0, 5, e.deepPpd)]
  | 6 => btnWord s
  | 7 => shipWord s
  | _ => 0
/-- Register at offset o of the EIS window of string i, as agent a reads it. -/
def eisWindow (s : State) (a : Agent) (i o : Nat) : Word :=
  let b := s.bat i
  let k := b.book
  let r := b.run
  let sel := bankGet 0 (s.agent a).ptSel i
  let pt := r.pts.reverse[sel]?
  if !batUsed s i then 0
  else match o with
    | 0 => pack [(28, 4, b.sw.code), (27, 1, b.holdShip.toNat), (26, 1, b.holdCmd.toNat), (25, 1, b.holdStop.toNat),
                 (16, 4, b.miss.code), (15, 1, (decide ((s.chgI i).phase = .halted ∧ (s.chgI i).haltBy = 3)).toNat), (0, 8, b.probes)]
    | 1 => BitVec.ofInt 32 (k.net / 3600000)
    | 2 => BitVec.ofNat 32 (k.chgIn / 360000000)
    | 3 => BitVec.ofNat 32 (k.chgOut / 360000000)
    | 4 => pack [(31, 1, k.uncertain.toNat), (0, 31, sat 31 (k.gapMs / 1000))]
    | 5 => pack [(28, 4, r.running.toNat), (24, 4, r.kind), (20, 4, r.abort), (8, 8, r.points), (0, 8, r.cur)]
    | 6 => BitVec.ofNat 32 r.rInt
    | 7 => BitVec.ofNat 32 r.r25
    | 8 => BitVec.ofNat 32 r.rRef
    | 9 => pack [(16, 16, r.sohZ), (0, 16, r.sohQ)]
    | 10 => pack [(31, 1, r.rExtrap.toNat), (30, 1, r.noCorner.toNat), (29, 1, r.noTemp.toNat), (28, 1, r.refAuto.toNat),
                  (27, 1, r.disagree.toNat), (0, 24, r.fD)]
    | 11 => pack [(16, 16, match r.lastRun with | none => 0 | some t => sat 16 (((s.now : Int) - t).toNat / 3600000000)), (0, 16, r.runs)]
    | 12 => BitVec.ofNat 32 sel
    | 13 => (match pt with
      | none => 0
      | some p => pack [(31, 1, p.clipped.toNat), (30, 1, p.lowAmp.toNat), (29, 1, p.noisy.toNat), (28, 1, p.repeated.toNat),
                        (0, 24, sat 24 p.f)])
    | 14 => (match pt with | none => 0 | some p => BitVec.ofInt 32 p.re)
    | 15 => (match pt with | none => 0 | some p => BitVec.ofInt 32 p.im)
    | _ => 0

end Sys2Proof.Machine
end

