-- ==== Sys2Proof/Machine/Adc.lean ====
section
/-! DEFINITION. The measurement converters: layouts, results and their tags, triggers, comparators, reference,
background calibration, diagnosis and the ADC registers (chapter 9). -/

namespace Sys2Proof.Machine

/-! ### Layouts (R242–R244, R248, R250) -/

/-- The converters run their layouts (R256). -/
def adcRuns (s : State) : Bool := s.adc.runs && (working s.sys.mode || decide (s.sys.mode = .staging))
/-- Load of converter x: positions of a frame held by windows, in units of 0.5 % of 10,000. -/
def layoutLoad (im : Image) (x : Nat) : Nat :=
  let n := osrOf im x
  let slots := match measSched im x with | none => 0 | some m => n * slotLoad m.2.2 / 100
  min 255 ((slots + n * 3 * ceilDiv (64 * eisStop im (x / 2)) 10000) / 50)
/-- Invalid results of a slot after a layout change (Table 9-3); 0 when nothing of it changed. -/
def slotLeft (newOsr : Bool) (a : AdcSlot) (b : MeasSlot) : Nat :=
  if newOsr then 3 else if !a.used then 1 else if a.range ≠ b.range then 2 else if a.channel ≠ b.channel then 1 else 0
/-- Converter x under the schedule of an image. -/
def convLayout (im : Image) (x : Nat) (c : Conv) : Conv :=
  let (osr, ref, slots) := (measSched im x).getD (0, 0, [])
  let newOsr := decide (osr ≠ c.osr)
  let newRef := decide (ref ≠ c.ref)
  { c with
    osr := osr, ref := ref, nSlots := slots.length, load := layoutLoad im x, left := if newOsr then max c.left 3 else c.left,
    slots := bankMap c.slots (fun k a =>
      match slots[k - 1]? with
      | none => {}
      | some b =>
        let l := slotLeft newOsr a b
        { used := true, channel := b.channel, range := b.range, rate := b.rate, left := if l = 0 then a.left else l,
          res := if l = 0 ∧ newRef = false then a.res else {} }) }
/-- The layouts of the running image start or take effect; a changed or restarted reference has to settle (R244, R250, R256). -/
def adcLayouts (s : State) : State :=
  let im := s.str.image
  let old := s.adc.conv
  let conv := bankMap old (fun x c => convLayout im (x - 1) c)
  let keep : BitVec 4 := if s.adc.runs = false then 0 else
    maskOf 4 (fun x => decide ((bankGet {} old x).ref = (bankGet {} conv x).ref) && s.adc.settled.getLsbD (x - 1))
  { s with adc := { s.adc with conv := conv, settled := keep, runs := true, due := false } }
/-- An image has taken effect: the reserved comparators follow it at once; its layouts do so in STAGING, and at the first frame boundary
after it otherwise (R244, R248, R256). -/
def adcApply (s : State) : State :=
  let s := { s with adc := { s.adc with cmps := reserveCmps s.str.image s.adc.cmps, due := true } }
  if s.sys.mode = .staging then adcLayouts s else s
/-- A frame boundary of the schedule, at every thousandth commit tick (R235). -/
def frameTick (s : State) : State :=
  if s.adc.due && working s.sys.mode && decide (tickNow s % 1000 = 0) then adcLayouts s else s

/-! ### Results (R237–R241) -/

/-- The converter role has no working slice: its own has failed, and S has failed too or carries another role (R253). -/
def roleDead (s : State) (x : Nat) : Bool := s.adc.failed.getLsbD x && (s.adc.failed.getLsbD 4 || !s.adc.byS.getLsbD x)
/-- A word with only its `bits` most significant of 24 bits. -/
def signif (bits : Nat) (raw : BitVec 24) : BitVec 24 := BitVec.ofNat 24 (raw.toNat / 2 ^ (24 - bits) * 2 ^ (24 - bits))
/-- Significant bits of converter x's layout. -/
def convBits (c : Conv) : Nat := min 24 (18 + c.osr)
/-- A channel whose pin or port the variant has; the others read 0 (R4, R237). -/
def chanServed (s : State) (ch : Nat) : Bool :=
  if ch < 4 then decide (ch + 1 ≤ batMax s.hw.variant) else if ch < 8 then decide (ch - 3 ≤ batMax s.hw.variant)
  else if ch < 15 then cellFitted s (ch - 7) else true
/-- The tags of a result: reference, settling, diagnosis of its channel, or valid. -/
def tagged (s : State) (x left channel : Nat) (trigTrack : Bool) (raw : BitVec 24) : AdcResult :=
  let c := s.convX x
  let r := if chanServed s channel then signif (if trigTrack then 18 else convBits c) raw else 0
  if !s.adc.settled.getLsbD x then { valid := false, settle := 3, result := r }
  else if 0 < left then { valid := false, settle := left - 1, result := r }
  else if roleDead s x then { valid := false, settle := 0, result := r }
  else if !trigTrack && decide (s.adc.diagState = 1 ∧ s.adc.diagChan = channel) then { valid := false, settle := 0, result := r }
  else { valid := true, result := r }
/-- A result as an integer. -/
def rawInt (r : BitVec 24) : Int := r.toInt
/-- A result on a scale whose range-0 full scale is `fs`. -/
def scaled (fs range : Nat) (r : BitVec 24) : Int := rawInt r * fs / ((8388607 * 4 ^ range : Nat) : Int)
/-- The window comparator of a converter judges a valid result (R249). -/
def windowJudge (x : Nat) (r : BitVec 24) (s : State) : State :=
  let c := s.convX x
  let v := rawInt r
  let h : Int := (c.hyst * 64 : Nat)
  if !c.en then s
  else if c.armed then
    if rawInt c.hi < v then { s.modConv x (fun c => { c with armed := false }) with
      adc := { (s.modConv x (fun c => { c with armed := false })).adc with irq := putBit s.adc.irq (4 + x) true } }
    else if v < rawInt c.lo then { s.modConv x (fun c => { c with armed := false }) with
      adc := { (s.modConv x (fun c => { c with armed := false })).adc with irq := putBit s.adc.irq x true } }
    else s
  else if rawInt c.lo + h ≤ v ∧ v ≤ rawInt c.hi - h then s.modConv x (fun c => { c with armed := true })
  else s
/-- The slot that serves the engine for a channel: of the slots that carry it, the one with the highest rate in effect. -/
def servingSlot (s : State) (channel : Nat) : Option (Nat × Nat) :=
  let all := [0, 1, 2, 3].flatMap (fun x => ((s.convX x).slots.toList.zipIdx).filterMap (fun (a, k) =>
    if a.used ∧ a.channel = channel then some (x, k, rateEff a.rate) else none))
  match all with
  | [] => none
  | a :: r => let b := r.foldl (fun m y => if m.2.2 < y.2.2 then y else m) a; some (b.1, b.2.1)
/-- Period of the slot that serves the engine for a channel, µs. -/
def slotPeriod (s : State) (channel : Nat) : Nat :=
  match servingSlot s channel with
  | none => 10000
  | some (x, k) => 1000000 / max 1 (rateEff (bankGet {} (s.convX x).slots (k + 1)).rate)
/-- One more value into a sum. -/
def accAdd (v : Int) (a : Accu) : Accu := { sum := a.sum + v, count := a.count + 1 }
/-- A valid string voltage result, in 10 mV: the engine's values, and STR_REVERSED (R176, R468). -/
def strvResult (i : Nat) (v : Int) (s : State) : State :=
  let rev := decide (v < -500)
  let s := if working s.sys.mode then s.modChg i (fun g =>
      { g with vNow := some v.toNat, fresh := putBit g.fresh 0 true, accV := accAdd v g.accV,
               rest := if g.restRuns ∧ g.restAt + 50000 ≤ s.now then accAdd v g.rest else g.rest })
    else s
  let s := s.modBat i (fun b =>
    { b with reversed := rev, revOkAt := if b.reversed && !rev then s.now else b.revOkAt,
             revBad := if rev then b.revBad + 1 else 0, revGood := if rev then 0 else b.revGood + 1 })
  let n := 128 + 16 * i + 10
  let s := if rev ∧ (s.bat i).sw = .settle then s.modBat i (fun b => { b with sw := .open_ }) else s
  if (s.bat i).revBad = 3 then raise n 0 s else if (s.bat i).revGood = 3 then lower n s else s
/-- A valid string current result, in mA: the engine, the book, the missing-string test and STR_OC. -/
def striResult (i : Nat) (v : Int) (s : State) : State :=
  let c := batCordon s i
  let lim := min 120000 (75000 * popCount (s.cordon c).e.cells)
  let oc := decide (lim < v.natAbs)
  let s := if working s.sys.mode then
      let s := s.modChg i (fun g => { g with iNow := some v, fresh := putBit g.fresh 1 true, accI := accAdd v g.accI })
      let s := s.modBook i (bookResult s.now (slotPeriod s (4 + (i - 1))) (decide ((s.bat i).sw = .closed)) v)
      missingMarks i v s
    else s
  let s := s.modBat i (fun b => { b with ocBad := if oc then b.ocBad + 1 else 0, ocGood := if oc then 0 else b.ocGood + 1 })
  let n := 128 + 16 * i + 11
  if (s.bat i).ocBad = 3 then raise n 0 s else if (s.bat i).ocGood = 3 then lower n s else s
/-- A valid NTC result reaches every instance whose profile names the channel. -/
def ntcResult (k : Nat) (r : BitVec 24) (s : State) : State :=
  let t := Config.ntcTemp r
  four.foldl (fun u i =>
    if batUsed u i ∧ (prof u i).ntc = k ∧ working u.sys.mode then
      u.modChg i (fun g => { g with tNow := some t, fresh := putBit g.fresh 2 true, accT := accAdd t g.accT })
    else u) s
/-- An invalid result of a serving string current slot: its book bridges the interval (R186). -/
def slotMiss (channel : Nat) (s : State) : State :=
  let i := channel - 3
  if 4 ≤ channel ∧ channel < 8 ∧ batUsed s i ∧ working s.sys.mode then s.modBook i (bookMiss s.now (decide ((s.bat i).sw = .closed))) else s
/-- What a valid result of a serving slot does. -/
def slotServe (channel range : Nat) (r : BitVec 24) (s : State) : State :=
  if channel < 4 then (if batUsed s (channel + 1) then strvResult (channel + 1) (scaled 50000 range r) s else s)
  else if channel < 8 then (if batUsed s (channel - 3) then striResult (channel - 3) (scaled 125000 range r) s else s)
  else if 16 ≤ channel ∧ channel < 24 then ntcResult (channel - 15) r s
  else s
/-- SLOT_CONVERSION_DONE (R242). -/
def execSlotConversionDone (conv slot : Nat) (raw : BitVec 24) (s : State) : Host.Outcome State Fault Refusal :=
  act s (fun s =>
    let a := bankGet {} (s.convX conv).slots (slot + 1)
    if !adcRuns s ∨ a.used = false then s
    else
      let t := tagged s conv a.left a.channel false raw
      let settled := s.adc.settled.getLsbD conv
      let s := s.modConv conv (fun c => { c with slots := bankMod c.slots (slot + 1) (fun a =>
        { a with res := t, left := if settled then a.left - 1 else a.left }) })
      if !t.valid then
        (if servingSlot s a.channel = some (conv, slot) then slotMiss a.channel s else s)
      else
        let s := if (s.convX conv).wsrc = slot + 1 then windowJudge conv t.result s else s
        if servingSlot s a.channel = some (conv, slot) then slotServe a.channel a.range t.result s else s)

/-! ### Triggers (R245, R246) -/

/-- TRIG code of a route's source; 0 inactive. -/
def trigCode (src : Nat) : Nat :=
  if src = 1 then 1 else if 0x10 ≤ src ∧ src ≤ 0x13 then 2 else if 0x20 ≤ src ∧ src ≤ 0x27 then 4
  else if (0x31 ≤ src ∧ src ≤ 0x37) ∨ (0x41 ≤ src ∧ src ≤ 0x47) ∨ (0x51 ≤ src ∧ src ≤ 0x57) then 3 else 0
/-- One converter's trigger track holds its input, merges the trigger or gives way to a comparator. -/
def holdOn (trig x : Nat) (s : State) : State :=
  let c := s.convX x
  match c.held with
  | none =>
    let late := match c.lastStart with | none => false | some t => within s 65 t
    let s := s.modConv x (fun c => { c with held := some { trig := trig } })
    { s with adc := { s.adc with deferred := if late then satInc 255 s.adc.deferred else s.adc.deferred } }
  | some h =>
    if trig = 4 ∧ h.trig ≠ 4 then
      let s := s.modConv x (fun c => { c with held := some { trig := 4 }, displaced := some h })
      { s with adc := { s.adc with displaced := satInc 255 s.adc.displaced } }
    else { s with adc := { s.adc with merged := satInc 255 s.adc.merged } }
/-- A route triggers. -/
def fireRoute (r : Route) (s : State) : State :=
  let t := trigCode r.src
  if !r.en || decide (t = 0) || !adcRuns s then s
  else [0, 1, 2, 3].foldl (fun u x => if r.conv.getLsbD x then holdOn t x u else u) s
/-- Every enabled route with a source triggers. -/
def fireSource (src : Nat) (s : State) : State :=
  s.adc.routes.toList.foldl (fun u r => if r.src = src then fireRoute r u else u) s
/-- TRIGGER (R246). -/
def execTrigger (route : Nat) (s : State) : Host.Outcome State Fault Refusal :=
  act s (fun s => fireRoute (bankGet {} s.adc.routes (route + 1)) s)
/-- The software routes of a mask (R245). -/
def swTrigger (m : BitVec 8) (s : State) : State :=
  (List.range 8).foldl (fun u r =>
    let x := bankGet {} u.adc.routes (r + 1)
    if m.getLsbD r ∧ x.src = 1 then fireRoute x u else u) s
/-- ADC_SWTRG_WRITE. -/
def execAdcSwtrgWrite (routes : BitVec 8) (s : State) : Host.Outcome State Fault Refusal := act s (swTrigger routes)
/-- A timer runs with a period in range. -/
def timerOn (t : AdcTimer) : Bool := t.en && decide (100 ≤ t.period ∧ t.period ≤ 10000000)
/-- ADC_TIMER_EXPIRY. -/
def execAdcTimerExpiry (timer : Nat) (s : State) : Host.Outcome State Fault Refusal :=
  act s (fun s => if timerOn (bankGet {} s.adc.timers (timer + 1)) then fireSource (0x10 + timer) s else s)
/-- COMPARATOR_TRANSITION (R247): the output follows; into the active state it triggers. -/
def execComparatorTransition (cmp : Nat) (active : Bool) (s : State) : Host.Outcome State Fault Refusal :=
  act s (fun s =>
    let c := bankGet {} s.adc.cmps (cmp + 1)
    if !c.en ∨ c.mode = 0 ∨ 4 < c.mode then s
    else
      let s := { s with adc := { s.adc with cmps := bankMod s.adc.cmps (cmp + 1) (fun c => { c with out := active }) } }
      if active && !c.out then fireSource (0x20 + cmp) s else s)
/-- TRIGGERED_CONVERSION_DONE (R241, R246): a trigger that the comparator displaced samples again at the first admissible position. -/
def execTriggeredConversionDone (conv : Nat) (raw : BitVec 24) (s : State) : Host.Outcome State Fault Refusal :=
  act s (fun s =>
    let c := s.convX conv
    let diag := decide (s.adc.diagState = 1 ∧ s.adc.diagConv = conv)
    if !adcRuns s ∨ (c.held = none ∧ diag = false) then s
    else
      let trig := match c.held with | none => 5 | some h => h.trig
      let ch := if trig = 5 then s.adc.diagChan else c.channel
      let t := { tagged s conv c.left ch true raw with trig := trig, ovr := c.unread }
      let settled := s.adc.settled.getLsbD conv
      let s := s.modConv conv (fun c =>
        { c with res := t, unread := true, left := if settled then c.left - 1 else c.left, held := c.displaced, displaced := none,
                 lastStart := some s.now })
      let s := if c.displaced.isSome then { s with adc := { s.adc with deferred := satInc 255 s.adc.deferred } } else s
      let s := if t.ovr then { s with adc := { s.adc with irq := putBit s.adc.irq (8 + conv) true } } else s
      if t.valid ∧ (s.convX conv).wsrc = 0 then windowJudge conv t.result s else s)
/-- REFERENCE_SETTLED (R250): a converter on REFIN does not settle while REFIN is outside its band. -/
def execReferenceSettled (conv : Nat) (s : State) : Host.Outcome State Fault Refusal :=
  act s (fun s =>
    if !adcRuns s ∨ 4 ≤ conv ∨ ((s.convX conv).ref = 1 ∧ s.adc.refinBad = true) then s
    else { s with adc := { s.adc with settled := putBit s.adc.settled conv true } })
/-- REFIN leaves or re-enters its band. -/
def refinChange (bad : Bool) (s : State) : State :=
  { s with adc := { s.adc with refinBad := bad,
                               settled := if bad then s.adc.settled &&& maskOf 4 (fun x => decide ((s.convX (x - 1)).ref ≠ 1)) else s.adc.settled } }

/-! ### Background calibration (R251–R254) -/

/-- A slice is FAILED (R253): the rotation stops; S keeps the role of a failed converter slice. -/
def sliceFail (k : Nat) (a : AdcBlock) : AdcBlock :=
  { a with failed := putBit a.failed k true, calState := 3, out := k,
           byS := if k = 4 then 0 else maskOf 4 (fun x => decide (x = k + 1)) }
/-- A period begins for converter x: S shadows. -/
def periodStart (x : Nat) (a : AdcBlock) : AdcBlock := { a with calState := 0, out := 4, byS := 0, rot := { conv := x } }
/-- S takes converter x's role. -/
def handover (pending : Bool) (a : AdcBlock) : AdcBlock :=
  { a with calState := 1, out := a.rot.conv, byS := maskOf 4 (fun x => decide (x = a.rot.conv + 1)),
           rot := { a.rot with frame := 1, mismatches := if pending then 2 else 0 } }
/-- Converter x has completed its calibration: step 6 of Table 9-7 ends 8 ms before the boundary of frame 9. -/
def calibrated (now x : Nat) (a : AdcBlock) : AdcBlock :=
  { a with conv := bankMod a.conv (x + 1) (fun c => { c with calAt := now - 8000 }) }
/-- One frame boundary of the rotation. `diff` is the largest difference of a shadow frame, `pass` the result of the
self-test of the slice not in service. Second component: ADC_SHADOW with its slice. -/
def rotate (now diff : Nat) (pass : Bool) (a : AdcBlock) : AdcBlock × Option Nat :=
  let x := a.rot.conv
  let bad := decide (16 < diff)
  let noted := { a with conv := bankMod a.conv (x + 1) (fun c => { c with diff := min 255 diff }) }
  let more := { noted with rot := { a.rot with mismatches := a.rot.mismatches + 1 } }
  match a.calState with
  | 0 =>
    if !bad then (if pass then (handover false noted, none) else (sliceFail 4 noted, none))
    else if a.rot.mismatches = 0 then (if pass then (more, none) else (sliceFail 4 noted, none))
    else if pass then (handover true noted, some 4) else (sliceFail 4 noted, some 4)
  | 1 =>
    if (a.rot.mismatches = 2 ∨ a.rot.frame = 8) ∧ pass = false then (sliceFail x a, none)
    else ({ (if a.rot.frame = 8 then calibrated now x a else a) with
      calState := if 8 ≤ a.rot.frame then 2 else 1, rot := { a.rot with frame := a.rot.frame + 1, mismatches := 0 } }, none)
  | 2 =>
    if !bad then
      (periodStart ((x + 1) % 4)
        { noted with periods := satInc 65535 a.periods }, none)
    else if a.rot.repeats then (sliceFail x noted, none)
    else if a.rot.mismatches = 0 then (more, none)
    else if pass then ({ noted with calState := 1, rot := { a.rot with frame := 1, mismatches := 0, repeats := true } }, some x)
    else (sliceFail x noted, some x)
  | 3 => (a, none)
  | _ => if a.failed = 0 then (periodStart 0 a, none) else ({ a with calState := 3 }, none)
/-- CALIBRATION_FRAME_BOUNDARY (R251). -/
def execCalibrationFrameBoundary (diff : Nat) (selfTestPass : Bool) (s : State) : Host.Outcome State Fault Refusal :=
  act s (fun s =>
    if !working s.sys.mode then s
    else
      let r := rotate s.now diff selfTestPass s.adc
      let s := { s with adc := r.1 }
      match r.2 with
      | none => s
      | some k => raiseSrc 208 k (blockAddr 0 3 k) s)

/-! ### ADC_CMD (R253, R255) -/

/-- Write ADC_CMDSTAT. -/
def adcRes (code r : Nat) (s : State) : State := { s with adc := { s.adc with cmd := cmdRes code r } }
/-- ADC_CMD DIAG. -/
def adcDiag (conv channel : Nat) (s : State) : State :=
  if s.sys.mode ≠ .service then adcRes 1 2 s
  else if 3 < conv ∨ 31 < channel then adcRes 1 3 s
  else if s.adc.cmps.toList.any (fun c => c.module_ && decide (c.channel = channel)) then adcRes 1 4 s
  else if s.adc.diagState = 1 then adcRes 1 1 s
  else adcRes 1 1 { s with adc := { s.adc with diagState := 1, diagChan := channel, diagConv := conv, diagOpen := false, diagShort := false } }
/-- DIAG. -/
def execDiag (conv channel : Nat) (s : State) : Host.Outcome State Fault Refusal := act s (adcDiag conv channel)
/-- R_SRC of R255 from the two mean node voltages in µV; none when the node follows the DAC fully. -/
def rSrc (v1 v2 : Nat) : Option Nat := if 1250000 ≤ v2 - v1 then none else some (100000 * (v2 - v1) / (1250000 - (v2 - v1)))
/-- DIAG_COMPLETE: the mean node voltages of the two steps, µV. -/
def execDiagComplete (v1 v2 : Nat) (s : State) : Host.Outcome State Fault Refusal :=
  act s (fun s =>
    if s.adc.diagState ≠ 1 then s
    else
      let r := rSrc v1 v2
      adcRes 1 0 { s with adc := { s.adc with
        diagState := 2, rSrc := match r with | none => 2 ^ 22 - 1 | some n => sat 22 n,
        diagOpen := decide (1250000 ≤ v2 - v1) || decide (10 * (1250000 - (v2 - v1)) < v2 - v1),
        diagShort := match r with | none => false | some n => decide (n < 10) } })
/-- ADC_CMD CLEAR_FAILED with the result of the slice's self-test. -/
def adcClearFailed (slice : Nat) (pass : Bool) (s : State) : State :=
  if !working s.sys.mode then adcRes 2 2 s
  else if 4 < slice then adcRes 2 3 s
  else if !s.adc.failed.getLsbD slice then adcRes 2 5 s
  else if !pass then adcRes 2 0 s
  else
    let a := { s.adc with failed := putBit s.adc.failed slice false }
    let dead := [0, 1, 2, 3].find? (fun x => a.failed.getLsbD x)
    let a := if a.failed ≠ 0 then
        (if slice = 4 then { a with byS := match dead with | some x => maskOf 4 (fun k => decide (k = x + 1)) | none => 0,
                                    out := dead.getD 4 }
         else a)
      else if slice = 4 then periodStart a.rot.conv a
      else { a with calState := 1, out := slice, byS := maskOf 4 (fun x => decide (x = slice + 1)), rot := { conv := slice, frame := 1 } }
    adcRes 2 0 { s with adc := a }
/-- ADC_CLEAR_FAILED. -/
def execAdcClearFailed (slice : Nat) (pass : Bool) (s : State) : Host.Outcome State Fault Refusal := act s (adcClearFailed slice pass)
/-- ADC_CMD with a code that Table 9-11 does not list. -/
def adcUnknown (code : Nat) (s : State) : State := adcRes code 6 s

/-! ### Registers (R258) -/

/-- A result as its register shows it (Table 9-2). -/
def resWord (r : AdcResult) : Word :=
  pack [(31, 1, r.valid.toNat), (29, 2, r.settle), (28, 1, r.ovr.toNat), (24, 4, r.trig), (0, 24, r.result.toNat)]
/-- ADC_STAT.CAL_STATE. -/
def calStateOf (s : State) : Nat :=
  match s.sys.mode with
  | .staging => 4
  | .limp | .ship => 5
  | _ => if s.adc.failed ≠ 0 then 3 else s.adc.calState
/-- Converter window, offset o. -/
def convWindow (s : State) (x o : Nat) : Word :=
  let c := s.convX x
  match o with
  | 0 => pack [(8, 2, c.range), (0, 5, c.channel)]
  | 1 => resWord c.res
  | 2 => c.lo.setWidth 32
  | 3 => c.hi.setWidth 32
  | 4 => pack [(31, 1, c.en.toNat), (30, 1, c.armed.toNat), (8, 16, c.hyst), (0, 5, c.wsrc)]
  | 5 => pack [(28, 4, c.osr), (26, 2, c.ref), (21, 5, c.nSlots), (16, 5, convBits c)]
  | 6 => pack [(16, 16, sat 16 ((s.now - (if s.adc.byS.getLsbD x then s.adc.sCalAt else c.calAt)) / 1000)), (8, 8, c.diff)]
  | _ => 0
/-- Registers of the ADC block at offset o from 0x1400. -/
def adcView (s : State) (o : Nat) : Word :=
  let a := s.adc
  if 0x10 ≤ o ∧ o < 0x50 then convWindow s ((o - 0x10) / 16) (o % 16)
  else if 0x80 ≤ o ∧ o < 0x88 then
    let r := bankGet {} a.routes (o - 0x80 + 1)
    pack [(31, 1, r.en.toNat), (16, 8, r.src), (0, 4, r.conv.toNat)]
  else if 0x88 ≤ o ∧ o < 0x8C then
    let t := bankGet {} a.timers (o - 0x88 + 1)
    pack [(31, 1, t.en.toNat), (0, 24, t.period)]
  else if 0x90 ≤ o ∧ o < 0xA0 then
    let c := bankGet {} a.cmps ((o - 0x90) / 2 + 1)
    if o % 2 = 0 then pack [(31, 1, c.en.toNat), (30, 1, c.module_.toNat), (29, 1, c.out.toNat), (24, 3, c.mode), (16, 2, c.filter), (0, 5, c.channel)]
    else pack [(16, 12, c.hi), (0, 12, c.lo)]
  else if 0x100 ≤ o ∧ o < 0x140 then resWord (bankGet {} (s.convX ((o - 0x100) / 16)).slots (o % 16 + 1)).res
  else match o with
    | 0 => pack [(29, 3, a.out), (26, 3, calStateOf s), (21, 5, a.failed.toNat), (16, 4, a.byS.toNat), (0, 16, a.periods)]
    | 1 => pack [(12, 1, a.refinBad.toNat), (10, 2, (s.convX 3).ref), (8, 2, (s.convX 2).ref), (6, 2, (s.convX 1).ref),
                 (4, 2, (s.convX 0).ref), (0, 4, a.settled.toNat)]
    | 3 => pack [(8, 8, a.cmd.code), (0, 8, a.cmd.result)]
    | 5 => a.irq.setWidth 32
    | 6 => a.irqEn.setWidth 32
    | 7 => pack [(24, 8, a.merged), (16, 8, a.displaced), (8, 8, a.deferred), (0, 8, a.stAbort)]
    | 8 => pack [(30, 2, a.diagState), (29, 1, a.diagOpen.toNat), (28, 1, a.diagShort.toNat), (22, 5, a.diagChan), (0, 22, a.rSrc)]
    | 9 => pack [(24, 8, (s.convX 3).load), (16, 8, (s.convX 2).load), (8, 8, (s.convX 1).load), (0, 8, (s.convX 0).load)]
    | _ => 0
/-- A read of ADC_RESx marks its result read (R241). -/
def adcReadRes (x : Nat) (s : State) : State := s.modConv x (fun c => { c with unread := false })
/-- The window band is at least 2 × HYST wide (R249). -/
def bandOk (c : Conv) : Bool := decide (rawInt c.lo + (128 * c.hyst : Nat) ≤ rawInt c.hi)
/-- A write that leaves a band too narrow is ignored. -/
def putWindow (x : Nat) (f : Conv → Conv) (s : State) : State := s.modConv x (fun c => if bandOk (f c) then f c else c)
/-- ADC_CHSELx (R240). -/
def chselWrite (d : Word) (c : Conv) : Conv :=
  let ch := field d 0 5
  let rg := field d 8 2
  { c with channel := ch, range := rg, left := max c.left (if rg ≠ c.range then 2 else if ch ≠ c.channel then 1 else 0) }
/-- Writes to the RW and W1C registers of the ADC block (ADC_CMD and ADC_SWTRG are commands). -/
def adcWrite (o : Nat) (d : Word) (s : State) : State :=
  if 0x10 ≤ o ∧ o < 0x50 then
    let x := (o - 0x10) / 16
    match o % 16 with
    | 0 => s.modConv x (chselWrite d)
    | 2 => putWindow x (fun c => { c with lo := d.setWidth 24 }) s
    | 3 => putWindow x (fun c => { c with hi := d.setWidth 24 }) s
    | 4 => putWindow x (fun c => { c with en := bit d 31, hyst := field d 8 16, wsrc := field d 0 5,
                                          armed := bit d 31 && (c.armed || !c.en) }) s
    | _ => s
  else if 0x80 ≤ o ∧ o < 0x88 then
    { s with adc := { s.adc with routes := bankPut s.adc.routes (o - 0x80 + 1) { en := bit d 31, src := field d 16 8, conv := d.setWidth 4 } } }
  else if 0x88 ≤ o ∧ o < 0x8C then
    { s with adc := { s.adc with timers := bankPut s.adc.timers (o - 0x88 + 1) { en := bit d 31, period := field d 0 24 } } }
  else if 0x90 ≤ o ∧ o < 0xA0 then
    { s with adc := { s.adc with cmps := bankMod s.adc.cmps ((o - 0x90) / 2 + 1) (fun c =>
        if c.module_ then c
        else if o % 2 = 0 then { c with en := bit d 31, mode := field d 24 3, filter := field d 16 2, channel := field d 0 5,
                                        out := c.out && bit d 31 && decide (field d 24 3 ≠ 0) }
        else { c with hi := field d 16 12, lo := field d 0 12 }) } }
  else match o with
    | 5 => { s with adc := { s.adc with irq := s.adc.irq &&& ~~~(d.setWidth 12) } }
    | 6 => { s with adc := { s.adc with irqEn := d.setWidth 12 } }
    | _ => s

end Sys2Proof.Machine
end

