-- ==== Sys2Proof/Machine/Crypto.lean ====
section
/-! DEFINITION. The crypto engine: the context slots, the operations of the register interface and the CRY registers
(R368–R373). The values that SHA-384, ECDSA P-384 and AES-256-GCM deliver are constants of Config. -/

namespace Sys2Proof.Machine

/-! ### Slots (R368, R369) -/

/-- User u asks for a slot: it holds one already, takes a free one, or receives BUSY, which is counted. -/
def acquire (u : Nat) (s : State) : Bool × State :=
  if slotHeld s u then (true, s)
  else if s.cry.slot0 = 0 then (true, { s with cry := { s.cry with slot0 := u } })
  else if s.cry.slot1 = 0 then (true, { s with cry := { s.cry with slot1 := u } })
  else (false, { s with cry := { s.cry with busyCnt := satInc 255 s.cry.busyCnt } })
/-- User u releases its slot. -/
def releaseSlot (u : Nat) (s : State) : State :=
  { s with cry := { s.cry with slot0 := if s.cry.slot0 = u then 0 else s.cry.slot0, slot1 := if s.cry.slot1 = u then 0 else s.cry.slot1 } }

/-! ### CRY_BUF -/

/-- Result of a CRY_CTL operation. -/
def cryRes (code result : Nat) (s : State) : State := { s with cry := { s.cry with cmd := cmdRes code result } }
/-- Word k of CRY_BUF. -/
def bufWord (s : State) (k : Nat) : Word := memWord 0 s.cry.buf (4 * k)
/-- `n` words of CRY_BUF from word k. -/
def bufWords (s : State) (k n : Nat) : List Word := (List.range n).map (fun i => bufWord s (k + i))
/-- Put words into CRY_BUF from word k. -/
def bufPut (k : Nat) (ws : List Word) (s : State) : State :=
  { s with cry := { s.cry with buf := memWriteList 0 s.cry.buf (4 * k) (ws.flatMap wordBytes) } }
/-- The bytes of words, most significant byte of each first. -/
def msbBytes (ws : List Word) : List Byte := ws.flatMap (fun w => (wordBytes w).reverse)
/-- The words of a number of `n` words, first word highest. -/
def msbWords (n v : Nat) : List Word := (List.range n).map (fun i => BitVec.ofNat 32 (v / 2 ^ (32 * (n - 1 - i))))

/-! ### Operations of the register interface (R370), user 5 -/

/-- An operation starts: refused out of sequence while another is under way, BUSY while both slots are held. -/
def cryStart (code : Nat) (f : State → State) (s : State) : State :=
  if s.cry.mode ≠ .none then cryRes code 5 s
  else
    let r := acquire 5 s
    if r.1 then f r.2 else cryRes code 2 r.2
/-- CRY_CTL SHA_START. -/
def cryShaStart (s : State) : State :=
  cryStart 1 (fun s => cryRes 1 0 { s with cry := { s.cry with mode := .sha, fin := false, stream := [] } }) s
/-- SHA_START. -/
def execShaStart (s : State) : Host.Outcome State Fault Refusal := act s cryShaStart
/-- CRY_CTL SHA_FINAL with the bytes valid in the last word. -/
def cryShaFinal (bytes : Nat) (s : State) : State :=
  if s.cry.mode ≠ .sha ∨ s.cry.fin = true ∨ bytes = 0 ∨ 4 < bytes ∨ s.cry.stream = [] then cryRes 2 5 s
  else cryRes 2 1 { s with cry := { s.cry with fin := true, lastBytes := bytes } }
/-- SHA_FINAL. -/
def execShaFinal (bytes : Nat) (s : State) : Host.Outcome State Fault Refusal := act s (cryShaFinal bytes)
/-- CRY_CTL ECDSA_VERIFY: it runs to its end. -/
def cryEcdsa (s : State) : State := cryStart 3 (fun s => cryRes 3 1 { s with cry := { s.cry with mode := .ecdsa, fin := true } }) s
/-- ECDSA_VERIFY. -/
def execEcdsaVerify (s : State) : Host.Outcome State Fault Refusal := act s cryEcdsa
/-- CRY_CTL GCM_ENC_START and GCM_DEC_START: key and IV are taken from the buffer. -/
def cryGcmStart (enc : Bool) (aad : Nat) (s : State) : State :=
  let code := if enc then 4 else 5
  cryStart code (fun s => cryRes code 0
    { s with cry := { s.cry with mode := if enc then .gcmEnc else .gcmDec, fin := false, aad := aad, stream := [], out := [],
                                 ctx := bufWords s 0 11 } }) s
/-- GCM_ENC_START. -/
def execGcmEncStart (aad : Nat) (s : State) : Host.Outcome State Fault Refusal := act s (cryGcmStart true aad)
/-- GCM_DEC_START. -/
def execGcmDecStart (aad : Nat) (s : State) : Host.Outcome State Fault Refusal := act s (cryGcmStart false aad)
/-- A GCM message is under way. -/
def gcmMode (c : Cry) : Bool := decide (c.mode = .gcmEnc ∨ c.mode = .gcmDec)
/-- CRY_CTL GCM_FINAL: the stream must have brought the additional data. -/
def cryGcmFinal (s : State) : State :=
  if !gcmMode s.cry || s.cry.fin || decide (4 * s.cry.stream.length < s.cry.aad) then cryRes 6 5 s
  else cryRes 6 1 { s with cry := { s.cry with fin := true } }
/-- GCM_FINAL. -/
def execGcmFinal (s : State) : Host.Outcome State Fault Refusal := act s cryGcmFinal
/-- CRY_CTL RELEASE: refused without a slot, and while an operation runs. -/
def cryReleaseCmd (s : State) : State :=
  if s.cry.fin = true ∨ slotHeld s 5 = false then cryRes 7 5 s
  else cryRes 7 0 (releaseSlot 5 { s with cry := { s.cry with mode := .none, aad := 0, stream := [], out := [], ctx := [], buf := [] } })
/-- CRY_RELEASE. -/
def execCryRelease (s : State) : Host.Outcome State Fault Refusal := act s cryReleaseCmd
/-- CRY_CTL with a code that Table 13-12 does not list. -/
def cryUnknown (code : Nat) (s : State) : State := cryRes code 6 s

/-- Bytes of text that the stream has brought behind the additional data. -/
def gcmText (c : Cry) : Nat := 4 * c.stream.length - c.aad
/-- Output words from index i, `n` of them. -/
def gcmOut (c : Cry) (i n : Nat) : List Word :=
  (List.range n).map (fun k =>
    Config.gcmWord (decide (c.mode = .gcmEnc)) (c.ctx.take 8) (c.ctx.drop 8) c.stream.reverse c.aad (i + k))
/-- A stream word; each text block of 16 bytes delivers its four output words, and the words of the block before are
gone (R370: they are read before the next block is written). -/
def cryFeed (w : Word) (s : State) : State :=
  let c := s.cry
  if c.fin = true ∨ c.mode = .none ∨ c.mode = .ecdsa then s
  else
    let n := { c with stream := w :: c.stream }
    let blocks := gcmText n / 16
    { s with cry := if gcmMode c ∧ gcmText c / 16 < blocks then { n with out := gcmOut n (4 * (blocks - 1)) 4 } else n }
/-- The value a read of CRY_DATA returns; 0 when no output word waits. -/
def cryDataWord (s : State) : Word := s.cry.out.headD 0
/-- A read of CRY_DATA takes the first output word. -/
def cryTake (s : State) : State := { s with cry := { s.cry with out := s.cry.out.tail } }
/-- CRY_DATA_ACCESS: a write feeds the stream, a read takes an output word. -/
def execCryDataAccess (write : Option Word) (s : State) : Host.Outcome State Fault Refusal :=
  act s (match write with | some w => cryFeed w | none => cryTake)
/-- CRY_PTR advances at an access to CRY_BUF. -/
def cryStep (s : State) : State := { s with cry := { s.cry with ptr := (s.cry.ptr + 1) % 64 } }
/-- A write to CRY_BUF. -/
def cryBufWrite (w : Word) (s : State) : State := cryStep (bufPut s.cry.ptr [w] s)
/-- CRY_BUF_ACCESS. -/
def execCryBufAccess (write : Option Word) (s : State) : Host.Outcome State Fault Refusal :=
  act s (match write with | some w => cryBufWrite w | none => cryStep)

/-- The message a SHA-384 stream holds: whole words, of the last one the valid bytes. -/
def shaMessage (c : Cry) : List Byte :=
  (msbBytes c.stream.reverse).take (4 * c.stream.length - (4 - c.lastBytes))
/-- The operation of the register interface ends and posts its result. -/
def cryFinish (s : State) : State :=
  let c := s.cry
  let done (code result : Nat) (t : State) : State := cryRes code result { t with cry := { t.cry with mode := .none, fin := false } }
  match c.mode with
  | .none => s
  | .sha => done 2 0 (bufPut 0 (msbWords 12 (Config.sha384 (shaMessage c)).toNat) s)
  | .ecdsa =>
    let ok := Config.ecdsaP384 (msbBytes (bufWords s 36 24)) (msbBytes (bufWords s 0 12)) (msbBytes (bufWords s 12 24))
    done 3 (if ok then 0 else 3) s
  | .gcmEnc | .gcmDec =>
    let enc := decide (c.mode = .gcmEnc)
    let rest := ceilDiv (gcmText c % 16) 4
    let s : State := if rest = 0 then s else { s with cry := { s.cry with out := gcmOut c (gcmText c / 16 * 4) rest } }
    let tag := msbWords 4 (Config.gcmTag enc (c.ctx.take 8) (c.ctx.drop 8) c.stream.reverse c.aad).toNat
    if enc then done 6 0 (bufPut 12 tag s) else done 6 (if bufWords s 12 4 = tag then 0 else 4) s
/-- CRYPTO_OP_COMPLETE. -/
def execCryptoOpComplete (s : State) : Host.Outcome State Fault Refusal := act s (fun s => if s.cry.fin then cryFinish s else s)

/-! ### Random words (R421) -/

/-- One random word and the state after it; 0 unless the generator is READY. -/
def randomWord (s : State) : Word × State :=
  if s.cry.rng = .ready then (Config.randomWord s.freeIx, { s with freeIx := s.freeIx + 1 }) else (0, s)
/-- RNG_DATA_READ. -/
def execRngDataRead (s : State) : Host.Outcome State Fault Refusal := act s (fun s => (randomWord s).2)

/-! ### CRY registers (R373) -/

/-- Registers at offset o from 0x2800 whose read changes nothing. -/
def cryView (s : State) (o : Nat) : Word :=
  let c := s.cry
  match o with
  | 0 => pack [(28, 4, c.slot0), (24, 4, c.slot1), (20, 4, c.running), (8, 8, c.busyCnt)]
  | 2 => pack [(8, 8, c.cmd.code), (0, 8, c.cmd.result)]
  | 3 => cryDataWord s
  | 4 => BitVec.ofNat 32 c.ptr
  | 5 => bufWord s c.ptr
  | 6 => pack [(28, 4, c.rng.code)]
  | _ => 0
/-- CRY_CTL. -/
def cryCtl (w : Word) (s : State) : State :=
  match field w 8 8 with
  | 1 => cryShaStart s
  | 2 => cryShaFinal (field w 16 8) s
  | 3 => cryEcdsa s
  | 4 => cryGcmStart true (field w 16 8) s
  | 5 => cryGcmStart false (field w 16 8) s
  | 6 => cryGcmFinal s
  | 7 => cryReleaseCmd s
  | k => cryUnknown k s

end Sys2Proof.Machine
end

