-- ==== Sys2Proof/Machine/Blocks.lean ====
section
/-! DEFINITION. The protected blocks of the Cellar (Table 15-4): what each body holds, writing it and restoring it at a
cold start (R310, R350, R353, R360, R371, R409–R411). The manual gives the blocks' contents and no order of the bytes
in a body (log entry 8). -/

namespace Sys2Proof.Machine

/-! ### Writing -/

/-- The bank record (R350). -/
def saveBank (s : State) : State := blockWrite 0x4080 64 (le 1 s.fls.active ++ le 1 s.fls.previous) s
/-- The activation record (R360): phase, cells done, flags, store slot written, cells skipped. -/
def saveActivation (s : State) : State :=
  let u := s.upd
  let slot : Nat := match u.newSlot with | none => 0 | some x => 1 + 2 * x.1 + x.2
  blockWrite 0x4100 64 (le 1 u.phase.code ++ le 1 u.done.toNat ++ le 1 (u.pendingFrame.toNat + 2 * u.repair.toNat) ++ le 1 slot ++
    le 1 u.skipped.toNat) s
/-- TRL_CFG. -/
def trlCfgWord (s : State) : Word := pack [(8, 8, s.trl.tmRank), (1, 1, s.trl.endB.toNat), (0, 1, s.trl.endA.toNat)]
/-- The identity block (R310). -/
def saveIdentity (s : State) : State := blockWrite 0x4180 64 (le 2 s.trl.addr ++ le 2 0 ++ wordBytes (trlCfgWord s)) s
/-- The Graft header (R410). -/
def saveGraftHeader (s : State) : State := blockWrite 0x4400 64 (le 8 s.upd.gid.toNat ++ le 4 s.upd.release ++ le 2 s.upd.total) s
/-- The state block: UPD_STAT, UPD_GID, UPD_PKG, EIS_SHIP. -/
def saveState (s : State) : State :=
  let u := s.upd
  blockWrite 0x4C80 64 (le 1 u.state.code ++ le 1 u.bound.toNat ++ le 1 u.area ++ le 1 u.formOk.toNat ++ le 8 u.gid.toNat ++ le 2 u.total ++
    le 2 0 ++ le 4 u.release ++ wordBytes (shipWord s)) s
/-- First byte of the chunk bitmap. -/
def bitmapAt : Nat := 0x4480
/-- Clear every word of the bitmap (R410). -/
def clearBitmap (s : State) : State :=
  let s := clrPut bitmapAt (List.replicate 1024 0) s
  { s with upd := { s.upd with bitmap := 0 } }
/-- Write one bit of the bitmap, in the array and in the register. -/
def putChunkBit (k : Nat) (b : Bool) (s : State) : State :=
  let m := putBit s.upd.bitmap k b
  let s := clrPut (bitmapAt + k / 8) [BitVec.ofNat 8 (m.toNat / 2 ^ (k / 8 * 8) % 256)] s
  { s with upd := { s.upd with bitmap := m } }

/-! ### Restoring (R411) -/

/-- Bank record; absent: bank 0 active. -/
def restoreBank (s : State) : State :=
  match blockBody s 0x4080 64 with
  | none => s
  | some bs => { s with fls := { s.fls with active := uAt bs 0 1 % 2, previous := uAt bs 1 1 % 2 } }
/-- The phase of a code. -/
def phaseOf : Nat → ActPhase
  | 1 => .scheduled | 2 => .guard | 3 => .main | 4 => .trial | 5 => .cells | 6 => .structure_ | 7 => .done | 8 => .ended
  | _ => .idle
/-- Activation record; absent: no activation. A trial goes on (R361). -/
def restoreActivation (s : State) : State :=
  match blockBody s 0x4100 64 with
  | none => s
  | some bs =>
    let p := phaseOf (uAt bs 0 1)
    let f := uAt bs 2 1
    let k := uAt bs 3 1
    { s with upd := { s.upd with phase := p, done := BitVec.ofNat 7 (uAt bs 1 1), pendingFrame := decide (f % 2 = 1),
                                 repair := decide (f / 2 % 2 = 1), skipped := BitVec.ofNat 7 (uAt bs 4 1), newSlot := if k = 0 then none else some ((k - 1) / 2 % 2, (k - 1) % 2) },
             fls := { s.fls with trial := decide (p = .main ∨ p = .trial) } }
/-- Identity; absent, or in BLANK, the address is the low half word of the unit ID (R310, R341). -/
def restoreIdentity (s : State) : State :=
  let own := s.unitId.toNat % 65536
  match blockBody s 0x4180 64 with
  | none => { s with trl := { s.trl with addr := own, tmRank := 255, endA := false, endB := false } }
  | some bs =>
    let c := BitVec.ofNat 32 (uAt bs 4 4)
    { s with trl := { s.trl with addr := if s.lcs.state = .blank then own else uAt bs 0 2, tmRank := field c 8 8, endA := bit c 0,
                                 endB := bit c 1 } }
/-- The Graft state of a code. -/
def graftOf : Nat → GraftState
  | 1 => .receiving | 2 => .complete | 3 => .verified | 4 => .carried | 5 => .refused | 6 => .activating | 7 => .active
  | _ => .none
/-- State block, Graft header and bitmap; without a header no chunk is held. -/
def restoreGraft (s : State) : State :=
  let s := match blockBody s 0x4C80 64 with
    | none => s
    | some bs =>
      let sh := BitVec.ofNat 32 (uAt bs 20 4)
      { s with
        upd := { s.upd with state := graftOf (uAt bs 0 1), bound := decide (uAt bs 1 1 = 1), area := uAt bs 2 1 % 2,
                            formOk := decide (uAt bs 3 1 = 1), gid := BitVec.ofNat 64 (uAt bs 4 8), total := uAt bs 12 2 },
        eis := { s.eis with entries := field sh 24 8, gateIn := bit sh 7, mask := sh.setWidth 7 } }
  match blockBody s 0x4400 64 with
  | none => s
  | some bs =>
    { s with upd := { s.upd with gid := BitVec.ofNat 64 (uAt bs 0 8), release := uAt bs 8 4, total := uAt bs 12 2,
                                 bitmap := BitVec.ofNat 8192 (ofLe (clrBytes s bitmapAt 1024)) } }
/-- Everything a cold start restores, with the cold cause that the books need (R187, R411). -/
def restoreBlocks (cause : Nat) (s : State) : State :=
  restoreBooks cause (restoreGraft (restoreIdentity (restoreActivation (restoreBank s))))

end Sys2Proof.Machine
end

