-- ==== Sys2Proof/Machine/Life.lean ====
section
/-! DEFINITION. The OTP, the life cycle and the random number generator (R413–R424), and the LCS registers (R427). -/

namespace Sys2Proof.Machine

/-! ### Views and activities -/

/-- An agent has a session open on its interface. -/
def sessView (s : State) : Agent → Bool
  | .mainImage => false
  | .hostSpi => decide (s.spi.sess.state = .open_)
  | .trellis => decide (s.trl.sess.state = .open_)
/-- An agent has the privileged view (R294, R297, R298, R339): the main image always. -/
def privView (s : State) : Agent → Bool
  | .mainImage => true
  | .hostSpi => s.spi.privEn || decide (s.spi.sess.state = .open_)
  | .trellis => decide (s.trl.sess.state = .open_)
/-- A flash program or erase, a Graft activation or a cell microcode transfer is in progress (R202, R419). -/
def updating (s : State) : Bool :=
  s.fls.op.isSome || decide (s.upd.state = .activating) || seven.any (fun n => decide ((s.cell n).state = .update))
/-- LIMP transfers no power because no usable last good copy exists (R110, R367). -/
def limpIdle (s : State) : Bool := decide (s.sys.mode = .limp ∧ (s.sys.sub = .rom ∨ s.sys.sub = .locked)) && !s.limp.power

/-! ### Transition words (R414) -/

/-- Word w of the OTP. -/
def otpRaw (s : State) (w : Nat) : Word := memWord 0 s.lcs.otp (4 * w)
/-- An intent or void word counts as written. -/
def wordSet (w : Word) : Bool := decide (8 ≤ popCount w)
/-- Intent of the pair at word w is written. -/
def intentAt (s : State) (w : Nat) : Bool := wordSet (otpRaw s w)
/-- Done of the pair at word w counts. -/
def doneAt (s : State) (w : Nat) : Bool := decide (otpRaw s (w + 1) = 0xFFFFFFFF)
/-- Void of the pair at word w is written. -/
def voidAt (s : State) (w : Nat) : Bool := wordSet (otpRaw s (w + 2))
/-- None of the pair's words is written. -/
def pairFresh (s : State) (w : Nat) : Bool := !intentAt s w && !doneAt s w && !voidAt s w
/-- First word of transition t, attempt a (Table 15-6). -/
def pairWord (t a : Nat) : Nat :=
  match t with
  | 1 => 52
  | 2 => 55
  | 3 => 58
  | 4 => 61 + 3 * a
  | 5 => 73
  | _ => 76 + 3 * a
/-- Every pair: transition, attempt. -/
def pairs : List (Nat × Nat) :=
  [(1, 0), (2, 0), (3, 0), (4, 0), (4, 1), (4, 2), (4, 3), (5, 0), (6, 0), (6, 1), (6, 2), (6, 3)]
/-- The attempts of transitions 4 and 6 in order (R418). -/
def attempts (s : State) : (n a : Nat) → Life → Life
  | 0, _, l => l
  | n + 1, a, l =>
    let l := if doneAt s (pairWord 4 a) && !voidAt s (pairWord 4 a) then .return_ else l
    attempts s n (a + 1) (if doneAt s (pairWord 6 a) then .field else l)
/-- The state of the transition words (R418). -/
def lifeFrom (s : State) : Life :=
  let ok (w : Nat) : Bool := doneAt s w && !voidAt s w
  let l := if ok 52 then Life.factory else .blank
  let l := if ok 55 then .provisioned else l
  let l := if ok 58 then .field else l
  let l := attempts s 4 0 l
  if doneAt s 73 then .scrapped else l
/-- Program ones into an OTP word; the held copy follows when `hold`. -/
def otpPut (hold : Bool) (w : Nat) (d : Word) (s : State) : State :=
  { s with lcs := { s.lcs with otp := memPutWord 0 s.lcs.otp (4 * w) (otpRaw s w ||| d),
                               held := if hold then memPutWord 0 s.lcs.held (4 * w) (otpRaw s w ||| d) else s.lcs.held } }
/-- Program a run of words to all ones; the count of those that were not. -/
def burn (ws : List Nat) (s : State) : State × Nat :=
  ws.foldl (fun (p : State × Nat) w => if otpRaw p.1 w = 0xFFFFFFFF then p else (otpPut true w 0xFFFFFFFF p.1, p.2 + 1)) (s, 0)
/-- Words that the actions of transition t burn between intent and done. -/
def actionWords (t : Nat) : List Nat := if t = 5 then (List.range 48).map (· + 2) else []
/-- States a transition leads from and to; transition 5 leads from the state it met. -/
def transEnds (t : Nat) (l : Life) : Nat × Nat :=
  match t with
  | 1 => (0, 1)
  | 2 => (1, 2)
  | 3 => (2, 3)
  | 4 => (3, 4)
  | 5 => (l.code, 5)
  | _ => (4, 3)
/-- Kind word of a LIFECYCLE record. -/
def lifeWord (t : Nat) (l : Life) (resolved back : Bool) (words : Nat) : Word :=
  pack [(29, 3, (transEnds t l).1), (26, 3, (transEnds t l).2), (25, 1, resolved.toNat), (24, 1, back.toNat), (0, 8, words)]

/-! ### Resolution at a cold start (R420) -/

/-- Resolve one pair whose intent stands without done and void. -/
def resolvePair (p : Nat × Nat) (s : State) : State :=
  let w := pairWord p.1 p.2
  if !intentAt s w ∨ doneAt s w ∨ voidAt s w then s
  else
    let back := decide (p.1 = 4)
    let from_ := lifeFrom s
    let r := if back then burn [w + 2] s else burn (actionWords p.1 ++ [w + 1]) s
    let t := r.1
    let t : State := { t with lcs := { t.lcs with state := lifeFrom t, resolved := true, resT := p.1, rolledBack := back } }
    queueRecord 8 0 0 0 (lifeWord p.1 from_ true back r.2) false true t
/-- OTP read, resolution and state at step 3. -/
def readOtp (s : State) : State :=
  let weak := pairs.any (fun p => decide (1 ≤ popCount (otpRaw s (pairWord p.1 p.2)) ∧ popCount (otpRaw s (pairWord p.1 p.2)) ≤ 7))
  let s : State := { s with lcs := { s.lcs with held := s.lcs.otp, state := lifeFrom s, resolved := false, resT := 0, rolledBack := false, weak := weak } }
  pairs.foldl (fun t p => resolvePair p t) s

/-! ### LCS commands (R415, R419) -/

/-- Write LCS_CMDSTAT. -/
def lcsRes (code r : Nat) (s : State) : State := { s with lcs := { s.lcs with cmd := cmdRes code r } }
/-- PROGRAM_WORD may write word w in the present state (Table 15-7). -/
def wordOpen (s : State) (w : Nat) : Bool :=
  match s.lcs.state with
  | .blank => decide (w ≤ 51)
  | .factory => decide (26 ≤ w ∧ w ≤ 51)
  | _ => false
/-- LCS_CMD PROGRAM_WORD, with its read-back: which bits the array took is a free value (DESIGN CHOICE, log entry 84). -/
def lcsProgram (w : Nat) (s : State) : State :=
  if !wordOpen s w ∨ otpRaw s w ≠ 0 ∨ s.lcs.data = 0 then lcsRes 1 5 s
  else
    let m := freeWord s
    lcsRes 1 (if s.lcs.data &&& m.1 = s.lcs.data then 0 else 6) (otpPut false w (s.lcs.data &&& m.1) m.2)
/-- PROGRAM_WORD. -/
def execProgramWord (_by : Agent) (word : Nat) (s : State) : Host.Outcome State Fault Refusal := act s (lcsProgram word)
/-- The modes and activities of R419. -/
def lcsMode (s : State) : Bool := (working s.sys.mode || limpIdle s) && !updating s && !s.eis.shipRun
/-- LCS_CMD ARM_TRANSITION. -/
def lcsArm (key target : Nat) (s : State) : State :=
  if !lcsMode s then lcsRes 2 2 s
  else if key ≠ 0xC3 then lcsRes 2 3 s
  else lcsRes 2 0 { s with lcs := { s.lcs with arm := some { target := target, until_ := s.now + 10 * oneSec } } }
/-- ARM_TRANSITION. -/
def execArmTransition (_by : Agent) (key target : Nat) (s : State) : Host.Outcome State Fault Refusal := act s (lcsArm key target)
/-- The transition of Table 15-8 from the present state to a target code, with its attempt. -/
def transOf (s : State) (target : Nat) : Option (Nat × Nat) :=
  let free (t : Nat) : Option (Nat × Nat) := ([0, 1, 2, 3].find? (fun a => pairFresh s (pairWord t a))).map (fun a => (t, a))
  match s.lcs.state, lifeOf target with
  | .blank, some .factory => some (1, 0)
  | .factory, some .provisioned => some (2, 0)
  | .provisioned, some .field => some (3, 0)
  | .field, some .return_ => free 4
  | .return_, some .field =>
    (([3, 2, 1, 0].find? (fun a => doneAt s (pairWord 4 a) && !voidAt s (pairWord 4 a))).filter
      (fun a => pairFresh s (pairWord 6 a))).map (fun a => (6, a))
  | .scrapped, _ => none
  | _, some .scrapped => some (5, 0)
  | _, _ => none
/-- The view that a transition requires, of the interface that writes. -/
def transView (s : State) (t : Nat) (a : Agent) : Bool :=
  let pin := decide (a = .hostSpi) && s.spi.privEn
  match t with
  | 1 => pin
  | 2 => pin || sessView s a
  | 5 => privView s a
  | _ => sessView s a
/-- Further conditions of Table 15-8. -/
def transOk (s : State) (t : Nat) : Bool :=
  match t with
  | 1 => decide (s.unitId ≠ 0) && keyOk s erpKey
  | 2 => keyOk s opKey && decide (s.otpWord 50 ≠ 0)
  | _ => true
/-- Perform a transition: intent, actions, done, record; sessions end, and the PRIV_EN grant in the closed states. -/
def transition (t a : Nat) (s : State) : State :=
  let w := pairWord t a
  let from_ := s.lcs.state
  let r := burn ([w] ++ actionWords t ++ [w + 1]) s
  let s := r.1
  let l := lifeFrom s
  let shut := decide (l = .provisioned ∨ l = .field ∨ l = .scrapped)
  let s : State := { s with lcs := { s.lcs with state := l, arm := none },
                            spi := { s.spi with sess := endSession9 s.spi.sess, privEn := s.spi.privEn && !shut },
                            trl := { s.trl with sess := endSession9 s.trl.sess } }
  queueRecord 8 0 0 0 (lifeWord t from_ false false r.2) false false s
/-- LCS_CMD TRANSITION. -/
def lcsTransition (a : Agent) (key target : Nat) (s : State) : State :=
  if !lcsMode s then lcsRes 3 2 s
  else if key ≠ 0xC3 then lcsRes 3 3 s
  else match s.lcs.arm with
    | none => lcsRes 3 7 s
    | some m =>
      if m.target ≠ target ∨ m.until_ ≤ s.now then lcsRes 3 7 s
      else match transOf s target with
        | none => lcsRes 3 8 s
        | some (t, k) =>
          if !transView s t a then lcsRes 3 4 s
          else if !transOk s t then lcsRes 3 8 s
          else lcsRes 3 0 (transition t k s)
/-- TRANSITION. -/
def execTransition (by_ : Agent) (key target : Nat) (s : State) : Host.Outcome State Fault Refusal := act s (lcsTransition by_ key target)
/-- ARM_TRANSITION_EXPIRY. -/
def execArmTransitionExpiry (s : State) : Host.Outcome State Fault Refusal := act s (fun s => { s with lcs := { s.lcs with arm := none } })
/-- LCS_CMD with a code that Table 15-12 does not list. -/
def lcsUnknown (code : Nat) (s : State) : State := lcsRes code 9 s

/-! ### Random number generator (R421–R424) -/

/-- LCS_RNG. -/
def rngWord (s : State) : Word :=
  pack [(24, 8, s.lcs.rngFails), (23, 1, s.lcs.unblinded.toNat), (21, 2, s.lcs.lastTest), (0, 16, s.lcs.starts)]
/-- The generator starts: at power-on reset and at every release of the cores (R422). -/
def rngStart (s : State) : State :=
  { s with cry := { s.cry with rng := .notReady, rngFail := false },
           lcs := { s.lcs with rngFails := 0, rngTimes := [], starts := satInc 65535 s.lcs.starts } }
/-- RNG_READY (R422). -/
def execRngReady (s : State) : Host.Outcome State Fault Refusal :=
  act s (fun s => if s.cry.rng = .notReady then { s with cry := { s.cry with rng := .ready } } else s)
/-- A session that waits for the generator returns to NONE with RESULT 10. -/
def rngLost (x : Session) : Session := if x.state = .waitRng then { x with state := .none, result := 10, lease := 0 } else x
/-- The generator is FAILED: a record, and the waiting sessions end. -/
def rngFailed (s : State) : State :=
  let s : State := { s with cry := { s.cry with rng := .failed, rngFail := true }, spi := { s.spi with sess := rngLost s.spi.sess },
                            trl := { s.trl with sess := rngLost s.trl.sess } }
  record 9 (rngWord s) s
/-- Length of 64 windows of 1,024 samples at 25 MHz / 12, µs. -/
def windows64 : Nat := 31458
/-- RNG_WINDOW_FAIL: at start-up at once FAILED; in service the third failed window within 64. -/
def execRngWindowFail (t : RngTest) (s : State) : Host.Outcome State Fault Refusal :=
  act s (fun s =>
    if s.cry.rng = .failed then s
    else
      let ts := s.now :: s.lcs.rngTimes.filter (within s windows64)
      let s : State := { s with lcs := { s.lcs with rngFails := satInc 255 s.lcs.rngFails, rngTimes := ts,
                                                    lastTest := match t with | .repetition => 1 | .proportion => 2 } }
      if s.cry.rng = .notReady ∨ 3 ≤ ts.length then rngFailed s else s)

/-! ### LCS registers (R427) -/

/-- PRIV_EN is honoured and the debug port open in this state (Table 15-7). -/
def lifeOpen (s : State) : Bool := decide (s.lcs.state = .blank ∨ s.lcs.state = .factory ∨ s.lcs.state = .return_)
/-- Registers of the LCS block at offset o from 0x3800, as agent a reads them. -/
def lcsView (s : State) (a : Agent) (o : Nat) : Word :=
  let l := s.lcs
  match o with
  | 0 =>
    let read := decide (3 ≤ s.sys.lastStep)
    pack [(29, 3, l.state.code), (28, 1, l.resolved.toNat), (25, 3, l.resT), (24, 1, l.rolledBack.toNat),
          (21, 3, ([0, 1, 2, 3].filter (fun k => pairFresh s (pairWord 4 k))).length), (20, 1, l.weak.toNat),
          (19, 1, (read && lifeOpen s).toNat), (18, 1, (read && lifeOpen s).toNat), (17, 1, (keyOk s erpKey).toNat),
          (16, 1, (keyOk s opKey).toNat), (15, 1, l.arm.isSome.toNat), (12, 3, match l.arm with | none => 0 | some m => m.target)]
  | 1 => s.otpWord 0
  | 2 => s.otpWord 1
  | 4 => pack [(8, 8, l.cmd.code), (0, 8, l.cmd.result)]
  | 5 => l.data
  | 6 => BitVec.ofNat 32 (s.agent a).otpSel
  | 7 => otpRaw s (s.agent a).otpSel
  | 8 => rngWord s
  | _ => 0

end Sys2Proof.Machine
end

