-- ==== Sys2Proof/Machine/Regen.lean ====
section
/-! DEFINITION. Regeneration and the peer ports: absorption, brake chopper, the configuration wire, contracts, swap and
test (chapter 8). -/

namespace Sys2Proof.Machine

/-! ### Regeneration (R207–R216) -/

/-- Some cell absorbs. -/
def anyAbsorbing (s : State) : Bool := seven.any (fun n => (s.cell n).absorbing)
/-- V_CASK_REGEN in 10 mV. -/
def regenLevel (s : State) : Nat := vCaskRegen (boardImage s) * 10
/-- An episode begins (Table 8-2). -/
def regenStart (s : State) : State :=
  let r := s.ppt.regen
  if r.state ≠ .none then s
  else { s with ppt := { s.ppt with regen := { r with state := .absorb, episodes := satInc 65535 r.episodes, vPeak := 0, absPeak := 0,
                                                      brkTime := 0, ovTrip := false, ovBrk := false, ovCask := false } } }
/-- An episode ends when no cell absorbs and the cask is below V_CASK_REGEN; without a chopper CHOP ends when no cell
holds a cask overvoltage trip. -/
def regenTidy (s : State) : State :=
  let r := s.ppt.regen
  let put (x : RegenState) : State := { s with ppt := { s.ppt with regen := { r with state := x } } }
  match r.state with
  | .none => s
  | .absorb => if !anyAbsorbing s && decide (r.overAt = none) then put .none else s
  | .chop =>
    if !chopperFitted (boardImage s) && seven.all (fun n => decide (Trip.caskOv ∉ (s.cell n).latched)) then put .absorb else s
/-- EVENT REGEN_ON reaches the module: the episode, and the source gate opens (R211). -/
def regenOn (s : State) : State :=
  let s := regenStart s
  if s.pwr.gate.closed then { s with pwr := { s.pwr with gate := { s.pwr.gate with closed := false, surge := true } } } else s
/-- BRK_GATE rises. -/
def brkRise (s : State) : State :=
  let s := regenStart s
  let r := s.ppt.regen
  if !chopperFitted (boardImage s) || r.brk then s
  else { s with ppt := { s.ppt with regen := { r with brk := true, brkAt := s.now, brkCount := satInc 65535 r.brkCount, state := .chop } } }
/-- BRK_GATE_RISE. -/
def execBrkGateRise (s : State) : Host.Outcome State Fault Refusal := act s brkRise
/-- BRK_GATE_FALL. -/
def execBrkGateFall (s : State) : Host.Outcome State Fault Refusal :=
  act s (fun s =>
    let r := s.ppt.regen
    if !r.brk then s
    else regenTidy { s with ppt := { s.ppt with regen :=
      { r with brk := false, brkTime := r.brkTime + (s.now - r.brkAt), state := .absorb } } })
/-- REGEN_OV (R215): each of its three causes raises it once in an episode of Table 8-2. -/
def execRegenOv (s : State) : Host.Outcome State Fault Refusal :=
  act s (fun s =>
    let r := s.ppt.regen
    if r.brk ∧ r.ovBrk = false then raise 136 0 { s with ppt := { s.ppt with regen := { r with ovBrk := true } } }
    else if r.overAt ≠ none ∧ r.ovCask = false then raise 136 0 { s with ppt := { s.ppt with regen := { r with ovCask := true } } }
    else s)
/-- A cell's cask overvoltage EVENT: REGEN_OV once per episode, BRK_GATE high, CHOP (R213, R215, Table 8-2). -/
def caskOvEvent (s : State) : State :=
  let s := brkRise s
  let r := s.ppt.regen
  let s : State := { s with ppt := { s.ppt with regen := { r with state := .chop, ovTrip := true } } }
  if r.ovTrip then s else raise 136 0 s
/-- A cask sample of a telemetry frame, 10 mV: the episode, its peaks and the time above V_CASK_REGEN. -/
def regenSample (v : Nat) (s : State) : State :=
  let above := decide (regenLevel s < v) && decide (boardImage s ≠ [])
  let s := if above then regenStart s else s
  let r := s.ppt.regen
  let p := (seven.map (fun n => (s.cell n).absorbed * (s.cell n).vPort)).sum / 2500000
  let live := decide (r.state ≠ .none)
  regenTidy { s with ppt := { s.ppt with regen :=
    { r with vPeak := if live then max r.vPeak v else r.vPeak, absPeak := if live then max r.absPeak (sat 16 p) else r.absPeak,
             overAt := if above then (match r.overAt with | none => some s.now | some t => some t) else none } } }
/-- ABSORB_ENTRY (R210): a cell with a share goes to CASK_V at V_CASK_REGEN; an engaged cell keeps its mode. Its string's
charge is suspended, its impedance run aborts, and the port voltage maximum of its cells is n × V_CHG_eff whatever the phase (R165). -/
def execAbsorbEntry (cell : Nat) (s : State) : Host.Outcome State Fault Refusal :=
  act s (fun s =>
    let x := s.cell cell
    let c := servedCordon s cell
    let b := (s.cordon c).e.index
    if x.sp.share = 0 ∨ switching x = false ∨ x.engaged ∨ x.absorbing ∨ (s.cordon c).e.role ≠ .battery then s
    else
      let s := s.modCell cell (fun x => { x with state := .run, mode := .caskV, absorbing := true })
      let s := s.modRun b (runAbort s.now 2)
      if s.sys.mode = .limp ∨ (s.chgI b).phase = .none then s
      else (s.modCells (seven.filter (fun n => decide (servedCordon s n = c))) (fun _ x =>
        { x with sp := { x.sp with vMax := min x.sp.vMax (thr10 (chgThr s b)) } })).modChg b (addSusp 2 s.now (s.bat b).book.net))
/-- ABSORB_RELEASE (R210): the mode and set points held before. -/
def execAbsorbRelease (cell : Nat) (s : State) : Host.Outcome State Fault Refusal :=
  act s (fun s => regenTidy (s.modCell cell (fun x =>
    if x.absorbing then
      { x with absorbing := false, absorbed := 0, mode := if switching x then x.sp.mode else x.mode,
               state := if switching x then (if x.sp.mode = .standby then .standby else if x.sp.mode = .off then .ready else .run) else x.state }
    else x)))

/-! ### Peer ports: messages (R220–R222) -/

/-- Bounds of peer index i in the running image. -/
def bounds (s : State) (i : Nat) : PeerBounds := (peerBounds s.str.image i).getD ⟨0, 0, 0, 0, 0, 0, false, false⟩
/-- The port is attached: any state from CHECK to SWAP. -/
def attached (p : Peer) : Bool :=
  decide (p.state = .check ∨ p.state = .wet ∨ p.state = .negotiate ∨ p.state = .idle ∨ p.state = .contract ∨ p.state = .swap)
/-- The flags byte of CAPS and STATUS (Table 8-5). -/
def peerFlags (s : State) (i : Nat) : List Byte :=
  let b := bounds s i
  le 1 (b.mayExport.toNat + 2 * b.mayImport.toNat + 4 * (ownPathUsable s).toNat + 8 * (decide (s.sys.mode = .limp)).toNat)
/-- Payload of this side's CAPS. -/
def capsPayload (s : State) (i : Nat) : List Byte :=
  let b := bounds s i
  le 8 s.unitId.toNat ++ le 2 s.trl.addr ++ peerFlags s i ++ le 1 0 ++ le 2 b.vMin ++ le 2 b.vMax ++ le 2 b.expLim ++ le 2 b.impLim ++
    le 2 b.swapP ++ le 2 b.rCable
/-- Payload of this side's STATUS: its leakage result and its port power over the interval. -/
def statusPayload (s : State) (i : Nat) (p : Peer) : List Byte :=
  peerFlags s i ++ le 1 0 ++ le 2 (sat 16 p.ownK) ++ le 4 (BitVec.ofInt 32 p.pOwn).toNat
/-- Payload of an OFFER. -/
def offerPayload (t : Terms) : List Byte := le 2 t.vC ++ le 2 t.pC ++ le 2 t.pS ++ le 2 t.rC
/-- The port power since the last exchange becomes the power reported. -/
def takePower (s : State) (i : Nat) (p : Peer) : Peer :=
  { p with pOwn := if p.pCount = 0 then cordonP s (peerCordon s i) else p.pAcc / (p.pCount : Int), pAcc := 0, pCount := 0 }
/-- Latch a bit of PPT_FLT. -/
def pptFlt (k : Nat) (p : Peer) : Peer := { p with flt := putBit p.flt k true }
/-- What the port presents when it seeks (R218). -/
def seekPresent (b : PeerBounds) : Present := if b.mayExport then .pullUp else if b.mayImport then .pullDown else .released
/-- Contracts may form in this mode (R231). -/
def contractMode (s : State) : Bool := working s.sys.mode
/-- PRESENTATION_TOGGLE (R218): the time of a change has come. With the wire in the idle band the presentation is frozen and stays; out of
it the port alternates, again so if the wire had frozen it. -/
def execPresentationToggle (peer : Nat) (idle : Bool) (s : State) : Host.Outcome State Fault Refusal :=
  act s (fun s =>
    let b := bounds s peer
    s.modPeer peer (fun p =>
      if p.state = .seek ∧ b.mayExport ∧ b.mayImport then
        if idle then { p with frozen := true }
        else { p with frozen := false, present := if p.present = .pullUp then .pullDown else .pullUp }
      else p))
/-- The presentation an attached side holds: the upper side the pull-up. -/
def heldPresent (p : Peer) : Present := if p.upper then .pullUp else .pullDown
/-- A quiet window opens: both sides release their presentation, and the results are those of this window. -/
def openQuiet (p : Peer) : Peer :=
  { p with quiet := true, present := .released, ownChecked := false, partnerChecked := false, recheck := false }
/-- PARTNER_RECOGNISED: the presentation freezes; the side with the pull-up is the upper side and sends QUIET. -/
def execPartnerRecognised (peer : Nat) (s : State) : Host.Outcome State Fault Refusal :=
  act s (fun s => s.modPeer peer (fun p =>
    if p.state = .seek ∧ p.present ≠ .released then
      let up := decide (p.present = .pullUp)
      let p := { p with state := .check, frozen := true, upper := up, ownChecked := false, partnerChecked := false, capsSent := false,
                        caps := none, statusAt := s.now, waits := none }
      if up then openQuiet (say 7 [] p) else p
    else p))

/-! ### Contract terms (R223, R224) -/

/-- Own feed (R221). -/
def ownFeed (s : State) : Bool := ownPathUsable s
/-- Who supplies under R223, with the partner's flags: 0 nobody, 1 this side, 2 the partner. -/
def supplierOf (s : State) (i : Nat) (exp imp feed : Bool) : Nat :=
  let b := bounds s i
  let me := b.mayExport && ownFeed s && imp
  let you := exp && feed && b.mayImport
  if me && you then (if (s.peerI i).upper then 1 else 2) else if me then 1 else if you then 2 else 0
/-- Credits that a current in 10 mA carries at V_C in 0.1 V. -/
def creditsAt (i10 vC : Nat) : Nat := i10 * vC / 25000
/-- The terms that this side computes from the two CAPS; the current limits are its own cordon's. -/
def termsOf (s : State) (i : Nat) (c : Caps) (supplier : Bool) : Terms :=
  let b := bounds s i
  let e := (s.cordon (peerCordon s i)).e
  let vC := min b.vMax c.vMax
  let rC := max b.rCable c.rCable
  if supplier then
    { vC := vC, rC := rC, pC := min (min b.expLim c.impLim) (creditsAt e.iPos vC),
      pS := min (min (min b.swapP c.swapP) (min c.expLim b.impLim)) (creditsAt e.iNeg vC) }
  else
    { vC := vC, rC := rC, pC := min (min c.expLim b.impLim) (creditsAt e.iNeg vC),
      pS := min (min (min b.swapP c.swapP) (min b.expLim c.impLim)) (creditsAt e.iPos vC) }
/-- The terms have a common voltage (R224). -/
def voltOk (s : State) (i : Nat) (c : Caps) : Bool := decide (max (bounds s i).vMin c.vMin ≤ min (bounds s i).vMax c.vMax)
/-- Supply the cable (R225, R227): PORT_V at V_C, cask-to-port power within `credits`, nothing from port to cask. -/
def supply (i credits : Nat) (s : State) : State :=
  let c := peerCordon s i
  let v := (s.peerI i).vC * 10
  let s := driveCordon c .portV 0 v ((s.cordon c).e.vMax * 10) s
  let k := max (activeCells s c).length 1
  s.modCells (activeCells s c) (fun _ x => { x with sp := { x.sp with iNeg := 0, pLim := min x.sp.pLim (25 * credits / k) } })
/-- A contract forms. -/
def formContract (i : Nat) (r : PeerRole) (t : Terms) (s : State) : State :=
  let was := (s.peerI i).state
  let s := s.modPeer i (fun p =>
    { p with state := .contract, role := r, vC := t.vC, rC := t.rC, pC := t.pC, pS := t.pS, swapTerms := false, waits := none,
             balFails := 0, contracts := if was = .swap then p.contracts else satInc 255 p.contracts })
  if r = .supplier then supply i t.pC s else s
/-- A port that has both CAPS decides the roles: the supplier sends OFFER, the consumer waits, else IDLE (R223). -/
def negotiate (i : Nat) (s : State) : State :=
  let p := s.peerI i
  match p.caps with
  | none => s
  | some c =>
    match supplierOf s i c.mayExport c.mayImport p.partnerFeed with
    | 0 => s.modPeer i (fun p => { p with state := .idle })
    | 1 =>
      let t := termsOf s i c true
      s.modPeer i (fun p => say 2 (offerPayload t) { p with vC := t.vC, rC := t.rC, pC := t.pC, pS := t.pS })
    | _ => s
/-- NEGOTIATE is entered: the upper side sends CAPS. -/
def enterNegotiate (i : Nat) (s : State) : State :=
  s.modPeer i (fun p =>
    let p := { p with state := .negotiate, caps := none, capsSent := p.upper, waits := none }
    if p.upper then say 1 (capsPayload s i) p else p)

/-! ### Ending a contract (R228, R229) -/

/-- The consumer's PEER path is invalid from this tick; a usable one is dropped with cause 5. -/
def dropPeerPath (i : Nat) (s : State) : State :=
  let e := srcOfCordon s (peerCordon s i)
  if e = 0 then s
  else
    let s := s.modSrc e (fun x => { x with band := .under, state := if x.state = .qualifying then .invalid else x.state })
    if usableState (s.src e).state ∧ working s.sys.mode then dropPath e 5 false s else s
/-- State after an END of a reason (Table 8-7). -/
def afterEnd (reason : Nat) : PeerState :=
  match reason with
  | 5 => .wet
  | 1 | 6 => .backoff
  | 8 => .negotiate
  | _ => .idle
/-- A contract ends by an END of this side: path first, the supplier's cells at the ACK or after 2 ms. -/
def endSent (i reason : Nat) (s : State) : State :=
  let p := s.peerI i
  if p.state ≠ .contract ∧ p.state ≠ .swap then s
  else
    let s := s.modPeer i (fun p => { peerEndWith reason (afterEnd reason) p with noContract := if reason = 6 then s.now + oneMin else p.noContract })
    if p.role = .consumer then dropPeerPath i s else s
/-- Every cell of the peer cordon ramps to zero and turns off. -/
def peerOff (i : Nat) (s : State) : State := driveCordon (peerCordon s i) .off 0 0 0 s
/-- A contract ends by a partner's END or by its loss: no message of this side waits. -/
def endHeard (i reason : Nat) (next : PeerState) (s : State) : State :=
  let p := s.peerI i
  if p.state ≠ .contract ∧ p.state ≠ .swap then s
  else
    let s := s.modPeer i (fun p => { peerEndWith reason next p with waits := none, seq := p.seq, sent := p.sent,
                                                                    noContract := if reason = 6 then s.now + oneMin else p.noContract })
    if p.role = .consumer then dropPeerPath i s else peerOff i s
/-- The wire is found wet (R219): no contract, PPT_FLT.WET, and the state WET. -/
def foundWet (i : Nat) (s : State) : State :=
  let s := endSent i 5 s
  s.modPeer i (fun p => pptFlt 1 (if attached p then { p with state := .wet, ownChecked := false, partnerChecked := false } else p))
/-- In CHECK, both results decide (Table 8-7). -/
def checkResult (i : Nat) (s : State) : State :=
  let p := s.peerI i
  if p.state = .check ∧ p.ownChecked ∧ p.partnerChecked ∧ p.ownDry ∧ 200 ≤ p.partnerK then
    if contractMode s then enterNegotiate i s else s.modPeer i (fun p => { p with state := .idle })
  else s
/-- QUIET_WINDOW_END (R219). -/
def execQuietWindowEnd (peer ownK : Nat) (s : State) : Host.Outcome State Fault Refusal :=
  act s (fun s =>
    if (s.peerI peer).quiet = false then s
    else
      let dry := decide (200 ≤ ownK)
      let s := s.modPeer peer (fun p => { p with quiet := false, present := heldPresent p, ownK := sat 16 ownK, ownChecked := true, ownDry := dry })
      if !attached (s.peerI peer) then s else if dry then checkResult peer s else foundWet peer s)
/-- MOISTURE_PERIODIC (R219). -/
def execMoisturePeriodic (peer : Nat) (s : State) : Host.Outcome State Fault Refusal :=
  act s (fun s => s.modPeer peer (fun p => if p.upper ∧ p.state = .contract then openQuiet (say 7 [] p) else p))
/-- WET_RETRY: CHECK again. -/
def execWetRetry (peer : Nat) (s : State) : Host.Outcome State Fault Refusal :=
  act s (fun s => s.modPeer peer (fun p =>
    if p.state = .wet then
      let p := { p with state := .check, ownChecked := false, partnerChecked := false }
      if p.upper then openQuiet (say 7 [] p) else p
    else p))
/-- QUIET (R219): acknowledged; the window opens here too. -/
def execQuiet (peer seq : Nat) (s : State) : Host.Outcome State Fault Refusal :=
  act s (fun s => s.modPeer peer (fun p => if attached p then openQuiet (tell 9 (le 1 seq) p) else p))
/-- CAPS (R223). -/
def execCaps (peer _seq : Nat) (c : Caps) (s : State) : Host.Outcome State Fault Refusal :=
  act s (fun s =>
    let p := s.peerI peer
    if !attached p ∨ p.state = .check ∨ p.state = .wet then s
    else
      let s := s.modPeer peer (fun p =>
        let p := { p with caps := some c, unitId := c.unitId, addr := c.addr, partnerExport := c.mayExport, partnerFeed := c.ownFeed,
                          partnerLimp := c.limp, waits := if p.waits.any (fun (w : PeerWait) => decide (w.typ = 1)) then none else p.waits }
        if p.upper then p else { tell 1 (capsPayload s peer) p with capsSent := true, state := if p.state = .idle ∧ contractMode s then .negotiate else p.state })
      if (s.peerI peer).state = .negotiate ∧ (s.peerI peer).capsSent then negotiate peer s else s)
/-- OFFER (R224, R231): the REJECT reason of Table 8-8, or 0 to accept. -/
def offerVerdict (s : State) (i : Nat) (t : Terms) : Nat :=
  let p := s.peerI i
  let b := bounds s i
  if !contractMode s then 1
  else if s.now < p.noContract then 6
  else if p.state = .wet ∨ p.state = .check then 5
  else match p.caps with
    | none => 4
    | some c =>
      if !(b.mayImport && c.mayExport && p.partnerFeed) then 4
      else if !voltOk s i c then 2
      else if termsOf s i c false = t then 0 else 3
/-- OFFER. -/
def execOffer (peer seq : Nat) (t : Terms) (s : State) : Host.Outcome State Fault Refusal :=
  act s (fun s =>
    let p := s.peerI peer
    if !attached p ∨ p.state = .contract then s
    else
      let v := offerVerdict s peer t
      if v = 0 then formContract peer .consumer t (s.modPeer peer (tell 3 (le 1 seq)))
      else s.modPeer peer (fun p =>
        let p := { tell 4 (le 1 v) p with lastReject := v, state := if p.state = .negotiate then .backoff else p.state }
        if v = 2 then pptFlt 0 p else p))
/-- ACCEPT (R225): this side's offer forms the contract. -/
def execAccept (peer seq : Nat) (s : State) : Host.Outcome State Fault Refusal :=
  act s (fun s =>
    let p := s.peerI peer
    if (p.state = .negotiate ∨ p.state = .swap) ∧ p.waits.any (fun (w : PeerWait) => decide (w.typ = 2 ∧ w.seq = seq)) then
      match p.caps with
      | none => s
      | some c => formContract peer .supplier (termsOf s peer c true) s
    else s)
/-- REJECT: of an offer, BACKOFF with the reason; of a TEST, RESULT 5. -/
def execReject (peer reason : Nat) (s : State) : Host.Outcome State Fault Refusal :=
  act s (fun s =>
    let p := s.peerI peer
    if p.waits.any (fun (w : PeerWait) => decide (w.typ = 8)) then
      { s.modPeer peer (fun p => { p with waits := none, lastReject := reason }) with ppt :=
        { (s.modPeer peer (fun p => { p with waits := none, lastReject := reason })).ppt with cmd := cmdRes 1 5 } }
    else if p.waits.any (fun (w : PeerWait) => decide (w.typ = 2)) then
      s.modPeer peer (fun p =>
        let p := { p with waits := none, lastReject := reason, state := if p.state = .negotiate then .backoff else p.state }
        if reason = 2 then pptFlt 0 p else p)
    else s)

/-! ### STATUS and the peer balance (R222, R226) -/

/-- The mismatch M of R226 as a fraction of 0.1 W: numerator over 100 × V_C². -/
def mismatch (p : Peer) : Frac :=
  let pe := if p.role = .supplier then p.pOwn.natAbs else p.pPartner.natAbs
  let pi := if p.role = .supplier then p.pPartner.natAbs else p.pOwn.natAbs
  let d := 100 * p.vC * p.vC
  (((((pe : Int) - pi) * d) - (pe * pe * p.rC : Nat)).natAbs, d)
/-- M passes max(3 % of P_E, 50 W). -/
def unbalanced (p : Peer) : Bool :=
  let pe := if p.role = .supplier then p.pOwn.natAbs else p.pPartner.natAbs
  let m := mismatch p
  decide (max (3 * pe) 50000 * m.2 < 100 * m.1)
/-- The balance of one exchange; the third in a row over tolerance ends the contract. -/
def balance (i : Nat) (s : State) : State :=
  let p := s.peerI i
  if p.state ≠ .contract then s
  else
    let bad := unbalanced p
    let s := s.modPeer i (fun p => { p with balM := sat 16 ((mismatch p).1 / (10 * max (mismatch p).2 1)), balFails := if bad then p.balFails + 1 else 0 })
    if 3 ≤ (s.peerI i).balFails then raise 212 i ((endSent i 6 s).modPeer i (pptFlt 2)) else s
/-- STATUS (R226). -/
def execStatus (peer _seq : Nat) (st : PeerStatus) (s : State) : Host.Outcome State Fault Refusal :=
  act s (fun s =>
    if !attached (s.peerI peer) then s
    else
      let s := s.modPeer peer (fun p =>
        let p := { p with
          partnerFeed := st.ownFeed, partnerLimp := st.limp, partnerExport := st.mayExport, partnerK := sat 16 st.leakK,
          partnerChecked := p.ownChecked && !p.quiet, pPartner := st.power, statusAt := s.now,
          caps := p.caps.map (fun c => { c with mayExport := st.mayExport, mayImport := st.mayImport, ownFeed := st.ownFeed, limp := st.limp }),
          waits := if p.waits.any (fun (w : PeerWait) => decide (w.typ = 5)) then none else p.waits }
        let p := if p.upper then p else
          let q := takePower s peer p
          tell 5 (statusPayload s peer q) q
        if p.recheck then openQuiet (say 7 [] p) else p)
      let p := s.peerI peer
      if p.partnerChecked ∧ st.leakK < 200 ∧ p.state ≠ .wet then foundWet peer s
      else match p.state with
        | .check => checkResult peer s
        | .contract => balance peer s
        | .idle =>
          if contractMode s ∧ p.noContract ≤ s.now ∧ supplierOf s peer st.mayExport st.mayImport st.ownFeed ≠ 0 then
            enterNegotiate peer s
          else s
        | _ => s)
/-- PEER_STATUS_SEND (R222): the upper side, every 100 ms. -/
def execPeerStatusSend (peer : Nat) (s : State) : Host.Outcome State Fault Refusal :=
  act s (fun s => s.modPeer peer (fun p => if p.upper ∧ attached p then
    let q := takePower s peer p
    say 5 (statusPayload s peer q) q
  else p))
/-- PEER_REPLY_TIMEOUT (R222): repeated up to three sends; the third failure ends the negotiation or the contract. After an
END without its ACK the supplier's cells turn off (R228). -/
def execPeerReplyTimeout (peer : Nat) (s : State) : Host.Outcome State Fault Refusal :=
  act s (fun s =>
    match (s.peerI peer).waits with
    | none => s
    | some w =>
      let s := if w.typ = 6 then peerOff peer s else s
      if w.sends < 3 then s.modPeer peer (fun p => { p with waits := some { w with sends := w.sends + 1 }, sent := w.frame })
      else
        let s := s.modPeer peer (fun p => { p with waits := none })
        let s := if w.typ = 8 ∧ s.ppt.cmd.result = 1 then { s with ppt := { s.ppt with cmd := cmdRes 1 5 } } else s
        if w.typ = 6 then s
        else match (s.peerI peer).state with
          | .negotiate => s.modPeer peer (fun p => pptFlt 4 { p with state := .backoff })
          | .contract | .swap => endSent peer 9 s
          | _ => s)
/-- END (R228): acknowledged, and the contract ends in the fixed order. -/
def execPeerEnd (peer seq reason : Nat) (s : State) : Host.Outcome State Fault Refusal :=
  act s (fun s =>
    let p := s.peerI peer
    if !attached p then s
    else
      let s := endHeard peer reason (afterEnd reason) (s.modPeer peer (tell 9 (le 1 seq)))
      if p.state ≠ .contract ∧ p.state ≠ .swap then s
      else if reason = 5 then s.modPeer peer (pptFlt 1)
      else if reason = 8 then enterNegotiate peer s
      else s)
/-- PEER_ACK: of an END, the supplier's cells turn off; of a TEST, the test runs. -/
def execPeerAck (peer seq : Nat) (s : State) : Host.Outcome State Fault Refusal :=
  act s (fun s =>
    match (s.peerI peer).waits with
    | none => s
    | some w =>
      if w.seq ≠ seq then s
      else
        let s := s.modPeer peer (fun p => { p with waits := none })
        if w.typ = 6 then peerOff peer s
        else if w.typ = 8 then
          { s.modPeer peer (fun p => { p with test := true }) with
            ppt := { (s.modPeer peer (fun p => { p with test := true })).ppt with cmd := cmdRes 1 0 } }
        else s)

/-! ### Fast swap (R227) -/

/-- SWAP_PULSE at the consumer: with own feed it takes over the cable in PORT_V at V_C within P_S and sends OFFER. -/
def execSwapPulse (peer : Nat) (s : State) : Host.Outcome State Fault Refusal :=
  act s (fun s =>
    let p := s.peerI peer
    if p.state ≠ .contract ∨ p.role ≠ .consumer ∨ ownFeed s = false then s
    else
      let pS := p.pS
      let s := dropPeerPath peer s
      let t : Terms := match p.caps with | none => { vC := p.vC, pC := p.pC, pS := p.pS, rC := p.rC } | some c => termsOf s peer c true
      let s := s.modPeer peer (fun p =>
        { say 2 (offerPayload t) p with
          state := .swap, role := .supplier, swapTerms := true, swaps := satInc 255 p.swaps, swapAt := s.now, test := false, testImport := false })
      supply peer pS s)
/-- SWAP_PULSE_END at the former supplier: it consumes under the swap terms. -/
def execSwapPulseEnd (peer : Nat) (s : State) : Host.Outcome State Fault Refusal :=
  act s (fun s => s.modPeer peer (fun p =>
    if p.state = .swap ∧ p.pulse then { p with pulse := false, role := .consumer, swapTerms := true } else p))
/-- SWAP_FAIL: END with reason SWAP_FAIL and PEER_SWAP_FAIL. -/
def execSwapFail (peer : Nat) (s : State) : Host.Outcome State Fault Refusal :=
  act s (fun s =>
    let p := s.peerI peer
    if p.state = .swap ∧ (p.pulse ∨ p.role = .consumer) then raise 213 peer ((endSent peer 10 s).modPeer peer (pptFlt 5)) else s)
/-- SWAP_OFFER_TIMEOUT: no OFFER within 1 s. -/
def execSwapOfferTimeout (peer : Nat) (s : State) : Host.Outcome State Fault Refusal :=
  act s (fun s => if (s.peerI peer).state = .swap then endSent peer 10 s else s)
/-- PARTNER_LOST (R229): no message; the path is invalid and the supplier's cells turn off. -/
def execPartnerLost (peer : Nat) (s : State) : Host.Outcome State Fault Refusal :=
  act s (fun s =>
    let p := s.peerI peer
    if !attached p ∨ p.quiet then s
    else
      let s := endHeard peer p.lastEnd .backoff s
      raise 214 peer (s.modPeer peer (fun p => pptFlt 3
        { p with state := .backoff, fromBalance := false, losses := satInc 255 p.losses, waits := none, caps := none, quiet := false })))
/-- BACKOFF_END: SEEK, the presentation resumed. -/
def execBackoffEnd (peer : Nat) (s : State) : Host.Outcome State Fault Refusal :=
  act s (fun s =>
    let b := bounds s peer
    s.modPeer peer (fun p => if p.state = .backoff then
      { p with state := .seek, frozen := false, present := seekPresent b, fromBalance := false, upper := false } else p))

/-! ### TEST and PPT_CMD (R233, R234) -/

/-- TEST at the consumer: it imports in PORT_I at the stated power, or rejects with reason 7. -/
def execPeerTest (peer seq power _duration : Nat) (s : State) : Host.Outcome State Fault Refusal :=
  act s (fun s =>
    let p := s.peerI peer
    if p.state ≠ .contract ∨ p.role ≠ .consumer then s
    else if (bounds s peer).mayImport && ownFeed s then
      let s := s.modPeer peer (fun p => { tell 9 (le 1 seq) p with test := true, testImport := true, testPower := power })
      let c := peerCordon s peer
      driveCordon c .portI (-(fromCredits power (p.vC * 10) : Int)) 0 ((s.cordon c).e.vMax * 10) s
    else s.modPeer peer (fun p => { tell 4 (le 1 7) p with lastReject := 7 }))
/-- EXPORT_TEST_END: the importing side returns to its ranks. -/
def execExportTestEnd (peer : Nat) (s : State) : Host.Outcome State Fault Refusal :=
  act s (fun s =>
    let p := s.peerI peer
    if !p.test then s
    else
      let s := s.modPeer peer (fun p => { p with test := false, testImport := false, testPower := 0 })
      if !p.testImport then s
      else if s.pwr.path = .fed then applyPriority s
      else driveCordon (peerCordon s peer) .off 0 0 0 s)
/-- Run a PPT_CMD command (Table 8-9): 2 mode, 6 index. -/
def pptCmd (code i : Nat) (f : State → State × Nat) (s : State) : State :=
  let r := if !working s.sys.mode then 2 else if !peerUsed s i then 6 else 0
  if r ≠ 0 then { s with ppt := { s.ppt with cmd := cmdRes code r } }
  else
    let p := f s
    { p.1 with ppt := { p.1.ppt with cmd := cmdRes code p.2 } }
/-- PPT_CMD EXPORT_TEST. -/
def pptExportTest (i power duration : Nat) (s : State) : State :=
  pptCmd 1 i (fun s =>
    let p := s.peerI i
    if s.sys.mode ≠ .service then (s, 2)
    else if power = 0 ∨ 960 < power ∨ duration = 0 ∨ 60 < duration then (s, 4)
    else if p.state ≠ .contract ∨ p.role ≠ .supplier then (s, 3)
    else if p.test ∨ p.waits.isSome then (s, 1)
    else (s.modPeer i (fun p => say 8 (le 2 power ++ le 2 duration) { p with testPower := power }), 1)) s
/-- EXPORT_TEST. -/
def execExportTest (peer power duration : Nat) (s : State) : Host.Outcome State Fault Refusal := act s (pptExportTest peer power duration)
/-- PPT_CMD END_CONTRACT. -/
def pptEndContract (i : Nat) (s : State) : State :=
  pptCmd 2 i (fun s => if (s.peerI i).state = .contract then (endSent i 1 s, 0) else (s, 3)) s
/-- END_CONTRACT. -/
def execEndContract (peer : Nat) (s : State) : Host.Outcome State Fault Refusal := act s (pptEndContract peer)
/-- PPT_CMD RECHECK_MOISTURE. -/
def pptRecheck (i : Nat) (s : State) : State :=
  pptCmd 3 i (fun s => if attached (s.peerI i) then (s.modPeer i (fun p => { p with recheck := true }), 0) else (s, 3)) s
/-- RECHECK_MOISTURE. -/
def execRecheckMoisture (peer : Nat) (s : State) : Host.Outcome State Fault Refusal := act s (pptRecheck peer)
/-- PPT_CMD with a code that Table 8-9 does not list. -/
def pptUnknown (code : Nat) (s : State) : State := { s with ppt := { s.ppt with cmd := cmdRes code 7 } }
/-- PEER_MESSAGE_CRC_FAIL (R222). -/
def execPeerMessageCrcFail (peer : Nat) (s : State) : Host.Outcome State Fault Refusal :=
  act s (fun s => s.modPeer peer (fun p => { p with crcErr := satInc 255 p.crcErr }))
/-- PEER_TRANSMIT_COLLISION (R220): the frame is aborted; the upper side tries again after 100 µs, the lower after 300 µs. -/
def execPeerTransmitCollision (peer : Nat) (s : State) : Host.Outcome State Fault Refusal :=
  act s (fun s => s.modPeer peer (fun p =>
    if p.sent = [] then p
    else { p with aborted := p.sent, sent := [], resendAt := some (s.now + (if p.upper then 100 else 300)) }))
/-- At a tick the aborted frames that are due go out again. -/
def peerResend (s : State) : State :=
  { s with ppt := { s.ppt with peer := s.ppt.peer.map (fun p =>
    if p.resendAt.any (fun t => decide (t ≤ s.now)) then { p with sent := p.aborted, aborted := [], resendAt := none } else p) } }

/-! ### Images (R230, R231) -/

/-- The bytes of an image that bind peer index i: its PEER_BOUNDS section and its cordon entry. -/
def peerBytes (im : Image) (i : Nat) : List Byte :=
  let k := peerEntry im i
  (match findSec im 5 i with | none => [] | some x => bytesAt im (x.off + 4) x.len) ++ (if k = 0 then [] else bytesAt im (entryOff k) 64)
/-- An image has taken effect in place of `old`: ports appear, disappear, or renegotiate. -/
def peersApply (old : Image) (s : State) : State :=
  four.foldl (fun t i =>
    let p := t.peerI i
    let b := bounds t i
    if !peerUsed t i then
      (if p.state = .disabled then t else (endSent i 8 t).modPeer i (fun p =>
        { p with state := .disabled, present := .released, frozen := false, waits := none, caps := none }))
    else if p.state = .disabled then
      (if b.mayExport || b.mayImport then t.modPeer i (fun p => { p with state := .seek, present := seekPresent b, frozen := false }) else t)
    else if p.state = .seek then
      t.modPeer i (fun p => { p with present := if b.mayExport && b.mayImport && decide (p.present ≠ .released) then p.present else seekPresent b })
    else if p.state = .contract ∧ peerBytes old i ≠ peerBytes t.str.image i then
      (let u := enterNegotiate i (endSent i 8 t)
       if p.role = .supplier then peerOff i u else u)
    else t) s

/-! ### Register views (R234) -/

/-- A swap is armed (R227). -/
def swapArmed (s : State) (p : Peer) : Bool :=
  decide (p.state = .contract ∧ p.role = .supplier) && p.partnerFeed && p.partnerExport && decide (0 < p.pS) &&
    decide (s.now ≤ p.statusAt + 350000)
/-- PPT common registers at offset o from 0x1C00. -/
def pptCommon (s : State) (o : Nat) : Word :=
  let r := s.ppt.regen
  match o with
  | 0 => pack [(16, 16, r.episodes), (10, 2, r.state.code), (9, 1, r.brk.toNat), (8, 1, s.pwr.gate.surge.toNat),
               (4, 4, (maskOf 4 (fun i => batUsed s i && absorbReady s (batCordon s i))).toNat),
               (0, 4, (maskOf 4 (fun i => batUsed s i && seven.any (fun n => (s.cell n).absorbing && decide (servedCordon s n = batCordon s i)))).toNat)]
  | 1 => pack [(16, 16, sat 16 r.vPeak), (0, 16, r.absPeak)]
  | 2 => pack [(16, 16, sat 16 r.pAbs), (0, 16, sat 16 r.dvSurge)]
  | 3 => pack [(16, 16, r.brkCount), (0, 16, sat 16 ((r.brkTime + (if r.brk then s.now - r.brkAt else 0)) / 1000))]
  | 5 => pack [(8, 8, s.ppt.cmd.code), (0, 8, s.ppt.cmd.result)]
  | _ => 0
/-- Register at offset o of the PPT window of port i. -/
def pptWindow (s : State) (i o : Nat) : Word :=
  let p := s.peerI i
  if !peerUsed s i then 0
  else match o with
    | 0 => pack [(28, 4, p.state.code), (26, 2, p.role.code), (25, 1, p.upper.toNat), (24, 1, (swapArmed s p).toNat),
                 (23, 1, p.swapTerms.toNat), (22, 1, p.test.toNat), (21, 1, p.partnerFeed.toNat), (20, 1, p.partnerLimp.toNat),
                 (8, 8, p.lastEnd), (0, 8, p.lastReject)]
    | 1 => pack [(16, 16, p.vC), (0, 16, p.rC)]
    | 2 => pack [(16, 16, p.pS), (0, 16, p.pC)]
    | 3 => BitVec.ofInt 32 p.pOwn
    | 4 => BitVec.ofInt 32 p.pPartner
    | 5 => pack [(16, 16, p.balM), (8, 8, sat 8 p.balFails)]
    | 6 => pack [(16, 16, p.ownK), (0, 16, p.partnerK)]
    | 7 => p.unitId.setWidth 32
    | 8 => (p.unitId >>> 32).setWidth 32
    | 9 => BitVec.ofNat 32 p.addr
    | 10 => pack [(24, 8, p.swaps), (16, 8, p.contracts), (8, 8, p.losses), (0, 8, p.crcErr)]
    | 11 => p.flt.setWidth 32
    | 12 => p.fltLast
    | _ => 0

end Sys2Proof.Machine
end

