-- ==== Sys2Proof/Machine/Staging.lean ====
section
/-! DEFINITION. The effect of an image on the machine, and the staged bank: writes, CHECK, COMMIT, COMMIT_AT, ARM and
application (chapter 10, R259–R272, R279). -/

namespace Sys2Proof.Machine

/-! ### An image takes effect (R91, R92, R266) -/

/-! ### The set as checked (R264) -/

/-- Image of a selection, with the length that holds it: 0 running, 1 staging buffer, 2 structure store, 3 last good copy. -/
def selected (s : State) : Image × Nat :=
  match s.stg.imgSrc with
  | 0 => (s.str.image, s.str.image.length)
  | 1 => let im := memReadList 0 s.stg.buf 0 8192; (im.take (max 64 (imLength im)), 8192)
  | 2 => (match currentStore s with
    | none => ([], 0)
    | some x => (storeImage s x.1 x.2, (storeImage s x.1 x.2).length))
  | _ => (match lastGood s with | none => ([], 0) | some im => (im, im.length))
/-- The first trim of cordon n that an image does not admit: offset of the overridden field. -/
def trimBad (im : Image) (n : Nat) (t : Trim) : Option Nat :=
  let fs := (trimFields t).filter (fun f => t.en.getLsbD f.1)
  let bad (f : Nat × Nat × Nat) : Bool :=
    let v := eAt im n f.2.1 2
    if !eUsed im n || decide (eRole im n = .spare) then true
    else if f.1 = 4 then decide (eRole im n ≠ .system) || decide (f.2.2 < eMin im n) || decide (eMax im n < f.2.2)
    else decide (v < f.2.2) || decide (f.1 = 3 ∧ f.2.2 = 0)
  (fs.find? bad).map (fun f => entryOff n + f.2.1)
/-- STR_RANGE for a trim: cordon and offset. -/
def trimsBad (im : Image) (ts : Vector Trim 7) : Option (Nat × Nat) :=
  (seven.filterMap (fun n => (trimBad im n (bankGet {} ts n)).map (fun o => (n, o)))).head?
/-- The checks of a staged set in the order of R85; the second component is TRIM. -/
def checkSet (s : State) : Verdict × Bool :=
  let (im, held) := selected s
  let whole := decide (s.stg.imgSrc ≠ 0)
  let v := if whole then thenCheck (readChecks s im held) (fun _ => consistencyChecks s im) else passed
  if v.reason ≠ 0 then (v, false)
  else match trimsBad im s.stg.trims with
    | some (n, o) => ({ reason := 7, cordon := n, offset := o }, true)
    | none =>
      match (if whole ∧ s.str.image ≠ [] then frameChange s.str.image im else none) with
      | some f => ({ reason := 0x30, cordon := f.2.2, offset := f.1 }, false)
      | none => (deadlineChecks (trimImage s.stg.trims im), false)
/-- One trim window as its four registers show it. -/
def trimWords (t : Trim) : List Word :=
  [pack [(16, 16, t.iNeg), (0, 16, t.iPos)], pack [(16, 16, t.slew), (0, 16, t.pLim)], pack [(0, 16, t.vSet)], t.en.setWidth 32]
/-- STG_DIGEST: selection, image bytes, trim windows in address order. -/
def setDigest (s : State) : Word :=
  let im := (selected s).1
  crc32 (wordBytes (BitVec.ofNat 32 s.stg.imgSrc) ++ im.take (imLength im) ++ s.stg.trims.toList.flatMap (fun t => (trimWords t).flatMap wordBytes))

/-! ### Writes (R260–R262, R271) -/

/-- The bank accepts writes and commands of an agent in this mode (R271). -/
def stgMode (s : State) (a : Agent) : Bool :=
  working s.sys.mode || (decide (s.sys.mode = .limp ∧ a = .mainImage ∧ s.limp.warm = 7) && !s.sys.awaitReady)
/-- RESULT a write meets: 3 mode, 1 busy, 4 not the owner, 0 accepted. -/
def stgRefusal (s : State) (a : Agent) : Nat :=
  let x := s.stg
  if !stgMode s a then 3
  else if x.state = .checking ∨ x.state = .armed ∨ x.state = .scheduled then 1
  else if x.state ≠ .empty ∧ x.owner ≠ some a then 4 else 0
/-- A refused write: the result, and FOREIGN for a write of another owner. -/
def stgRefuse (r : Nat) (s : State) : State :=
  { s with stg := { s.stg with cmd := cmdAnswer s.stg.cmd r, foreign := if r = 4 then satInc 255 s.stg.foreign else s.stg.foreign } }
/-- The bank open for a write of an agent: a new set is preloaded with the running image and the trims in effect. -/
def stgOpen (a : Agent) (s : State) : State :=
  let x := s.stg
  if x.state = .empty then
    { s with stg := { x with state := .open_, owner := some a, imgSrc := 0, takeover := false, trims := x.trimsIn, foreign := 0, overrun := false,
                             at_ := false, actAt := s.now, bySeq := false } }
  else { s with stg := { x with state := .open_, actAt := s.now } }
/-- Change a field of a trim window by its register. -/
def trimWrite (o : Nat) (d : Word) (t : Trim) : Trim :=
  match o with
  | 0 => { t with iNeg := field d 16 16, iPos := field d 0 16 }
  | 1 => { t with slew := field d 16 16, pLim := field d 0 16 }
  | 2 => { t with vSet := field d 0 16 }
  | _ => { t with en := d.setWidth 5 }
/-- The registers of the STG block a write may reach, at offset o from 0x0400; `imgData` is STG_IMG_DATA (R260). -/
def stgRegs (o : Nat) (d : Word) (x : Stg) : Stg :=
  if 0x10 ≤ o ∧ o < 0x2C then { x with trims := bankMod x.trims ((o - 0x10) / 4 + 1) (trimWrite ((o - 0x10) % 4) d) }
  else match o with
    | 3 => { x with takeover := bit d 7, imgSrc := field d 0 2 }
    | 5 => { x with imgPtr := field d 0 11 }
    | 6 => if x.imgPtr < 2048 then { x with buf := memPutWord 0 x.buf (4 * x.imgPtr) d, imgPtr := x.imgPtr + 1 } else { x with overrun := true }
    | 7 => { x with tLo := d }
    | 8 => { x with tHi := d.setWidth 16 }
    | _ => x
/-- A write to a register of the staged set. -/
def stgWrite (a : Agent) (o : Nat) (d : Word) (s : State) : State :=
  let r := stgRefusal s a
  if r ≠ 0 then stgRefuse r s
  else
    let s := stgOpen a s
    { s with stg := stgRegs o d s.stg }
/-- Offsets of the STG registers that are written as part of the staged set (Tables 10-5 to 10-7); a write to any other address of
the block, read-only or reserved, is ignored (R13). -/
def stgWritable (o : Nat) : Bool := decide (o = 3 ∨ (5 ≤ o ∧ o ≤ 8) ∨ (0x10 ≤ o ∧ o < 0x2C))
/-- STG_WRITE. -/
def execStgWrite (by_ : Agent) (addr : Nat) (data : Word) (s : State) : Host.Outcome State Fault Refusal :=
  act s (fun s => if 0x400 ≤ addr ∧ stgWritable (addr - 0x400) = true then stgWrite by_ (addr - 0x400) data s else s)
/-- STG_IMG_DATA_WRITE. -/
def execStgImgDataWrite (by_ : Agent) (data : Word) (s : State) : Host.Outcome State Fault Refusal := act s (stgWrite by_ 6 data)

/-! ### Commands (Table 10-1) -/

/-- Write STG_CMDSTAT. -/
def stgRes (code r : Nat) (s : State) : State := { s with stg := { s.stg with cmd := cmdRes code r } }
/-- The set returns to EMPTY. -/
def stgEmpty (x : Stg) : Stg :=
  { x with state := .empty, owner := none, overrun := false, at_ := false, after := .stay, goSent := false, bySeq := false, takeover := false,
           imgSrc := 0, tries := 0, cells := 0, acked := 0 }
/-- RESULT that stops a command before its own rule: mode, bank empty, busy, owner. -/
def stgCmdRefusal (s : State) (a : Agent) : Nat :=
  let x := s.stg
  if !stgMode s a then 3 else if x.state = .empty then 5
  else if x.owner ≠ some a then 4
  else if x.state = .checking ∨ x.state = .armed then 1 else 0
/-- The check begins. -/
def startCheck (code : Nat) (after : AfterCheck) (s : State) : State :=
  stgRes code 1 { s with stg := { s.stg with state := .checking, after := after, actAt := s.now } }
/-- STG_CMD CHECK. -/
def stgCheck (a : Agent) (s : State) : State :=
  let r := stgCmdRefusal s a
  if r ≠ 0 then stgRes 1 r s else if s.stg.state = .scheduled then stgRes 1 1 s else startCheck 1 .stay s
/-- CHECK. -/
def execCheck (by_ : Agent) (s : State) : Host.Outcome State Fault Refusal := act s (stgCheck by_)
/-- Cordons whose limits the set changes, or every cordon in use when it brings another image. -/
def setCordons (s : State) : List Nat :=
  let im := trimImage s.stg.trims (selected s).1
  seven.filter (fun n => decide ((s.cordon n).state ≠ .absent) &&
    (decide (s.stg.imgSrc ≠ 0) || decide (entryOf im n ≠ (s.cordon n).e)))
/-- Cells of those cordons that can take an ARM, spares of the cordons included. -/
def setCells (s : State) : BitVec 7 :=
  let cs := setCordons s
  maskOf 7 (fun n => (decide (servedCordon s n ∈ cs) || decide ((s.cell n).cordon ∈ cs)) && (s.cell n).link.trained && !(s.cell n).removed)
/-- ARM frames go to the cells of a mask (R29): each waits for its ACK. -/
def sendArms (m : BitVec 7) (s : State) : State := s.modCells (maskList m) (fun _ c => merjaSends typArm c)
/-- Arm the set for tick k. -/
def armFor (k : Nat) (s : State) : State :=
  let m := setCells s
  sendArms m { s with stg := { s.stg with state := .armed, k := k, tick := BitVec.ofNat 32 k, cells := m, acked := 0, goSent := false } }
/-- The tick of R265: three after the first tick after now. -/
def commitTickOf (s : State) : Nat := tickNow s + 1 + 3
/-- COMMIT of a CHECKED set. -/
def armCommit (s : State) : State :=
  stgRes 2 1 (armFor (commitTickOf s) { s with stg := { s.stg with at_ := false, tries := 0 } })
/-- STG_CMD COMMIT. -/
def stgCommit (a : Agent) (s : State) : State :=
  let r := stgCmdRefusal s a
  if r ≠ 0 then stgRes 2 r s
  else match s.stg.state with
    | .checked => armCommit { s with stg := { s.stg with actAt := s.now } }
    | .open_ => startCheck 2 .commit s
    | _ => stgRes 2 1 s
/-- COMMIT. -/
def execCommit (by_ : Agent) (s : State) : Host.Outcome State Fault Refusal := act s (stgCommit by_)
/-- The Trellis time of COMMIT_AT. -/
def commitAtTime (s : State) : Nat := s.stg.tLo.toNat + s.stg.tHi.toNat * 2 ^ 32
/-- RESULT of R269 for a COMMIT_AT: 6 time base, 7 distance. -/
def atRefusal (s : State) : Nat :=
  if !s.trl.locked then 6
  else if trlUntil s (commitAtTime s) < 6000 ∨ 600000000 < trlUntil s (commitAtTime s) then 7 else 0
/-- The first commit tick whose local Trellis time is at or after T (R269). -/
def tickAt (s : State) : Nat :=
  ceilDiv (s.trl.timeAt + ceilDiv ((commitAtTime s + 2 ^ 48 - s.trl.timeBase) % 2 ^ 48 * s.trl.rateL) s.trl.rateT) 10
/-- COMMIT_AT of a CHECKED set. -/
def schedule (s : State) : State :=
  let r := atRefusal s
  if r ≠ 0 then stgRes 3 r { s with stg := { s.stg with state := .checked } }
  else
    let k := tickAt s
    stgRes 3 0 { s with stg := { s.stg with state := .scheduled, at_ := true, k := k, tick := BitVec.ofNat 32 k, tries := 0 } }
/-- STG_CMD COMMIT_AT. -/
def stgCommitAt (a : Agent) (s : State) : State :=
  let r := stgCmdRefusal s a
  if r ≠ 0 then stgRes 3 r s
  else match s.stg.state with
    | .checked => schedule { s with stg := { s.stg with actAt := s.now } }
    | .open_ => startCheck 3 .commitAt s
    | _ => stgRes 3 1 s
/-- COMMIT_AT. -/
def execCommitAt (by_ : Agent) (s : State) : Host.Outcome State Fault Refusal := act s (stgCommitAt by_)
/-- STG_CMD CANCEL. -/
def stgCancel (a : Agent) (s : State) : State :=
  let r := stgCmdRefusal s a
  if s.stg.state = .armed ∧ r = 1 then stgRes 4 11 s
  else if r ≠ 0 then stgRes 4 r s
  else if s.stg.state ≠ .scheduled then stgRes 4 11 s
  else stgRes 4 0 { s with stg := { s.stg with state := .checked, at_ := false, actAt := s.now } }
/-- CANCEL. -/
def execCancel (by_ : Agent) (s : State) : Host.Outcome State Fault Refusal := act s (stgCancel by_)
/-- STG_CMD CLEAR: any interface. -/
def stgClear (a : Agent) (s : State) : State :=
  let x := s.stg
  if !stgMode s a then stgRes 5 3 s
  else if x.state = .empty then stgRes 5 5 s
  else if x.state = .checking ∨ x.state = .armed then stgRes 5 1 s
  else stgRes 5 0 { s with stg := stgEmpty x }
/-- CLEAR. -/
def execClear (by_ : Agent) (s : State) : Host.Outcome State Fault Refusal := act s (stgClear by_)
/-- STG_CMD with a code that Table 10-5 does not list. -/
def stgUnknown (code : Nat) (s : State) : State := stgRes code 12 s
/-- The outcome of a check is written to STG_RESULT and CRD_LOADSTAT. -/
def putVerdict (v : Verdict) (trim : Bool) (s : State) : State :=
  { s with stg := { s.stg with reason := v.reason, rCordon := v.cordon, rTrim := trim, rOffset := v.offset },
           str := { s.str with reason := v.reason, cordon := v.cordon, origin := if s.stg.after = .stay then 2 else 3, offset := v.offset } }
/-- A Graft activation ends (Table 13-5). -/
def endActivation (st : GraftState) (ph : ActPhase) (reason : Nat) (s : State) : State :=
  saveState (saveActivation { s with upd := { s.upd with state := st, phase := ph, reason := reason, kind := 0, cell := 0 } })
/-- The update sequencer's set was refused (R363): a frame change stays in the store for a cold start, any other refusal
voids the new slot. The bank is free again. -/
def structureRefused (reason : Nat) (s : State) : State :=
  let s : State := { s with stg := { stgEmpty s.stg with trims := s.stg.trimsIn } }
  if reason = 0x30 then endActivation .active .done 0 { s with upd := { s.upd with pendingFrame := true } }
  else
    let s := match s.upd.newSlot with | none => s | some x => storeVoid x s
    endActivation .active .ended 0x24 { s with upd := { s.upd with newSlot := none } }
/-- A failed check: OPEN, RESULT 2; a frame change of the store is kept for a cold start, one in the buffer discarded. -/
def checkFails (v : Verdict) (s : State) : State :=
  let x := s.stg
  let s := { s with stg := { x with state := .open_, after := .stay, cmd := cmdAnswer x.cmd 2,
                                    buf := if v.reason = 0x30 ∧ x.imgSrc = 1 then [] else x.buf } }
  let s := if v.reason = 0x30 ∧ x.imgSrc = 2 then { s with str := { s.str with state := 3 } } else s
  if x.bySeq then structureRefused v.reason s else s
/-- CHECK_COMPLETE (R264). In LIMP only the takeover set passes (R271). -/
def execCheckComplete (s : State) : Host.Outcome State Fault Refusal :=
  act s (fun s =>
    if s.stg.state ≠ .checking then s
    else
      let limpBad := decide (s.sys.mode = .limp) &&
        !(s.stg.takeover && decide (s.stg.imgSrc = 3) && s.stg.trims.toList.all (fun t => decide (t.en = 0)))
      let c := checkSet s
      let s := if limpBad then s else putVerdict c.1 c.2 s
      if limpBad then { s with stg := { s.stg with state := .open_, after := .stay, cmd := cmdAnswer s.stg.cmd 3 } }
      else if c.1.reason ≠ 0 then
        if s.sys.mode = .limp then limpEntry 3 5 0 (checkFails c.1 s) else checkFails c.1 s
      else
        let a := s.stg.after
        let s := { s with stg := { s.stg with state := .checked, after := .stay, digest := setDigest s, cmd := cmdAnswer s.stg.cmd 0 } }
        match a with
        | .stay => s
        | .commit => armCommit s
        | .commitAt => schedule s)
/-- COMMIT_AT_ARM: four commit ticks before the chosen tick (R269). -/
def execCommitAtArm (s : State) : Host.Outcome State Fault Refusal :=
  act s (fun s => if s.stg.state = .scheduled then armFor s.stg.k s else s)
/-- SCHEDULED_TIME_LOST (R269). -/
def execScheduledTimeLost (s : State) : Host.Outcome State Fault Refusal :=
  act s (fun s => if s.stg.state = .scheduled then
    { s with stg := { s.stg with state := .checked, at_ := false, cmd := cmdAnswer s.stg.cmd 8, cancels := satInc 255 s.stg.cancels } }
    else s)
/-- BANK_OWNER_IDLE (R261): 60 s without the owner. -/
def execBankOwnerIdle (s : State) : Host.Outcome State Fault Refusal :=
  act s (fun s => if s.stg.state = .open_ ∨ s.stg.state = .checked then { s with stg := stgEmpty s.stg } else s)
/-- Every cell concerned has acknowledged. -/
def allAcked (x : Stg) : Bool := decide (x.cells &&& ~~~x.acked = 0)
/-- Cells that hold the arm discard it. -/
def dropArms (s : State) : State := s.modCells seven (fun _ c =>
  { c with armed := none, link := { c.link with waits := c.link.waits.filter (fun w => decide (w.typ ≠ typArm)) } })
/-- A cell that did not acknowledge twice leaves its cordon as for a link fault (R267). -/
def removeSilent (n : Nat) (s : State) : State := loseCell n (s.modCell n (fun c => { c with removed := true }))
/-- ARM_ACK_MISSING (R267, Table 10-1). -/
def execArmAckMissing (s : State) : Host.Outcome State Fault Refusal :=
  act s (fun s =>
    let x := s.stg
    if x.state ≠ .armed ∨ x.goSent ∨ allAcked x then s
    else if x.at_ then
      raise 135 0 (dropArms { s with stg := { x with state := .checked, at_ := false, cmd := cmdAnswer x.cmd 9, cancels := satInc 255 x.cancels } })
    else
      let s := dropArms s
      let s := if 1 ≤ x.tries then (maskList (x.cells &&& ~~~x.acked)).foldl (fun t n => removeSilent n t) s else s
      armFor (commitTickOf s) { s with stg := { s.stg with tries := x.tries + 1, defers := satInc 255 x.defers } })

/-! ### Application (R266) -/

/-- Feeding or usable paths that the new image no longer names are dropped with cause 4. -/
def dropVanished (im : Image) (s : State) : State :=
  eight.foldl (fun t i =>
    let x := t.src i
    if usableState x.state ∧ (srcEntries im).all (fun e => decide (e.ref ≠ x.ref)) then pathGone i 4 x (t.modSrc i (fun _ => {})) else t) s
/-- Drive a cordon again with its present command and the new limits; a SYSTEM cordon with its new set point. -/
def redrive (c : Nat) (s : State) : State :=
  let k := s.cordon c
  if k.state = .idle ∨ k.mode = .off then s
  else if k.e.role = .system then driveCordon c .portV 0 (k.e.vSet * 10) (k.e.vMax * 10) s
  else driveCordon c k.mode k.iSet k.vCmd (min k.vMaxCmd (k.e.vMax * 10)) s
/-- A cell that applies the set of tick k: it holds the ARM and received commit-go for it, or has applied it already (R34). -/
def takesSet (c : Cell) (k : Nat) : Bool :=
  decide (c.appliedAt = some k) || (match c.armed with | some (j, _) => decide (j = k) && goFor c k | none => false)
/-- The set drives its cordons again; a cell concerned that does not hold the ARM with commit-go stays as it was (R34, R35). -/
def applyCells (cs : List Nat) (m : BitVec 7) (k : Nat) (s : State) : State :=
  let late := (maskList m).filter (fun n => !takesSet (s.cell n) k)
  let t := cs.foldl (fun t c => redrive c t) s
  let t := late.foldl (fun t n => t.modCell n (fun _ => s.cell n)) t
  (t.modCells ((maskList m).filter (fun n => takesSet (s.cell n) k)) (fun _ c =>
    { c with appliedAt := some k, armed := if c.armed.any (fun a => decide (a.1 = k)) then none else c.armed }))
/-- The staged set takes effect. CRD_STRUCT.STATE has no code for an image from the staging buffer and keeps the code before it
(log entry 64). -/
def applySet (s : State) : State :=
  let x := s.stg
  let im := (selected s).1
  let cs := setCordons s
  let old := s.str.image
  let same := decide (im = old)
  let trimmed := trimImage x.trims im
  let s := if same then s else dropVanished im s
  let s := { s with str := { s.str with image := im, copyDue := s.str.copyDue || !same,
                                        state := if x.imgSrc = 2 then 1 else if x.imgSrc = 3 then 2 else s.str.state },
                    stg := { stgEmpty x with trimsIn := x.trims, applied := satInc 65535 x.applied, cmd := cmdAnswer x.cmd 0 } }
  let s := applyChecks trimmed (applyEntries trimmed s)
  let s := if same then s else peersApply old (adcApply (applyClasses (applySources false s)))
  let s := applyCells cs x.cells x.k s
  let s := if s.pwr.path = .fed then applyPriority s else s
  let s := cs.foldl (fun t c => fireSource (0x50 + c) t) s
  if x.bySeq then endActivation .active .done 0 s else s

/-! ### Registers (R279) -/

/-- Registers of the STG block at offset o from 0x0400. -/
def stgView (s : State) (o : Nat) : Word :=
  let x := s.stg
  if 0x10 ≤ o ∧ o < 0x2C then
    ((trimWords (bankGet {} (if x.state = .empty then x.trimsIn else x.trims) ((o - 0x10) / 4 + 1))).getD ((o - 0x10) % 4) 0)
  else match o with
    | 0 => pack [(28, 4, x.state.code), (26, 2, match x.owner with | none => 0 | some a => agentIx a), (25, 1, x.overrun.toNat),
                 (24, 1, x.at_.toNat), (16, 8, x.foreign), (0, 16, if x.state = .empty then 0 else sat 16 ((s.now - x.actAt) / oneSec))]
    | 2 => pack [(8, 8, x.cmd.code), (0, 8, x.cmd.result)]
    | 3 => pack [(7, 1, x.takeover.toNat), (0, 2, x.imgSrc)]
    | 4 => pack [(24, 8, x.reason), (21, 3, x.rCordon), (20, 1, x.rTrim.toNat), (0, 13, x.rOffset)]
    | 5 => pack [(0, 11, x.imgPtr)]
    | 7 => x.tLo
    | 8 => x.tHi.setWidth 32
    | 9 => x.tick
    | 10 => x.digest
    | 11 => pack [(16, 16, x.applied), (8, 8, x.defers), (0, 8, x.cancels)]
    | _ => 0
/-- Registers of the CRD block at offset o from 0x0800; the window of cordon n begins at 0x80 × n. -/
def crdView (s : State) (o : Nat) : Word :=
  if 0x80 ≤ o then
    let n := o / 0x80
    let k := s.cordon n
    let e := k.e
    match o % 0x80 with
    | 0 => pack [(29, 3, e.role.code), (26, 3, e.index), (23, 3, e.host), (20, 3, e.freq), (8, 3, spareCell s n), (0, 7, e.cells.toNat)]
    | 1 => pack [(28, 4, k.state.code), (24, 4, (activeCells s n).length), (21, 3, k.replaced), (8, 8, k.stops), (0, 8, k.stopReason)]
    | 2 => pack [(16, 16, e.vOv), (0, 16, e.vMax)]
    | 3 => pack [(16, 16, e.vSet), (0, 16, e.vMin)]
    | 4 => pack [(16, 16, e.iNeg), (0, 16, e.iPos)]
    | 5 => pack [(16, 16, e.slew), (0, 16, e.pLim)]
    | 6 => pack [(16, 16, e.c), (0, 16, e.l)]
    | 7 => BitVec.ofInt 32 (cordonI s n)
    | 8 => BitVec.ofInt 32 (cordonP s n)
    | _ => 0
  else
    let t := s.str
    match o with
    | 0 => crdStructWord s
    | 1 => pack [(24, 8, t.reason), (21, 3, t.cordon), (19, 2, t.origin), (0, 13, t.offset)]
    | 2 => if t.image = [] then 0 else imCrc t.image
    | 3 => (match (if t.copyBad ∨ t.image = [] then none else lgcPick s) with
      | none => 0
      | some k => pack [(31, 1, 1), (16, 15, clrNum s (lgcTrailer k) 4), (0, 16, clrNum s (lgcTrailer k + 6) 2)])
    | 4 => pack [(16, 7, t.split.toNat), (8, 7, t.join.toNat), (0, 7, t.probed.toNat)]
    | 6 => if t.image = [] then 0 else pack [(8, 8, t.cmd.code), (0, 8, t.cmd.result)]
    | _ => 0

end Sys2Proof.Machine
end

