-- ==== Sys2Proof/Machine/Tick.lean ====
section
/-! DEFINITION. The commit tick: source limits, the input regulation of the gate, the credit books and the allocator,
the moments out of balance, absorb shares and the gate's reclosing (R128, R131–R133, R209, R211, R273–R278), and the
PWR registers. -/

namespace Sys2Proof.Machine

/-! ### Source limits (R128, R131) -/

/-- Measured power of the closed source gate, mW. -/
def gatePower (s : State) : Int := s.pwr.gate.ain7 * s.pwr.gate.ain8 / 100
/-- Whole credits in a power of mW, rounded up; 0 for a negative one. -/
def credCeil (mw : Int) : Nat := ceilDiv mw.toNat 25000
/-- The charge demand of string i in credits. -/
def wantOf (s : State) (i : Nat) : Nat :=
  let g := s.chgI i
  if batUsed s i ∧ chargingPhase g.phase ∧ g.susp = 0 then toCredits g.demand (g.vNow.getD (cordonV s (batCordon s i))) else 0
/-- The whole charge demand, credits. -/
def wholeDemand (s : State) : Nat := (four.map (wantOf s)).sum
/-- Credits the gate grants on Q2 and Q4: measured power plus the headroom of R128. -/
def gateRoom (s : State) : Nat := (gatePower s + ((25000 * wholeDemand s : Nat) : Int) - s.pwr.gate.cut).toNat / 25000
/-- Limits in effect of entry i: current 10 mA and power credits (PWR_SRC_LIM). -/
def srcLimits (s : State) (i : Nat) : Nat × Nat :=
  let x := s.src i
  if x.ref = 0 then (match typeLimits s x.type_ with | some l => l | none => (65535, if s.pwr.gate.closed then gateRoom s else 0))
  else
    let l := cordonINeg s x.ref
    let b := peerOf s x.ref
    if b = 0 then l else (l.1, min l.2 (importLimit (s.peerI b)))
/-- Entry i stands at its current or power limit. -/
def atLimit (s : State) (i : Nat) : Bool :=
  let x := s.src i
  let l := srcLimits s i
  if x.ref = 0 then
    decide (s.hw.variant = .q8) && s.pwr.gate.closed &&
      decide ((l.1 : Int) * 10 ≤ s.pwr.gate.ain7 ∨ ((25000 * l.2 : Nat) : Int) ≤ gatePower s)
  else decide ((l.1 : Int) * 10 ≤ -cordonI s x.ref ∨ (l.2 : Int) * 250 ≤ -cordonP s x.ref)
/-- Entry i is held at its V_INREG (Q2, Q4). -/
def atInreg (s : State) (i : Nat) : Bool :=
  let x := s.src i
  decide (s.hw.variant ≠ .q8 ∧ x.vInreg ≠ 0 ∧ x.state = .feeding) &&
    (if x.ref = 0 then decide (s.pwr.gate.cut ≠ 0) else decide (cordonV s x.ref ≤ x.vInreg * 10))
/-- The gate's input regulation on Q2 and Q4: one interval of the integral, in mW (R128). An open gate has no shortfall to integrate and
keeps the integral. -/
def inregLoop (s : State) : State :=
  let g := s.pwr.gate
  let vr := ((eight.find? (fun i => decide ((s.src i).state ≠ .absent ∧ (s.src i).ref = 0))).map (fun i => (s.src i).vInreg)).getD 0 * 10
  let step : Int := 1570796 * pLoadMax s.str.image * ((vr : Int) - g.ain8) / ((100 * max vr 1 : Nat) : Int)
  let cut := if s.hw.variant = .q8 ∨ vr = 0 then 0
    else if g.closed = false then g.cut
    else min ((g.cut : Int) + step).toNat (25000 * wholeDemand s)
  { s with pwr := { s.pwr with gate := { g with cut := cut } } }
/-- Voltage, limits and regulation of every source entry as its window shows them. -/
def refreshSources (s : State) : State :=
  { s with pwr := { s.pwr with src := bankMap s.pwr.src (fun i x =>
      if x.state = .absent then x
      else
        let l := srcLimits s i
        { x with v := if x.ref = 0 then s.pwr.gate.ain8 else cordonV s x.ref, iLim := l.1, pLim := l.2,
                 limited := decide (x.state = .feeding) && atLimit s i, inreg := atInreg s i }) } }

/-! ### The books (Table 10-3) -/

/-- A BATTERY cordon that gives power: engaged, or ordered to discharge. -/
def giving (s : State) (c : Nat) : Bool :=
  seven.any (fun n => (s.cell n).engaged && decide (servedCordon s n = c)) || decide ((s.cordon c).mode = .portI ∧ (s.cordon c).iSet < 0)
/-- Credits of a giving BATTERY cordon: min(P_LIM, I_NEG × port voltage). -/
def givingCredits (s : State) (c : Nat) : Nat := min (s.cordon c).e.pLim ((s.cordon c).e.iNeg * cordonV s c / 250000)
/-- The amount of cordon c that its own state gives; charge grants and exports are the allocator's. -/
def accountOf (s : State) (c : Nat) : Account :=
  let k := s.cordon c
  let used := credCeil (cordonP s c * 100)
  if k.state = .absent then {}
  else match k.e.role with
    | .source | .peer =>
      let i := srcOfCordon s c
      if i ≠ 0 ∧ (s.src i).state = .feeding then { kind := 1, credits := (srcLimits s i).2 } else {}
    | .system => { kind := 2, credits := used }
    | .battery =>
      if giving s c then { kind := 1, credits := givingCredits s c }
      else if seven.any (fun n => (s.cell n).absorbing && decide (servedCordon s n = c)) then { kind := 2, credits := used }
      else {}
    | _ => {}
/-- Account of the source gate. -/
def gateAccount (s : State) : Account :=
  match eight.find? (fun i => decide ((s.src i).ref = 0 ∧ (s.src i).state = .feeding)) with
  | some i => if s.pwr.gate.closed then { kind := 1, credits := (srcLimits s i).2 } else {}
  | none => {}
/-- Cask load on system port 0, 0.1 W: net power into the cask less the rise of its energy over the interval. -/
def caskLoad (s : State) : Int :=
  let p := -((seven.map (cordonP s)).sum) + (if s.pwr.gate.closed then gatePower s / 100 else 0)
  let v1 := s.bk.vCask
  let v2 := caskNow s
  let rise : Int := if v1 = 0 ∨ v2 = 0 then 0 else ((cCask s.str.image : Int) * (v2 * v2) - (cCask s.str.image : Int) * (v1 * v1)) / 2000
  p - rise
/-- The same in credits, away from zero for a use and toward it for a forced grant. -/
def loadCredits (p : Int) : Int := if 0 ≤ p then (ceilDiv p.toNat 250 : Nat) else -((p.natAbs / 250 : Nat) : Int)
/-- Sum of the accounts of one kind. -/
def sumKind (k : Nat) (b : Books) : Nat :=
  ((b.gate :: b.crd.toList).filter (fun a => decide (a.kind = k))).foldl (fun t a => t + a.credits) 0
/-- GRANT and USE from the accounts and the cask load. -/
def addUp (b : Books) : Books := { b with grant := sumKind 1 b + (-b.load).toNat, use := sumKind 2 b + b.load.toNat }
/-- Every account but charge grants and exports, from the latest telemetry. -/
def bookMeasured (s : State) : State :=
  { s with bk := addUp { s.bk with gate := gateAccount s, load := loadCredits (caskLoad s), crd := bankMap s.bk.crd (fun c _ => accountOf s c) } }
/-- Put the charge grants into the books. -/
def bookCharge (s : State) : State :=
  { s with bk := addUp { s.bk with crd := bankMap s.bk.crd (fun c a =>
      let e := (s.cordon c).e
      if e.role = .battery ∧ a.kind = 0 ∧ (s.cordon c).state ≠ .absent ∧ 0 < (s.chgI e.index).grant then
        { kind := 2, credits := (s.chgI e.index).grant } else a) } }

/-! ### The allocator (R132, R275, R278) -/

/-- What a budget gives the four strings, in index order, each up to its demand. -/
def sharesOf : (budget : Nat) → List Nat → List Nat
  | _, [] => []
  | b, w :: ws => min w b :: sharesOf (b - min w b) ws
/-- Write a grant and command the string to it. -/
def setGrant (i k : Nat) (s : State) : State :=
  if (s.chgI i).grant = k then s else commandString i (s.modChg i (fun g => { g with grant := k }))
/-- Some cordon waits for its GIVE. -/
def givePending (s : State) : Bool := seven.any (fun c => (s.cordon c).give)
/-- Credits of entry i's account that it cannot give: what a cordon path held at V_INREG does not draw (R128), and on Q8 what the
gate's current limit leaves of its power headroom (R131). -/
def unusable (s : State) (i : Nat) : Nat :=
  let x := s.src i
  let l := srcLimits s i
  if x.state ≠ .feeding then 0
  else if x.ref ≠ 0 then (if atInreg s i then l.2 - credCeil (-cordonP s x.ref * 100) else 0)
  else if s.hw.variant = .q8 ∧ s.pwr.gate.closed = true then
    let byPower : Int := 25000 * (l.2 : Int) - gatePower s
    let byCurrent : Int := ((l.1 : Int) * 10 - s.pwr.gate.ain7) * s.pwr.gate.ain8 / 100
    if byCurrent < byPower then credCeil (byPower - byCurrent) else 0
  else 0
/-- The charge budget: FREE with no charge grant booked; none while a BATTERY cordon gives. -/
def budgetOf (s : State) : Nat :=
  if seven.any (fun c => decide ((s.cordon c).e.role = .battery) && giving s c) then 0
  else s.bk.grant - s.bk.use - s.bk.transit - (eight.map (unusable s)).sum
/-- Divide the budget: takes at once; gives at once when nothing is taken or in transit, else armed with GIVE. -/
def allocate (s : State) : State :=
  let b := budgetOf s
  let want := sharesOf b (four.map (wantOf s))
  let pairs := four.zip want
  let held := givePending s
  let taken := (pairs.map (fun p => (s.chgI p.1).grant - p.2)).sum
  let wish := (pairs.map (fun p => p.2 - (s.chgI p.1).grant)).sum
  let wait := held || decide (0 < taken ∧ 0 < wish)
  let t := pairs.foldl (fun t p => if p.2 < (s.chgI p.1).grant ∨ wait = false then setGrant p.1 p.2 t else t) s
  let t := pairs.foldl (fun t p =>
    let short := wait && decide ((s.chgI p.1).grant < p.2)
    (t.modChg p.1 (fun g => { g with short := short })).modCordon (batCordon s p.1) (fun k => { k with give := k.give || short })) t
  let moved := if wait ∧ 0 < wish then min taken wish else 0
  let cut := pairs.any (fun p => decide ((t.chgI p.1).grant < wantOf s p.1))
  { t with pwr := { t.pwr with budget := b, cut := cut },
           bk := { t.bk with transit := t.bk.transit + moved, trnAt := if s.bk.transit = 0 then s.now else s.bk.trnAt,
                             trnCount := if s.bk.transit = 0 ∧ 0 < moved then satInc 65535 t.bk.trnCount else t.bk.trnCount,
                             short := if wait ∧ 0 < wish then satInc 65535 t.bk.short else t.bk.short } }
/-- Exports take what remains, in peer index order (R132); a supplier whose grant changes drives its cordon to it. -/
def allocExports (s : State) : State :=
  four.foldl (fun t i =>
    let p := t.peerI i
    let c := peerCordon t i
    if p.role = .supplier ∧ (p.state = .contract ∨ p.state = .swap) ∧ c ≠ 0 ∧ p.pulse = false then
      let limit := if p.test then min (importLimit p) p.testPower else importLimit p
      let k := min limit (t.bk.grant - t.bk.use - t.bk.transit)
      let was := bankGet {} s.bk.crd c
      let t : State := { t with bk := addUp { t.bk with crd := bankPut t.bk.crd c { kind := 2, credits := k } } }
      if was.kind = 2 ∧ was.credits = k then t else supply i k t
    else t) s
/-- Two switching periods of cordon c, in 0.1 µs (R275). -/
def twoPeriods (s : State) (c : Nat) : Nat := 20000 / max 1 (freqKHz (s.cordon c).e.freq)
/-- A reallocation ends: its length, and BOOK_BOUND when it passed two switching periods (R276, R277). -/
def transitEnds (c : Nat) (s : State) : State :=
  let d := (s.now - s.bk.trnAt) * 10
  let n := twoPeriods s c
  let late := decide (n < d)
  let s : State := { s with bk := { s.bk with transit := 0, trnLongest := max s.bk.trnLongest (sat 16 (max n d)),
                                              violT := if late then satInc 255 s.bk.violT else s.bk.violT } }
  if late then raise 134 1 s else s
/-- GIVE_APPLIED (R275): the cordon takes the credits given to it; with the last give TRANSIT returns to zero. -/
def execGiveApplied (cordon : Nat) (s : State) : Host.Outcome State Fault Refusal :=
  act s (fun s =>
    let k := s.cordon cordon
    if !working s.sys.mode ∨ k.give = false then s
    else
      let i := k.e.index
      let s := s.modCordon cordon (fun k => { k with give := false })
      let s := if givePending s then s else transitEnds cordon s
      if k.e.role ≠ .battery then s
      else
        let others := ((four.filter (fun j => decide (j ≠ i))).map (fun j => (s.chgI j).grant)).sum
        let room := s.pwr.budget - others
        let s := setGrant i (max (s.chgI i).grant (min (wantOf s i) room)) s
        bookCharge (s.modChg i (fun g => { g with short := false })))

/-! ### Supplement (R133) -/

/-- The gate is over a type limit. -/
def gateOver (s : State) : Bool :=
  match eight.find? (fun i => decide ((s.src i).ref = 0 ∧ (s.src i).state = .feeding)) with
  | none => false
  | some i => decide (s.hw.variant = .q8) && s.pwr.gate.closed &&
    decide (((s.src i).iLim : Int) * 10 < s.pwr.gate.ain7 ∨ ((25000 * (s.src i).pLim : Nat) : Int) < gatePower s)
/-- Every feeding path has 10 % headroom. -/
def headroom (s : State) : Bool :=
  eight.all (fun i =>
    let x := s.src i
    decide (x.state ≠ .feeding) ||
      (if x.ref = 0 then decide (s.hw.variant ≠ .q8) || decide (s.pwr.gate.ain7 ≤ (x.iLim : Int) * 9 ∧ 10 * gatePower s ≤ ((225000 * x.pLim : Nat) : Int))
       else decide (-cordonI s x.ref ≤ (x.iLim : Int) * 9 ∧ -cordonP s x.ref ≤ (x.pLim : Int) * 225)))
/-- Order `k` credits of discharge from the strings, in battery index order; an impedance run of theirs aborts (Table 7-4). -/
def orderDischarge (k : Nat) (s : State) : State :=
  ((four.filter (fun i => batUsed s i && (engageReady s (batCordon s i) || giving s (batCordon s i)))).foldl (fun (t : State × Nat) i =>
    let c := batCordon s i
    let d := min t.2 (givingCredits s c)
    if d = 0 then t
    else (driveCordon c .portI (-(fromCredits d (cordonV s c) : Int)) 0 ((s.cordon c).e.vMax * 10) (t.1.modRun i (runAbort s.now 3)), t.2 - d)) (s, k)).1
/-- The supplement at a tick: for the gate one credit more while it is over its limits with charge at zero; by the cask
crossing what the engaged strings carry; and the count of ticks with 10 % headroom. -/
def supplementTick (s : State) : State :=
  let zero := four.all (fun i => decide ((s.chgI i).grant = 0))
  let s :=
    if gateOver s && zero then
      let k := s.pwr.suppPower + 1
      orderDischarge k { s with pwr := { s.pwr with supplement := true, suppPower := k } }
    else if s.pwr.supplement && anyEngaged s then
      let p := ((seven.filter (fun c => decide ((s.cordon c).e.role = .battery))).map (fun c => -cordonP s c)).sum
      { s with pwr := { s.pwr with suppPower := credCeil (p * 100) } }
    else s
  { s with pwr := { s.pwr with suppOk := if s.pwr.supplement && headroom s then s.pwr.suppOk + 1 else 0 } }

/-! ### Moments out of balance (Table 10-4, R276, R277) -/

/-- Highest cask voltage that a valid telemetry frame shows, 10 mV. -/
def caskHigh (s : State) : Nat := ((seven.filter (fun n => (s.cell n).valid)).map (fun n => (s.cell n).vCask)).foldl max 0
/-- V_ENGAGE of the highest-set BATTERY cordon, 10 mV; 0 none. -/
def topEngage (s : State) : Nat :=
  ((seven.filter (fun c => decide ((s.cordon c).e.role = .battery ∧ (s.cordon c).state ≠ .absent))).map (fun c => vEngageOf s c)).foldl max 0
/-- FREE is negative, or the cask lies below V_ENGAGE. -/
def drawing (s : State) : Bool := decide (freeCredits s < 0) || (decide (caskNow s ≠ 0) && decide (caskNow s < topEngage s))
/-- The engaged cells hold their target or the cask. -/
def engagedHold (s : State) : Bool :=
  anyEngaged s && seven.all (fun n => !((s.cell n).engaged && switching (s.cell n)) || (s.cell n).regulating)
/-- A changeover moment ends: its length and energy, and BOOK_BOUND when they pass T_CO or E_GAP. -/
def drawEnds (t v : Nat) (s : State) : State :=
  let d := s.now - t
  let v2 := caskNow s
  let e := if v2 < v then ceilDiv (cCask s.str.image * (v * v - v2 * v2)) 2000000 else 0
  let bad := decide (tCo s.str.image < d ∨ s.pwr.eGap < e) && decide (entriesOf s.str.image .battery ≠ [])
  let b := s.bk
  let s : State := { s with bk := { b with drawAt := none, drawCount := satInc 255 b.drawCount, drawLongest := max b.drawLongest (sat 20 d),
                                           drawE := max b.drawE (sat 32 e), violD := if bad then satInc 255 b.violD else b.violD } }
  if bad then raise 134 2 s else s
/-- The changeover moment at a tick. -/
def drawTick (s : State) : State :=
  match s.bk.drawAt with
  | some (t, v) => if s.pwr.path ≠ .changeover ∧ (engagedHold s ∨ drawing s = false) then drawEnds t v s else s
  | none => if drawing s && !engagedHold s then { s with bk := { s.bk with drawAt := some (s.now, caskNow s) } } else s
/-- The surge bound of R212 in µV. -/
def surgeBound (s : State) : Nat :=
  let im := s.str.image
  if 25000 * pRegenMax im ≤ absorbMw im then vCaskRegen im * 100000 + dvSurgeUv im else 455000000
/-- A regeneration surge moment ends. -/
def surgeEnds (t : Nat) (s : State) : State :=
  let b := s.bk
  let bad := decide (surgeBound s < s.ppt.regen.vPeak * 10000)
  let s : State := { s with bk := { b with surgeAt := none, surgeCount := satInc 65535 b.surgeCount,
                                           surgeLongest := max b.surgeLongest (sat 16 ((s.now - t) / 1000)),
                                           violS := if bad then satInc 255 b.violS else b.violS } }
  if bad then raise 134 3 s else s
/-- The regeneration surge moment at a tick. -/
def surgeTick (s : State) : State :=
  let above := decide (vCaskRegen s.str.image * 10 < caskHigh s)
  match s.bk.surgeAt with
  | some t => if above then s else surgeEnds t s
  | none => if above then { s with bk := { s.bk with surgeAt := some s.now } } else s
/-- The state the books show, and the cask voltage for the next interval. -/
def bookState (s : State) : State :=
  { s with bk := { s.bk with vCask := caskNow s, state :=
      if s.bk.drawAt.isSome then 2 else if s.bk.surgeAt.isSome then 3 else if 0 < s.bk.transit then 1 else 0 } }

/-! ### Shares and the gate's reclosing (R209, R211) -/

/-- Arm a new share for every cell whose held share differs by 1 % or more. -/
def armShares (s : State) : State :=
  seven.foldl (fun t c =>
    if (t.cordon c).e.role ≠ .battery ∨ (t.cordon c).state = .absent then t
    else
      let x := shareFor t c
      t.modCells (activeCells t c) (fun _ y =>
        let d := if x < y.sp.share then y.sp.share - x else x - y.sp.share
        if d ≠ 0 ∧ x ≤ 100 * d then { y with sp := { y.sp with share := x } } else y)) s
/-- The gate closes again after a surge (R211). -/
def recloseGate (s : State) : State :=
  let g := s.pwr.gate
  let first := if s.sys.mode = .limp then s.limp.gate else gateFirst s
  if g.surge && !anyAbsorbing s && first && decide (caskHigh s ≤ g.ain8 + 100) then
    { s with pwr := { s.pwr with gate := { g with surge := false, closed := true } } }
  else s

/-! ### COMMIT_TICK (R26) -/

/-- Commit-go leaves in the SYNC of k − 2 once every cell concerned has acknowledged (R265). -/
def goTick (s : State) : State :=
  if s.stg.state = .armed ∧ s.stg.goSent = false ∧ allAcked s.stg ∧ tickNow s + 2 = s.stg.k then
    { s with stg := { s.stg with goSent := true } }
  else s
/-- The SYNC of the running link cycle leaves in its reserved slot on every trained link (R30): the number of the last commit tick,
and commit-go in those of k − 2 and k − 1 (R34). -/
def syncTick (s : State) : State :=
  let k := tickNow s
  let go := decide (s.stg.state = .armed) && s.stg.goSent && decide (k + 2 = s.stg.k ∨ k + 1 = s.stg.k)
  s.modCells seven (fun _ c => if c.link.trained then { c with link := { c.link with slot := some (k, go) } } else c)
/-- The cells of a cordon whose number changed re-phase and divide its current anew (R55, R56). -/
def rephaseTick (s : State) : State :=
  let due := seven.filter (fun c => (s.cordon c).rephase)
  due.foldl (fun t c => rephase c (if t.sys.mode = .limp then (match lastGood t with | some im => limpCordon im c t | none => t) else redrive c t)) s
/-- Port power of the contracts over the interval, for the next STATUS (R226). -/
def peerTick (s : State) : State :=
  four.foldl (fun t i => if (t.peerI i).state = .contract then
    t.modPeer i (fun p => { p with pAcc := p.pAcc + cordonP s (peerCordon s i), pCount := p.pCount + 1 }) else t) s
/-- What the allocator and the books do at a tick, in the modes that keep books. -/
def bookTick (s : State) : State :=
  let s := bookMeasured (refreshSources (inregLoop s))
  let s := bookCharge (supplementTick (allocate s))
  bookState (surgeTick (drawTick (allocExports s)))
/-- A SYSTEM cordon that stands in IDLE starts: PORT_V at V_SET (Table 3-1). -/
def startSystems (s : State) : State :=
  seven.foldl (fun t c =>
    let k := t.cordon c
    if k.e.role = .system ∧ k.state = .idle then driveCordon c .portV 0 (k.e.vSet * 10) (k.e.vMax * 10) t else t) s
/-- What falls due at a tick in NORMAL, RESERVE and SERVICE. -/
def workTick (s : State) : State :=
  let s := seekFeed (four.foldl (fun t i => startScheduled i t) (settleAll (startSystems s)))
  let s := neededTests (waitingTests s)
  let s := if s.pwr.path = .fed then markFeeding s else s
  peerTick (bookTick s)
/-! ### The cask rise and the closing gate (R104) -/

/-- At the end of STAGING the battery switches close before the rise (R177): it waits while one of them settles. -/
def riseWaits (s : State) : Bool := !s.sys.caskHeld && four.any (fun i => batUsed s i && decide ((s.bat i).sw = .settle))
/-- What a commit tick adds to the cask voltage at the slope 10 A / C_CASK, µV. -/
def riseStep (s : State) : Nat := 10000000 / max 1 (cCask (boardImage s))
/-- On Q8 the gate's current is held to 10 A until the cask first reaches V_CASK_MIN. -/
def gateHeld10 (s : State) : Bool := decide (s.hw.variant = .q8) && !s.sys.caskHeld && decide (10000 ≤ s.pwr.gate.ain7)
/-- A closing gate at a tick: one step up the slope, and driven fully on within 1.0 V of the AIN8 voltage, which ends a rise. -/
def rampTick (s : State) : State :=
  match s.pwr.gate.ramp with
  | none => s
  | some v =>
    let w := if gateHeld10 s || riseWaits s then v else v + riseStep s
    if s.pwr.gate.ain8 * 10000 ≤ w + 1000000 ∧ riseWaits s = false then
      { s with pwr := { s.pwr with gate := { s.pwr.gate with closed := true, ramp := none }, rise := none } }
    else { s with pwr := { s.pwr with gate := { s.pwr.gate with ramp := some w } } }
/-- Some cordon feeds the cask. -/
def caskFed (s : State) : Bool := seven.any (fun n => switching (s.cell n) && decide ((s.cell n).mode = .caskV))
/-- The set point that a cell in CASK_V rises to: its cordon's command, and V_CASK_SET for an engaged string. -/
def riseTarget (s : State) (c : Nat) : Nat :=
  if (s.cordon c).e.role = .battery then vCaskSet (boardImage s) * 10 else (s.cordon c).vCmd
/-- The cells in CASK_V take the set point and the current limit of the rise as it stands. -/
def riseCells (s : State) : State :=
  s.modCells (seven.filter (fun n => switching (s.cell n) && decide ((s.cell n).mode = .caskV))) (fun n x =>
    let c := servedCordon s n
    { x with sp := { x.sp with vSet := if s.pwr.path = .handback then x.sp.vSet else underRise s (riseTarget s c),
                               iNeg := underTenAmps s c (cordonINeg s c).1 * 10 / max 1 (activeCells s c).length } })
/-- The rise at a tick: one step up the slope while a cordon feeds; at V_CASK_SET it is over and the feeding cells are bound by their
own limits only. -/
def riseTick (s : State) : State :=
  match s.pwr.rise with
  | none => s
  | some v =>
    if !caskFed s || riseWaits s then s
    else
      let w := v + riseStep s
      riseCells { s with pwr := { s.pwr with rise := if vCaskSet (boardImage s) * 100000 ≤ w then none else some w } }
/-- ALIVE begins at the first commit tick at which its conditions hold (R396). -/
def aliveTick (s : State) : State :=
  if aliveOk s && !s.flt.alive then { s with flt := { s.flt with alive := true, aliveStop := 0 } } else s
/-- COMMIT_TICK: ten counts of the controller timebase, with the gate monitor's averages over them. -/
def execCommitTick (gate : GateReading) (s : State) : Host.Outcome State Fault Refusal :=
  act s (fun s =>
    let g := s.pwr.gate
    let s : State := { s with now := s.now + 10, clr := { s.clr with undo := s.clr.undo.take (s.clr.undo.length - 100) },
                              sys := { s.sys with shown := none },
                              pwr := { s.pwr with gate := if gateFitted (boardImage s) then { g with ain7 := gate.ain7, ain8 := gate.ain8 } else g } }
    let s := riseTick (rampTick (syncTick (goTick (frameTick s))))
    let s := if working s.sys.mode then workTick s else s
    let s := bindCells (rephaseTick s)
    aliveTick (regenTidy (recloseGate (armShares (peerResend s)))))

/-! ### PWR registers (R146, R280) -/

/-- PWR common registers at offset o from 0x1000. -/
def pwrCommon (s : State) (o : Nat) : Word :=
  let p := s.pwr
  match o with
  | 0 => pwrStatWord s
  | 1 => pack [(24, 8, p.coCount), (22, 2, p.coTrigger), (21, 1, p.coLate.toNat), (0, 20, sat 20 p.coDuration)]
  | 2 => pack [(16, 16, sat 16 p.coVMin), (12, 4, p.coEntry), (8, 4, p.coCause)]
  | 3 => pack [(16, 16, p.tDone), (0, 16, p.pCap)]
  | 4 => BitVec.ofNat 32 p.eGap
  | 5 => BitVec.ofNat 32 p.eRes
  | 6 => pack [(0, 16, p.pCo)]
  | 7 => pack [(16, 16, sat 16 p.budget), (0, 16, sat 16 p.suppPower)]
  | 8 => pack (seven.map (fun n => (3 * n - 3, 3, bankGet 0 p.srcId n)))
  | 10 => pack [(8, 8, p.cmd.code), (0, 8, p.cmd.result)]
  | _ => 0
/-- Register at offset o of the window of source entry i. -/
def srcWindow (s : State) (i o : Nat) : Word :=
  let x := s.src i
  if x.state = .absent then 0
  else match o with
    | 0 => pack [(28, 4, x.state.code), (25, 3, x.ref), (22, 3, x.type_), (20, 2, x.origin), (19, 1, x.limited.toNat), (16, 1, x.inreg.toNat),
                 (0, 16, if x.state = .qualifying then sat 16 (ceilDiv (x.qualEnd - s.now) 1000) else 0)]
    | 1 => pack [(16, 16, if x.state = .qualifying then x.tQualEff else qualTime s i), (0, 16, sat 16 x.v)]
    | 2 => pack [(16, 16, sat 16 x.iLim), (0, 16, sat 16 x.pLim)]
    | 3 => pack [(24, 8, x.drops), (20, 4, x.lastCause), (16, 4, sat 4 (recentDrops s i)),
                 (0, 16, match x.lastDrop with | none => 65535 | some t => sat 16 ((s.now - t) / oneSec))]
    | _ => 0
/-- Credit book registers at offset o from 0x1100; accounts and sums read 0 outside the modes that keep books. -/
def bookView (s : State) (o : Nat) : Word :=
  let b := s.bk
  let on := working s.sys.mode
  if 0x10 ≤ o ∧ o < 0x17 then
    let a := bankGet {} b.crd (o - 0x10 + 1)
    if on then pack [(30, 2, a.kind), (29, 1, (s.cordon (o - 0x10 + 1)).give.toNat), (0, 16, sat 16 a.credits)] else 0
  else match o with
    | 0 => if on then pack [(16, 16, sat 16 b.grant), (0, 16, sat 16 b.use)] else 0
    | 1 => if on then bkFreeWord s else 0
    | 2 => if on then pack [(28, 4, b.state), (0, 16, twos 16 b.load)] else 0
    | 3 => if on then pack [(30, 2, b.gate.kind), (0, 16, sat 16 b.gate.credits)] else 0
    | 0x20 => pack [(16, 16, b.trnCount), (0, 16, b.trnLongest)]
    | 0x21 => pack [(24, 8, b.drawCount), (0, 20, b.drawLongest)]
    | 0x22 => BitVec.ofNat 32 b.drawE
    | 0x23 => pack [(16, 16, b.surgeCount), (0, 16, b.surgeLongest)]
    | 0x24 => pack [(24, 8, b.violT), (16, 8, b.violD), (8, 8, b.violS)]
    | 0x25 => pack [(16, 16, b.short)]
    | _ => 0

end Sys2Proof.Machine
end

