-- ==== Sys2Proof/Machine/Startup.lean ====
section
/-! DEFINITION. The cold start through STAGING (Table 4-3), READY, and the way from LIMP HELD back to service (R101–R105,
R113, Table 4-8). -/

namespace Sys2Proof.Machine

/-! ### The watchdog's periods (R374–R376) -/

/-- WDG_FRAC in effect for a new period: 0 until the OTP read and in BLANK (R375). -/
def fuseFrac (s : State) : Nat := if s.lcs.state = .blank then 0 else (s.otpWord 51).toNat % 4
/-- O of R375 for a period and a fuse. -/
def wdgOpensAt (p frac : Nat) : Nat := p * (2 + frac) / 8
/-- A WDG_PERIOD value has crossed into the watchdog domain by the present instant: 2 to 3 of its ticks, 58 to 97 µs, after the write
(R27). `now` steps by 10 µs, so between the two ends it may have or not, a free value. -/
def periodCrossed (s : State) : Bool × State :=
  let age := s.now - s.wdg.newAt
  if age < 50 then (false, s)
  else if 110 ≤ age then (true, s)
  else let b := freeNat 1 s; (decide (b.1 = 1), b.2)
/-- A new period begins with question q; a written period that has crossed takes effect with it (R27, R384). -/
def wdgPeriod (q : BitVec 16) (s : State) : State :=
  let b := if s.wdg.newPeriod.isSome then periodCrossed s else (false, s)
  let s := b.2
  let w := s.wdg
  let p := if b.1 then w.newPeriod.getD w.period else w.period
  let f := fuseFrac s
  let o := wdgOpensAt p f
  { s with wdg := { w with state := if o = 0 then .open_ else .closed, q := q, count := 0, startAt := s.now,
                           wakeReq := false, period := p,
                           newPeriod := if b.1 then none else w.newPeriod, frac := f, opensAt := o, answer := none } }
/-- The seed of R376. -/
def wdgSeed (id : Nat) : BitVec 16 := let v := BitVec.ofNat 16 id ^^^ 0xACE1; if v = 0 then 0xACE1 else v
/-- The cores are released: the first period (R374, Table 14-3). -/
def wdgStart (s : State) : State :=
  wdgPeriod (wdgSeed ((otpRaw s 0).toNat % 65536)) s

/-! ### Cold reset (R118) -/

/-- What outlasts a cold reset: the part itself, the non-volatile memories, the wake latch, the OR-ing inputs, and the model's own
fields. A flash page or sector whose program or erase the reset cuts short is left with free bytes (`flashCut`; R42, log entry 66). -/
def coldState (s : State) : State :=
  let s := flashCut s
  { pending := s.pending, freeIx := s.freeIx, wake := s.wake, hw := s.hw, orIn := s.orIn,
    cells := s.cells.map (fun c => ({ slotA := c.slotA, slotB := c.slotB, activeSlot := c.activeSlot, baseVintage := c.baseVintage } : Cell)),
    sys := { romVintage := s.sys.romVintage }, fls := { bank0 := s.fls.bank0, bank1 := s.fls.bank1 },
    clr := { mem := s.clr.mem, bad := s.clr.bad }, lcs := { otp := s.lcs.otp } }
/-- The last step of Table 4-3 completed. -/
def stepDone (n : Nat) (s : State) : State := { s with sys := { s.sys with lastStep := n } }
/-- Step 2: watchdog and generator start; a press in progress is ignored (R201). -/
def startDomain (env : ColdEnv) (s : State) : State :=
  let s := stepDone 2 (rngStart (wdgStart s))
  { s with eis := { s.eis with btn := { s.eis.btn with low := env.btnLow, ignored := env.btnLow } } }
/-- COLD of Table 15-5. -/
def coldCauseOf (s : State) : Nat :=
  match s.wake with
  | .button => 3
  | .source => 4
  | .none =>
    match newestRecord s with
    | some (7, _) => 5
    | some (_, f) => if f / 2 % 2 = 1 then 1 else 2
    | none => 2
/-- Step 3: OTP and life cycle, Cellar scan, restored blocks, the record of the mode change that the start is when it comes from
SHIP or from a long press (R99), RESET record; PRIV_EN is judged and host SPI serves (R285, R297, R411, R412). -/
def startMemories (was : Option Mode) (env : ColdEnv) (s : State) : State :=
  let s := scanCellar (readOtp s)
  let c := coldCauseOf s
  let s := restoreBlocks c s
  let s : State := { s with
    wake := .none, sys := { s.sys with coldCause := c },
    spi := { s.spi with serving := true, privEn := env.privEn && lifeOpen s, privIgn := env.privEn && !lifeOpen s } }
  let s := match was with | none => s | some m => record 2 (pack [(8, 8, m.code)]) s
  stepDone 3 (record 3 (pack [(8, 8, c)]) s)
/-- Step 4: a cell whose link trains, with its delay measured, is READY, one whose link does not train in three attempts FAILED (R31). -/
def startLinks (env : ColdEnv) (s : State) : State :=
  stepDone 4 (s.modCells seven (fun n c =>
    if env.trained.getLsbD (n - 1) then { c with state := .ready, link := { c.link with trained := true, delayNs := bankGet 0 env.delays n } }
    else { c with state := .failed, link := { c.link with fails := 3, down := true } }))

/-! ### Images (Table 4-3 steps 5 to 8, R105) -/

/-- Fitted cells whose link has trained and whose active slot and main image do not accept each other. -/
def pair1Bad (s : State) : List Nat :=
  (fittedCells s).filter (fun n => (s.cell n).link.trained && !pair1 s (s.cell n))
/-- The image of the store. -/
def storeIm (s : State) : Option Image := (currentStore s).map (fun x => storeImage s x.1 x.2)
/-- Pair 2 fails: a store is there and is not accepted. -/
def pair2Bad (s : State) : Bool := match storeIm s with | none => false | some im => !pairStr s im
/-- Pair 3 fails; an absent copy fails. -/
def pair3Bad (s : State) : Bool := match lastGood s with | none => true | some im => !pairStr s im
/-- SYS_VCHECK. -/
def putVcheck (r : Nat) (cells : BitVec 7) (partner : Nat) (s : State) : State :=
  { s with sys := { s.sys with vResult := r, vCells := cells, vPartner := partner } }
/-- Steps 5 and 6 on a module that is not SCRAPPED: the LIMP cause that keeps the main image from starting, 0 none. -/
def checkImages (s : State) : State × Nat :=
  let m := mainCheck s
  if m ≠ 0 then (putVcheck m 0 0 s, m - 1)
  else
    let bad := pair1Bad s
    match bad with
    | n :: _ =>
      (collect 6 (maskOf 7 (fun k => decide (k ∈ bad))).toNat noAddr
        (putVcheck 2 (maskOf 7 (fun k => decide (k ∈ bad))) (slotNum (slotOf (s.cell n) (s.cell n).activeSlot) 4 2) s), 2)
    | [] =>
      if pair2Bad s then
        (raise 7 0 (putVcheck (if pair3Bad s then 4 else 3) 0 (match storeIm s with | none => 0 | some im => imVintage im) s), 0)
      else (putVcheck 1 0 0 s, 0)
/-- Step 7: every READY cell starts its microcode; a cell mismatch leaves all on base (Table 4-4). -/
def startMicrocode (s : State) : State :=
  stepDone 7 (s.modCells seven (fun _ c => if c.state = .ready then { c with uc := startUc s c } else c))
/-- Step 8 begins: the main image runs and READY is awaited. -/
def startMain (s : State) : State :=
  { s with sys := { s.sys with mainRuns := true, awaitReady := true, mainVintage := mainVin s s.fls.active } }

/-! ### Structure load (Table 3-9, R91) -/

/-- Step 9: the store when the main image runs, else or after a refusal the last good copy. The store image in use is written to the
last good copy if it differs (Table 3-9 step 7, R93). -/
def loadStructure (s : State) : State :=
  if s.sys.mainRuns = false then stepDone 9 (loadCopy none s)
  else
    let p := match storeIm s with | none => noImage | some im => loadVerdict s im
    if p.v.reason ≠ 0 then stepDone 9 (loadCopy (some p.v) (raise 4 p.v.reason s))
    else match storeIm s with
      | none => s
      | some im => stepDone 9 (lgcWrite im (installImage im (putLoad {} 0 p { s with str := { s.str with state := 1 } })))

/-! ### Self-tests and the end of STAGING (steps 10 and 11) -/

/-- What an image brings beside its entries: checks, classes, converters, peers. -/
def startBlocks (s : State) : State :=
  if s.str.image = [] then s else peersApply [] (adcApply (applyClasses (applyChecks s.str.image s)))
/-- A cell that fails its self-test is FAILED; the located address is reported and kept (R65, R70, R102). -/
def testCell (env : ColdEnv) (s : State) (n : Nat) : State :=
  if (s.cell n).state ≠ .ready then s
  else if env.cellPass.getLsbD (n - 1) then s.modCell n (fun c => { c with st := { c.st with result := 1, doneAt := s.now } })
  else
    let a := cellAddr s n (bankGet 0 env.cellAddr n)
    raiseSrc (16 * n + 10) 0 a (s.modCell n (fun c => { c with state := .failed, st := { c.st with result := 2, doneAt := s.now, addr := a } }))
/-- The converters' quick calibration and self-test: a slice that fails is FAILED; ten aborts record it as not run (R254, Table 9-9). -/
def testSlices (env : ColdEnv) (s : State) : State :=
  let s : State := { s with adc := { s.adc with stAbort := sat 8 env.adcAborts, sCalAt := s.now,
                                                conv := s.adc.conv.map (fun c => { c with calAt := s.now }) } }
  if 10 ≤ env.adcAborts then raise 211 0 s
  else { s with adc := [0, 1, 2, 3, 4].foldl (fun a k => if env.adcPass.getLsbD k then a else sliceFail k a) s.adc }
/-- Step 10; the second component is the first C3 source of a failed circuit test, with 0 for none. -/
def selfTests (env : ColdEnv) (s : State) : State × Nat :=
  let s := testSlices env (seven.foldl (testCell env) s)
  let s := if env.sramOk then s else collect 1 0 (blockAddr 0 1 31) s
  let s := if env.kataOk then s else collect 2 0 (blockAddr 0 4 0) s
  (stepDone 10 s, if !env.sramOk then 1 else if !env.kataOk then 2 else 0)
/-- A source path whose qualification ended valid before step 11 is usable; its pin gives its type (R124, R129, R130). -/
def startPath (env : ColdEnv) (s : State) (i : Nat) : State :=
  let x := s.src i
  let role := (s.cordon x.ref).e.role
  if x.state = .absent ∨ role = .peer then s
  else
    let s := readSrcId i (bankGet 0 env.srcIdMv (srcIdPin s x.ref)) s
    if env.paths.getLsbD (i - 1) && !(s.src i).srcIdShort then
      let ty := findType s i
      let s := s.modSrc i (fun x => { x with state := .usable, band := .inside, tQualEff := x.tQual, type_ := ty.1, origin := ty.2 })
      if ty.1 = 0 ∧ s.hw.variant = .q8 then raise 133 i s else s
    else s
/-- SYS_STAGING and the start record of step 11. -/
def stagingEnds (env : ColdEnv) (outcome : Nat) (s : State) : State :=
  let s : State := { s with sys := { s.sys with lastStep := 11, outcome := outcome, duration := sat 16 env.duration } }
  record 1 (stagingWord s) s
/-- Step 11 towards NORMAL or RESERVE. -/
def enterService11 (env : ColdEnv) (s : State) : State :=
  let m := feedMode s
  let s := stagingEnds env (if m = .normal then 0 else 1) (setMode m s)
  let s := releaseStaging s
  let s := seekFeed (startSystems s)
  if s.fls.trial then saveActivation { s with upd := { s.upd with trialEnd := s.now + oneMin, trialBy := true, phase := .trial } } else s
/-! ### Warm restart (R113) -/

/-- The cores are released into the boot ROM: generator, watchdog and host SPI; the Trellis ports open with PASS_THROUGH_OPEN (Table 4-5, R324). -/
def releaseCores (s : State) : State :=
  let s := wdgStart (rngStart s)
  { s with spi := { s.spi with serving := true } }
/-- A source of class C3, or C4 without a cordon, is active. -/
def c3Live (s : State) : Bool :=
  sources.any (fun n => (s.fsrc n).live && (decide (srcClass s n = 3) || decide (srcClass s n = 4 ∧ affectedCordon s n (sourceArg s n) = 0)))
/-- SYS_VCHECK of the checks of R113, and whether they pass. -/
def warmChecks (s : State) : State × Bool :=
  let m := mainCheck s
  if m ≠ 0 then (putVcheck m 0 0 s, false)
  else match pair1Bad s with
    | n :: r => (putVcheck 2 (maskOf 7 (fun k => decide (k ∈ n :: r))) (slotNum (slotOf (s.cell n) (s.cell n).activeSlot) 4 2) s, false)
    | [] =>
      if pair3Bad s then (putVcheck (if pair2Bad s then 4 else s.sys.vResult) 0 (match lastGood s with | none => 0 | some im => imVintage im) s, false)
      else (putVcheck 1 0 0 s, true)
/-- The conditions of R113 beside the image and vintage checks. -/
def warmMet (s : State) : Bool := decide (limpCount s ≤ 3) && !c3Live s && (lastGood s).isSome
/-- The warm restart begins: the main image starts and READY is awaited (Table 4-8 steps 5 to 7). -/
def warmBegin (s : State) : State := startMain { s with limp := { s.limp with warm := 7 } }
/-- At the end of a STAGING that ended in LIMP: where the conditions of R113 are met, the module starts at step 5 of Table 4-8 and does
not wait in HELD. -/
def warmAtOnce (s : State) : State :=
  if s.sys.mode = .limp ∧ s.sys.sub = .held ∧ warmMet s = true then
    let c := warmChecks s
    if c.2 then warmBegin (releaseCores { c.1 with sys := { c.1.sys with sub := .rom } }) else s
  else s

/-- The same after a command that met STAGING in `old`. -/
def warmAtOnceFrom (old new : State) : State := if old.sys.mode = .staging then warmAtOnce new else new
/-- Steps 9 to 11; `cause` is the LIMP cause met before, 0 none, and `code` its core reset cause. -/
def finishStart (env : ColdEnv) (cause code : Nat) (s : State) : State :=
  let s := startBlocks (loadStructure { s with str := { s.str with probe := env.probe } })
  let t := selfTests env s
  let s := eight.foldl (startPath env) t.1
  let n := if s.str.image = [] then 5 else t.2
  let s : State := { s with sys := { s.sys with awaitReady := false } }
  if cause = 0 ∧ n = 0 then enterService11 env s
  else
    let s : State := { s with sys := { s.sys with lastStep := 11, duration := sat 16 env.duration } }
    warmAtOnce (if cause ≠ 0 then limpEntry cause code 0 s
      else limpEntry 3 (coreCodeOf 3 n) (if n = 1 then blockAddr 0 1 31 else if n = 2 then blockAddr 0 4 0 else noAddr) s)

/-! ### POWER_ON_RESET, READY and READY_TIMEOUT -/

/-- The cold start up to the wait for READY, or to its end when no main image starts (Tables 4-3 and 4-4, R417). The crystal's
qualification runs beside it (R25). -/
def coldStart (was : Option Mode) (env : ColdEnv) (s : State) : State :=
  let s := startLinks env (startMemories was env (startDomain env s))
  let s : State := { s with orIn := env.inputs, crystal := env.crystal, str := { s.str with probe := env.probe } }
  if s.lcs.state = .scrapped then
    limpEntry 4 0 0 { s with str := { s.str with copyBad := true },
                             sys := { s.sys with lastStep := 11, duration := sat 16 env.duration } }
  else
    let c := checkImages s
    let s := startMicrocode c.1
    if c.2 ≠ 0 then finishStart env c.2 0 s else startMain s
/-- A cold reset with its cold start, from the mode `was` where it is a mode change (Table 4-2); nothing of the state before it bears on
level sources or interrupt bits. -/
def coldReset (was : Option Mode) (env : ColdEnv) (s : State) : State :=
  let t := coldState s
  settle t (coldStart was env t)
/-- POWER_ON_RESET: in any state, the cold start. After a wake it is the change from SHIP; otherwise the supply had failed, and what the
Cellar was writing is cut short (R402). -/
def execPowerOnReset (env : ColdEnv) (s : State) : Host.Outcome State Fault Refusal :=
  .next (if s.wake ≠ .none then coldReset (some .ship) env s else coldReset none env (cellarCut s))
/-- Write SYS_CMDSTAT. -/
def sysRes (code r : Nat) (s : State) : State := { s with sys := { s.sys with cmd := cmdRes code r } }
/-- The copy passes the checks of Table 4-8 step 8: the main image may stage the takeover set, and the links take its frames again
(R107). Its refusal is a C3 fault and returns the module to HELD. -/
def warmReady (s : State) : State :=
  let v := copyVerdict s
  if v.reason = 0 then { s with sys := { s.sys with awaitReady := false }, limp := { s.limp with linksHeld := false } }
  else limpEntry 3 5 noAddr (collect 5 v.reason noAddr s)
/-- SYS_CMD READY. -/
def sysReady (a : Agent) (env : ColdEnv) (s : State) : State :=
  if a ≠ .mainImage then sysRes 0x10 8 s
  else if s.sys.awaitReady = false then sysRes 0x10 3 s
  else if s.sys.mode = .staging then finishStart env 0 0 (stepDone 8 (sysRes 0x10 0 s))
  else warmReady (sysRes 0x10 0 s)
/-- READY (R103, R113). -/
def execReady (by_ : Agent) (env : ColdEnv) (s : State) : Host.Outcome State Fault Refusal := act s (sysReady by_ env)
/-- READY_TIMEOUT: 60 ms without READY. In STAGING the last good copy is loaded for LIMP (R103). -/
def execReadyTimeout (env : ColdEnv) (s : State) : Host.Outcome State Fault Refusal :=
  act s (fun s =>
    if s.sys.awaitReady = false then s
    else if s.sys.mode = .staging then finishStart env 7 6 { s with sys := { s.sys with mainRuns := false, mainVintage := 0 } }
    else limpEntry 7 6 0 s)

/-! ### LIMP: HELD ends, warm restart (R108, R113, R361) -/

/-- The previous main image comes back: the bank record, the Graft REFUSED with ACT_REVERTED, the C1 fault (R361). -/
def revertTrial (s : State) : State :=
  let s : State := { s with fls := { s.fls with active := s.fls.previous, trial := false },
                            upd := { s.upd with state := .refused, reason := 0x22, kind := 0, phase := .ended, trialBy := false } }
  raise 234 0 (saveState (saveActivation (saveBank s)))
/-- HELD_EXPIRY: ROM, or LOCKED from the fourth entry on and as long as the lock of R115 holds; a HELD entered by a watchdog expiry in
LOCKED stays. -/
def execHeldExpiry (s : State) : Host.Outcome State Fault Refusal :=
  act s (fun s =>
    if s.sys.mode ≠ .limp ∨ s.sys.sub ≠ .held ∨ s.limp.stayHeld then s
    else
      let s := if s.fls.trial ∧ s.sys.reason ≠ 6 then revertTrial s else s
      let lock := s.limp.locked || decide (4 ≤ limpCount s)
      releaseCores { s with sys := { s.sys with sub := if lock then .locked else .rom }, limp := { s.limp with locked := lock } })
/-- WARM_RESTART: from ROM, under the conditions of R113. Failed checks end a trial (R361). -/
def execWarmRestart (s : State) : Host.Outcome State Fault Refusal :=
  act s (fun s =>
    if s.sys.mode ≠ .limp ∨ s.sys.sub ≠ .rom ∨ s.limp.warm ≠ 0 ∨ warmMet s = false then s
    else
      let c := warmChecks s
      if c.2 then warmBegin c.1
      else if c.1.fls.trial then revertTrial c.1 else c.1)
/-- LIMP_CAUSE (R106): from a working mode or within LIMP on any cause, in STAGING on a C3 fault. A watchdog expiry has its trap, and
the cores are held in reset at the end of the hard timer. -/
def execLimpCause (cause : Nat) (s : State) : Host.Outcome State Fault Refusal :=
  act s (fun s =>
    if cause = 0 ∨ 8 < cause ∨ (s.sys.mode = .staging ∧ cause ≠ 3) then s
    else if cause = 1 then
      limpEntry 1 0 (blockAddr 0 2 0)
        (if s.wdg.state = .reset then s else { s with wdg := { s.wdg with state := .trap, answer := none } })
    else warmAtOnceFrom s (limpEntry cause (coreCodeOf cause 1) 0 s))
/-- LIMP_COUNT_AGE (R115): the oldest entry leaves the 10 min window. -/
def execLimpCountAge (s : State) : Host.Outcome State Fault Refusal :=
  act s (fun s => { s with sys := { s.sys with entries := s.sys.entries.dropLast } })
/-- LIMP_SOURCE_READMIT (Table 4-6, R111): a SOURCE cordon, or the gate (reference 0) while no SOURCE cordon is admitted. -/
def execLimpSourceReadmit (ref : Nat) (s : State) : Host.Outcome State Fault Refusal :=
  act s (fun s =>
    if s.sys.mode ≠ .limp ∨ s.limp.power = false then s
    else if ref = 0 then
      if s.limp.src = 0 ∧ gateFitted (boardImage s) then limpSet { s with limp := { s.limp with gate := true } } else s
    else if (s.cordon ref).e.role = .source ∧ (s.cordon ref).state ≠ .stopped then
      limpSet { s with limp := { s.limp with src := putBit s.limp.src (ref - 1) true, gate := false } }
    else s)
/-- CASK_HELD (R104): the cask first reaches V_CASK_MIN under module control. -/
def execCaskHeld (s : State) : Host.Outcome State Fault Refusal :=
  act s (fun s => if working s.sys.mode ∨ (s.sys.mode = .limp ∧ s.limp.power = true) then
    { s with sys := { s.sys with caskHeld := true } } else s)

end Sys2Proof.Machine
end

