-- ==== Sys2Proof/Machine/Faults.lean ====
section
/-! DEFINITION. The fault collector's commands, ALIVE, and the FLT registers (R385–R398, R400, R468). -/

namespace Sys2Proof.Machine

/-- A source that Table 14-6 names (R393) and the variant has: the sources of an absent cell or battery index never become active and
cannot be forced (R4). -/
def named (s : State) (n : Nat) : Bool :=
  (defaultClass n).isSome && (decide (n % 16 = 15) ||
    ((decide (n < 16 ∨ 128 ≤ n) || cellFitted s (n / 16)) && decide (n < 144 ∨ 208 ≤ n ∨ n / 16 - 8 ≤ batMax s.hw.variant)))
/-- The address that a circuit located, as the collector takes it (R21, R22). -/
def locatedAddr (s : State) (n : Nat) (a : Word) : Word := if 16 ≤ n ∧ n < 128 then cellAddr s (n / 16) a else normAddr s a
/-- FAULT_SOURCE_ACTIVE: the pair of a named source becomes active. REFIN_BAD follows source 210 (R250). A C3 source that ends STAGING may
lead to a warm restart at once (R113). -/
def execFaultSourceActive (source arg : Nat) (addr : Word) (s : State) : Host.Outcome State Fault Refusal :=
  act s (fun s =>
    if !named s source then s
    else if source = 210 then refinChange true s
    else warmAtOnceFrom s (raiseSrc source arg (locatedAddr s source addr) s))
/-- The pair of a source is inactive again: a wire fault on it ends, and with the last of its group the wire source; a
force ends. -/
def pairInactive (n : Nat) (s : State) : State :=
  let s : State := s.modFsrc n (fun x => { x with live := false, wire := false })
  let g := n / 16
  let s := if (List.range 16).any (fun j => (s.fsrc (16 * g + j)).wire) then s else lower (16 * g + 15) s
  match s.flt.force with
  | some f => if f.source = n then { s with flt := { s.flt with force := none } } else s
  | none => s
/-- FAULT_SOURCE_INACTIVE: a level source whose condition the state still shows stays active. -/
def execFaultSourceInactive (source : Nat) (s : State) : Host.Outcome State Fault Refusal :=
  act s (fun s =>
    if !named s source then s
    else if source = 210 then pairInactive 210 (refinChange false s)
    else if levelCond s source ∧ (s.fsrc source).wire = false then s
    else pairInactive source s)
/-- A wire fault on a pair (R386): the group's wire source latches, the affected source counts as inactive, and a C3 or C4
source takes its reaction as well. -/
def wireFault (n : Nat) (s : State) : State :=
  if (s.fsrc n).wire ∨ n % 16 = 15 then s
  else
    let a := blockAddr 0 2 1
    let s := raiseSrc (n / 16 * 16 + 15) n a s
    let s := s.modFsrc n (fun x => { x with wire := true, live := false })
    react n (sourceArg s n) a s
/-- WIRE_FAULT. -/
def execWireFault (source : Nat) (_level : WireLevel) (s : State) : Host.Outcome State Fault Refusal :=
  act s (fun s => if named s source then warmAtOnceFrom s (wireFault source s) else s)
/-- The argument of an escalation's event: of a wire source, the pair that disagrees. -/
def windowArg (s : State) (n : Nat) : Nat :=
  if n % 16 = 15 then ((List.range 16).map (fun j => n / 16 * 16 + j) |>.find? (fun m => (s.fsrc m).wire)).getD 0 else sourceArg s n
/-- C2_WINDOW_ESCALATION: the window ends unclosed (R388). -/
def execC2WindowEscalation (group : Nat) (s : State) : Host.Outcome State Fault Refusal :=
  act s (fun s =>
    match bankGet none s.flt.win (group + 1) with
    | none => s
    | some w =>
      let a := (s.fsrc w.source).addr
      let s := pushEvent (eventWord 2 3 s.flt.evSeq.toNat (windowArg s w.source) w.source) (compatWord w.source 5 a) a s
      limpEntry 3 5 a { s with flt := { s.flt with escalated := true, win := bankPut s.flt.win (group + 1) none } })
/-- Close the windows that a cleared source had opened. -/
def closeWindow (n : Nat) (s : State) : State :=
  match bankGet none s.flt.win (n / 16 + 1) with
  | some w => if w.source = n then { s with flt := { s.flt with win := bankPut s.flt.win (n / 16 + 1) none } } else s
  | none => s
/-- A write to FLT_PENDk: each 1 clears its pending bit and closes the window its source opened (R388, R390). -/
def pendClear (k : Nat) (d : Word) (s : State) : State :=
  (List.range 32).foldl (fun t j =>
    if bit d j then closeWindow (32 * k + j) (t.modFsrc (32 * k + j) (fun x => { x with pend := false })) else t) s
/-- FLT_PEND_CLEAR. -/
def execFltPendClear (k : Nat) (data : Word) (s : State) : Host.Outcome State Fault Refusal :=
  act s (fun s => if k < 8 then pendClear k data s else s)
/-- FLT_EVENT as the next read returns it. -/
def eventHead (s : State) : Word := (s.flt.evq.head?.map FltEvent.word).getD 0
/-- An accepted read of FLT_EVENT removes the oldest event and fills the shadow (R390). -/
def eventRead (s : State) : State :=
  { s with flt := { s.flt with evq := s.flt.evq.tail, last := eventHead s, lastAddr := (s.flt.evq.head?.map FltEvent.addr).getD 0 } }
/-- FLT_EVENT_READ. -/
def execFltEventRead (_by : Agent) (s : State) : Host.Outcome State Fault Refusal := act s eventRead
/-- An accepted read of FLT_COMPAT_MSG removes the oldest message (R395). -/
def compatRead (s : State) : State := { s with flt := { s.flt with cmq := s.flt.cmq.tail, cmLast := s.flt.cmq.headD 0 } }
/-- FLT_COMPAT_READ. -/
def execFltCompatRead (_by : Agent) (s : State) : Host.Outcome State Fault Refusal := act s compatRead
/-- Why a force is refused; 0: it is not (R391, Table 14-9). -/
def forceRefusal (d : Word) (s : State) : Nat :=
  if s.sys.mode ≠ .service then 2
  else if field d 24 8 ≠ 0xA5 then 3
  else if !named s (field d 0 8) then 4
  else if field d 8 2 = 3 then 5
  else if s.flt.force.isSome then 1
  else 0
/-- A write to FLT_FORCE: FORCE_USED latches, and the source takes its real reaction for 1 ms. -/
def fltForce (d : Word) (s : State) : State :=
  let n := field d 0 8
  let r := forceRefusal d s
  let s : State := { s with flt := { s.flt with cmd := cmdRes n r } }
  if r ≠ 0 then s
  else
    let s := raise 241 n { s with flt := { s.flt with force := some { source := n, kind := field d 8 2 } } }
    if field d 8 2 = 0 then (raise n (sourceArg s n) s).modFsrc n (fun x => { x with live := true }) else wireFault n s
/-- FLT_FORCE. -/
def execFltForce (data : Word) (s : State) : Host.Outcome State Fault Refusal := act s (fltForce data)
/-- ALIVE_EDGE: the 500 µs of R396 have passed; an edge while its conditions hold. -/
def execAliveEdge (s : State) : Host.Outcome State Fault Refusal :=
  act s (fun s =>
    if aliveOk s then { s with flt := { s.flt with alive := true, aliveStop := 0, aliveLevel := !s.flt.aliveLevel } } else s)
/-- ALIVE_FEEDBACK: the pin has differed from the drive for 100 µs (R398). -/
def execAliveFeedback (s : State) : Host.Outcome State Fault Refusal := act s (raiseSrc 242 0 (blockAddr 0 2 3))

/-! ### FLT registers (R400) -/

/-- A word of 32 sources from 32 k. -/
def sourceBits (s : State) (k : Nat) (p : FltSrc → Bool) : Word :=
  (maskOf 32 (fun j => p (s.fsrc (32 * k + (j - 1)))))
/-- Registers of the FLT block at offset o from 0x3000, as agent a reads them; FLT_EVENT without its removal. -/
def fltView (s : State) (a : Agent) (o : Nat) : Word :=
  let f := s.flt
  let n := (s.agent a).fltSel
  let x := s.fsrc n
  if 0x10 ≤ o ∧ o < 0x18 then sourceBits s (o - 0x10) FltSrc.pend
  else if 0x18 ≤ o ∧ o < 0x20 then sourceBits s (o - 0x18) FltSrc.live
  else match o with
    | 0 => fltStatWord s
    | 1 => BitVec.ofNat 32 (wireMask s)
    | 2 => f.masked.setWidth 32
    | 3 => BitVec.ofNat 32 f.c2win
    | 5 => pack [(8, 8, f.cmd.code), (0, 8, f.cmd.result)]
    | 6 => BitVec.ofNat 32 n
    | 7 => pack [(29, 3, srcClass s n), (28, 1, (f.raised.any (fun p => decide (p.1 = n))).toNat), (27, 1, x.live.toNat), (26, 1, x.pend.toNat),
                 (25, 1, x.wire.toNat), (16, 8, x.count),
                 (0, 16, match x.latchedAt with | none => 0 | some t => sat 16 ((s.now - t) / oneSec))]
    | 8 => x.addr
    | 9 => (f.evq.head?.map FltEvent.addr).getD 0
    | 10 => eventHead s
    | 11 => f.last
    | 12 => f.lastAddr
    | 13 => pack [(31, 1, f.alive.toNat), (28, 3, f.aliveStop), (0, 16, f.aliveStops)]
    | 0x200 => f.cmq.headD 0
    | 0x201 => f.cmLast
    | 0x202 => pack [(8, 1, f.cmOvf.toNat), (0, 5, f.cmq.length)]
    | _ => 0

end Sys2Proof.Machine
end

