-- ==== Sys2Proof/Machine/FlashOps.lean ====
section
/-! DEFINITION. The FLS commands on the runtime data of the inactive bank, and the FLS registers (R351, R372). -/

namespace Sys2Proof.Machine

/-- Result of FLS_CMD. -/
def flsRes (code result : Nat) (s : State) : State := { s with fls := { s.fls with cmd := cmdRes code result } }
/-- Why an FLS command is refused; 0: it is not (R351). -/
def flsRefusal (s : State) (bank sector page : Nat) : Nat :=
  if s.fls.op.isSome then 5
  else if 1 < bank ∨ 511 < sector ∨ 15 < page then 6
  else if bank = s.fls.active then 2
  else if sector ≤ 472 then 3
  else 0
/-- An operation begins. -/
def flsBegin (program : Bool) (bank sector page : Nat) (s : State) : State :=
  let code := if program then 2 else 1
  let r := flsRefusal s bank sector page
  if r ≠ 0 then flsRes code r s
  else flsRes code 1 { s with fls := { s.fls with
    op := some { program := program, bank := bank, sector := sector, page := page, data := memReadList 0 s.fls.buf 0 256 } } }
/-- ERASE_SECTOR. -/
def execEraseSector (bank sector : Nat) (s : State) : Host.Outcome State Fault Refusal := act s (flsBegin false bank sector 0)
/-- PROGRAM_PAGE. -/
def execProgramPage (bank sector page : Nat) (s : State) : Host.Outcome State Fault Refusal := act s (flsBegin true bank sector page)
/-- Program a page: blank, it holds the data and reads back equal; where the manual says no more (a page programmed twice,
a program that failed) its bytes are free values. -/
def programPage (o : FlashOp) (ok : Bool) (s : State) : State :=
  let a := 4096 * o.sector + 256 * o.page
  if ok ∧ pageBlank s o.bank a = true then flashPut o.bank a o.data s
  else flashPut o.bank a (freeBytes 256 s.freeIx) { s with freeIx := s.freeIx + 256 }
/-- FLASH_OP_COMPLETE: the operation has run whole; a page is read back (FLASH_ERR_VERIFY). `ok` is the outcome of the
program as the array gives it. -/
def execFlashOpComplete (ok : Bool) (s : State) : Host.Outcome State Fault Refusal :=
  act s (fun s =>
    match s.fls.op with
    | none => s
    | some o =>
      let s : State := { s with fls := { s.fls with op := none } }
      if o.program then
        let s := programPage o ok s
        if flashBytes s o.bank (4096 * o.sector + 256 * o.page) 256 = o.data then flsRes 2 0 s
        else raiseSrc 236 0 (faultAddr 0 1 o.bank 6 63 255) (flsRes 2 4 s)
      else flsRes 1 0 (sectorErase o.bank o.sector s))
/-- FLS_PTR advances at each access to FLS_DATA. -/
def flsStep (s : State) : State := { s with fls := { s.fls with ptr := (s.fls.ptr + 1) % 64 } }
/-- Page buffer word at FLS_PTR. -/
def flsWord (s : State) : Word := memWord 0 s.fls.buf (4 * s.fls.ptr)
/-- A write to FLS_DATA. -/
def flsWrite (w : Word) (s : State) : State :=
  flsStep { s with fls := { s.fls with buf := memPutWord 0 s.fls.buf (4 * s.fls.ptr) w } }
/-- FLS_DATA_ACCESS. -/
def execFlsDataAccess (write : Option Word) (s : State) : Host.Outcome State Fault Refusal :=
  act s (match write with | some w => flsWrite w | none => flsStep)
/-- FLS_CMD as written. -/
def flsCmd (w : Word) (s : State) : State :=
  match field w 8 8 with
  | 1 => flsBegin false (field w 31 1) (field w 22 9) 0 s
  | 2 => flsBegin true (field w 31 1) (field w 22 9) (field w 18 4) s
  | k => flsRes k 7 s
/-- Registers of the FLS block at offset o from 0x3C00. -/
def flsView (s : State) (o : Nat) : Word :=
  match o with
  | 0 => pack [(31, 1, s.fls.op.isSome.toNat), (1, 1, s.fls.trial.toNat), (0, 1, s.fls.active)]
  | 2 => pack [(8, 8, s.fls.cmd.code), (0, 8, s.fls.cmd.result)]
  | 3 => BitVec.ofNat 32 s.fls.ptr
  | 4 => flsWord s
  | _ => 0

end Sys2Proof.Machine
end

