-- ==== Sys2Proof/Machine/Trellis.lean ====
section
/-! DEFINITION. Trellis: ports, neighbours, hop credits, forwarding, errors, the time base and the TRL registers
(chapter 12, R305–R335, R340, R341). -/

namespace Sys2Proof.Machine

/-! ### Small things -/

/-- The other port. -/
def otherPort : TrlPort → TrlPort
  | .a => .b
  | .b => .a
/-- Place of a port: 0 A, 1 B. -/
def portIx : TrlPort → Nat
  | .a => 0
  | .b => 1
/-- Set bit k of TRL_FLT. -/
def trlFlt (k : Nat) (s : State) : State := { s with trl := { s.trl with flt := putBit s.trl.flt k true } }
/-- The fault address of a block of the Trellis logic (R340). -/
def trlAddr (block : Nat) : Word := blockAddr 0 8 block
/-- T_HB of the running image, of the last good copy in LIMP, and 100 ms before any image (R320). -/
def ownHb (s : State) : Nat := if boardImage s = [] then 100 else tHb (boardImage s)
/-- The port transmits at the LONG rate (R319). -/
def longRate (s : State) (p : TrlPort) : Bool :=
  let x := s.port p
  let end_ := match p with | .a => s.trl.endA | .b => s.trl.endB
  decide (x.state = .alone) && !end_ || decide (x.state = .merged) || x.longAt.isSome
/-- Forget what was learned on a port (R329). -/
def flushPort (p : TrlPort) (s : State) : State :=
  { s with trl := { s.trl with learn := s.trl.learn.filter (fun e => decide (e.port ≠ p)) } }

/-! ### Frames to send (R312, R320, R330) -/

/-- FCRC of a frame (R312): the bits from PRIO through CR, then the BODY bytes. -/
def frameFcrc (f : TrlFrame) : Word :=
  fcrc (bitsMsb 3 f.prio ++ [f.bcast, f.isModule] ++ bitsMsb 16 f.dest ++ bitsMsb 16 f.src ++ bitsMsb 5 f.typ ++
    bitsMsb 9 f.body.length ++ bitsMsb 3 f.cr ++ f.body.flatMap (fun b => bitsMsb 8 b.toNat))
/-- A ripple bit, the complement of the bit before it, after every sixth bit; `k` more bits come before the next (R312). -/
def ripple : Nat → List Bool → List Bool
  | _, [] => []
  | 0, b :: r => b :: (!b) :: ripple 5 r
  | k + 1, b :: r => b :: ripple k r
/-- The bits of a frame on the segment, dominant false (Table 12-1, R312): OPEN, PRIO to FCRC with their ripple bits, RATE, BODY with a
ripple bit after each byte, RETURN, TAKE, CLOSE and GAP. -/
def frameBits (f : TrlFrame) : List Bool :=
  let head := bitsMsb 3 f.prio ++ [f.bcast, f.isModule] ++ bitsMsb 16 f.dest ++ bitsMsb 16 f.src ++ bitsMsb 5 f.typ ++
    bitsMsb 9 f.body.length ++ bitsMsb 3 f.cr
  let body := if f.body = [] then [] else
    [true] ++ f.body.flatMap (fun b => bitsMsb 8 b.toNat ++ [!b.getLsbD 0]) ++ [true]
  [false, true] ++ ripple 5 (head ++ bitsMsb 32 (frameFcrc f).toNat) ++ body ++ List.replicate 12 true
/-- Place in the order of departure: HEARTBEAT, TIME and CREDIT before everything else, then by PRIO (R320, R330). -/
def departRank (f : TrlFrame) : Nat := if f.typ = 0 ∨ f.typ = 1 ∨ f.typ = 4 then 0 else f.prio + 1
/-- Put a frame behind those that leave before it. -/
def insertFrame (q : Queued) : List Queued → List Queued
  | [] => [q]
  | x :: xs => if departRank q.f < departRank x.f then q :: x :: xs else x :: insertFrame q xs
/-- Queue a frame on a port in service; a HEARTBEAT, TIME or CREDIT replaces one that still waits. -/
def enqueue (p : TrlPort) (f : TrlFrame) (via : Option (TrlPort × Buf)) (s : State) : State :=
  s.modPort p (fun x =>
    if x.state = .off then x
    else
      let q := if departRank f = 0 then x.queue.filter (fun (y : Queued) => decide (y.f.typ ≠ f.typ)) else x.queue
      { x with queue := insertFrame { f := f, tries := 0, via := via } q })
/-- A frame this module starts: MOD set, its own address, CR set when it leaves. -/
def ownFrame (s : State) (prio : Nat) (bcast : Bool) (dest typ : Nat) (body : List Byte) : TrlFrame :=
  { prio := prio, bcast := bcast, isModule := true, dest := dest, src := s.trl.addr, typ := typ, cr := 0, body := body, fcrc := 0 }
/-- The port on which an address was learned. -/
def learnedOn (s : State) (addr : Nat) : Option TrlPort :=
  (s.trl.learn.find? (fun e => decide (e.addr = addr))).map Learned.port
/-- Send a unicast frame: on the port its address was learned on, else on both. -/
def sendTo (prio dest typ : Nat) (body : List Byte) (s : State) : State :=
  let f := ownFrame s prio false dest typ body
  match learnedOn s dest with
  | some p => enqueue p f none s
  | none => enqueue .b f none (enqueue .a f none s)
/-! ### Accepting a frame (R326–R329, R331) -/

/-- What every accepted frame does to the port: count, credits returned by the other module port (R328), and the census
of controllers (R323). -/
def portHear (src : Nat) (isModule : Bool) (cr now : Nat) (x : Port) : Port :=
  let x := { x with rx := x.rx + 1 }
  let x := if isModule ∧ x.hasPeer then
      (if 6 < x.held + cr then { x with held := 6, bit := satInc 255 x.bit } else { x with held := x.held + cr })
    else x
  if isModule then x
  else if x.census.any (fun t => decide (t.addr = src)) then
    { x with census := x.census.map (fun t => if t.addr = src then { t with isModule := false, heardAt := now } else t) }
  else if x.census.length < 16 then { x with census := x.census ++ [{ addr := src, isModule := false, heardAt := now }] }
  else x
/-- A buffer frame is free for the sender (R326). -/
def bufFree (x : Port) (isModule : Bool) : Bool := if isModule then decide (x.modUsed < 6) else decide (x.openUsed < 2)
/-- Accept a segment-local frame: `none` while the port is OFF, and for a frame that carries the own address. -/
def hearLocal (p : TrlPort) (src : Nat) (isModule : Bool) (cr : Nat) (s : State) : Option State :=
  if (s.port p).state = .off then none
  else some (s.modPort p (portHear src isModule cr s.now))
/-- Record the SRC of a frame against its port (R329). -/
def learnSrc (p : TrlPort) (src : Nat) (s : State) : State :=
  { s with trl := { s.trl with learn := { addr := src, port := p, at_ := s.now } :: s.trl.learn.filter (fun e => decide (e.addr ≠ src)) } }
/-- Accept a frame that is not segment-local and is not this module's own: a buffer must be free. -/
def hear (v : Via) (src : Nat) (s : State) : Option State :=
  if (s.port v.port).state = .off ∨ bufFree (s.port v.port) v.isModule = false then none
  else some (learnSrc v.port src (s.modPort v.port (portHear src v.isModule v.cr s.now)))
/-- Accept and consume a unicast frame addressed to this module: its buffer is free again at once and its credit owed. A
frame that carries the own address is discarded and counted (R331). -/
def consume (v : Via) (src : Nat) (f : State → State) (s : State) : State :=
  match hear v src s with
  | none => s
  | some t =>
    let t := if v.isModule ∧ (t.port v.port).hasPeer then t.modPort v.port (fun x => { x with owed := x.owed + 1 }) else t
    if src = t.trl.addr then { t with trl := { t.trl with strays := t.trl.strays + 1 } } else f t

/-! ### Neighbours (R321–R323, Table 12-5) -/

/-- Ask for the delay of a port's segment (R334): DELAY_REQ with the OPEN time stamp, taken here as the instant of
queueing. -/
def askDelay (p : TrlPort) (s : State) : State :=
  let x := s.port p
  if x.hasPeer then enqueue p (ownFrame s 1 false x.peer 2 (le 8 (s.now * 1000))) none s else s
/-- Frames from a lost module still in buffers owe it no credit. -/
def forgetDue (p : TrlPort) (q : Queued) : Queued :=
  match q.via with
  | some (r, .due) => if r = p then { q with via := some (r, .lost) } else q
  | _ => q
/-- The module behind a port is lost or replaced: credits owed to it are discarded, those held are `h`. -/
def newCredits (p : TrlPort) (h : Nat) (s : State) : State :=
  let s := s.modPort .a (fun x => { x with queue := x.queue.map (forgetDue p) })
  let s := s.modPort .b (fun x => { x with queue := x.queue.map (forgetDue p) })
  s.modPort p (fun x => { x with held := h, owed := 0 })
/-- Adopt a neighbour: LINKED. -/
def adopt (p : TrlPort) (hb : Hb) (s : State) : State :=
  let s := flushPort p (newCredits p 6 s)
  let s := s.modPort p (fun x => { x with state := .linked, peer := hb.src, hasPeer := true, lastNbr := hb.src, farNamed := 0,
                                          peerHb := hb.tHb, changedAt := s.now })
  askDelay p s
/-- Take a merge partner. -/
def takePartner (p : TrlPort) (hb : Hb) (s : State) : State :=
  let s := newCredits p 6 s
  let s := s.modPort p (fun x => { x with peer := hb.src, hasPeer := true, farNamed := hb.named, peerHb := hb.tHb, merges := satInc 255 x.merges })
  askDelay p (raiseSrc (226 + portIx p) 0 (trlAddr (portIx p)) (trlFlt (3 + portIx p) s))
/-- The census entry of a module heard (R323). -/
def censusModule (src now : Nat) (x : Port) : Port :=
  if x.census.any (fun t => decide (t.addr = src)) then
    { x with census := x.census.map (fun t => if t.addr = src then { t with isModule := true, heardAt := now } else t) }
  else if x.census.length < 16 then { x with census := x.census ++ [{ addr := src, isModule := true, heardAt := now }] }
  else x
/-- A module's HEARTBEAT in the port's state machine (Table 12-5). -/
def heardModule (p : TrlPort) (hb : Hb) (s : State) : State :=
  let s := s.modPort p (censusModule hb.src s.now)
  let x := s.port p
  let mayAdopt := hb.noNbr || decide (hb.named = s.trl.addr)
  match x.state with
  | .off => s
  | .alone => if mayAdopt then adopt p hb s else s
  | .linked => if hb.src = x.peer then s.modPort p (fun x => { x with peerHb := hb.tHb }) else s
  | .merged =>
    if hb.src = x.lastNbr ∨ mayAdopt = true then adopt p hb s
    else if x.hasPeer ∧ hb.src = x.peer then s.modPort p (fun x => { x with farNamed := hb.named, peerHb := hb.tHb })
    else takePartner p hb s
/-- HEARTBEAT. -/
def execHeartbeat (port : TrlPort) (hb : Hb) (s : State) : Host.Outcome State Fault Refusal :=
  act s (fun s =>
    match hearLocal port hb.src hb.isModule hb.cr s with
    | none => s
    | some s =>
      if hb.src = s.trl.addr then
        if hb.unitId ≠ s.unitId then raiseSrc 229 0 (trlAddr (portIx port)) (trlFlt 6 s) else { s with trl := { s.trl with strays := s.trl.strays + 1 } }
      else
        let s := if hb.longReq then s.modPort port (fun x => { x with longAt := some s.now }) else s
        if hb.isModule then heardModule port hb s else s)
/-- LONG_REQ_EXPIRY: 3 × T_HB without LONG_REQ (R319). -/
def execLongReqExpiry (port : TrlPort) (s : State) : Host.Outcome State Fault Refusal :=
  act s (fun s => s.modPort port (fun x => { x with longAt := none }))
/-- NEIGHBOUR_LOST: LINKED becomes MERGED; a merge partner that is lost leaves none. -/
def execNeighbourLost (port : TrlPort) (s : State) : Host.Outcome State Fault Refusal :=
  act s (fun s =>
    let x := s.port port
    let gone (s : State) : State :=
      (newCredits port 0 s).modPort port (fun x => { x with peer := 0, hasPeer := false, farNamed := 0, losses := satInc 255 x.losses })
    match x.state with
    | .linked =>
      let s := (flushPort port (gone s)).modPort port (fun x => { x with state := .merged, changedAt := s.now })
      raiseSrc (224 + portIx port) 0 (trlAddr (portIx port)) (trlFlt (1 + portIx port) s)
    | .merged => if x.hasPeer then gone s else s
    | _ => s)
/-- CENSUS_AGE: a tap not heard for 3 × T_HB or 3 s leaves. -/
def execCensusAge (port : TrlPort) (addr : Nat) (s : State) : Host.Outcome State Fault Refusal :=
  act s (fun s => s.modPort port (fun x => { x with census := x.census.filter (fun t => decide (t.addr ≠ addr)) }))
/-- HEARTBEAT payload (Table 12-4). -/
def heartbeatBody (s : State) (p : TrlPort) : List Byte :=
  let x := s.port p
  let named := if x.state = .linked then x.peer else if x.state = .merged then x.lastNbr else 0
  let end_ := match p with | .a => s.trl.endA | .b => s.trl.endB
  let flags := (decide (x.state = .alone ∨ x.state = .merged)).toNat + 2 * (decide (x.state = .alone)).toNat +
    4 * (decide (s.sys.mode = .limp)).toNat + 8 * s.trl.locked.toNat + 16 * end_.toNat
  le 8 s.unitId.toNat ++ le 1 (portIx p) ++ le 1 flags ++ le 2 named ++ le 1 s.sys.mode.code ++ le 1 0 ++ le 2 (ownHb s) ++
    le 2 s.trl.master ++ le 1 s.trl.rank ++ le 1 0 ++ le 2 s.trl.hops ++ le 2 0
/-- HEARTBEAT_SEND. -/
def execHeartbeatSend (port : TrlPort) (s : State) : Host.Outcome State Fault Refusal :=
  act s (fun s =>
    if (s.port port).state = .off then s
    else enqueue port (ownFrame s 0 true 0 0 (heartbeatBody s port)) none { s with trl := { s.trl with hb := s.trl.hb + 1 } })

/-! ### Pass-through (R324) -/

/-- PASS_THROUGH_OPEN: both sides were recessive long enough while the Trellis logic runs (Table 12-6). -/
def execPassThroughOpen (s : State) : Host.Outcome State Fault Refusal :=
  act s (fun s => if s.spi.serving then { s with trl := trlOn s.now s.trl } else s)

/-! ### Credits (R327) -/

/-- CREDIT. -/
def execCredit (port : TrlPort) (count : Nat) (s : State) : Host.Outcome State Fault Refusal :=
  act s (fun s => (hearLocal port (s.port port).peer true count s).getD s)
/-- CREDIT_OWED_SEND: credits are owed and no other frame waits. -/
def execCreditOwedSend (port : TrlPort) (s : State) : Host.Outcome State Fault Refusal :=
  act s (fun s => if (s.port port).owed ≠ 0 ∧ (s.port port).queue = [] then enqueue port (ownFrame s 0 true 0 4 []) none s else s)

/-! ### Forwarding (R330, R331) -/

/-- Hold a frame for the other port, in the buffer it came into. -/
def forwardFrame (p : TrlPort) (f : TrlFrame) (s : State) : State :=
  let due := (s.port p).hasPeer
  let s := s.modPort p (fun x => if f.isModule then { x with modUsed := x.modUsed + 1 } else { x with openUsed := x.openUsed + 1 })
  enqueue (otherPort p) { f with isModule := true, cr := 0, fcrc := 0 }
    (some (p, if f.isModule then (if due then .due else .lost) else .open_)) s
/-- A frame that is neither held nor forwarded frees its buffer at once. -/
def freeAtOnce (p : TrlPort) (isModule : Bool) (s : State) : State :=
  if isModule ∧ (s.port p).hasPeer then s.modPort p (fun x => { x with owed := x.owed + 1 }) else s
/-- TRELLIS_FORWARD: a frame that is not segment-local arrives. -/
def execTrellisForward (port : TrlPort) (f : TrlFrame) (s : State) : Host.Outcome State Fault Refusal :=
  act s (fun s =>
    if f.typ ≤ 4 then s
    else if (s.port port).state = .off ∨ bufFree (s.port port) f.isModule = false then s
    else if f.src = s.trl.addr then
      let s := freeAtOnce port f.isModule (s.modPort port (portHear f.src f.isModule f.cr s.now))
      if s.trl.sent.any (fun e => decide (e.1 = f.typ ∧ e.2 = f.fcrc)) then
        raiseSrc 228 0 (trlAddr 3) (trlFlt 5 { s with trl := { s.trl with noBcastB := true } })
      else { s with trl := { s.trl with strays := s.trl.strays + 1 } }
    else
      let s := learnSrc port f.src (s.modPort port (portHear f.src f.isModule f.cr s.now))
      let out := if f.bcast then !(decide (otherPort port = .b) && s.trl.noBcastB)
        else decide (f.dest ≠ s.trl.addr) && decide (learnedOn s f.dest ≠ some port)
      if out then forwardFrame port f s else freeAtOnce port f.isModule s)
/-- LEARN_AGE: an entry not refreshed for 10 min. -/
def execLearnAge (addr : Nat) (s : State) : Host.Outcome State Fault Refusal :=
  act s (fun s => { s with trl := { s.trl with learn := s.trl.learn.filter (fun e => decide (e.addr ≠ addr)) } })

/-! ### Sending and errors (R316–R318) -/

/-- TRELLIS_FRAME_ERROR: a bit, ripple or form error, or a data clash. -/
def execTrellisFrameError (port : TrlPort) (e : TrlErr) (s : State) : Host.Outcome State Fault Refusal :=
  act s (fun s =>
    if (s.port port).state = .off then s
    else match e with
      | .clash => trlFlt 8 (s.modPort port (fun x => { x with clash := satInc 65535 x.clash, backoff := true }))
      | _ => s.modPort port (fun x => { x with bit := satInc 255 x.bit }))
/-- TRELLIS_FCRC_FAIL. -/
def execTrellisFcrcFail (port : TrlPort) (s : State) : Host.Outcome State Fault Refusal :=
  act s (fun s => if (s.port port).state = .off then s else s.modPort port (fun x => { x with crc := satInc 255 x.crc }))
/-- CLASH_BACKOFF_END. -/
def execClashBackoffEnd (port : TrlPort) (s : State) : Host.Outcome State Fault Refusal :=
  act s (fun s => s.modPort port (fun x => { x with backoff := false }))
/-- A frame that the other module must buffer (R327). -/
def needsCredit (x : Port) (q : Queued) : Bool := decide (4 < q.f.typ) && x.hasPeer
/-- The frame may leave now. -/
def sendable (x : Port) (q : Queued) : Bool := !needsCredit x q || decide (0 < x.held)
/-- The frame that a send attempt carries: the first that may leave. -/
def sendIx (x : Port) : Option Nat := if x.state = .off ∨ x.backoff = true then none else x.queue.findIdx? (sendable x)
/-- The buffer of a frame that has left, or was dropped, is free; its credit is owed if the module still is there. -/
def freeBuf (q : Queued) (s : State) : State :=
  match q.via with
  | none => s
  | some (p, .open_) => s.modPort p (fun x => { x with openUsed := x.openUsed - 1 })
  | some (p, .due) => s.modPort p (fun x => { x with modUsed := x.modUsed - 1, owed := x.owed + 1 })
  | some (p, .lost) => s.modPort p (fun x => { x with modUsed := x.modUsed - 1 })
/-- A frame was acknowledged: its credit is spent, it carried the credits owed, and a frame of this module is kept for
the loop check. -/
def frameTaken (p : TrlPort) (k : Nat) (q : Queued) (s : State) : State :=
  let x := s.port p
  let cr := if x.hasPeer then min 7 x.owed else 0
  let f := { q.f with cr := cr }
  let s := s.modPort p (fun x => { x with tx := x.tx + 1, line := frameBits f, queue := x.queue.eraseIdx k, owed := x.owed - cr,
                                          held := if needsCredit x q then x.held - 1 else x.held })
  let s := freeBuf q s
  if q.via = none then { s with trl := { s.trl with sent := ((f.typ, frameFcrc f) :: s.trl.sent).take 16 } } else s
/-- A failed attempt; the sixteenth drops the frame. -/
def frameFailed (p : TrlPort) (k : Nat) (q : Queued) (s : State) : State :=
  if 15 ≤ q.tries then
    let s := s.modPort p (fun x => { x with queue := x.queue.eraseIdx k, dropped := satInc 255 x.dropped })
    raiseSrc 231 0 (trlAddr (portIx p)) (trlFlt 0 (freeBuf q s))
  else s.modPort p (fun x => { x with queue := x.queue.modify k (fun y => { y with tries := y.tries + 1 }) })
/-- TRELLIS_SEND_RESULT. -/
def execTrellisSendResult (port : TrlPort) (r : SendResult) (s : State) : Host.Outcome State Fault Refusal :=
  act s (fun s =>
    match sendIx (s.port port) with
    | none => s
    | some k =>
      match (s.port port).queue[k]? with
      | none => s
      | some q =>
        match r with
        | .taken => frameTaken port k q s
        | .noTake => frameFailed port k q (s.modPort port (fun x => { x with noAck := satInc 255 x.noAck }))
        | .error => frameFailed port k q s
        | .arbLost => s.modPort port (fun x => { x with lost := x.lost + 1 }))

/-! ### Time base (R332–R335) -/

/-- The (rank, address) of one master is better than another's. -/
def better (r1 a1 r2 a2 : Nat) : Bool := decide (r1 < r2 ∨ (r1 = r2 ∧ a1 < a2))
/-- Lock ends (R333): the instant counts for R269. -/
def endLock (s : State) : State :=
  if s.trl.locked then trlFlt 7 { s with trl := { s.trl with locked := false, lostAt := s.now } } else s
/-- This module is the best candidate it knows: it becomes master (R332). -/
def electSelf (s : State) : State :=
  let t := s.trl
  if t.tmRank < 255 ∧ t.follow ≠ 3 ∧ (t.follow = 0 ∨ better t.tmRank t.addr t.rank t.master = true) then
    let s := endLock s
    { s with trl := { s.trl with follow := 3, master := t.addr, rank := t.tmRank, hops := 0, good := 0 } }
  else if t.follow = 3 then
    -- a master whose rank or address changed, or that is a candidate no more
    if t.tmRank = 255 then { s with trl := { t with follow := 0, master := 0, rank := 255, hops := 0, good := 0 } }
    else { s with trl := { t with master := t.addr, rank := t.tmRank } }
  else s
/-- Trellis time set to the carried time plus the segment's delay, with the ns fraction rounded down into µs. -/
def setTime (t : TimeFrame) (delay : Nat) (s : State) : State :=
  { s with trl := { s.trl with timeBase := (t.time + (t.frac + delay) / 1000) % 2 ^ 48, timeAt := s.now } }
/-- The rate of the local clock against two received times in a row (R333; log entry 82). -/
def trackRate (was : Trl) (s : State) : State :=
  let dt := (s.trl.timeBase + 2 ^ 48 - was.timeBase) % 2 ^ 48
  let dl := s.now - was.timeAt
  if dt = 0 ∨ dl = 0 then s else { s with trl := { s.trl with rateT := dt, rateL := dl } }
/-- FOLLOW code of a port. -/
def followCode : TrlPort → Nat
  | .a => 1
  | .b => 2
/-- A valid TIME frame: from the master followed on the port followed, or from a better one, whom the module now
follows. -/
def hearTime (p : TrlPort) (t : TimeFrame) (s : State) : State :=
  let x := s.trl
  let take (good : Nat) (s : State) : State :=
    let s : State := { s with trl := { s.trl with follow := followCode p, master := t.master, rank := t.rank, hops := (t.hops + 1) % 65536,
                                                  good := good, timeSeen := some s.now } }
    let was := s.trl
    let s := setTime t (s.port p).delay s
    let s := if 2 ≤ good then trackRate was s else s
    if 2 ≤ good then { s with trl := { s.trl with locked := true, wasLocked := true } } else s
  if t.valid = false ∨ t.master = x.addr then s
  else if x.follow = followCode p ∧ x.master = t.master then electSelf (take (min 2 (x.good + 1)) s)
  else if x.follow = 0 ∨ better t.rank t.master x.rank x.master = true then electSelf (take 1 (endLock s))
  else s
/-- TIME. -/
def execTime (port : TrlPort) (t : TimeFrame) (s : State) : Host.Outcome State Fault Refusal :=
  act s (fun s =>
    if (s.port port).state = .off then s
    else hearTime port t (s.modPort port (fun x =>
      { x with rx := x.rx + 1, bit := if x.hasPeer ∧ 6 < x.held + t.cr then satInc 255 x.bit else x.bit,
               held := if x.hasPeer then min 6 (x.held + t.cr) else x.held })))
/-- TIME_LOCK_LOST: 30 ms without a valid TIME frame; the master heard no more is followed no more. -/
def execTimeLockLost (s : State) : Host.Outcome State Fault Refusal :=
  act s (fun s =>
    if s.trl.locked then
      let s := endLock s
      electSelf { s with trl := { s.trl with follow := 0, master := 0, rank := 255, hops := 0, good := 0 } }
    else s)
/-- TIME payload (R333). -/
def timeBody (s : State) : List Byte :=
  le 2 s.trl.master ++ le 1 s.trl.rank ++ le 1 0 ++ le 2 s.trl.hops ++ le 2 0 ++ le 6 (trlTime s) ++ le 2 0
/-- TIME_SEND: on each port in service other than the one followed. -/
def execTimeSend (s : State) : Host.Outcome State Fault Refusal :=
  act s (fun s =>
    let s := electSelf s
    if s.trl.follow = 0 then s
    else
      let f := ownFrame s 0 true 0 1 (timeBody s)
      let s := if s.trl.follow = 1 then s else enqueue .a f none s
      if s.trl.follow = 2 then s else enqueue .b f none s)
/-- DELAY_REQ: the other end answers with its receive stamp and the response's own. -/
def execDelayReq (via : Via) (src _t1 t2 t3 : Nat) (s : State) : Host.Outcome State Fault Refusal :=
  act s (fun s =>
    match hearLocal via.port src via.isModule via.cr s with
    | none => s
    | some s => enqueue via.port (ownFrame s 1 false src 3 (le 8 t2 ++ le 8 t3)) none s)
/-- DELAY_RSP: the delay of the segment to the other module port, ns. -/
def execDelayRsp (via : Via) (src t1 t2 t3 t4 : Nat) (s : State) : Host.Outcome State Fault Refusal :=
  act s (fun s =>
    match hearLocal via.port src via.isModule via.cr s with
    | none => s
    | some s => s.modPort via.port (fun x =>
        if x.hasPeer ∧ x.peer = src then { x with delay := sat 16 (((t4 - t1) - (t3 - t2)) / 2) } else x))
/-- DELAY_MEASURE: every second on each port with another module port. -/
def execDelayMeasure (s : State) : Host.Outcome State Fault Refusal := act s (fun s => askDelay .b (askDelay .a s))

/-! ### TRL_CMD (R341) -/

/-- Result of TRL_CMD. -/
def trlRes (code result : Nat) (s : State) : State := { s with trl := { s.trl with cmd := cmdRes code result } }
/-- The mode admits TRL_CMD. -/
def trlCmdMode (s : State) : Bool := working s.sys.mode
/-- TRL_CMD SET_ADDR (R310). -/
def trlSetAddr (addr : Nat) (s : State) : State :=
  if !trlCmdMode s then trlRes 1 2 s
  else trlRes 1 0 (saveIdentity (electSelf { s with trl := { s.trl with addr := addr % 65536 } }))
/-- SET_ADDR. -/
def execSetAddr (addr : Nat) (s : State) : Host.Outcome State Fault Refusal := act s (trlSetAddr addr)
/-- TRL_CMD FLUSH_LEARN (R329, R331). -/
def trlFlush (s : State) : State :=
  if !trlCmdMode s then trlRes 2 2 s else trlRes 2 0 { s with trl := { s.trl with learn := [], noBcastB := false } }
/-- FLUSH_LEARN. -/
def execFlushLearn (s : State) : Host.Outcome State Fault Refusal := act s trlFlush
/-- TRL_CMD MEASURE_DELAY (R334). -/
def trlMeasure (s : State) : State := if !trlCmdMode s then trlRes 3 2 s else trlRes 3 0 (askDelay .b (askDelay .a s))
/-- MEASURE_DELAY. -/
def execMeasureDelay (s : State) : Host.Outcome State Fault Refusal := act s trlMeasure
/-- TRL_CMD END_SESSION (R339). -/
def trlEndSession (s : State) : State :=
  if !trlCmdMode s then trlRes 4 2 s
  else if s.trl.sess.state ≠ .open_ then trlRes 4 4 s
  else trlRes 4 0 { s with trl := { s.trl with sess := endSession9 s.trl.sess } }
/-- END_SESSION. -/
def execEndSession (s : State) : Host.Outcome State Fault Refusal := act s trlEndSession
/-- TRL_CMD as written: ARG is 0 for every code but SET_ADDR. -/
def trlCmd (w : Word) (s : State) : State :=
  let code := field w 8 8
  if code = 0 ∨ 4 < code then trlRes code 5 s
  else if code = 1 then trlSetAddr (field w 16 16) s
  else if trlCmdMode s ∧ field w 16 16 ≠ 0 then trlRes code 3 s
  else if code = 2 then trlFlush s
  else if code = 3 then trlMeasure s
  else trlEndSession s
/-- A write of TRL_CFG, kept in the Cellar. -/
def trlCfgWrite (w : Word) (s : State) : State :=
  saveIdentity (electSelf { s with trl := { s.trl with tmRank := field w 8 8, endB := bit w 1, endA := bit w 0 } })

/-! ### TRL registers (Tables 12-9 and 12-10) -/

/-- A read of TRL_TIME_LO latches the high part for the same agent. -/
def timeLatch (a : Agent) (s : State) : State :=
  s.modAgent a (fun r => { r with timeHi := BitVec.ofNat 32 (trlTime s / 2 ^ 32) })
/-- TRL_TIME_LO_READ. -/
def execTrlTimeLoRead (by_ : Agent) (s : State) : Host.Outcome State Fault Refusal := act s (timeLatch by_)
/-- Seconds left of a session's lease, challenge or lockout. -/
def sessLeft (s : State) (x : Session) : Nat :=
  if x.state = .open_ ∨ x.state = .challenge ∨ x.state = .lockedOut then sat 16 (leftS s x.until_) else 0
/-- A port window at offset o. -/
def portView (s : State) (a : Agent) (p : TrlPort) (o : Nat) : Word :=
  let x := s.port p
  match o with
  | 0 => pack [(28, 4, x.state.code), (26, 2, if x.state = .off then 0 else if longRate s p then 2 else 1), (25, 1, x.longAt.isSome.toNat),
               (20, 5, x.census.length), (0, 16, if x.hasPeer then x.peer else 0)]
  | 1 => pack [(16, 16, x.lastNbr), (0, 16, if x.state = .merged then x.farNamed else 0)]
  | 2 => pack [(28, 4, x.held), (24, 4, sat 4 x.owed), (20, 4, 6 - x.modUsed), (16, 4, 2 - x.openUsed)]
  | 3 => BitVec.ofNat 32 x.delay
  | 4 => x.rx
  | 5 => x.tx
  | 6 => pack [(24, 8, x.crc), (16, 8, x.bit), (8, 8, x.noAck), (0, 8, x.dropped)]
  | 7 => pack [(16, 16, x.lost.toNat), (0, 16, x.clash)]
  | 8 => pack [(24, 8, x.losses), (16, 8, x.merges), (0, 16, sat 16 ((s.now - x.changedAt) / oneSec))]
  | 9 => BitVec.ofNat 32 (bankGet 0 (s.agent a).pcSel (portIx p + 1))
  | 10 =>
    match x.census[bankGet 0 (s.agent a).pcSel (portIx p + 1)]? with
    | none => 0
    | some t => pack [(31, 1, 1), (30, 1, t.isModule.toNat), (16, 14, sat 14 ((s.now - t.heardAt) / 1000)), (0, 16, t.addr)]
  | _ => 0
/-- Registers of the TRL block at offset o from 0x2000, as agent a reads them; TRL_FLT without its clearing. -/
def trlView (s : State) (a : Agent) (o : Nat) : Word :=
  let t := s.trl
  match o with
  | 0 => BitVec.ofNat 32 t.addr
  | 1 => trlCfgWord s
  | 3 => pack [(8, 8, t.cmd.code), (0, 8, t.cmd.result)]
  | 4 => BitVec.ofNat 32 (trlTime s)
  | 5 => pack [(31, 1, t.locked.toNat), (0, 16, (s.agent a).timeHi.toNat)]
  | 6 => pack [(16, 16, t.master), (8, 8, t.rank), (6, 2, t.follow)]
  | 7 => pack [(16, 16, t.hops), (0, 16, match t.timeSeen with | none => 0 | some x => sat 16 ((s.now - x) / 1000))]
  | 8 => pack [(16, 16, t.sess.requester), (12, 4, t.sess.state.code), (8, 4, t.sess.result), (6, 2, t.sess.fails)]
  | 9 => BitVec.ofNat 32 (sessLeft s t.sess)
  | 10 => t.flt.setWidth 32
  | 11 => t.fltLast
  | 12 => pack [(16, 16, sat 16 (t.learn.filter (fun e => decide (e.port = .b))).length),
                (0, 16, sat 16 (t.learn.filter (fun e => decide (e.port = .a))).length)]
  | _ => if 16 ≤ o ∧ o < 32 then portView s a .a (o - 16) else if 32 ≤ o ∧ o < 48 then portView s a .b (o - 32) else 0

end Sys2Proof.Machine
end

