-- ==== Sys2Proof/Machine/Graft.lean ====
section
/-! DEFINITION. Graft transfer, verification and activation, and the UPD registers (R342–R349, R353–R367, R371). -/

namespace Sys2Proof.Machine

/-! ### Chunks (R353) -/

/-- Chunk k is held. -/
def held (s : State) (k : Nat) : Bool := s.upd.bitmap.getLsbD k
/-- The manifest of the Graft area. -/
def graftMan (s : State) : List Byte := manifest s s.upd.area
/-- Chunks of the manifest, once chunk 0 is held. -/
def ownChunks (s : State) : Nat := manOwn (graftMan s)
/-- Every manifest chunk is held. -/
def manifestHeld (s : State) : Bool := held s 0 && (List.range (ownChunks s)).all (held s)
/-- Chunks held from chunk 0 without a gap (R354). -/
def prefixFrom (s : State) : Nat → Nat → Nat
  | 0, k => k
  | n + 1, k => if held s k then prefixFrom s n (k + 1) else k
/-- The prefix held. -/
def heldPrefix (s : State) : Nat := prefixFrom s s.upd.total 0
/-- Every chunk is held. -/
def allHeld (s : State) : Bool := decide (0 < s.upd.total) && decide (heldPrefix s = s.upd.total)
/-- The descriptor whose body holds chunk k. -/
def bodyOf (s : State) (k : Nat) : Option Desc :=
  (descs (graftMan s)).find? (fun d => decide (d.first ≤ k ∧ k < d.first + ceilDiv d.len 256))
/-- The page of chunk k in the Graft area, with the chunks of its region that share its sector. -/
def pageOf (s : State) (k : Nat) : Option (Nat × List Nat) :=
  if k < ownChunks s ∨ k = 0 then some (manifestAt + 256 * k, List.range (max 1 (ownChunks s)))
  else (bodyOf s k).map (fun d =>
    let j := k - d.first
    (regionAt d.kind + 256 * j,
     ((List.range 16).map (fun i => d.first + j / 16 * 16 + i)).filter (fun c => decide (c < d.first + ceilDiv d.len 256))))
/-- Why a chunk cannot be stored now: RESULT of UPD_CMDSTAT, 0 none. -/
def chunkRefusal (s : State) (k : Nat) : Nat :=
  if s.upd.state ≠ .receiving then 3
  else if s.upd.total ≤ k ∨ (k ≠ 0 ∧ held s 0 = false) ∨ (k ≠ 0 ∧ ownChunks s ≤ k ∧ s.upd.formOk = false) then 5
  else 0
/-- Put a chunk on its page under the bitmap rule. -/
def putChunk (k : Nat) (bytes : List Byte) (s : State) : State :=
  if held s k then s
  else match pageOf s k with
    | none => s
    | some (o, shared) =>
      let b := s.upd.area
      let s :=
        if shared.all (fun c => !held s c) then sectorErase b (o / 4096) s
        else if pageBlank s b o then s
        else
          let s := sectorErase b (o / 4096) s
          shared.foldl (fun t c => if held t c then putChunkBit c false t else t)
            { s with upd := { s.upd with reErase := satInc 255 s.upd.reErase } }
      putChunkBit k true (flashPut b o (bytes.take 256) s)
/-- The last chunk held makes the Graft COMPLETE (Table 13-5). -/
def tidyHeld (s : State) : State :=
  if s.upd.state = .receiving ∧ s.upd.formOk = true ∧ allHeld s = true then
    saveState { s with upd := { s.upd with state := .complete } }
  else s
/-- Store one chunk. -/
def storeOne (k : Nat) (bytes : List Byte) (s : State) : State := tidyHeld (putChunk k bytes s)
/-- The Graft is refused: its bitmap is cleared (Table 13-5). -/
def refuseGraft (reason kind : Nat) (s : State) : State :=
  saveState (clearBitmap { s with upd := { s.upd with state := .refused, reason := reason, kind := kind, window := none, want := none } })
/-- MANIFEST_COMPLETE: the form check of R345. -/
def execManifestComplete (s : State) : Host.Outcome State Fault Refusal :=
  act s (fun s =>
    if s.upd.state ≠ .receiving ∨ s.upd.formOk = true ∨ manifestHeld s = false then s
    else
      let r := formCheck (graftMan s)
      if r ≠ 0 then refuseGraft r 0 s
      else tidyHeld (saveState { s with upd := { s.upd with formOk := true, total := manChunks (graftMan s) } }))

/-! ### Adoption and requests (R349, R355) -/

/-- The module may adopt an offered Graft of another ID (R349, R361). -/
def mayAdopt (s : State) (gid : BitVec 64) (release : Nat) : Bool :=
  decide (s.upd.state ≠ .activating) && !s.fls.trial &&
    (decide (s.upd.state = .none) || (decide (gid ≠ s.upd.gid) && decide (s.upd.release < release)))
/-- A new Graft begins in the inactive bank: bitmap opened for its ID. -/
def startGraft (gid : BitVec 64) (release total : Nat) (s : State) : State :=
  let s := clearBitmap s
  saveState (saveGraftHeader { s with upd := { s.upd with
    state := .receiving, bound := false, area := inactive s, gid := gid, total := total, release := release, formOk := false, reason := 0,
    kind := 0, phase := if s.upd.phase = .scheduled then .idle else s.upd.phase, mismatch := 0, want := none, window := none } })
/-- Send a Graft frame to a tap. -/
def graftSend (p : TrlPort) (prio dest typ : Nat) (body : List Byte) (s : State) : State :=
  enqueue p (ownFrame s prio false dest typ body) none s
/-- The lowest missing chunk that may be asked for: manifest chunks only until the form check has passed. -/
def lowestMissing (s : State) : Nat := heldPrefix s
/-- A bound above which no chunk is asked for. -/
def wantBound (s : State) : Nat :=
  if s.upd.formOk then s.upd.total else if held s 0 then min s.upd.total (ownChunks s) else 1
/-- The tap holds chunk k by its offer. -/
def offers (s : State) (k : Nat) (o : Offer) : Bool := decide (o.gid = s.upd.gid) && (o.whole || decide (k < o.held))
/-- An offer is a better one to ask: complete, else of the larger prefix. -/
def betterOffer (x y : Offer) : Bool := if x.whole = y.whole then decide (x.held < y.held) else y.whole
/-- The supplier to ask: a complete one first, else the one of the largest prefix. -/
def supplier (s : State) : Option Offer :=
  match s.upd.offers.filter (offers s (lowestMissing s)) with
  | [] => none
  | x :: r => some (r.foldl (fun m y => if betterOffer m y then y else m) x)
/-- Missing chunks in a row from k, at most `n`, that the supplier holds. -/
def missingRun (s : State) (o : Offer) (bound : Nat) : Nat → Nat → Nat
  | 0, _ => 0
  | n + 1, k => if k < bound && !held s k && offers s k o then missingRun s o bound n (k + 1) + 1 else 0
/-- Ask the supplier for the lowest missing chunks; one GRAFT_WANT is outstanding. -/
def sendWant (s : State) : State :=
  if s.upd.state ≠ .receiving then { s with upd := { s.upd with want := none } }
  else match supplier s with
    | none => { s with upd := { s.upd with want := none } }
    | some o =>
      let k := lowestMissing s
      let n := missingRun s o (wantBound s) 6 k
      if n = 0 then { s with upd := { s.upd with want := none } }
      else
        graftSend o.port 6 o.src 0x11 (le 8 s.upd.gid.toNat ++ le 2 k ++ le 1 n ++ le 13 0)
          { s with upd := { s.upd with want := some (o.port, o.src, k, n) } }
/-- Another Graft frame from the tap of an open window discards the window (R356). -/
def dropWindow (src : Nat) (s : State) : State :=
  match s.upd.window with
  | none => s
  | some w =>
    if w.src = src then { s with upd := { s.upd with window := none, badWindows := satInc 255 s.upd.badWindows } } else s
/-- GRAFT_OFFER. -/
def heardOffer (p : TrlPort) (src : Nat) (o : GraftOffer) (s : State) : State :=
  let s := dropWindow src s
  let x : Offer := { port := p, src := src, gid := o.gid, total := o.total, held := o.prefix_, whole := o.complete }
  let s : State := { s with upd := { s.upd with offers := x :: s.upd.offers.filter (fun y => !decide (y.port = p ∧ y.src = src)) } }
  let s := if (0 < o.prefix_ ∨ o.complete = true) ∧ mayAdopt s o.gid o.release = true then startGraft o.gid o.release o.total s else s
  if s.upd.want = none ∧ s.upd.window = none then sendWant s else s
/-- GRAFT_OFFER. -/
def execGraftOffer (via : Via) (src : Nat) (o : GraftOffer) (s : State) : Host.Outcome State Fault Refusal :=
  act s (consume via src (heardOffer via.port src o))
/-- Chunk k as it stands in the Graft area. -/
def chunkBytes (s : State) (k : Nat) : List Byte :=
  match pageOf s k with
  | none => []
  | some (o, _) => flashBytes s s.upd.area o 256
/-- Chunks held in a row from k, at most n. -/
def heldRun (s : State) : Nat → Nat → Nat
  | 0, _ => 0
  | n + 1, k => if held s k then heldRun s n (k + 1) + 1 else 0
/-- The module offers and serves its Graft: it holds one that is not REFUSED. -/
def serves (s : State) : Bool := decide (s.upd.state ≠ .none ∧ s.upd.state ≠ .refused)
/-- GRAFT_WANT: the leading part of the range that is held, as a window and its chunks. -/
def heardWant (p : TrlPort) (src : Nat) (gid : BitVec 64) (first count : Nat) (s : State) : State :=
  let s := dropWindow src s
  if !serves s || decide (gid ≠ s.upd.gid) then s
  else
    let n := heldRun s (min 6 count) first
    let cs := (List.range n).map (fun i => chunkBytes s (first + i))
    let s := graftSend p 7 src 0x12 (le 8 gid.toNat ++ le 2 first ++ le 1 n ++ le 1 0 ++ wordBytes (fcrcBytes cs.flatten) ++ le 8 0) s
    let s := cs.foldl (fun t c => graftSend p 7 src 0x13 c t) s
    { s with upd := { s.upd with served := satAdd 65535 s.upd.served n } }
/-- GRAFT_WANT. -/
def execGraftWant (via : Via) (src : Nat) (gid : BitVec 64) (first count : Nat) (s : State) : Host.Outcome State Fault Refusal :=
  act s (consume via src (heardWant via.port src gid first count))
/-- GRAFT_WINDOW: the answer to the outstanding GRAFT_WANT opens a window; one of no chunks ends it. -/
def heardWindow (p : TrlPort) (src : Nat) (w : GraftWin) (s : State) : State :=
  let s := dropWindow src s
  match s.upd.want with
  | none => s
  | some (q, from_, k, _) =>
    if q ≠ p ∨ from_ ≠ src ∨ w.gid ≠ s.upd.gid ∨ w.first ≠ k then s
    else if w.count = 0 then { s with upd := { s.upd with want := none } }
    else { s with upd := { s.upd with window := some { port := p, src := src, first := w.first, count := w.count, crc := w.crc, got := [] } } }
/-- GRAFT_WINDOW. -/
def execGraftWindow (via : Via) (src : Nat) (w : GraftWin) (s : State) : Host.Outcome State Fault Refusal :=
  act s (consume via src (heardWindow via.port src w))
/-- GRAFT_CHUNK: the next chunk of the open window of that tap. -/
def heardChunk (p : TrlPort) (src : Nat) (bytes : List Byte) (s : State) : State :=
  match s.upd.window with
  | none => s
  | some w =>
    if w.src = src ∧ w.port = p ∧ w.got.length < w.count then
      { s with upd := { s.upd with window := some { w with got := w.got ++ [bytes] } } }
    else dropWindow src s
/-- GRAFT_CHUNK. -/
def execGraftChunk (via : Via) (src : Nat) (bytes : List Byte) (s : State) : Host.Outcome State Fault Refusal :=
  act s (consume via src (heardChunk via.port src bytes))
/-- Store the chunks of a window in order; one that cannot be stored is dropped. -/
def storeWindow : List (List Byte) → Nat → State → State
  | [], _, s => s
  | c :: cs, k, s => storeWindow cs (k + 1) (if chunkRefusal s k = 0 then storeOne k c s else s)
/-- GRAFT_WINDOW_COMPLETE: the CRC of the window decides. -/
def execGraftWindowComplete (s : State) : Host.Outcome State Fault Refusal :=
  act s (fun s =>
    match s.upd.window with
    | none => s
    | some w =>
      if w.got.length ≠ w.count then s
      else
        let s : State := { s with upd := { s.upd with window := none } }
        if fcrcBytes w.got.flatten = w.crc then sendWant (storeWindow w.got w.first { s with upd := { s.upd with want := none } })
        else { s with upd := { s.upd with badWindows := satInc 255 s.upd.badWindows } })
/-- GRAFT_WINDOW_TIMEOUT: 20 ms. -/
def execGraftWindowTimeout (s : State) : Host.Outcome State Fault Refusal :=
  act s (fun s =>
    match s.upd.window with
    | none => s
    | some _ => { s with upd := { s.upd with window := none, badWindows := satInc 255 s.upd.badWindows } })
/-- Offer the Graft on one port, unless the tap there has offered the same one as complete. -/
def offerTo (p : TrlPort) (s : State) : State :=
  let x := s.port p
  let has := s.upd.offers.any (fun o => decide (o.port = p ∧ o.src = x.peer ∧ o.gid = s.upd.gid) && o.whole)
  if !x.hasPeer || has then s
  else
    let whole := decide (s.upd.state ≠ .receiving)
    let sound := decide (s.upd.state ≠ .receiving ∧ s.upd.state ≠ .complete)
    graftSend p 6 x.peer 0x10 (le 8 s.upd.gid.toNat ++ le 4 s.upd.release ++ le 2 s.upd.total ++ le 2 (heldPrefix s) ++
      le 1 (whole.toNat + 2 * sound.toNat) ++ le 7 0) s
/-- GRAFT_OFFER_SEND. -/
def execGraftOfferSend (s : State) : Host.Outcome State Fault Refusal :=
  act s (fun s => if serves s && decide (s.upd.bitmap ≠ 0) then offerTo .b (offerTo .a s) else s)
/-- GRAFT_WANT_REPEAT: 100 ms without a complete window. -/
def execGraftWantRepeat (s : State) : Host.Outcome State Fault Refusal :=
  act s (fun s => if s.upd.state = .receiving then sendWant s else s)

/-! ### Chunks by register (R357) -/

/-- Result of UPD_CMD. -/
def updRes (code result : Nat) (s : State) : State := { s with upd := { s.upd with cmd := cmdRes code result } }
/-- UPD_HX_IDX. -/
def hxIdxWrite (a : Agent) (d : Word) (s : State) : State := s.modAgent a (fun r => { r with hxIdx := field d 0 16, hxWord := 0 })
/-- UPD_HX_IDX_WRITE. -/
def execUpdHxIdxWrite (by_ : Agent) (data : Word) (s : State) : Host.Outcome State Fault Refusal := act s (hxIdxWrite by_ data)
/-- UPD_HX_DATA. -/
def hxDataWrite (a : Agent) (d : Word) (s : State) : State :=
  s.modAgent a (fun r => { r with hxBuf := memPutWord 0 r.hxBuf (4 * r.hxWord) d, hxWord := (r.hxWord + 1) % 64 })
/-- UPD_HX_DATA_WRITE. -/
def execUpdHxDataWrite (by_ : Agent) (data : Word) (s : State) : Host.Outcome State Fault Refusal := act s (hxDataWrite by_ data)
/-- UPD_CMD STORE_CHUNK. -/
def updStore (a : Agent) (s : State) : State :=
  let k := (s.agent a).hxIdx
  let bytes := memReadList 0 (s.agent a).hxBuf 0 256
  let gid := BitVec.ofNat 64 (uAt bytes 8 8)
  if s.upd.state = .activating ∨ s.fls.trial = true then updRes 1 3 s
  else if k = 0 ∧ (s.upd.state = .none ∨ gid ≠ s.upd.gid) then
    if mayAdopt s gid (uAt bytes 16 4) then
      updRes 1 0 (storeOne 0 bytes (startGraft gid (uAt bytes 16 4) (uAt bytes 28 2) s))
    else updRes 1 5 s
  else
    let r := chunkRefusal s k
    if r ≠ 0 then updRes 1 r s else updRes 1 0 (storeOne k bytes s)
/-- STORE_CHUNK. -/
def execStoreChunk (by_ : Agent) (s : State) : Host.Outcome State Fault Refusal := act s (updStore by_)

/-! ### Verification (R346, R347, R423, R424) -/

/-- The chunks of an image are fetched again. -/
def refetch (kind : Nat) (s : State) : State :=
  match descOf (graftMan s) kind with
  | none => s
  | some d => (List.range (ceilDiv d.len 256)).foldl (fun t i => putChunkBit (d.first + i) false t) s
/-- The outcome of a verification. -/
def verified (s : State) : State :=
  let v := verifyGraft s s.upd.area
  if v.1 = 0 then
    let b := boundTo s (graftMan s)
    saveState { s with upd := { s.upd with state := if b then .verified else .carried, bound := b, reason := 0, kind := 0 } }
  else if v.1 = 6 ∧ s.upd.mismatch.getLsbD (v.2 - 1) = false then
    sendWant (saveState (refetch v.2 { s with upd := { s.upd with state := .receiving, mismatch := putBit s.upd.mismatch (v.2 - 1) true } }))
  else raise 233 v.1 (refuseGraft v.1 v.2 s)
/-- GRAFT_VERIFY: waits for the generator and for a context slot (R369, R423). -/
def execGraftVerify (s : State) : Host.Outcome State Fault Refusal :=
  act s (fun s =>
    if s.upd.state ≠ .complete ∨ s.cry.rng = .notReady then s
    else
      let r := acquire 2 s
      if r.1 then
        let s := if r.2.cry.rng = .failed then { r.2 with lcs := { r.2.lcs with unblinded := true } } else r.2
        verified (releaseSlot 2 s)
      else r.2)
/-- UPD_CMD DISCARD: refused while an activation runs, but for one that has stalled (R348, R362, R364). -/
def updDiscard (s : State) : State :=
  if s.upd.state = .none ∨ (s.upd.state = .activating ∧ s.upd.reason ≠ 0x23) then updRes 2 3 s
  else
    let s := clearBitmap s
    updRes 2 0 (saveState (saveActivation { s with upd := { s.upd with
      state := .none, bound := false, formOk := false, gid := 0, total := 0, release := 0, window := none, want := none, cell := 0,
      phase := if s.upd.state = .activating ∨ s.upd.phase = .scheduled then .ended else s.upd.phase } }))
/-- DISCARD. -/
def execDiscard (s : State) : Host.Outcome State Fault Refusal := act s updDiscard

/-! ### Compatibility (R359) -/

/-- Vintage and accepted ranges of a main image. -/
structure MainRange where
  vin : Nat
  ucLo : Nat
  ucHi : Nat
  strLo : Nat
  strHi : Nat
  deriving DecidableEq, Repr

/-- The main image that will run: the Graft's, else the running one; none when that is absent or invalid. -/
def mainAfter (s : State) : Option MainRange :=
  match descOf (graftMan s) 1 with
  | some d => some { vin := d.vintage, ucLo := d.aLo, ucHi := d.aHi, strLo := d.bLo, strHi := d.bHi }
  | none =>
    let b := s.fls.active
    if mainCheck s ≠ 0 then none
    else some { vin := mainVin s b, ucLo := flashNum s b 6 2, ucHi := flashNum s b 8 2, strLo := flashNum s b 10 2, strHi := flashNum s b 12 2 }
/-- A partner of vintage v that accepts main images lo to hi, and the main image, accept each other. -/
def ucPair (m : MainRange) (v lo hi : Nat) : Bool := decide (m.ucLo ≤ v ∧ v ≤ m.ucHi ∧ lo ≤ m.vin ∧ m.vin ≤ hi)
/-- The same for a structure image. -/
def strPair (m : MainRange) (v lo hi : Nat) : Bool := decide (m.strLo ≤ v ∧ v ≤ m.strHi ∧ lo ≤ m.vin ∧ m.vin ≤ hi)
/-- The pairs of R359. A repair or commissioning activation does not judge the slots that the Graft's microcode
replaces (R366, R367). -/
def compatible (s : State) : Bool :=
  match mainAfter s with
  | none => s.upd.repair
  | some m =>
    let d (k : Nat) : Option Desc := descOf (graftMan s) k
    let slots := (s.upd.repair && (d 2).isSome) || (fittedCells s).all (fun n =>
      let x := s.cell n
      let u := slotOf x x.activeSlot
      !activeSlotOk x || ucPair m (slotNum u 4 2) (slotNum u 6 2) (slotNum u 8 2))
    let im (x : Option Image) : Bool := match x with | none => true | some im => strPair m (imVintage im) (imMainLo im) (imMainHi im)
    slots && (match d 2 with | none => true | some c => ucPair m c.vintage c.aLo c.aHi) &&
      im (storeIm s) && im (lastGood s) && (match d 3 with | none => true | some c => strPair m c.vintage c.aLo c.aHi)

/-! ### Activation (Table 13-8) -/

/-- Save what a phase change leaves in the Cellar. -/
def saveAct (s : State) : State := saveState (saveActivation s)
/-- The Graft area becomes the active bank (R350). -/
def swapBank (trial : Bool) (s : State) : State :=
  saveBank { s with fls := { s.fls with previous := s.fls.active, active := s.upd.area, trial := trial } }
/-- A repair activation returns to HELD; a commissioning activation powers down under control (R366, R367). -/
def finishRepair (s : State) : State :=
  let s := endActivation .active .done 0 s
  if s.limp.power then limpEntry 6 3 0 s
  else
    let s := flushQueue (queueRecord 3 0 0 0 (pack [(0, 8, 3)]) true false s)
    { coldState s with powered := false }
/-- STRUCTURE, or the end without one. -/
def enterStructure (s : State) : State :=
  if (descOf (graftMan s) 3).isSome then saveAct { s with upd := { s.upd with phase := .structure_, newSlot := none, cell := 0 } }
  else if s.upd.repair then finishRepair s
  else endActivation .active .done 0 s
/-- MAIN of a repair: the bank record alone. -/
def repairMain (s : State) : State :=
  if (descOf (graftMan s) 1).isSome then
    enterStructure (swapBank false { s with upd := { s.upd with phase := .main } })
  else enterStructure s
/-- CELLS, or what follows it. -/
def enterCells (s : State) : State :=
  if (descOf (graftMan s) 2).isSome then
    saveAct { s with upd := { s.upd with phase := .cells, done := 0, skipped := 0, cell := 0, waitAt := Vector.replicate 7 0 } }
  else if s.upd.repair then repairMain s
  else enterStructure s
/-- MAIN: the bank record names the Graft area, LIMP cause 6. -/
def enterMain (s : State) : State :=
  if s.upd.repair then enterCells s
  else if (descOf (graftMan s) 1).isSome then
    limpEntry 6 3 0 (saveAct (swapBank true { s with upd := { s.upd with phase := .main } }))
  else enterCells s
/-- A partner's last STATUS shows LIMP (R365). -/
def partnerInLimp (s : State) : Bool := four.any (fun i => (s.peerI i).partnerLimp)
/-- The activation is refused and changes nothing: the Graft is VERIFIED as before. -/
def refuseActivation (reason : Nat) (s : State) : State :=
  { s with upd := { s.upd with state := .verified, phase := .idle, reason := reason, kind := 0, repair := false,
                               cmd := cmdAnswer s.upd.cmd 4 } }
/-- Step 2: compatibility, then the peer guard. -/
def activationGuard (s : State) : State :=
  if !compatible s then refuseActivation 0x20 s
  else if partnerInLimp s && !s.upd.repair then
    { s with upd := { s.upd with phase := .guard, guardAt := s.now, cmd := cmdAnswer s.upd.cmd 1 } }
  else enterMain { s with upd := { s.upd with phase := .guard, cmd := cmdAnswer s.upd.cmd 0 } }
/-- Step 1: the activation begins. -/
def beginActivation (repair : Bool) (s : State) : State :=
  activationGuard { s with upd := { s.upd with state := .activating, phase := .guard, done := 0, skipped := 0, cell := 0, pendingFrame := false,
                                               repair := repair, newSlot := none, reason := 0, kind := 0 } }
/-- UPD_CMD ACTIVATE. -/
def updActivate (s : State) : State :=
  if !(working s.sys.mode || limpIdle s) || s.eis.shipRun then updRes 3 2 s
  else if s.upd.state ≠ .verified then updRes 3 3 s
  else beginActivation (limpIdle s) (updRes 3 0 s)
/-- ACTIVATE. -/
def execActivate (s : State) : Host.Outcome State Fault Refusal := act s updActivate
/-- The Trellis time of ACTIVATE_AT. -/
def activateTime (s : State) : Nat := s.upd.atLo.toNat + s.upd.atHi.toNat * 2 ^ 32
/-- UPD_CMD ACTIVATE_AT: 100 ms to 24 h ahead of a locked time base. -/
def updActivateAt (s : State) : State :=
  if !working s.sys.mode ∨ s.eis.shipRun then updRes 4 2 s
  else if s.upd.state ≠ .verified then updRes 4 3 s
  else if s.trl.locked = false ∨ trlUntil s (activateTime s) < 100000 ∨ 86400000000 < trlUntil s (activateTime s) then updRes 4 6 s
  else updRes 4 0 (saveActivation { s with upd := { s.upd with phase := .scheduled } })
/-- ACTIVATE_AT. -/
def execActivateAt (s : State) : Host.Outcome State Fault Refusal := act s updActivateAt
/-- UPD_CMD CANCEL_ACT. -/
def updCancel (s : State) : State :=
  if s.upd.phase ≠ .scheduled then updRes 5 3 s
  else updRes 5 0 (saveActivation { s with upd := { s.upd with phase := .idle } })
/-- CANCEL_ACT. -/
def execCancelAct (s : State) : Host.Outcome State Fault Refusal := act s updCancel
/-- ACTIVATION_TIME_REACHED. -/
def execActivationTimeReached (s : State) : Host.Outcome State Fault Refusal :=
  act s (fun s =>
    if s.upd.phase = .scheduled ∧ s.upd.state = .verified ∧ working s.sys.mode = true then beginActivation false s else s)
/-- PEER_GUARD_RECHECK: every second; after 60 s the activation is refused. -/
def execPeerGuardRecheck (s : State) : Host.Outcome State Fault Refusal :=
  act s (fun s =>
    if s.upd.state ≠ .activating ∨ s.upd.phase ≠ .guard ∨ working s.sys.mode = false then s
    else if partnerInLimp s then
      (if s.upd.guardAt + 60 * oneSec ≤ s.now then refuseActivation 0x21 s else s)
    else enterMain { s with upd := { s.upd with cmd := cmdAnswer s.upd.cmd 0 } })
/-- TRIAL_END: 60 s of the new main image in a working mode. -/
def execTrialEnd (s : State) : Host.Outcome State Fault Refusal :=
  act s (fun s =>
    if s.fls.trial && s.upd.trialBy && working s.sys.mode then
      enterCells { s with fls := { s.fls with trial := false }, upd := { s.upd with trialBy := false } }
    else s)

/-! ### CELLS (R362, R366) -/

/-- Where the phase runs: a working mode, or ROM for a repair and ROM or LOCKED without power for commissioning. -/
def actMode (s : State) : Bool :=
  if s.upd.repair then decide (s.sys.mode = .limp) && (decide (s.sys.sub = .rom) || limpIdle s) else working s.sys.mode
/-- Mark a cell done. -/
def cellDone (n : Nat) (s : State) : State :=
  saveActivation { s with upd := { s.upd with done := putBit s.upd.done (n - 1) true, cell := 0 } }
/-- The cell's active slot holds the Graft's microcode. -/
def cellHasNew (s : State) (n : Nat) : Bool :=
  let x := s.cell n
  activeSlotOk x && decide (memReadList ff (slotOf x x.activeSlot) 0 28 = ((graftUc s).getD []).take 28)
/-- A cell of the phase that can be out of its cordon now. -/
def cellMayGo (s : State) (n : Nat) : Bool :=
  decide ((s.cell n).state = .ready ∨ (s.cell n).state = .standby ∨ (s.cell n).state = .run) && !runOnCordon s n &&
    (mayLeave s n || limpIdle s)
/-- FAILED cells are skipped and marked done. -/
def skipFailed (s : State) : State :=
  (fittedCells s).foldl (fun t n =>
    if (t.cell n).state = .failed ∧ t.upd.done.getLsbD (n - 1) = false then
      cellDone n { t with upd := { t.upd with skipped := putBit t.upd.skipped (n - 1) true } }
    else t) s
/-- The cells that wait are stamped. -/
def stampWait (ns : List Nat) (s : State) : State :=
  ns.foldl (fun t n => { t with upd := { t.upd with waitAt := bankMod t.upd.waitAt n (fun w => if w = 0 then max 1 t.now else w) } }) s
/-- One commit tick of the phase: the cell in update is done when it runs from its new slot's contents; then the first
cell that may leave is updated and those before it wait; when every cell is done the phase ends. -/
def cellStep (s : State) : State :=
  let c := s.upd.cell
  let s := if c ≠ 0 ∧ cellHasNew s c = true ∧ (s.cell c).state ≠ .update then cellDone c s else s
  if s.upd.cell ≠ 0 ∧ ((s.cell c).state = .update ∨ (s.cell c).state = .training) then s
  else
    let s := skipFailed { s with upd := { s.upd with cell := 0 } }
    let left := (fittedCells s).filter (fun n => !s.upd.done.getLsbD (n - 1))
    if left = [] then (if s.upd.repair then repairMain s else enterStructure s)
    else
      let wait := left.takeWhile (fun n => !cellMayGo s n)
      let s := stampWait wait s
      match left.find? (cellMayGo s), graftUc s with
      | some n, some bs =>
        (leaveFor n .update { s with upd := { s.upd with cell := n, waitAt := bankPut s.upd.waitAt n 0 } }).modCell n (putUc bs)
      | _, _ => s
/-- ACTIVATION_CELL_STEP. -/
def execActivationCellStep (s : State) : Host.Outcome State Fault Refusal :=
  act s (fun s => if s.upd.state = .activating ∧ s.upd.phase = .cells ∧ actMode s = true then cellStep s else s)
/-- ACT_STALLED: a cell has waited 24 h. -/
def execActStalled (cell : Nat) (s : State) : Host.Outcome State Fault Refusal :=
  act s (fun s =>
    if s.upd.state = .activating ∧ s.upd.phase = .cells ∧ bankGet 0 s.upd.waitAt cell ≠ 0 then
      raise 235 cell { s with upd := { s.upd with reason := 0x23 } }
    else s)

/-! ### STRUCTURE (R352, R363) -/

/-- The structure image of the Graft, from its staging region. -/
def graftStr (s : State) : Image :=
  match descOf (graftMan s) 3 with
  | none => []
  | some d => flashBytes s s.upd.area (regionAt 3) d.len
/-- The store slot is written once, in the inactive bank. -/
def writeStore (s : State) : State :=
  match s.upd.newSlot with
  | some _ => s
  | none =>
    let x := freeStore s
    saveActivation (storeWrite x (graftStr s) { s with upd := { s.upd with newSlot := some x } })
/-- The update sequencer stages the store through the main image's interface and has it checked and committed. -/
def stageStructure (s : State) : State :=
  if s.stg.state ≠ .empty then s
  else
    let s := stgOpen .mainImage s
    startCheck 2 .commit { s with stg := { s.stg with imgSrc := 2, bySeq := true } }
/-- ACTIVATION_STRUCTURE. -/
def execActivationStructure (s : State) : Host.Outcome State Fault Refusal :=
  act s (fun s =>
    if s.upd.state ≠ .activating ∨ s.upd.phase ≠ .structure_ ∨ actMode s = false then s
    else
      let s := writeStore s
      if s.upd.repair then finishRepair s else stageStructure s)
/-- REPAIR_ACTIVATION (R366): in ROM after a cell vintage mismatch, a Graft that clears it. -/
def execRepairActivation (s : State) : Host.Outcome State Fault Refusal :=
  act s (fun s =>
    if s.sys.mode = .limp ∧ s.sys.sub = .rom ∧ s.limp.power = true ∧ s.sys.vResult = 2 ∧ s.upd.state = .verified ∧ s.upd.bound = true ∧
        compatible { s with upd := { s.upd with repair := true } } = true then
      beginActivation true s
    else s)

/-! ### UPD registers (Table 13-9) -/

/-- UPD_CMD as written. -/
def updCmd (a : Agent) (w : Word) (s : State) : State :=
  match field w 8 8 with
  | 1 => updStore a s
  | 2 => updDiscard s
  | 3 => updActivate s
  | 4 => updActivateAt s
  | 5 => updCancel s
  | k => updRes k 7 s
/-- Vintage of a kind in the Graft; 0 absent. -/
def graftVin (s : State) (kind : Nat) : Nat :=
  if s.upd.formOk ∧ serves s = true then ((descOf (graftMan s) kind).map Desc.vintage).getD 0 else 0
/-- Registers of the UPD block at offset o from 0x2400, as agent a reads them. -/
def updView (s : State) (a : Agent) (o : Nat) : Word :=
  let u := s.upd
  let has (k : Nat) : Nat := (u.formOk && serves s && (descOf (graftMan s) k).isSome).toNat
  match o with
  | 0 => pack [(28, 4, u.state.code), (27, 1, u.bound.toNat), (26, 1, u.area), (18, 1, has 3), (17, 1, has 2), (16, 1, has 1),
               (0, 16, popCount u.bitmap)]
  | 1 => u.gid.setWidth 32
  | 2 => (u.gid >>> 32).setWidth 32
  | 3 => pack [(16, 16, u.total), (0, 16, heldPrefix s)]
  | 4 => BitVec.ofNat 32 u.release
  | 5 => pack [(24, 8, u.reason), (16, 8, u.kind)]
  | 7 => pack [(8, 8, u.cmd.code), (0, 8, u.cmd.result)]
  | 8 => pack [(16, 6, (s.agent a).hxWord), (0, 16, (s.agent a).hxIdx)]
  | 10 => pack [(28, 4, u.phase.code), (25, 3, u.cell), (18, 7, u.done.toNat), (17, 1, u.pendingFrame.toNat), (16, 1, u.repair.toNat),
                (0, 8, if u.trialBy then sat 8 (leftS s u.trialEnd) else 0)]
  | 11 => u.atLo
  | 12 => u.atHi.setWidth 32
  | 13 => pack [(16, 16, graftVin s 1), (0, 16, graftVin s 2)]
  | 14 => BitVec.ofNat 32 (graftVin s 3)
  | 15 => pack [(16, 16, u.served), (8, 8, u.badWindows), (0, 8, u.reErase)]
  | _ => 0

end Sys2Proof.Machine
end

