-- ==== Sys2Proof/Machine/Links.lean ====
section
/-! DEFINITION. Frames that a cell sends to the module: telemetry and events (R30, R33, R60–R63, R97, R210), and the CEL
registers. -/

namespace Sys2Proof.Machine

/-! ### TELEM (R33) -/

/-- The operating region for a port and a cask voltage in one unit (R44): a boundary is left once the ratio has passed it by 0.01. A cell
chooses in every switching period; the model follows it at every frame (log entry 87). -/
def regionOf (was : Option Region) (vPort vCask : Nat) : Option Region :=
  if vCask = 0 then was
  else
    let atMost (k : Nat) : Bool := decide (100 * vPort ≤ k * vCask)
    let atLeast (k : Nat) : Bool := decide (k * vCask ≤ 100 * vPort)
    match was with
    | none => if !atLeast 95 then some .buck else if atMost 105 then some .band else some .boost
    | some .buck => if atLeast 106 then some .boost else if atLeast 96 then some .band else some .buck
    | some .band => if atLeast 106 then some .boost else if atMost 94 then some .buck else some .band
    | some .boost => if atMost 94 then some .buck else if atMost 104 then some .band else some .boost
/-- What a telemetry frame puts into the CEL window; a gap in the sequence numbers counts dropped frames. -/
def takeTelem (f : Telem) (c : Cell) : Cell :=
  let lost := if c.valid then (f.seq + 65536 - c.seq - 1) % 65536 else 0
  refreshLimit (accountFrame { c with
    valid := true, seq := f.seq % 65536, dropped := satAdd 65535 c.dropped lost, vPort := f.vPort, vCask := f.vCask, iPort := f.iPort,
    pPort := (f.vPort : Int) * f.iPort / 10000, region := regionOf c.region f.vPort f.vCask, t1 := f.t1, t2 := f.t2, absorbed := f.absorbed, regulating := f.regulating })
/-- A consumer's PEER path becomes valid when its cells read the cable within 0.95 to 1.05 × V_C (R225). -/
def cableReading (n : Nat) (s : State) : State :=
  let c := servedCordon s n
  let i := peerOf s c
  let p := s.peerI i
  let v := (s.cell n).vPort
  if i ≠ 0 ∧ importing p ∧ 95 * p.vC ≤ 10 * v ∧ 10 * v ≤ 105 * p.vC then
    s.modSrc (srcOfCordon s c) (fun x => { x with band := .inside })
  else s
/-- TELEM. -/
def execTelem (cell : Nat) (f : Telem) (s : State) : Host.Outcome State Fault Refusal :=
  act s (fun s =>
    if (s.cell cell).link.trained = false then s
    else
      let s := s.modCell cell (fun c => takeTelem f (merjaGot typTelem c))
      let s := { s with orIn := { s.orIn with cask := f.vCask, ports := bankPut s.orIn.ports cell f.vPort } }
      let s := if s.pwr.path = .changeover then
          { s with pwr := { s.pwr with coVMin := if s.pwr.coVMin = 0 then f.vCask else min s.pwr.coVMin f.vCask } }
        else s
      coComplete (regenSample f.vCask (cableReading cell s)))

/-! ### EVENT (R30) -/

/-- Cells that must have reported before an overcurrent of cordon c is a port short: those that switch, those of the span
and those that tripped on overcurrent without a report yet (R63). -/
def shortNeed (s : State) (c : Nat) (m : BitVec 7) : List Nat :=
  seven.filter (fun n => decide (servedCordon s n = c) &&
    (activeIn s c n || m.getLsbD (n - 1) || (decide (Trip.oc ∈ (s.cell n).latched) && !(s.cell n).restart)))
/-- The span of R63 after a report of cell n: its start, the cells that reported, and those that had to when it began. A spare that
takes over within the span does not join them. -/
def ocSpanWith (s : State) (c n : Nat) : Nat × BitVec 7 × BitVec 7 :=
  let fresh : Nat × BitVec 7 × BitVec 7 :=
    (s.now, putBit 0 (n - 1) true, maskOf 7 (fun k => decide (k ∈ shortNeed s c (putBit 0 (n - 1) true))))
  match (s.cordon c).ocSpan with
  | some (t, m, need) => if s.now < t + 10 then (t, putBit m (n - 1) true, need) else fresh
  | none => fresh
/-- The overcurrent of cordon c's cells in mask m is a port short. -/
def portShort (c : Nat) (m : BitVec 7) (s : State) : State :=
  let s := s.modCells (maskList m) (fun _ x => { x with trip := putBit x.trip 9 true, portShort := true, ocTimes := x.ocTimes.drop 1 })
  let s := s.modCordon c (fun k => { k with ocSpan := none, shortTimes := s.now :: k.shortTimes.filter (within s oneMin) })
  if 4 ≤ (s.cordon c).shortTimes.length then stopCordon c 1 s else s
/-- An overcurrent trip reported by cell n (R63): counted, a restart due, and judged. -/
def ocReport (n : Nat) (s : State) : State :=
  let c := servedCordon s n
  let s := s.modCell n (fun x => { x with ocTimes := s.now :: x.ocTimes.filter (within s oneMin), restart := true, portShort := false })
  let sp := ocSpanWith s c n
  let s := s.modCordon c (fun k => { k with ocSpan := some sp })
  if sp.2.2 &&& ~~~sp.2.1 = 0 then portShort c sp.2.1 s else loseCell n s
/-- One protection of an EVENT frame reaches the module. -/
def tripReport (n : Nat) (t : Trip) (s : State) : State :=
  let s := s.modCell n (fun x => { x with trip := putBit x.trip (tripBit t) true })
  match t with
  | .oc => ocReport n s
  | .caskOv => caskOvEvent s
  | .desat | .uvlo => loseCell n s
  | .commitMissed => loseCell n (s.modCell n (fun x => { x with removed := true }))
  | _ => s
/-- The protections of an EVENT frame; tests of the cordon's cells abort, and its trip routes trigger (R71, R245). -/
def tripsReport (n : Nat) (ts : List Trip) (s : State) : State :=
  let c := servedCordon s n
  let s := ts.foldl (fun u t => tripReport n t u) s
  if ts = [] then s else fireSource (0x40 + c) (abortTestsOf c s)
/-- ENGAGED: the first event names the trigger of the changeover (PWR_CO.TRIGGER). -/
def engagedReport (n : Nat) (b : EngageBy) (s : State) : State :=
  let k := match b with | .setFrame => 1 | .crossing => 2
  let s := if s.pwr.path = .changeover ∧ s.pwr.coTrigger = 0 then { s with pwr := { s.pwr with coTrigger := k } } else s
  fireSource (0x30 + servedCordon s n) s
/-- EVENT. -/
def execEvent (cell : Nat) (e : CellEvent) (s : State) : Host.Outcome State Fault Refusal :=
  act s (fun s =>
    if (s.cell cell).link.trained = false then s
    else
      let c := servedCordon s cell
      let s := s.modCell cell (merjaGot typEvent)
      match e with
      | .trips ts => tripsReport cell ts s
      | .commitMissed => tripsReport cell [.commitMissed] s
      | .crossing b => if srcOfCordon s c = 0 then s else reportBand (srcOfCordon s c) b s
      | .engaged b => engagedReport cell b s
      | .regenOn => regenOn s
      | .regenOff => regenTidy s
      | .portMax _ => portMaxSeen c s)

/-! ### CEL registers (Tables 2-15 to 2-17) -/

/-- State code of a microcode slot, active slot included. -/
def slotShown (c : Cell) (k : Nat) : Nat :=
  let n := slotCode (slotOf c k)
  if n = 2 ∧ c.activeSlot = k then 3 else n
/-- CEL common registers at offset o from 0x4000. -/
def celCommon (s : State) (o : Nat) : Word :=
  match o with
  | 0 => pack [(16, 7, (maskOf 7 (fun n => cellFitted s n && decide ((s.cell n).state = .failed))).toNat),
               (8, 7, (maskOf 7 (fun n => cellFitted s n && (s.cell n).link.trained)).toNat), (0, 7, (fittedMask s).toNat)]
  | 2 => pack [(8, 8, s.cel.cmd.code), (0, 8, s.cel.cmd.result)]
  | 3 => pack [(24, 8, s.cel.count), (20, 3, s.cel.spare), (16, 3, s.cel.replaced), (0, 16, s.cel.duration)]
  | _ => 0
/-- CEL_ST.AGE_H. Before any test has completed the manual gives no age: the model shows 0 without a result and counts from the cold
reset once a test has aborted (log entry 63). -/
def ageH (s : State) (t : SelfTest) : Nat := if t.result = 0 then 0 else sat 16 ((s.now - t.doneAt) / 3600000000)
/-- Register at offset o of the CEL window of cell n. -/
def celWindow (s : State) (n o : Nat) : Word :=
  let c := s.cell n
  match o with
  | 0 => pack [(28, 4, c.state.code), (25, 3, cellModeCode c.mode), (22, 2, c.uc), (19, 3, c.freq), (16, 3, c.cordon), (12, 4, c.phaseK),
               (8, 4, c.phaseN), (4, 4, c.limitReason), (3, 1, c.overRated.toNat), (0, 1, c.valid.toNat)]
  | 1 => pack [(16, 16, c.dropped), (0, 16, c.seq)]
  | 2 => pack [(0, 16, sat 16 c.vPort)]
  | 3 => pack [(0, 16, sat 16 c.vCask)]
  | 4 => BitVec.ofInt 32 c.iPort
  | 5 => BitVec.ofInt 32 c.pPort
  | 6 => pack [(16, 16, twos 16 c.t2), (0, 16, twos 16 c.t1)]
  | 7 => c.trip.setWidth 32
  | 8 => pack [(24, 8, c.cntOc), (16, 8, c.cntPortOv), (8, 8, c.cntCaskOv), (4, 4, c.cntOt),
               (0, 4, sat 4 (c.ocTimes.filter (within s oneMin)).length)]
  | 9 => pack [(16, 16, sat 16 (c.iLim / 10)), (0, 16, sat 16 c.pLim)]
  | 10 => pack [(0, 14, c.ovld / 900)]
  | 11 => pack [(24, 8, sat 8 c.st.aborts), (16, 8, c.st.result), (0, 16, ageH s c.st)]
  | 12 => c.st.addr
  | 13 => pack [(28, 4, slotShown c 1), (24, 4, slotShown c 2), (0, 16, c.baseVintage)]
  | 14 => pack [(16, 16, if slotShown c 2 = 0 then 0 else slotNum c.slotB 4 2), (0, 16, if slotShown c 1 = 0 then 0 else slotNum c.slotA 4 2)]
  | 15 => pack [(0, 8, c.st.interval)]
  | _ => 0

end Sys2Proof.Machine
end

