-- ==== Sys2Proof/Machine/Modes.lean ====
section
/-! DEFINITION. SERVICE, core reset, SHIP, the long press, the logic rail, the takeover set that ends LIMP, and the SYS
registers (R39, R98–R100, R108, R114–R119, R202–R205). -/

namespace Sys2Proof.Machine

/-! ### SERVICE (R116, R117) -/

/-- SYS_CMD ENTER_SERVICE. It is refused with RESULT 3 while the SHIP entry runs: the manual names no result there (DESIGN CHOICE, log
entry 77). -/
def sysEnterService (lease : Nat) (s : State) : State :=
  if !working s.sys.mode ∨ s.eis.shipRun then sysRes 1 3 s
  else if lease = 0 ∨ 60 < lease then sysRes 1 5 s
  else sysRes 1 0 (setMode .service { s with sys := { s.sys with leaseEnd := s.now + lease * oneMin } })
/-- ENTER_SERVICE. -/
def execEnterService (lease : Nat) (s : State) : Host.Outcome State Fault Refusal := act s (sysEnterService lease)
/-- SERVICE ends: its activities abort and the mode follows Table 4-1. -/
def leaveServiceNow (s : State) : State := let t := serviceEnds s; setMode (feedMode t) t
/-- SYS_CMD LEAVE_SERVICE. Refused with RESULT 3 while the SHIP entry runs, whose SYS_MODE stays that of its acceptance (R203; log entry
77). -/
def sysLeaveService (s : State) : State :=
  if s.sys.mode ≠ .service ∨ s.eis.shipRun = true then sysRes 2 3 s else sysRes 2 0 (leaveServiceNow s)
/-- LEAVE_SERVICE. -/
def execLeaveService (s : State) : Host.Outcome State Fault Refusal := act s sysLeaveService
/-- SERVICE_LEASE_EXPIRY; during the SHIP entry the mode stays (R203). -/
def execServiceLeaseExpiry (s : State) : Host.Outcome State Fault Refusal :=
  act s (fun s => if s.sys.mode = .service ∧ s.eis.shipRun = false then leaveServiceNow s else s)

/-! ### Core reset and the LIMP lock (R106, R115) -/

/-- SYS_CMD CORE_RESET. -/
def sysCoreReset (key : Nat) (s : State) : State :=
  if key ≠ 0x5A then sysRes 3 2 s
  else if !working s.sys.mode then sysRes 3 3 s
  else limpEntry 6 2 0 (sysRes 3 0 s)
/-- CORE_RESET. -/
def execCoreReset (key : Nat) (s : State) : Host.Outcome State Fault Refusal := act s (sysCoreReset key)
/-- SYS_CMD CLEAR_LIMP_LOCK. -/
def sysClearLock (s : State) : State :=
  if s.sys.mode ≠ .limp ∨ s.sys.sub ≠ .locked then sysRes 5 6 s
  else sysRes 5 0 { s with sys := { s.sys with sub := .rom, entries := [] }, limp := { s.limp with locked := false } }
/-- CLEAR_LIMP_LOCK. -/
def execClearLimpLock (s : State) : Host.Outcome State Fault Refusal := act s sysClearLock
/-- SYS_CMD with a code that Table 4-11 does not list. -/
def sysUnknown (code : Nat) (s : State) : State := sysRes code 4 s

/-! ### SHIP (R202–R204, Table 7-6) -/

/-- V_WAKE of source entry i, 10 mV; 18 V in LIMP. -/
def wakeLevel (s : State) (i : Nat) : Nat := if s.sys.mode = .limp then 1800 else max 1800 (8 * (s.src i).vSrcMin)
/-- The lowest cell of each SOURCE cordon with the threshold of its port (Table 7-5). -/
def wakePorts (s : State) : List (Nat × Nat) :=
  (seven.filter (fun n => decide ((s.cordon n).e.role = .source ∧ (s.cordon n).state ≠ .absent))).map (fun n =>
    ((maskList (s.cordon n).e.cells).headD 0, wakeLevel s (srcOfCordon s n)))
/-- The source gate is in the mask. -/
def wakeGateIn (s : State) : Bool := gateFitted (boardImage s)
/-- Threshold of AIN8. -/
def wakeGateLevel (s : State) : Nat :=
  wakeLevel s ((eight.find? (fun i => decide ((s.src i).state ≠ .absent ∧ (s.src i).ref = 0))).getD 0)
/-- An input of the wake mask lies above its threshold. -/
def wakeHigh (s : State) (l : WakeLevels) : Bool :=
  (wakePorts s).any (fun p => decide (p.2 < bankGet 0 l.ports p.1)) || (wakeGateIn s && decide (wakeGateLevel s < l.ain8))
/-- ENTER_SHIP is accepted in this mode (Table 4-2). -/
def shipMode (s : State) : Bool := working s.sys.mode || (decide (s.sys.mode = .limp) && decide (s.sys.sub = .rom ∨ s.sys.sub = .locked))
/-- Every cell off, every cordon in IDLE, the source gate open, no path feeding, no cask rise under way. -/
def allOff (s : State) : State :=
  let s := s.modCells seven (fun _ x => { x with state := if switching x then .ready else x.state, mode := .off, engaged := false, engagedBySet := false,
                                                 absorbing := false, replaces := 0, armed := none, sp := { x.sp with mode := .off } })
  { s with cordons := s.cordons.map (fun k => { k with state := if k.state = .absent ∨ k.state = .stopped then k.state else .idle, mode := .off,
                                                       iSet := 0, replaced := 0 }),
           pwr := { s.pwr with gate := { s.pwr.gate with closed := false, surge := false, ramp := none }, rise := none, path := .unfed, supplement := false, suppPower := 0,
                               handTo := 0, handSet := false,
                               src := s.pwr.src.map (fun x => if x.state = .feeding then { x with state := .usable } else x) } }
/-- Contracts, impedance runs and charge end. -/
def endServices (endReason : Nat) (s : State) : State :=
  { s with
    ppt := { s.ppt with peer := s.ppt.peer.map (peerEndWith endReason .idle) },
    eis := { s.eis with bat := s.eis.bat.map (fun b => { b with run := runAbort s.now 5 b.run, probing := false, miss := if b.miss = .confirmed then .confirmed else .none }) },
    chg := { s.chg with inst := s.chg.inst.map (fun g => { g with phase := if g.phase = .halted then .halted else .none, grant := 0, demand := 0, pulse := false }) } }
/-- ENTER_SHIP is accepted: Table 7-6 steps 1 and 2 begin. -/
def shipBegins (s : State) : State :=
  let s := allOff (endServices 4 (serviceEnds s))
  aliveStop 5 { s with eis := { s.eis with shipRun := true } }
/-- SYS_CMD ENTER_SHIP; `high` is whether a wake input stands above its threshold. -/
def sysEnterShip (key : Nat) (high : Bool) (s : State) : State :=
  if key ≠ 0x5A then sysRes 4 2 s
  else if !shipMode s then sysRes 4 3 s
  else if s.eis.shipRun then sysRes 4 1 s
  else if high || updating s then sysRes 4 7 s
  else sysRes 4 1 (shipBegins s)
/-- ENTER_SHIP (R202). -/
def execEnterShip (key : Nat) (levels : WakeLevels) (s : State) : Host.Outcome State Fault Refusal :=
  act s (fun s => sysEnterShip key (wakeHigh s levels) s)
/-- Switches low and held by SHIP or the long press. -/
def openSwitches (s : State) : State :=
  { s with eis := { s.eis with bat := s.eis.bat.map (fun b => { b with sw := .open_, holdShip := true }) } }
/-- The wake mask and its thresholds are latched. -/
def latchWake (s : State) : State :=
  let ps := wakePorts s
  { s with eis := { s.eis with gateIn := wakeGateIn s, mask := maskOf 7 (fun n => ps.any (fun p => decide (p.1 = n))),
                               wakeV := ps.foldl (fun v p => bankPut v p.1 p.2) (Vector.replicate 7 0), wakeGate := if wakeGateIn s then wakeGateLevel s else 0 } }
/-- Time spent in LIMP is a gap of every book in use (R186). -/
def limpGaps (s : State) : State :=
  if s.sys.mode = .limp then four.foldl (fun t i => if batUsed t i then t.modBook i (fun b => { bookGap (t.now - b.lastAt) b with lastAt := t.now }) else t) s
  else s
/-- SHIP_ENTRY_DONE: Table 7-6 from the end of step 2 on. -/
def shipDone (s : State) : State :=
  let s := limpGaps s
  let mask := latchWake s
  let s := sysRes 4 0 (setMode .ship (openSwitches s))
  let s : State := { s with eis := { s.eis with entries := satInc 255 s.eis.entries } }
  let s := queueRecord 6 0 0 0 (shipWord s) true false (writeBooks s)
  let s : State := { s with eis := { s.eis with gateIn := mask.eis.gateIn, mask := mask.eis.mask, wakeV := mask.eis.wakeV,
                                                wakeGate := mask.eis.wakeGate, shipRun := false } }
  let s := saveState (flushQueue s)
  { s with
    spi := { s.spi with serving := false, next := { status := 0x30 }, loaded := {}, sess := endSession9 s.spi.sess }
    trl := trlOff s.now s.trl
    wdg := { s.wdg with state := .reset, answer := none }
    adc := adcStop s.adc
    ppt := { s.ppt with regen := { s.ppt.regen with brk := false },
                        peer := s.ppt.peer.map (fun p => { p with present := .released, quiet := false, waits := none, resendAt := none }) }
    sys := { s.sys with mainRuns := false, awaitReady := false, caskHeld := false } }
/-- SHIP_ENTRY_DONE. -/
def execShipEntryDone (s : State) : Host.Outcome State Fault Refusal :=
  act s (fun s => if s.eis.shipRun then shipDone s else s)
/-- A quantity that surely reaches `hi`, surely stays below `lo`, or lies between, where the bit decides. -/
def passes (lo hi n : Nat) (free : Bool) : Bool := decide (hi ≤ n) || (decide (lo ≤ n) && free)
/-- An input of the latched mask has stayed above its V_WAKE, within ±5 %, for 10 ms ±20 % (R204). -/
def wakeBySource (s : State) (r : WakeReport) (free : Bool) : Bool :=
  let e := s.eis
  let above (v l : Nat) : Bool := passes (95 * v + 1) (105 * v + 1) (100 * l) free
  passes 8 12 r.aboveMs free &&
    (seven.any (fun n => e.mask.getLsbD (n - 1) && above (bankGet 0 e.wakeV n) (bankGet 0 r.levels.ports n)) ||
      (e.gateIn && above e.wakeGate r.levels.ain8))
/-- The button wakes: armed after 100 ms high in SHIP, a press of 100 ms always and one below 70 ms never (R204). -/
def wakeByButton (r : WakeReport) (free : Bool) : Bool := decide (100 ≤ r.highMs) && passes 70 100 r.pressMs free
/-- Some OR-ing input reaches 18 V (R37). -/
def railsUp (i : OrInputs) : Bool := decide (1800 ≤ i.cask ∨ 1800 ≤ i.vaux) || i.ports.toList.any (fun v => decide (1800 ≤ v))
/-- SHIP_WAKE (R204): the wake domain judges the press and the mask inputs; what lies inside a tolerance is free. A wake leaves the
module at step 1 of Table 4-3 with its cause latched, the button's where both are recognised, and POWER_ON_RESET follows; one whose
housekeeping cannot start leaves it in SHIP. -/
def execShipWake (r : WakeReport) (s : State) : Host.Outcome State Fault Refusal :=
  .next (if s.powered ∧ s.sys.mode = .ship then
    let f := freeNat 2 s
    let button := wakeByButton r (decide (f.1 % 2 = 1))
    let source := wakeBySource s r (decide (f.1 / 2 = 1))
    if (button || source) && railsUp r.inputs then
      stepDone 1 { coldState f.2 with wake := if button then .button else .source, orIn := r.inputs }
    else f.2
  else s)

/-! ### The logic rail and the long press (R39, R205) -/

/-- The logic rail leaves its range and comes back before the reset re-arms (R465, text after R41): every cell has locked out, what the
Cellar and the flash were writing may be cut short, and the core logic is left in any state, which shows in what its registers read until a
reset. -/
def sagTurnsBack (s : State) : State :=
  { flashCut (cellarCut ((fittedCells s).foldl (fun t n => gateUvlo n t) s)) with upset := true }
/-- LOGIC_RAIL_FAIL: `low` are the OR-ing inputs at their lowest, `rearms` whether the logic rail stayed below 0.5 V for 100 µs. With an
input at 18 V or above the rail has not failed (R37). Otherwise the module is unpowered, or the sag turns back. In SHIP the logic has no
rail; the wake domain and what the memories hold last as long as a feed does. -/
def execLogicRailFail (low : OrInputs) (rearms : Bool) (s : State) : Host.Outcome State Fault Refusal :=
  .next (
    let s : State := { s with orIn := low }
    if s.powered = false ∨ railsUp low = true then s
    else if rearms then { coldState (cellarCut s) with powered := false }
    else if s.sys.mode = .ship then s
    else settle s (sagTurnsBack s))
/-- LONG_PRESS_RESET: Table 7-8, steps 2 to 4. -/
def longPress (s : State) : State :=
  let s := limpGaps s
  let s := flushQueue (writeBooks (record 7 (btnWord s) s))
  let s := openSwitches (allOff (endServices 7 (serviceEnds s)))
  aliveStop 6 { s with eis := { s.eis with btn := { s.eis.btn with longRun := true } } }
/-- LONG_PRESS_RESET. -/
def execLongPressReset (s : State) : Host.Outcome State Fault Refusal :=
  act s (fun s =>
    let b := s.eis.btn
    if b.low && !b.ignored && btnResetEnabled s && !b.longRun then longPress s else s)
/-- LONG_PRESS_HOLD_END: the switches have been open 300 ms; the module reset is released into STAGING. -/
def execLongPressHoldEnd (env : ColdEnv) (s : State) : Host.Outcome State Fault Refusal :=
  .next (if s.powered ∧ s.eis.btn.longRun then coldReset (some s.sys.mode) env (cellarCut s) else s)

/-! ### The staged set applies; the takeover set ends LIMP (R114, R266) -/

/-- An engage, or a cask overvoltage trip, is in progress: the takeover waits. -/
def takeoverWaits (s : State) : Bool :=
  seven.any (fun n =>
    let x := s.cell n
    (x.engaged && switching x && !x.regulating) || decide (Trip.caskOv ∈ x.latched))
/-- Source paths as the LIMP sequencer held them. -/
def takeoverSources (s : State) : State :=
  { s with pwr := { s.pwr with src := s.pwr.src.map (fun x =>
      if x.state = .absent then x
      else
        let role := (s.cordon x.ref).e.role
        let held := if x.ref = 0 then s.limp.gate else decide (role = .source) && s.limp.src.getLsbD (x.ref - 1)
        { x with state := if held then .usable else .invalid, limited := false, inreg := false, band := if held then .inside else x.band }) } }
/-- Books resume, the time in LIMP a gap (R186). Suspension reason 7 ends with the first evaluation (R163). -/
def takeoverStrings (s : State) : State :=
  four.foldl (fun t i => if batUsed t i then t.modBook i (fun b => bookGap (t.now - b.lastAt) b) else t) s
/-- The takeover set takes effect. -/
def takeover114 (s : State) : State :=
  let x := s.stg
  let old := s.str.image
  let im := (lastGood s).getD old
  let same := decide (im = old)
  let s : State := { s with str := { s.str with image := im, state := 2 },
                            stg := { stgEmpty x with trims := Vector.replicate 7 {}, trimsIn := Vector.replicate 7 {}, applied := satInc 65535 x.applied, cmd := cmdAnswer x.cmd 0 } }
  let s := applyClasses (applyChecks im (applyEntries im (applySources same s)))
  let s : State := { s with cordons := s.cordons.map (fun k => { k with maintI := none }) }
  let s := takeoverStrings (takeoverSources s)
  let s : State := { s with
    limp := { dischSeen := s.limp.dischSeen },
    sys := { s.sys with warmCount := satInc 65535 s.sys.warmCount, warmDuration := sat 16 ((s.now - s.limp.since) / 10) },
    pwr := { s.pwr with path := if anyEngaged s then .carried else .unfed, handTo := 0, handSet := false },
    upd := if s.fls.trial then { s.upd with trialEnd := s.now + oneMin, trialBy := true, phase := .trial } else s.upd }
  let s := if s.fls.trial then saveActivation s else s
  let s := bindCells (setMode (feedMode s) s)
  startSystems (seekFeed (peersApply old (adcApply s)))
/-- STAGED_SET_APPLY. A set whose commit-go had left when LIMP was entered applies, and the LIMP set replaces it (R272). -/
def execStagedSetApply (s : State) : Host.Outcome State Fault Refusal :=
  act s (fun s =>
    if s.stg.state ≠ .armed ∨ s.stg.goSent = false ∨ tickNow s < s.stg.k then s
    else if s.sys.mode = .limp then
      if s.stg.takeover then (if takeoverWaits s then s else takeover114 s) else limpSet (applySet s)
    else applySet s)

/-! ### SYS registers (R119) -/

/-- SYS_LIMPSTAT. -/
def limpStatWord (s : State) : Word :=
  if s.sys.mode ≠ .limp then 0
  else pack [(23, 1, s.limp.gate.toNat), (16, 7, s.limp.src.toNat), (8, 4, s.limp.maint.toNat), (0, 4, s.limp.disch.toNat)]
/-- Registers of the SYS block at offset o from 0x0000. -/
def sysView (s : State) (o : Nat) : Word :=
  let y := s.sys
  match o with
  | 0 => hwType s
  | 1 => sysModeWord s
  | 2 => rstCauseWord s
  | 4 => pack [(8, 8, y.cmd.code), (0, 8, y.cmd.result)]
  | 5 => pack [(16, 16, y.romVintage), (0, 16, y.mainVintage)]
  | 6 => pack [(28, 4, y.vResult), (16, 7, y.vCells.toNat), (0, 16, y.vPartner)]
  | 7 => stagingWord s
  | 8 => pack [(16, 16, y.warmCount), (0, 16, y.warmDuration)]
  | 9 => uptime s
  | 10 => limpStatWord s
  | _ => 0

end Sys2Proof.Machine
end

