-- ==== Sys2Proof/Machine/Sessions.lean ====
section
/-! DEFINITION. Privileged sessions over host SPI and over Trellis: challenge, verification, lease, lockout (R298–R300,
R339, Table 11-8a). -/

namespace Sys2Proof.Machine

/-! ### The two sessions -/

/-- The session of an interface. -/
def sess (i : SessIface) (s : State) : Session :=
  match i with
  | .spi => s.spi.sess
  | .trl => s.trl.sess
/-- Change the session of an interface. -/
def modSess (i : SessIface) (f : Session → Session) (s : State) : State :=
  match i with
  | .spi => { s with spi := { s.spi with sess := f s.spi.sess } }
  | .trl => { s with trl := { s.trl with sess := f s.trl.sess } }
/-- Interface byte of the challenge, argument of AUTH_FAIL (Tables 11-6 and 14-6, R339). -/
def ifaceCode : SessIface → Nat
  | .spi => 1
  | .trl => 2
/-- User of the crypto engine (R368). -/
def ifaceUser : SessIface → Nat
  | .spi => 3
  | .trl => 4
/-- The lockout of 60 s runs; it goes on through HELD (Table 11-8a). -/
def lockedOut (x : Session) : Bool := decide (x.state = .lockedOut ∨ (x.state = .none ∧ x.until_ ≠ 0))
/-- Set SPI_AUTH_STAT.RESULT. -/
def sessRes (i : SessIface) (r : Nat) (s : State) : State := modSess i (fun x => { x with result := r }) s
/-- The session is NONE with a result. -/
def sessNone (i : SessIface) (r : Nat) (s : State) : State :=
  modSess i (fun x => { x with state := .none, result := r, waitCrypto := false, lease := 0, until_ := 0 }) s

/-! ### Frames of the Trellis session (R339) -/

/-- An AUTH frame to the requester. -/
def authSend (body : List Byte) (s : State) : State := sendTo s.trl.sess.prio s.trl.sess.requester 10 body s
/-- A RESULT frame to an address. -/
def authResult (prio dest : Nat) (s : State) : State :=
  sendTo prio dest 10 (le 1 4 ++ le 1 s.trl.sess.state.code ++ le 1 s.trl.sess.result) s
/-- The Trellis requester learns the outcome. -/
def tellResult (i : SessIface) (s : State) : State :=
  match i with
  | .spi => s
  | .trl => authResult s.trl.sess.prio s.trl.sess.requester s

/-! ### REQUEST and the challenge (R298, R299) -/

/-- Why a REQUEST is refused; 0: it is not. -/
def requestRefusal (i : SessIface) (lease : Nat) (s : State) : Nat :=
  let x := sess i s
  if lockedOut x then 5
  else if x.state ≠ .none ∧ x.state ≠ .open_ then 10
  else if lease = 0 ∨ 60 < lease then 10
  else if s.lcs.state = .scrapped then 6
  else if !keyOk s opKey then 3
  else if s.cry.rng = .failed then 10
  else 0
/-- A REQUEST: an open session ends, the signature words are cleared and the challenge waits for the generator. -/
def sessRequest (i : SessIface) (lease : Nat) (s : State) : State :=
  let r := requestRefusal i lease s
  if r ≠ 0 then sessRes i r s
  else modSess i (fun x => { x with state := .waitRng, result := 0, waitCrypto := false, lease := lease, until_ := 0, buf := [] }) s
/-- REQUEST over host SPI. -/
def execRequest (lease : Nat) (s : State) : Host.Outcome State Fault Refusal := act s (sessRequest .spi lease)
/-- `n` random words. -/
def drawWords : Nat → State → List Word × State
  | 0, s => ([], s)
  | n + 1, s =>
    let r := randomWord s
    let q := drawWords n r.2
    (r.1 :: q.1, q.2)
/-- The 48 bytes of a challenge (Table 11-6, R339). -/
def challengeBlock (i : SessIface) (x : Session) (unit : BitVec 64) (nonce : List Word) : List Byte :=
  (match i with
   | .spi => le 4 0x51534553 ++ le 1 1 ++ le 1 x.lease ++ le 2 x.count
   | .trl => le 4 0x51534554 ++ le 1 2 ++ le 1 x.lease ++ le 2 x.requester) ++ le 8 unit.toNat ++ nonce.flatMap wordBytes
/-- The challenge is formed: it lasts 10 s. -/
def formChallenge (i : SessIface) (s : State) : State :=
  let r := drawWords 8 s
  let s := modSess i (fun x =>
    let x := { x with count := (x.count + 1) % 65536 }
    { x with state := .challenge, until_ := s.now + 10 * oneSec, buf := memWriteList 0 [] 0 (challengeBlock i x s.unitId r.1) }) r.2
  match i with
  | .spi => s
  | .trl => authSend (le 1 2 ++ memReadList 0 s.trl.sess.buf 0 48) s
/-- CHALLENGE_FORMED: the generator is ready. -/
def execChallengeFormed (iface : SessIface) (s : State) : Host.Outcome State Fault Refusal :=
  act s (fun s => if (sess iface s).state = .waitRng ∧ s.cry.rng = .ready then formChallenge iface s else s)
/-- CHALLENGE_EXPIRY. -/
def execChallengeExpiry (iface : SessIface) (s : State) : Host.Outcome State Fault Refusal :=
  act s (fun s => if (sess iface s).state = .challenge then sessNone iface 4 s else s)

/-! ### VERIFY (R299, R369) -/

/-- Ask for a context slot; BUSY keeps the session waiting. -/
def sessSlot (i : SessIface) (s : State) : State :=
  let r := acquire (ifaceUser i) s
  modSess i (fun x => { x with waitCrypto := !r.1 }) r.2
/-- A VERIFY; out of state it returns RESULT 10. -/
def sessVerify (i : SessIface) (s : State) : State :=
  if (sess i s).state ≠ .challenge then sessRes i 10 s
  else sessSlot i (modSess i (fun x => { x with state := .verifying }) s)
/-- VERIFY over host SPI. -/
def execVerify (s : State) : Host.Outcome State Fault Refusal := act s (sessVerify .spi)
/-- The signature of the challenge is valid under the operator key. -/
def sessSigOk (i : SessIface) (s : State) : Bool :=
  let b := (sess i s).buf
  Config.ecdsaP384 (keyBytes s opKey) (digestBytes (memReadList 0 b 0 48)) (memReadList 0 b 48 96)
/-- A valid signature opens the session. -/
def sessOpen (i : SessIface) (s : State) : State :=
  modSess i (fun x => { x with state := .open_, result := 1, fails := 0, until_ := s.now + x.lease * oneMin }) s
/-- A refused signature: counted, recorded, and the third locks the interface out for 60 s. -/
def sessRefuse (i : SessIface) (s : State) : State :=
  let x := sess i s
  let s := if x.fails < 2 then sessNone i 2 (modSess i (fun x => { x with fails := x.fails + 1 }) s)
    else modSess i (fun x => { x with state := .lockedOut, result := 2, fails := 3, lease := 0, until_ := s.now + 60 * oneSec }) s
  let who := match i with | .spi => 0 | .trl => x.requester
  raise 232 (ifaceCode i) (record 5 (pack [(16, 16, who), (0, 8, ifaceCode i)]) s)
/-- VERIFY_COMPLETE: while the session waits for a slot, this is its retry; else the signature check has ended. -/
def execVerifyComplete (iface : SessIface) (s : State) : Host.Outcome State Fault Refusal :=
  act s (fun s =>
    let x := sess iface s
    if x.state ≠ .verifying then s
    else if x.waitCrypto then sessSlot iface s
    else tellResult iface (if sessSigOk iface s then sessOpen iface s else sessRefuse iface s))

/-! ### The end of a session (R300) -/

/-- A CLOSE; out of state it returns RESULT 10. -/
def sessClose (i : SessIface) (s : State) : State := if (sess i s).state = .open_ then sessNone i 7 s else sessRes i 10 s
/-- CLOSE over host SPI. -/
def execClose (s : State) : Host.Outcome State Fault Refusal := act s (sessClose .spi)
/-- SESSION_LEASE_EXPIRY. -/
def execSessionLeaseExpiry (iface : SessIface) (s : State) : Host.Outcome State Fault Refusal :=
  act s (fun s => if (sess iface s).state = .open_ then sessNone iface 8 s else s)
/-- LOCKOUT_END. -/
def execLockoutEnd (iface : SessIface) (s : State) : Host.Outcome State Fault Refusal :=
  act s (fun s => if lockedOut (sess iface s) then modSess iface (fun x => { x with state := .none, fails := 0, until_ := 0 }) s else s)

/-! ### SPI_AUTH_DATA (Table 11-9) -/

/-- The pointer advances; behind word 35 it starts again. -/
def authStep (s : State) : State := { s with spi := { s.spi with authPtr := if 35 ≤ s.spi.authPtr then 0 else s.spi.authPtr + 1 } }
/-- What a read of SPI_AUTH_DATA returns: words 0 to 11. -/
def authWord (s : State) : Word := if s.spi.authPtr < 12 then memWord 0 s.spi.sess.buf (4 * s.spi.authPtr) else 0
/-- A write to SPI_AUTH_DATA: words 12 to 35. -/
def authWrite (w : Word) (s : State) : State :=
  let p := s.spi.authPtr
  authStep (if 12 ≤ p ∧ p ≤ 35 then modSess .spi (fun x => { x with buf := memPutWord 0 x.buf (4 * p) w }) s else s)
/-- SPI_AUTH_DATA_ACCESS. -/
def execSpiAuthDataAccess (write : Option Word) (s : State) : Host.Outcome State Fault Refusal :=
  act s (match write with | some w => authWrite w | none => authStep)

/-! ### AUTH (R339) -/

/-- A requester's operation. -/
def authOp (prio src : Nat) (op : AuthOp) (s : State) : State :=
  let x := s.trl.sess
  let mine := decide (x.requester = src)
  match op with
  | .request lease =>
    if x.state = .open_ ∧ mine = false then authResult prio src (sessRes .trl 10 s)
    else if requestRefusal .trl lease s ≠ 0 then authResult prio src (sessRequest .trl lease s)
    else modSess .trl (fun x => { x with requester := src, prio := prio }) (sessRequest .trl lease s)
  | .verify sig =>
    if x.state = .challenge ∧ mine = true then
      sessVerify .trl (modSess .trl (fun x => { x with buf := memWriteList 0 x.buf 48 (sig.take 96) }) s)
    else authResult prio src (sessRes .trl 10 s)
  | .close => authResult prio src (if mine then sessClose .trl s else sessRes .trl 10 s)
/-- AUTH. -/
def execAuth (via : Via) (src : Nat) (op : AuthOp) (s : State) : Host.Outcome State Fault Refusal :=
  act s (consume via src (authOp via.prio src op))

end Sys2Proof.Machine
end

