-- ==== Sys2Proof/Machine/Watchdog.lean ====
section
/-! DEFINITION. The watchdog: question, token, judgement, expiry, and the WDG registers (R374–R384, R399). -/

namespace Sys2Proof.Machine

/-- The next question: the Galois LFSR of R376. -/
def lfsrNext (q : BitVec 16) : BitVec 16 := if q.getLsbD 0 then (q >>> 1) ^^^ 0xB400 else q >>> 1
/-- WDG_SALT (OTP word 50). -/
def wdgSalt (s : State) : Word := s.otpWord 50
/-- The token that answers question q (R377). -/
def token (q : BitVec 16) (salt : Word) : Word :=
  let word : Word := ((~~~q).setWidth 32 <<< 16) ||| q.setWidth 32
  word.rotateLeft (q.toNat % 32) ^^^ salt
/-- The cores are watched: a period runs. -/
def wdgRuns (w : Wdg) : Bool := decide (w.state = .closed ∨ w.state = .open_)
/-- Fault address of the watchdog. -/
def wdgAddr : Word := blockAddr 0 2 0
/-- Expiry (R380) with a result of Table 14-2 at count c: TRAP, ALIVE stops, source 240, LIMP cause 1. -/
def expire (r c : Nat) (s : State) : State :=
  let s : State := { s with wdg := { s.wdg with state := .trap, answer := none, lastResult := r, lastCount := c, count := c,
                                                expiries := satInc 255 s.wdg.expiries } }
  limpEntry 1 0 wdgAddr (raiseSrc 240 r wdgAddr (aliveStop 4 s))
/-- WDG_WINDOW_OPEN: the count reaches O; with WAKE set it asks sleeping cores to wake (R381, R383). -/
def execWdgWindowOpen (s : State) : Host.Outcome State Fault Refusal :=
  act s (fun s =>
    if s.wdg.state = .closed then { s with wdg := { s.wdg with state := .open_, count := s.wdg.opensAt, wakeReq := s.wdg.wake } } else s)
/-- A write to WDG_ANSWER: it crosses to the watchdog; while one crosses, a further write is ignored and counted (R378).
Nothing written in TRAP or RESET counts. -/
def wdgAnswer (t : Word) (s : State) : State :=
  if !wdgRuns s.wdg then s
  else if s.wdg.answer.isSome then { s with wdg := { s.wdg with ignored := satInc 255 s.wdg.ignored } }
  else { s with wdg := { s.wdg with answer := some t } }
/-- WDG_ANSWER. -/
def execWdgAnswer (token : Word) (s : State) : Host.Outcome State Fault Refusal := act s (wdgAnswer token)
/-- An answer in the window serviced the watchdog: a new period with the next question. -/
def serviced (c : Nat) (s : State) : State :=
  wdgPeriod (lfsrNext s.wdg.q)
    { s with wdg := { s.wdg with lastResult := 1, lastCount := c, serviced := s.wdg.serviced + 1 } }
/-- The judgement of Table 14-2 on an answer effective at count c. -/
def judge (t : Word) (c : Nat) (s : State) : State :=
  if c < s.wdg.opensAt then expire 2 c s
  else if s.wdg.period ≤ c then expire 3 s.wdg.period s
  else if t = token s.wdg.q (wdgSalt s) then serviced c s
  else expire 4 c s
/-- WDG_ANSWER_EFFECTIVE at a count of the present period. -/
def execWdgAnswerEffective (count : Nat) (s : State) : Host.Outcome State Fault Refusal :=
  act s (fun s => match s.wdg.answer with
    | none => s
    | some t => if wdgRuns s.wdg then judge t count s else s)
/-- WDG_EXPIRY: count P without an answer. -/
def execWdgExpiry (s : State) : Host.Outcome State Fault Refusal :=
  act s (fun s => if wdgRuns s.wdg then expire 5 s.wdg.period s else s)
/-- WDG_HARD_TIMER_END: 131 ticks after the expiry the cores are held in reset, cause 1. -/
def execWdgHardTimerEnd (s : State) : Host.Outcome State Fault Refusal :=
  act s (fun s => if s.wdg.state = .trap then coreReset 1 wdgAddr s else s)
/-- A write to WDG_PERIOD (R384). -/
def wdgPeriodWrite (d : Word) (s : State) : State :=
  let p := field d 0 18
  if s.wdg.lock = true ∨ p < 33 ∨ 131072 < p ∨ s.wdg.state = .trap then { s with wdg := { s.wdg with rej := true } }
  else { s with wdg := { s.wdg with newPeriod := some p, newAt := s.now } }
/-- WDG_PERIOD_WRITE. -/
def execWdgPeriodWrite (data : Word) (s : State) : Host.Outcome State Fault Refusal := act s (wdgPeriodWrite data)
/-- A write to WDG_CFG: LOCK can only be set. It crosses in step with a write to WDG_PERIOD, so their order is kept (R27). -/
def wdgCfgWrite (d : Word) (s : State) : State := { s with wdg := { s.wdg with wake := bit d 1, lock := s.wdg.lock || bit d 0 } }
/-- WDG_COUNT as a read shows it: between the events that tell the count it is a free value within the tick tolerance (131 ticks last
3,808 to 4,206 µs, R380), never below what was told before and never at a count whose event has not come (DESIGN CHOICE, log entry 83). -/
def wdgShown (s : State) : Nat :=
  let w := s.wdg
  if wdgRuns w then
    let age := s.now - w.startAt
    let top := (if w.state = .closed then w.opensAt else w.period) - 1
    let lo := min top (max w.count (age * 131 / 4206))
    let hi := min top (max lo (age * 131 / 3808 + 1))
    lo + (Config.openValue 18 s.freeIx).toNat % (hi - lo + 1)
  else w.count
/-- A read of WDG_COUNT uses one free value and tells the count. -/
def wdgRead (s : State) : State := { s with freeIx := s.freeIx + 1, wdg := { s.wdg with count := wdgShown s } }
/-- Registers of the WDG block at offset o from 0x2C00. -/
def wdgView (s : State) (o : Nat) : Word :=
  let w := s.wdg
  match o with
  | 0 => pack [(16, 16, w.q.toNat), (13, 3, w.state.code), (12, 1, w.answer.isSome.toNat), (11, 1, w.rej.toNat), (9, 2, w.frac)]
  | 1 => BitVec.ofNat 32 (wdgShown s)
  | 2 => BitVec.ofNat 32 w.period
  | 3 => pack [(1, 1, w.wake.toNat), (0, 1, w.lock.toNat)]
  | 5 => wdgSalt s
  | 6 => pack [(28, 4, w.lastResult), (0, 18, w.lastCount)]
  | 7 => pack [(24, 8, w.expiries), (16, 8, w.ignored), (0, 16, w.serviced.toNat)]
  | 8 => BitVec.ofNat 32 w.opensAt
  | _ => 0

end Sys2Proof.Machine
end

