-- ==== Sys2Proof/Machine/Regs.lean ====
section
/-! DEFINITION. The register map (chapter 16): which registers exist, their access and view (R13, R429), what a read
returns and does, what a write does, the views (R294–R296) and the refusals of R110. -/

namespace Sys2Proof.Machine

/-! ### Access and view of an address -/

/-- What Tables 16-2 to 16-14 give an address in their columns Access and View. Reserved addresses and the windows a
variant lacks are `ro` and read 0 (R4). -/
inductive RegAcc where
  | ro               -- U, no writable field
  | roP              -- P, no writable field
  | rwU              -- U, with RW or W1C fields
  | rwP              -- P, with RW, WO or W1C fields
  | mixed (u : Word) -- P fields that can be written, and read-only U fields: the mask of these
  deriving DecidableEq, Repr

/-- A window of 0x40 registers per index is fitted: o is its offset in the block, n the number of windows. -/
def winFitted (o n : Nat) : Bool := decide (1 ≤ o / 0x40 ∧ o / 0x40 ≤ n)
/-- SYS to PWR: offset o of block b. -/
def accLow (b o : Nat) : RegAcc :=
  match b with
  | 0 => if o = 3 then .rwP else .ro
  | 1 => if o = 1 ∨ o = 3 ∨ (5 ≤ o ∧ o ≤ 8) ∨ (0x10 ≤ o ∧ o < 0x2C) then .rwP else .ro
  | 2 => if o = 5 then .rwP else .ro
  | 3 => if o = 1 then .rwP else .ro
  | _ => if o = 9 then .rwP else .ro
/-- ADC. -/
def accAdc (o : Nat) : RegAcc :=
  if 0x10 ≤ o ∧ o < 0x50 then
    (match o % 16 with
     | 0 | 2 | 3 => .rwP
     | 4 => .mixed 0x40000000
     | _ => .ro)
  else if 0x80 ≤ o ∧ o < 0x8C then .rwP
  else if 0x90 ≤ o ∧ o < 0xA0 then (if o % 2 = 0 then .mixed 0x60000000 else .rwP)
  else if o = 2 ∨ o = 4 ∨ o = 6 then .rwP
  else if o = 5 then .rwU
  else .ro
/-- EIS to UPD. -/
def accMid (s : State) (b o : Nat) : RegAcc :=
  match b with
  | 6 => if o = 1 ∨ (3 ≤ o ∧ o ≤ 5) then .rwP else if winFitted o (batMax s.hw.variant) ∧ o % 0x40 = 0xC then .rwU else .ro
  | 7 => if o = 4 then .rwP else .ro
  | 8 => if o = 1 ∨ o = 2 then .rwP else if o = 0x19 ∨ o = 0x29 then .rwU else .ro
  | _ => if o = 6 ∨ o = 8 ∨ o = 9 ∨ o = 11 ∨ o = 12 then .rwP else .ro
/-- CRY to CEL. A read of OTP word 50 follows the P view (R427). -/
def accHigh (s : State) (a : Agent) (b o : Nat) : RegAcc :=
  match b with
  | 10 => if o = 1 ∨ (3 ≤ o ∧ o ≤ 5) then .rwP else if o = 7 then .roP else .ro
  | 11 => if o = 0 then .rwU else if 2 ≤ o ∧ o ≤ 4 then .rwP else if o = 5 then .roP else .ro
  | 12 => if o = 0 ∨ o = 2 ∨ o = 6 ∨ o = 0x202 then .rwU else if o = 3 ∨ o = 4 ∨ (0x10 ≤ o ∧ o < 0x18) then .rwP else .ro
  | 13 => if o = 0 ∨ o = 4 then .rwU else if o = 5 ∨ (0x20 ≤ o ∧ o < 0x28) then .rwP else .ro
  | 14 => if o = 3 ∨ o = 5 then .rwP else if o = 6 then .rwU else if o = 7 ∧ (s.agent a).otpSel = 50 then .roP else .ro
  | 15 => if o = 1 ∨ o = 3 ∨ o = 4 then .rwP else .ro
  | _ => if o = 1 then .rwP else if winFitted o (cellCount s.hw.variant) ∧ o % 0x40 = 7 then .rwU else .ro
/-- Access and view of an address below 0x4400. -/
def regAcc (s : State) (a : Agent) (addr : Nat) : RegAcc :=
  let b := addr / 0x400
  let o := addr % 0x400
  if b < 5 then accLow b o else if b = 5 then accAdc o else if b < 10 then accMid s b o else accHigh s a b o

/-! ### What an address holds -/

/-- The value of a register in the privileged view; RC fields as they stand. -/
def regValue (s : State) (a : Agent) (addr : Nat) : Word :=
  let o := addr % 0x400
  let i := o / 0x40
  let w := o % 0x40
  match addr / 0x400 with
  | 0 => sysView s o
  | 1 => stgView s o
  | 2 => crdView s o
  | 3 => if o = 0 then chgSummaryWord s else if o = 2 then pack [(8, 8, s.chg.cmd.code), (0, 8, s.chg.cmd.result)]
         else if winFitted o (batMax s.hw.variant) then chgWindow s i w else 0
  | 4 => if o < 0x10 then pwrCommon s o else if o < 0x30 then srcWindow s ((o - 0x10) / 4 + 1) ((o - 0x10) % 4)
         else if 0x100 ≤ o then bookView s (o - 0x100) else 0
  | 5 => adcView s o
  | 6 => if o < 0x40 then eisCommon s o else if winFitted o (batMax s.hw.variant) then eisWindow s a i w else 0
  | 7 => if o < 0x40 then pptCommon s o else if winFitted o (peerMax s.hw.variant) then pptWindow s i w else 0
  | 8 => trlView s a o
  | 9 => updView s a o
  | 10 => cryView s o
  | 11 => wdgView s o
  | 12 => fltView s a o
  | 13 => clrView s a o
  | 14 => lcsView s a o
  | 15 => flsView s o
  | 16 => if o < 0x40 then celCommon s o else if winFitted o (cellCount s.hw.variant) then celWindow s i w else 0
  | _ => 0

/-! ### What a read does -/

/-- A read that a view permits: RC fields clear into their shadows (R291, Table 16-20), pointers and buffers advance. -/
def regReadEffect (a : Agent) (addr : Nat) (s : State) : State :=
  let o := addr % 0x400
  let i := o / 0x40
  match addr / 0x400 with
  | 3 => if winFitted o (batMax s.hw.variant) && batUsed s i && decide (o % 0x40 = 9) then
           s.modChg i (fun g => { g with fltLast := g.flt.setWidth 32, flt := 0, haltUnread := 0 }) else s
  | 5 => if 0x10 ≤ o ∧ o < 0x50 ∧ o % 16 = 1 then adcReadRes ((o - 0x10) / 16) s else s
  | 7 => if winFitted o (peerMax s.hw.variant) && peerUsed s i && decide (o % 0x40 = 11) then
           s.modPeer i (fun p => { p with fltLast := p.flt.setWidth 32, flt := 0 }) else s
  | 8 => if o = 4 then timeLatch a s
         else if o = 10 then { s with trl := { s.trl with fltLast := s.trl.flt.setWidth 32, flt := 0 } } else s
  | 10 => if o = 3 then cryTake s else if o = 5 then cryStep s else if o = 7 then (randomWord s).2 else s
  | 11 => if o = 1 then wdgRead s else s
  | 12 => if o = 10 then eventRead s else if o = 0x200 then compatRead s else s
  | 13 => if o = 0x1F then clrAdvance a s else s
  | 15 => if o = 4 then flsStep s else s
  | _ => s
/-- The value a read returns: as the register stands, or the random word it draws; anything after a sag that left the logic in any state
(text after R41). -/
def regReadValue (a : Agent) (addr : Nat) (s : State) : Word :=
  if s.upset then (freeWord s).1 else if addr = 0x2807 then (randomWord s).1 else regValue s a addr
/-- What a permitted read does, and after an upset the free value it has used. -/
def regReadDone (a : Agent) (addr : Nat) (s : State) : State := regReadEffect a addr (if s.upset then (freeWord s).2 else s)

/-! ### Command registers -/

/-- A cold start's outside readings as free values: a READY that a register write brings has none of its own. -/
def freeEnv (s : State) : ColdEnv × State :=
  let v (w k : Nat) : BitVec w := Config.openValue w (s.freeIx + k)
  let seven16 (k : Nat) : Vector Nat 7 := Vector.ofFn (fun i : Fin 7 => (v 16 (k + i.val)).toNat)
  ({ inputs := s.orIn, privEn := decide (v 1 0 = 1), btnLow := decide (v 1 1 = 1), trained := v 7 2, crystal := decide (v 1 3 = 1),
     probe := { cask := (v 16 4).toNat, ports := seven16 5, rises := Vector.ofFn (fun i : Fin 7 => seven16 (12 + 7 * i.val)) },
     delays := seven16 61, cellPass := v 7 68, cellAddr := Vector.ofFn (fun i : Fin 7 => v 32 (69 + i.val)), adcPass := v 5 76,
     adcAborts := (v 8 77).toNat, sramOk := decide (v 1 78 = 1), kataOk := decide (v 1 79 = 1), paths := v 8 80,
     srcIdMv := Vector.ofFn (fun i : Fin 7 => (v 12 (81 + i.val)).toNat), duration := (v 16 88).toNat },
   { s with freeIx := s.freeIx + 89 })
/-- A wake input stands above its threshold, by what the module has read last: the ports by the telemetry of their lowest cells, the
gate by AIN8. Whether an input of the mask without a valid reading does is free. -/
def wakeKnown (s : State) : Bool × State :=
  let ps := wakePorts s
  let blind := ps.any (fun p => !(s.cell p.1).valid)
  let high := ps.any (fun p => (s.cell p.1).valid && decide (p.2 < (s.cell p.1).vPort)) ||
    (wakeGateIn s && decide ((wakeGateLevel s : Int) < s.pwr.gate.ain8))
  if high then (true, s) else if blind then (let r := freeNat 1 s; (decide (r.1 = 1), r.2)) else (false, s)
/-- SYS_CMD. A non-zero ARG with a code other than ENTER_SERVICE ("0 for other codes") is ignored: the manual names no result for it
(DESIGN CHOICE, log entry 78). -/
def sysCmd (a : Agent) (d : Word) (s : State) : State :=
  match field d 8 8 with
  | 1 => sysEnterService (field d 16 8) s
  | 2 => sysLeaveService s
  | 3 => sysCoreReset (field d 24 8) s
  | 4 => let r := wakeKnown s
         sysEnterShip (field d 24 8) r.1 r.2
  | 5 => sysClearLock s
  | 0x10 => if a = .mainImage then (let r := freeEnv s; sysReady a r.1 r.2) else sysReady a (freeEnv s).1 s
  | k => sysUnknown k s
/-- STG_CMD. -/
def stgCmd (a : Agent) (d : Word) (s : State) : State :=
  match field d 8 8 with
  | 1 => stgCheck a s
  | 2 => stgCommit a s
  | 3 => stgCommitAt a s
  | 4 => stgCancel a s
  | 5 => stgClear a s
  | k => stgUnknown k s
/-- CHG_CMD. -/
def chgCmdWord (d : Word) (s : State) : State :=
  match field d 8 8 with
  | 1 => chgRestart (field d 0 3) s
  | 2 => chgHold (field d 0 3) s
  | 3 => chgNewCycle (field d 0 3) s
  | k => chgUnknown k s
/-- ADC_CMD; the outcome of the self-test behind CLEAR_FAILED is a free value. -/
def adcCmdWord (d : Word) (s : State) : State :=
  match field d 8 8 with
  | 1 => adcDiag (field d 24 3) (field d 16 5) s
  | 2 => let r := freeNat 1 s
         adcClearFailed (field d 24 3) (decide (r.1 = 1)) r.2
  | k => adcUnknown k s
/-- EIS_CMD. -/
def eisCmdWord (d : Word) (s : State) : State :=
  let i := field d 0 3
  match field d 8 8 with
  | 1 => eisSwitchOpen i s
  | 2 => eisSwitchRelease i s
  | 3 => eisRun i s
  | 4 => eisRunDeep i s
  | 5 => eisAbortCmd i s
  | 6 => eisSetRef i s
  | 7 => eisBookReset i s
  | k => eisUnknown k s
/-- PPT_CMD. -/
def pptCmdWord (d : Word) (s : State) : State :=
  let i := field d 0 3
  match field d 8 8 with
  | 1 => pptExportTest i (field d 22 10) (field d 16 6) s
  | 2 => pptEndContract i s
  | 3 => pptRecheck i s
  | k => pptUnknown k s
/-- LCS_CMD. -/
def lcsCmdWord (a : Agent) (d : Word) (s : State) : State :=
  match field d 8 8 with
  | 1 => lcsProgram (field d 16 8) s
  | 2 => lcsArm (field d 24 8) (field d 16 8) s
  | 3 => lcsTransition a (field d 24 8) (field d 16 8) s
  | k => lcsUnknown k s
/-- CEL_CMD. -/
def celCmdWord (d : Word) (s : State) : State :=
  let n := field d 0 3
  match field d 8 8 with
  | 1 => celStartSelftest n s
  | 2 => celRestart n s
  | 3 => celWithdraw n s
  | 4 => celReturn n s
  | 5 => celClearFailed n s
  | k => celUnknown k s

/-! ### What a write does -/

/-- Writes to the EIS block. -/
def eisWrite (a : Agent) (o : Nat) (d : Word) (s : State) : State :=
  match o with
  | 1 => eisCmdWord d s
  | 3 => { s with eis := { s.eis with deepF0 := field d 0 18 } }
  | 4 => { s with eis := { s.eis with deepF1 := field d 0 18 } }
  | 5 => { s with eis := { s.eis with deepAmpl := field d 8 8, deepPair := field d 7 1, deepPpd := field d 0 5 } }
  | _ => s.modAgent a (fun r => { r with ptSel := bankPut r.ptSel (o / 0x40) (field d 0 8) })
/-- Writes to the UPD block. -/
def updWrite (a : Agent) (o : Nat) (d : Word) (s : State) : State :=
  match o with
  | 6 => updCmd a d s
  | 8 => hxIdxWrite a d s
  | 9 => hxDataWrite a d s
  | 11 => { s with upd := { s.upd with atLo := d } }
  | _ => { s with upd := { s.upd with atHi := d.setWidth 16 } }
/-- Writes to the CRY block. -/
def cryWrite (o : Nat) (d : Word) (s : State) : State :=
  match o with
  | 1 => cryCtl d s
  | 3 => cryFeed d s
  | 4 => { s with cry := { s.cry with ptr := field d 0 6 } }
  | _ => cryBufWrite d s
/-- Writes to the WDG block; answers count from the main image, the boot ROM and host SPI only (R378). -/
def wdgWrite (a : Agent) (o : Nat) (d : Word) (s : State) : State :=
  match o with
  | 0 => if bit d 11 then { s with wdg := { s.wdg with rej := false } } else s
  | 2 => wdgPeriodWrite d s
  | 3 => wdgCfgWrite d s
  | _ => if a = .trellis then s else wdgAnswer d s
/-- Writes to the FLT block. -/
def fltWrite (a : Agent) (o : Nat) (d : Word) (s : State) : State :=
  if 0x10 ≤ o ∧ o < 0x18 then pendClear (o - 0x10) d s
  else match o with
    | 0 => { s with flt := { s.flt with evOvf := s.flt.evOvf && !bit d 10, escalated := s.flt.escalated && !bit d 8 } }
    | 2 => { s with flt := { s.flt with masked := s.flt.masked &&& ~~~(d.setWidth 16) } }
    | 3 => if 1 ≤ field d 0 7 ∧ field d 0 7 ≤ 100 then { s with flt := { s.flt with c2win := field d 0 7 } } else s
    | 4 => fltForce d s
    | 6 => s.modAgent a (fun r => { r with fltSel := field d 0 8 })
    | _ => { s with flt := { s.flt with cmOvf := s.flt.cmOvf && !bit d 8 } }
/-- Writes to the CLR block. -/
def clrWrite (a : Agent) (o : Nat) (d : Word) (s : State) : State :=
  match o with
  | 0 => if bit d 5 then { s with clr := { s.clr with droppedBit := false } } else s
  | 4 => clrSelect a (field d 0 13) s
  | 5 => if field d 8 8 = 1 then clrNote s else clrUnknown (field d 8 8) s
  | _ => { s with clr := { s.clr with notes := bankPut s.clr.notes (o - 0x20 + 1) d } }
/-- Writes to the TRL block. -/
def trlWrite (a : Agent) (o : Nat) (d : Word) (s : State) : State :=
  match o with
  | 1 => trlCfgWrite d s
  | 2 => trlCmd d s
  | _ => s.modAgent a (fun r => { r with pcSel := bankPut r.pcSel (if o = 0x19 then 1 else 2) (field d 0 4) })
/-- What a write to a register with writable fields does, in the privileged view or to U fields. -/
def regWriteEffect (a : Agent) (addr : Nat) (d : Word) (s : State) : State :=
  let o := addr % 0x400
  match addr / 0x400 with
  | 0 => sysCmd a d s
  | 1 => if o = 1 then stgCmd a d s else stgWrite a o d s
  | 2 => if field d 8 8 = 1 then crdRestart (field d 0 3) s else crdUnknown (field d 8 8) s
  | 3 => chgCmdWord d s
  | 4 => if field d 8 8 = 1 then pwrTestDrop (field d 0 4) (field d 16 16) s else pwrUnknown (field d 8 8) s
  | 5 => if o = 2 then adcCmdWord d s else if o = 4 then swTrigger (d.setWidth 8) s else adcWrite o d s
  | 6 => eisWrite a o d s
  | 7 => pptCmdWord d s
  | 8 => trlWrite a o d s
  | 9 => updWrite a o d s
  | 10 => cryWrite o d s
  | 11 => wdgWrite a o d s
  | 12 => fltWrite a o d s
  | 13 => clrWrite a o d s
  | 14 => if o = 3 then lcsCmdWord a d s else if o = 5 then { s with lcs := { s.lcs with data := d } }
          else s.modAgent a (fun r => { r with otpSel := field d 0 8 })
  | 15 => if o = 1 then flsCmd d s else if o = 3 then { s with fls := { s.fls with ptr := field d 0 6 } } else flsWrite d s
  | 16 => if o = 1 then celCmdWord d s else s.modCell (o / 0x40) (fun c => { c with trip := c.trip &&& ~~~(d.setWidth 10 &&& 0x3FE) })
  | _ => s

/-! ### Accesses under a view (R110, R287, R294–R296) -/

/-- The outcome of one access: status code of Table 11-3, data, and the state after it. -/
structure Access where
  code : Nat
  data : Word
  st   : State
  deriving DecidableEq, Repr

/-- A read under a view. -/
def regRead (a : Agent) (priv : Bool) (addr : Nat) (s : State) : Access :=
  if 0x4400 ≤ addr then ⟨0x25, 0, s⟩
  else
    match regAcc s a addr with
    | .roP | .rwP => if priv then ⟨0x11, regReadValue a addr s, regReadDone a addr s⟩ else ⟨0x23, 0, s⟩
    | .mixed u => if priv then ⟨0x11, regReadValue a addr s, regReadDone a addr s⟩ else ⟨0x12, regReadValue a addr s &&& u, if s.upset then (freeWord s).2 else s⟩
    | .ro | .rwU => ⟨0x11, regReadValue a addr s, regReadDone a addr s⟩
/-- LIMP sub-states ROM and LOCKED refuse a write of host SPI and Trellis, with the exceptions of R110. -/
def limpReadOnly (s : State) (a : Agent) : Bool :=
  decide (a ≠ .mainImage ∧ s.sys.mode = .limp ∧ (s.sys.sub = .rom ∨ s.sys.sub = .locked))
/-- The exceptions of R110 in the register map. -/
def limpPermits (s : State) (addr : Nat) (d : Word) : Bool :=
  decide (addr = 0x2408 ∨ addr = 0x2409 ∨ (addr = 0x2406 ∧ field d 8 8 = 1) ∨ (addr = 3 ∧ (field d 8 8 = 4 ∨ field d 8 8 = 5))) ||
  (limpIdle s && decide ((addr = 0x2406 ∧ field d 8 8 = 3) ∨ addr = 0x3803 ∨ addr = 0x3805))
/-- The read-back of a write (R287): the register after it, WO fields 0; WDG_PERIOD and WDG_CFG show the value written. -/
def readBack (a : Agent) (addr : Nat) (d : Word) (s : State) : Word :=
  if addr = 0x2C02 then BitVec.ofNat 32 (field d 0 18)
  else if addr = 0x2C03 then BitVec.ofNat 32 (field d 0 2)
  else if addr = 0x2807 then 0
  else regValue s a addr
/-- A write under a view. -/
def regWrite (a : Agent) (priv : Bool) (addr : Nat) (d : Word) (s : State) : Access :=
  if 0x4400 ≤ addr then ⟨0x25, 0, s⟩
  else if limpReadOnly s a && !limpPermits s addr d then ⟨0x24, 0, s⟩
  else
    let t := regWriteEffect a addr d s
    match regAcc s a addr with
    | .ro => ⟨0x14, readBack a addr d s, s⟩
    | .roP => if priv then ⟨0x14, readBack a addr d s, s⟩ else ⟨0x23, 0, s⟩
    | .rwU => ⟨0x13, readBack a addr d t, t⟩
    | .rwP => if priv then ⟨0x13, readBack a addr d t, t⟩ else ⟨0x23, 0, s⟩
    | .mixed u => if priv then ⟨0x13, readBack a addr d t, t⟩
                  else if d &&& ~~~u ≠ 0 then ⟨0x23, 0, s⟩ else ⟨0x13, readBack a addr d s &&& u, s⟩

end Sys2Proof.Machine
end

