-- ==== Sys2Proof/Machine/Host.lean ====
section
/-! DEFINITION. The host SPI interface: frames, responses and the interface registers (R281–R304), a register write by
an agent (R13), and remote access over Trellis (R336–R338). -/

namespace Sys2Proof.Machine

/-! ### Interface registers (Tables 11-7 to 11-9) -/

/-- SPI_STAT. VIEW names PRIV_EN where both origins grant the view. -/
def spiStatWord (s : State) : Word :=
  let p := s.spi
  pack [(30, 2, if p.privEn then 1 else if p.sess.state = .open_ then 2 else 0), (29, 1, (limpReadOnly s .hostSpi).toNat),
        (28, 1, p.privIgn.toNat), (5, 1, p.unknown.toNat), (4, 1, p.late.toNat), (3, 1, p.denied.toNat), (1, 1, p.crcErr.toNat),
        (0, 1, p.frameErr.toNat)]
/-- SPI_IRQ: latched bits 9 to 4 and the level bits 3 to 0. -/
def irqWord (s : State) : Word := (s.spi.irq ||| (irqLevel s).setWidth 10).setWidth 32
/-- An interface register; SPI_AUTH_CTL reads 0. -/
def ifValue (s : State) (o : Nat) : Word :=
  let p := s.spi
  match o with
  | 0 => spiStatWord s
  | 1 => pack [(16, 16, p.discarded), (8, 8, p.crcCount), (0, 8, p.deniedCount)]
  | 2 => p.frames
  | 3 => irqWord s
  | 4 => p.irqEn.setWidth 32
  | 6 => pack [(28, 4, p.sess.state.code), (24, 4, p.sess.result), (23, 1, p.sess.waitCrypto.toNat), (16, 2, p.sess.fails),
               (0, 16, sessLeft s p.sess)]
  | 7 => BitVec.ofNat 32 p.authPtr
  | 8 => authWord s
  | _ => 0
/-- SPI_AUTH_CTL: REQUEST, VERIFY, CLOSE; other codes are refused with RESULT 10. -/
def authCtl (d : Word) (s : State) : State :=
  match field d 8 8 with
  | 1 => sessRequest .spi (field d 16 8) s
  | 2 => sessVerify .spi s
  | 3 => sessClose .spi s
  | _ => sessRes .spi 10 s
/-- W1C of SPI_STAT. -/
def spiStatWrite (d : Word) (s : State) : State :=
  let p := s.spi
  { s with spi := { p with unknown := p.unknown && !bit d 5, late := p.late && !bit d 4, denied := p.denied && !bit d 3,
                           crcErr := p.crcErr && !bit d 1, frameErr := p.frameErr && !bit d 0 } }
/-- A write to an interface register. -/
def ifWriteEffect (o : Nat) (d : Word) (s : State) : State :=
  match o with
  | 0 => spiStatWrite d s
  | 3 => { s with spi := { s.spi with irq := s.spi.irq &&& ~~~(d.setWidth 10) } }
  | 4 => { s with spi := { s.spi with irqEn := d.setWidth 10 } }
  | 5 => authCtl d s
  | 7 => { s with spi := { s.spi with authPtr := field d 0 6 } }
  | 8 => authWrite d s
  | _ => s
/-- IF_READ; SPI_AUTH_DATA advances its pointer. -/
def ifRead (o : Nat) (s : State) : Access :=
  if 8 < o then ⟨0x25, 0, s⟩ else ⟨0x16, ifValue s o, if o = 8 then authStep s else s⟩
/-- IF_WRITE; the response shows the register after it. Words 12 to 35 of SPI_AUTH_DATA are write only, a write to its
other words returns 0. -/
def ifWrite (o : Nat) (d : Word) (s : State) : Access :=
  if 8 < o then ⟨0x25, 0, s⟩
  else
    let t := ifWriteEffect o d s
    ⟨0x16, if o = 8 then 0 else ifValue t o, t⟩

/-! ### Frames and responses (R285–R290) -/

/-- The response prepared for the next frame; LATE stands for it when SPI_CS_N fell too soon (R288). A frame that ended the
service has none (R293). -/
def respond (late : Bool) (r : Resp) (s : State) : State :=
  if s.spi.serving = false then s
  else if late then { s with spi := { s.spi with late := true, next := { status := 0x26, addr := r.addr, data := 0 } } }
  else { s with spi := { s.spi with next := r } }
/-- A frame answered PRIV_DENIED is flagged and counted. -/
def countDenied (code : Nat) (s : State) : State :=
  if code = 0x23 then { s with spi := { s.spi with denied := true, deniedCount := satInc 255 s.spi.deniedCount } } else s
/-- The response prepared before was loaded when this frame began (R290). -/
def loadNext (s : State) : State := { s with spi := { s.spi with loaded := s.spi.next } }
/-- An accepted frame: counted, its access done, its response prepared. -/
def frame (late : Bool) (addr : Nat) (f : State → Access) (s : State) : State :=
  if s.spi.serving = false then s
  else
    let t := loadNext s
    let x := f { t with spi := { t.spi with frames := t.spi.frames + 1 } }
    respond late { status := x.code, addr := addr, data := x.data } (countDenied x.code x.st)
/-- SPI_READ (R285). -/
def execSpiRead (addr : Nat) (late : Bool) (s : State) : Host.Outcome State Fault Refusal :=
  act s (frame late addr (fun t => regRead .hostSpi (privView t .hostSpi) addr t))
/-- SPI_WRITE (R287). -/
def execSpiWrite (addr : Nat) (data : Word) (late : Bool) (s : State) : Host.Outcome State Fault Refusal :=
  act s (frame late addr (fun t => regWrite .hostSpi (privView t .hostSpi) addr data t))
/-- NOP (R284). -/
def execNop (addr : Nat) (late : Bool) (s : State) : Host.Outcome State Fault Refusal :=
  act s (frame late addr (fun t => ⟨0x15, 0, t⟩))
/-- IF_READ (R284). -/
def execIfRead (addr : Nat) (late : Bool) (s : State) : Host.Outcome State Fault Refusal := act s (frame late addr (ifRead addr))
/-- IF_WRITE (R284). -/
def execIfWrite (addr : Nat) (data : Word) (late : Bool) (s : State) : Host.Outcome State Fault Refusal :=
  act s (frame late addr (ifWrite addr data))
/-- UNKNOWN_CMD (R284). -/
def execUnknownCmd (addr : Nat) (late : Bool) (s : State) : Host.Outcome State Fault Refusal :=
  act s (frame late addr (fun t => ⟨0x22, 0, { t with spi := { t.spi with unknown := true } }⟩))
/-- The copy that answers a RESEND: of the response loaded for the frame before it; a free value where there was none. -/
def resendCopy (s : State) : Resp × State :=
  if s.spi.loaded.status = 0 then
    let a := freeNat 8 s
    let b := freeNat 16 a.2
    let c := freeWord b.2
    ({ status := a.1, addr := b.1, data := c.1 }, c.2)
  else ({ s.spi.loaded with status := s.spi.loaded.status ||| 0x80 }, s)
/-- RESEND (R290). -/
def resendFrame (late : Bool) (s : State) : State :=
  if s.spi.serving = false then s
  else
    let r := resendCopy s
    let t := loadNext r.2
    respond late r.1 { t with spi := { t.spi with frames := t.spi.frames + 1 } }
/-- RESEND. -/
def execResend (_addr : Nat) (late : Bool) (s : State) : Host.Outcome State Fault Refusal := act s (resendFrame late)
/-- A discarded frame (R289): flags, counts and the discard status; its address field is a free value. -/
def discardFrame (edges : Nat) (late : Bool) (s : State) : State :=
  if s.spi.serving = false then s
  else
    let crc := decide (edges = 64)
    let a := freeNat 16 (loadNext s)
    let p := a.2.spi
    respond late { status := if crc then 0x21 else 0x20, addr := a.1, data := pack [(24, 8, sat 8 edges)] }
      { a.2 with spi := { p with frameErr := true, crcErr := p.crcErr || crc, discarded := satInc 65535 p.discarded,
                                 crcCount := if crc then satInc 255 p.crcCount else p.crcCount } }
/-- FRAME_DISCARDED. -/
def execFrameDiscarded (edges : Nat) (late : Bool) (s : State) : Host.Outcome State Fault Refusal := act s (discardFrame edges late)

/-! ### A register write by an agent (R13) -/

/-- REGISTER_WRITE under the agent's view. -/
def execRegisterWrite (by_ : Agent) (addr : Nat) (data : Word) (s : State) : Host.Outcome State Fault Refusal :=
  act s (fun s => if by_ = .hostSpi ∧ s.spi.serving = false then s else (regWrite by_ (privView s by_) addr data s).st)

/-! ### Remote access over Trellis (R336–R338) -/

/-- The privileged view of a request: its SRC is the requester of the open session. -/
def remotePriv (src : Nat) (s : State) : Bool := decide (s.trl.sess.state = .open_ ∧ s.trl.sess.requester = src)
/-- Execution goes on after this code. -/
def wordDone (code : Nat) : Bool := decide (code = 0x11 ∨ code = 0x12 ∨ code = 0x13 ∨ code = 0x14)
/-- What the words of a request have come to: the last code, the data of the words executed, first first. -/
structure Remote where
  code : Nat
  data : List Word
  st   : State
/-- The words of a READ in address order. -/
def remoteRead (src : Nat) : (n addr : Nat) → Remote → Remote
  | 0, _, r => r
  | n + 1, addr, r =>
    let x := regRead .trellis (remotePriv src r.st) addr r.st
    let r : Remote := { code := x.code, data := r.data ++ [x.data], st := x.st }
    if wordDone x.code then remoteRead src n (addr + 1) r else r
/-- The words of a WRITE in address order. -/
def remoteWrite (src : Nat) : List Word → Nat → Remote → Remote
  | [], _, r => r
  | d :: ds, addr, r =>
    let x := regWrite .trellis (remotePriv src r.st) addr d r.st
    let r : Remote := { code := x.code, data := r.data ++ [x.data], st := x.st }
    if wordDone x.code then remoteWrite src ds (addr + 1) r else r
/-- REG_RSP payload (Table 12-7). -/
def rspBody (tag code count addr : Nat) (data : List Word) : List Byte :=
  le 2 tag ++ le 1 code ++ le 1 count ++ le 2 addr ++ le 2 0 ++ data.flatMap wordBytes
/-- Keep a response: of the four most recent requesters the last one each (R337). -/
def keep (k : Kept) (s : State) : State :=
  { s with trl := { s.trl with kept := (k :: s.trl.kept.filter (fun x => decide (x.src ≠ k.src))).take 4 } }
/-- A well-formed request: operation 1 or 2, 1 to 32 words, a data word for each word written (Table 12-7). -/
def reqOk (r : RegReq) : Bool :=
  decide (1 ≤ r.count ∧ r.count ≤ 32) && (decide (r.op = 1) || (decide (r.op = 2) && decide (r.data.length = r.count)))
/-- A request that has not been executed before. -/
def runRequest (prio : Nat) (r : RegReq) (s : State) : State :=
  let z : Remote := { code := 0, data := [], st := s }
  let x := if r.op = 1 then remoteRead r.src r.count r.addr z else remoteWrite r.src r.data r.addr z
  let k : Kept := { src := r.src, tag := r.tag, at_ := s.now, code := x.code, count := x.data.length, addr := r.addr, data := x.data }
  sendTo prio r.src 9 (rspBody k.tag k.code k.count k.addr k.data) (keep k x.st)
/-- The kept response that answers a repeated request. -/
def keptFor (r : RegReq) (s : State) : Option Kept :=
  s.trl.kept.find? (fun k => decide (k.src = r.src ∧ k.tag = r.tag) && within s (10 * oneSec) k.at_)
/-- A request: a repeated one is answered again and not executed, bit 7 of its code set. -/
def regRequest (prio : Nat) (r : RegReq) (s : State) : State :=
  match keptFor r s with
  | some k => sendTo prio r.src 9 (rspBody k.tag (k.code ||| 0x80) k.count k.addr k.data) s
  | none => if reqOk r then runRequest prio r s else s
/-- REG_REQ (R336). -/
def execRegReq (via : Via) (r : RegReq) (s : State) : Host.Outcome State Fault Refusal := act s (consume via r.src (regRequest via.prio r))

end Sys2Proof.Machine
end

