-- ==== Sys2Proof/Machine/Dispatch.lean ====
section
/-! DEFINITION. The dispatch: one arm per command, each one call of its meaning. -/

namespace Sys2Proof.Machine

def exec (i : Instr) (s : State) : Host.Outcome State Fault Refusal :=
  match i with
  | .powerOnReset env => Sys2Proof.Machine.execPowerOnReset env s
  | .logicRailFail low rearms => Sys2Proof.Machine.execLogicRailFail low rearms s
  | .gateDriveUvlo cell => Sys2Proof.Machine.execGateDriveUvlo cell s
  | .crystalQualified => Sys2Proof.Machine.execCrystalQualified s
  | .crystalLost => Sys2Proof.Machine.execCrystalLost s
  | .linkTrainingComplete cell delay => Sys2Proof.Machine.execLinkTrainingComplete cell delay s
  | .linkTrainingFail cell => Sys2Proof.Machine.execLinkTrainingFail cell s
  | .linkDown cell byMerja => Sys2Proof.Machine.execLinkDown cell byMerja s
  | .linkHoldExpiry cell => Sys2Proof.Machine.execLinkHoldExpiry cell s
  | .sync cell => Sys2Proof.Machine.execSync cell s
  | .set cell sp => Sys2Proof.Machine.execSet cell sp s
  | .arm cell tick sp => Sys2Proof.Machine.execArm cell tick sp s
  | .cmd cell c => Sys2Proof.Machine.execCmd cell c s
  | .abort cell => Sys2Proof.Machine.execAbort cell s
  | .applyArmedSet cell => Sys2Proof.Machine.execApplyArmedSet cell s
  | .commitMissed cell => Sys2Proof.Machine.execCommitMissed cell s
  | .telem cell f => Sys2Proof.Machine.execTelem cell f s
  | .event cell e => Sys2Proof.Machine.execEvent cell e s
  | .rsp cell seq data => Sys2Proof.Machine.execRsp cell seq data s
  | .ack cell seq toMerja ok => Sys2Proof.Machine.execAck cell seq toMerja ok s
  | .commitTick gate => Sys2Proof.Machine.execCommitTick gate s
  | .giveApplied cordon => Sys2Proof.Machine.execGiveApplied cordon s
  | .overloadAccountEmpty cell => Sys2Proof.Machine.execOverloadAccountEmpty cell s
  | .engage cell => Sys2Proof.Machine.execEngage cell s
  | .protectionTrip cell t => Sys2Proof.Machine.execProtectionTrip cell t s
  | .tripCleared cell t => Sys2Proof.Machine.execTripCleared cell t s
  | .ocRestart cell => Sys2Proof.Machine.execOcRestart cell s
  | .startSelftest cell => Sys2Proof.Machine.execStartSelftest cell s
  | .restart cell => Sys2Proof.Machine.execRestart cell s
  | .withdraw cell => Sys2Proof.Machine.execWithdraw cell s
  | .returnCell cell => Sys2Proof.Machine.execReturnCell cell s
  | .clearFailed cell => Sys2Proof.Machine.execClearFailed cell s
  | .selftestDue cell => Sys2Proof.Machine.execSelftestDue cell s
  | .selftestComplete cell pass addr => Sys2Proof.Machine.execSelftestComplete cell pass addr s
  | .selftestReschedule cell => Sys2Proof.Machine.execSelftestReschedule cell s
  | .microcodeTransferEnd cell ok => Sys2Proof.Machine.execMicrocodeTransferEnd cell ok s
  | .restartCordon cordon => Sys2Proof.Machine.execRestartCordon cordon s
  | .lastGoodCopyWrite => Sys2Proof.Machine.execLastGoodCopyWrite s
  | .enterService lease => Sys2Proof.Machine.execEnterService lease s
  | .leaveService => Sys2Proof.Machine.execLeaveService s
  | .serviceLeaseExpiry => Sys2Proof.Machine.execServiceLeaseExpiry s
  | .coreReset key => Sys2Proof.Machine.execCoreReset key s
  | .enterShip key levels => Sys2Proof.Machine.execEnterShip key levels s
  | .clearLimpLock => Sys2Proof.Machine.execClearLimpLock s
  | .ready by_ env => Sys2Proof.Machine.execReady by_ env s
  | .readyTimeout env => Sys2Proof.Machine.execReadyTimeout env s
  | .limpCause cause => Sys2Proof.Machine.execLimpCause cause s
  | .heldExpiry => Sys2Proof.Machine.execHeldExpiry s
  | .warmRestart => Sys2Proof.Machine.execWarmRestart s
  | .limpCountAge => Sys2Proof.Machine.execLimpCountAge s
  | .limpSourceReadmit ref => Sys2Proof.Machine.execLimpSourceReadmit ref s
  | .caskHeld => Sys2Proof.Machine.execCaskHeld s
  | .sourceCrossingReport entry b => Sys2Proof.Machine.execSourceCrossingReport entry b s
  | .sourceQualifyStart entry srcIdMv => Sys2Proof.Machine.execSourceQualifyStart entry srcIdMv s
  | .qualificationEnd entry => Sys2Proof.Machine.execQualificationEnd entry s
  | .sourceDrop entry => Sys2Proof.Machine.execSourceDrop entry s
  | .dropCountAge entry => Sys2Proof.Machine.execDropCountAge entry s
  | .coLate => Sys2Proof.Machine.execCoLate s
  | .handback => Sys2Proof.Machine.execHandback s
  | .handbackComplete => Sys2Proof.Machine.execHandbackComplete s
  | .handbackTimeout => Sys2Proof.Machine.execHandbackTimeout s
  | .caskLow => Sys2Proof.Machine.execCaskLow s
  | .caskLowClear => Sys2Proof.Machine.execCaskLowClear s
  | .supplementEnd => Sys2Proof.Machine.execSupplementEnd s
  | .testDrop entry hold => Sys2Proof.Machine.execTestDrop entry hold s
  | .testDropHoldEnd entry => Sys2Proof.Machine.execTestDropHoldEnd entry s
  | .chargeEvaluation => Sys2Proof.Machine.execChargeEvaluation s
  | .qualifyRestEnd index => Sys2Proof.Machine.execQualifyRestEnd index s
  | .safeTimeout index => Sys2Proof.Machine.execSafeTimeout index s
  | .preTimeout index => Sys2Proof.Machine.execPreTimeout index s
  | .cvTimerExpiry index => Sys2Proof.Machine.execCvTimerExpiry index s
  | .chgRestart index => Sys2Proof.Machine.execChgRestart index s
  | .hold index => Sys2Proof.Machine.execHold index s
  | .newCycle index => Sys2Proof.Machine.execNewCycle index s
  | .nicdPulseEnd index => Sys2Proof.Machine.execNicdPulseEnd index s
  | .batswSettled index vBefore vNow => Sys2Proof.Machine.execBatswSettled index vBefore vNow s
  | .batswSettleTimeout index => Sys2Proof.Machine.execBatswSettleTimeout index s
  | .batswRetry index => Sys2Proof.Machine.execBatswRetry index s
  | .missingPulseEnd index vStart vEnd => Sys2Proof.Machine.execMissingPulseEnd index vStart vEnd s
  | .presenceProbe index => Sys2Proof.Machine.execPresenceProbe index s
  | .presenceProbeEnd index stayedBelow => Sys2Proof.Machine.execPresenceProbeEnd index stayedBelow s
  | .bookCellarWrite => Sys2Proof.Machine.execBookCellarWrite s
  | .switchOpen index => Sys2Proof.Machine.execSwitchOpen index s
  | .switchRelease index => Sys2Proof.Machine.execSwitchRelease index s
  | .run index => Sys2Proof.Machine.execRun index s
  | .runDeep index => Sys2Proof.Machine.execRunDeep index s
  | .eisAbort index => Sys2Proof.Machine.execEisAbort index s
  | .setRef index => Sys2Proof.Machine.execSetRef index s
  | .bookReset index => Sys2Proof.Machine.execBookReset index s
  | .eisScheduledDue index => Sys2Proof.Machine.execEisScheduledDue index s
  | .eisScheduledSkip index => Sys2Proof.Machine.execEisScheduledSkip index s
  | .eisPointComplete index samples => Sys2Proof.Machine.execEisPointComplete index samples s
  | .btnPress => Sys2Proof.Machine.execBtnPress s
  | .shipEntryDone => Sys2Proof.Machine.execShipEntryDone s
  | .shipWake r => Sys2Proof.Machine.execShipWake r s
  | .longPressReset => Sys2Proof.Machine.execLongPressReset s
  | .longPressHoldEnd env => Sys2Proof.Machine.execLongPressHoldEnd env s
  | .absorbEntry cell => Sys2Proof.Machine.execAbsorbEntry cell s
  | .absorbRelease cell => Sys2Proof.Machine.execAbsorbRelease cell s
  | .brkGateRise => Sys2Proof.Machine.execBrkGateRise s
  | .brkGateFall => Sys2Proof.Machine.execBrkGateFall s
  | .regenOv => Sys2Proof.Machine.execRegenOv s
  | .presentationToggle peer idle => Sys2Proof.Machine.execPresentationToggle peer idle s
  | .partnerRecognised peer => Sys2Proof.Machine.execPartnerRecognised peer s
  | .quietWindowEnd peer ownK => Sys2Proof.Machine.execQuietWindowEnd peer ownK s
  | .moisturePeriodic peer => Sys2Proof.Machine.execMoisturePeriodic peer s
  | .wetRetry peer => Sys2Proof.Machine.execWetRetry peer s
  | .caps peer seq c => Sys2Proof.Machine.execCaps peer seq c s
  | .offer peer seq t => Sys2Proof.Machine.execOffer peer seq t s
  | .accept peer seq => Sys2Proof.Machine.execAccept peer seq s
  | .reject peer reason => Sys2Proof.Machine.execReject peer reason s
  | .status peer seq st => Sys2Proof.Machine.execStatus peer seq st s
  | .peerEnd peer seq reason => Sys2Proof.Machine.execPeerEnd peer seq reason s
  | .quiet peer seq => Sys2Proof.Machine.execQuiet peer seq s
  | .peerTest peer seq power duration => Sys2Proof.Machine.execPeerTest peer seq power duration s
  | .peerAck peer seq => Sys2Proof.Machine.execPeerAck peer seq s
  | .peerStatusSend peer => Sys2Proof.Machine.execPeerStatusSend peer s
  | .peerReplyTimeout peer => Sys2Proof.Machine.execPeerReplyTimeout peer s
  | .swapPulse peer => Sys2Proof.Machine.execSwapPulse peer s
  | .swapFail peer => Sys2Proof.Machine.execSwapFail peer s
  | .swapOfferTimeout peer => Sys2Proof.Machine.execSwapOfferTimeout peer s
  | .partnerLost peer => Sys2Proof.Machine.execPartnerLost peer s
  | .backoffEnd peer => Sys2Proof.Machine.execBackoffEnd peer s
  | .exportTest peer power duration => Sys2Proof.Machine.execExportTest peer power duration s
  | .exportTestEnd peer => Sys2Proof.Machine.execExportTestEnd peer s
  | .endContract peer => Sys2Proof.Machine.execEndContract peer s
  | .recheckMoisture peer => Sys2Proof.Machine.execRecheckMoisture peer s
  | .slotConversionDone conv slot raw => Sys2Proof.Machine.execSlotConversionDone conv slot raw s
  | .trigger route => Sys2Proof.Machine.execTrigger route s
  | .triggeredConversionDone conv raw => Sys2Proof.Machine.execTriggeredConversionDone conv raw s
  | .adcTimerExpiry timer => Sys2Proof.Machine.execAdcTimerExpiry timer s
  | .comparatorTransition cmp active => Sys2Proof.Machine.execComparatorTransition cmp active s
  | .referenceSettled conv => Sys2Proof.Machine.execReferenceSettled conv s
  | .calibrationFrameBoundary diff selfTestPass => Sys2Proof.Machine.execCalibrationFrameBoundary diff selfTestPass s
  | .diag conv channel => Sys2Proof.Machine.execDiag conv channel s
  | .adcClearFailed slice pass => Sys2Proof.Machine.execAdcClearFailed slice pass s
  | .adcSwtrgWrite routes => Sys2Proof.Machine.execAdcSwtrgWrite routes s
  | .stgWrite by_ addr data => Sys2Proof.Machine.execStgWrite by_ addr data s
  | .stgImgDataWrite by_ data => Sys2Proof.Machine.execStgImgDataWrite by_ data s
  | .check by_ => Sys2Proof.Machine.execCheck by_ s
  | .checkComplete => Sys2Proof.Machine.execCheckComplete s
  | .commit by_ => Sys2Proof.Machine.execCommit by_ s
  | .commitAt by_ => Sys2Proof.Machine.execCommitAt by_ s
  | .cancel by_ => Sys2Proof.Machine.execCancel by_ s
  | .clear by_ => Sys2Proof.Machine.execClear by_ s
  | .commitAtArm => Sys2Proof.Machine.execCommitAtArm s
  | .armAckMissing => Sys2Proof.Machine.execArmAckMissing s
  | .stagedSetApply => Sys2Proof.Machine.execStagedSetApply s
  | .scheduledTimeLost => Sys2Proof.Machine.execScheduledTimeLost s
  | .bankOwnerIdle => Sys2Proof.Machine.execBankOwnerIdle s
  | .spiRead addr late => Sys2Proof.Machine.execSpiRead addr late s
  | .spiWrite addr data late => Sys2Proof.Machine.execSpiWrite addr data late s
  | .nop addr late => Sys2Proof.Machine.execNop addr late s
  | .resend addr late => Sys2Proof.Machine.execResend addr late s
  | .ifRead addr late => Sys2Proof.Machine.execIfRead addr late s
  | .ifWrite addr data late => Sys2Proof.Machine.execIfWrite addr data late s
  | .unknownCmd addr late => Sys2Proof.Machine.execUnknownCmd addr late s
  | .frameDiscarded edges late => Sys2Proof.Machine.execFrameDiscarded edges late s
  | .registerWrite by_ addr data => Sys2Proof.Machine.execRegisterWrite by_ addr data s
  | .request lease => Sys2Proof.Machine.execRequest lease s
  | .verify => Sys2Proof.Machine.execVerify s
  | .close => Sys2Proof.Machine.execClose s
  | .challengeFormed iface => Sys2Proof.Machine.execChallengeFormed iface s
  | .verifyComplete iface => Sys2Proof.Machine.execVerifyComplete iface s
  | .challengeExpiry iface => Sys2Proof.Machine.execChallengeExpiry iface s
  | .sessionLeaseExpiry iface => Sys2Proof.Machine.execSessionLeaseExpiry iface s
  | .lockoutEnd iface => Sys2Proof.Machine.execLockoutEnd iface s
  | .spiAuthDataAccess write => Sys2Proof.Machine.execSpiAuthDataAccess write s
  | .heartbeat port hb => Sys2Proof.Machine.execHeartbeat port hb s
  | .time port t => Sys2Proof.Machine.execTime port t s
  | .delayReq via src t1 t2 t3 => Sys2Proof.Machine.execDelayReq via src t1 t2 t3 s
  | .delayRsp via src t1 t2 t3 t4 => Sys2Proof.Machine.execDelayRsp via src t1 t2 t3 t4 s
  | .credit port count => Sys2Proof.Machine.execCredit port count s
  | .regReq via r => Sys2Proof.Machine.execRegReq via r s
  | .auth via src op => Sys2Proof.Machine.execAuth via src op s
  | .trellisForward port f => Sys2Proof.Machine.execTrellisForward port f s
  | .trellisFrameError port e => Sys2Proof.Machine.execTrellisFrameError port e s
  | .trellisSendResult port r => Sys2Proof.Machine.execTrellisSendResult port r s
  | .clashBackoffEnd port => Sys2Proof.Machine.execClashBackoffEnd port s
  | .heartbeatSend port => Sys2Proof.Machine.execHeartbeatSend port s
  | .neighbourLost port => Sys2Proof.Machine.execNeighbourLost port s
  | .timeSend => Sys2Proof.Machine.execTimeSend s
  | .timeLockLost => Sys2Proof.Machine.execTimeLockLost s
  | .delayMeasure => Sys2Proof.Machine.execDelayMeasure s
  | .creditOwedSend port => Sys2Proof.Machine.execCreditOwedSend port s
  | .learnAge addr => Sys2Proof.Machine.execLearnAge addr s
  | .censusAge port addr => Sys2Proof.Machine.execCensusAge port addr s
  | .passThroughOpen => Sys2Proof.Machine.execPassThroughOpen s
  | .setAddr addr => Sys2Proof.Machine.execSetAddr addr s
  | .flushLearn => Sys2Proof.Machine.execFlushLearn s
  | .measureDelay => Sys2Proof.Machine.execMeasureDelay s
  | .endSession => Sys2Proof.Machine.execEndSession s
  | .trlTimeLoRead by_ => Sys2Proof.Machine.execTrlTimeLoRead by_ s
  | .graftOffer via src o => Sys2Proof.Machine.execGraftOffer via src o s
  | .graftWant via src gid first count => Sys2Proof.Machine.execGraftWant via src gid first count s
  | .graftWindow via src w => Sys2Proof.Machine.execGraftWindow via src w s
  | .graftChunk via src bytes => Sys2Proof.Machine.execGraftChunk via src bytes s
  | .graftWindowComplete => Sys2Proof.Machine.execGraftWindowComplete s
  | .graftWindowTimeout => Sys2Proof.Machine.execGraftWindowTimeout s
  | .graftOfferSend => Sys2Proof.Machine.execGraftOfferSend s
  | .graftWantRepeat => Sys2Proof.Machine.execGraftWantRepeat s
  | .storeChunk by_ => Sys2Proof.Machine.execStoreChunk by_ s
  | .updHxIdxWrite by_ data => Sys2Proof.Machine.execUpdHxIdxWrite by_ data s
  | .updHxDataWrite by_ data => Sys2Proof.Machine.execUpdHxDataWrite by_ data s
  | .manifestComplete => Sys2Proof.Machine.execManifestComplete s
  | .graftVerify => Sys2Proof.Machine.execGraftVerify s
  | .discard => Sys2Proof.Machine.execDiscard s
  | .activate => Sys2Proof.Machine.execActivate s
  | .activateAt => Sys2Proof.Machine.execActivateAt s
  | .cancelAct => Sys2Proof.Machine.execCancelAct s
  | .activationTimeReached => Sys2Proof.Machine.execActivationTimeReached s
  | .peerGuardRecheck => Sys2Proof.Machine.execPeerGuardRecheck s
  | .trialEnd => Sys2Proof.Machine.execTrialEnd s
  | .activationCellStep => Sys2Proof.Machine.execActivationCellStep s
  | .actStalled cell => Sys2Proof.Machine.execActStalled cell s
  | .activationStructure => Sys2Proof.Machine.execActivationStructure s
  | .repairActivation => Sys2Proof.Machine.execRepairActivation s
  | .eraseSector bank sector => Sys2Proof.Machine.execEraseSector bank sector s
  | .programPage bank sector page => Sys2Proof.Machine.execProgramPage bank sector page s
  | .flashOpComplete ok => Sys2Proof.Machine.execFlashOpComplete ok s
  | .flsDataAccess write => Sys2Proof.Machine.execFlsDataAccess write s
  | .shaStart => Sys2Proof.Machine.execShaStart s
  | .shaFinal bytes => Sys2Proof.Machine.execShaFinal bytes s
  | .ecdsaVerify => Sys2Proof.Machine.execEcdsaVerify s
  | .gcmEncStart aad => Sys2Proof.Machine.execGcmEncStart aad s
  | .gcmDecStart aad => Sys2Proof.Machine.execGcmDecStart aad s
  | .gcmFinal => Sys2Proof.Machine.execGcmFinal s
  | .cryRelease => Sys2Proof.Machine.execCryRelease s
  | .cryDataAccess write => Sys2Proof.Machine.execCryDataAccess write s
  | .cryBufAccess write => Sys2Proof.Machine.execCryBufAccess write s
  | .cryptoOpComplete => Sys2Proof.Machine.execCryptoOpComplete s
  | .rngDataRead => Sys2Proof.Machine.execRngDataRead s
  | .rngReady => Sys2Proof.Machine.execRngReady s
  | .rngWindowFail t => Sys2Proof.Machine.execRngWindowFail t s
  | .wdgWindowOpen => Sys2Proof.Machine.execWdgWindowOpen s
  | .wdgAnswer token => Sys2Proof.Machine.execWdgAnswer token s
  | .wdgAnswerEffective count => Sys2Proof.Machine.execWdgAnswerEffective count s
  | .wdgExpiry => Sys2Proof.Machine.execWdgExpiry s
  | .wdgHardTimerEnd => Sys2Proof.Machine.execWdgHardTimerEnd s
  | .wdgPeriodWrite data => Sys2Proof.Machine.execWdgPeriodWrite data s
  | .faultSourceActive source arg addr => Sys2Proof.Machine.execFaultSourceActive source arg addr s
  | .wireFault source level => Sys2Proof.Machine.execWireFault source level s
  | .c2WindowEscalation group => Sys2Proof.Machine.execC2WindowEscalation group s
  | .fltPendClear k data => Sys2Proof.Machine.execFltPendClear k data s
  | .fltEventRead by_ => Sys2Proof.Machine.execFltEventRead by_ s
  | .fltCompatRead by_ => Sys2Proof.Machine.execFltCompatRead by_ s
  | .fltForce data => Sys2Proof.Machine.execFltForce data s
  | .aliveEdge => Sys2Proof.Machine.execAliveEdge s
  | .aliveFeedback => Sys2Proof.Machine.execAliveFeedback s
  | .cellarRecordWrite => Sys2Proof.Machine.execCellarRecordWrite s
  | .note => Sys2Proof.Machine.execNote s
  | .clrSelWrite by_ data => Sys2Proof.Machine.execClrSelWrite by_ data s
  | .clrData15Read by_ => Sys2Proof.Machine.execClrData15Read by_ s
  | .programWord by_ word => Sys2Proof.Machine.execProgramWord by_ word s
  | .armTransition by_ key target => Sys2Proof.Machine.execArmTransition by_ key target s
  | .transition by_ key target => Sys2Proof.Machine.execTransition by_ key target s
  | .armTransitionExpiry => Sys2Proof.Machine.execArmTransitionExpiry s
  | .btnRelease len10ms => Sys2Proof.Machine.execBtnRelease len10ms s
  | .faultSourceInactive source => Sys2Proof.Machine.execFaultSourceInactive source s
  | .diagComplete v1 v2 => Sys2Proof.Machine.execDiagComplete v1 v2 s
  | .swapPulseEnd peer => Sys2Proof.Machine.execSwapPulseEnd peer s
  | .peerMessageCrcFail peer => Sys2Proof.Machine.execPeerMessageCrcFail peer s
  | .peerTransmitCollision peer => Sys2Proof.Machine.execPeerTransmitCollision peer s
  | .trellisFcrcFail port => Sys2Proof.Machine.execTrellisFcrcFail port s
  | .longReqExpiry port => Sys2Proof.Machine.execLongReqExpiry port s

end Sys2Proof.Machine
end

