-- ==== Sys2Proof/Safety.lean ====
section
/-! DEFINITION. The terms in which claims are stated: when the module takes commands, the canonical form of its
byte memories, what a one-time programmable array may do, and the invariant of a step. -/

namespace Sys2Proof.Machine

/-- The logic rail is valid and the module is not in SHIP: every command but the cold start's own acts (R98). -/
abbrev Awake (s : State) : Prop := s.powered = true ∧ s.sys.mode ≠ .ship

/-- Every byte memory outside the banks is in canonical form: equal memories are equal lists. -/
def MemOk (s : State) : Prop :=
  memWf ff s.clr.mem = true ∧ memWf ff s.fls.bank0 = true ∧ memWf ff s.fls.bank1 = true ∧
  memWf 0 s.lcs.otp = true ∧ memWf 0 s.lcs.held = true ∧ memWf 0 s.stg.buf = true ∧ memWf 0 s.spi.sess.buf = true ∧
  memWf 0 s.trl.sess.buf = true ∧ memWf 0 s.fls.buf = true ∧ memWf 0 s.cry.buf = true ∧ memWf 0 s.sram = true

/-- Every bit set in array `m` is set in array `k`, at every address. -/
def BitsKept (m k : Mem) : Prop := ∀ a, memRead 0 m a &&& memRead 0 k a = memRead 0 m a

/-- No level source that the state shows begins or ends between two states: `settle` then raises nothing. -/
def QuietEdges (old new : State) : Prop := ∀ n ∈ derivedLevels, levelCond old n = levelCond new n

end Sys2Proof.Machine
end

