-- ==== Sys2Proof/Certificates/Slice0/Obligations.lean ====
section
/-! DEFINITION. The statements about the model. A row statement says what its commands do, as the answer of `exec`, in the
states in which the manual lets them act; `settle` is what ends every command (R468, log entry 11). -/

open Sys2Proof Sys2Proof.Machine

/-- The queue: a step takes the command at its front and is that command on the state with the queue's rest; on an empty queue the
block idles (the model's choice, log entry 1). -/
def Obligations.StepRunsFront : Prop :=
  (∀ (c : Instr) (q : List Instr) (s : State), step { s with pending := c :: q } = exec c { s with pending := q }) ∧
  (∀ s : State, s.pending = [] → step s = .next s)

/-- The state after reset meets the invariant and shows, in registers of every block, the values their tables give for a power-on
reset; the part is a Q8 (the model's choice, log entry 4). -/
def Obligations.ResetState : Prop :=
  MemOk State.reset ∧ State.reset.pending = [] ∧ State.reset.clr.mem = [] ∧ State.reset.lcs.otp = [] ∧
  State.reset.sys.mode = .staging ∧
  (∀ b : Agent, regValue State.reset b 0x0000 = 0x51080101 ∧ regValue State.reset b 0x1400 = 0xF0000000 ∧
    regValue State.reset b 0x2C02 = 0x4000 ∧ regValue State.reset b 0x3003 = 0x14 ∧ regValue State.reset b 0x300D = 0x10000000 ∧
    regValue State.reset b 0x3800 = 0x00800000 ∧ regValue State.reset b 0x2001 = 0x0000FF00 ∧ regValue State.reset b 0x4080 = 0x00100000 ∧
    regValue State.reset b 0x3200 = 0)

/-- Every command answers a next state from every state: no command faults and none is refused, whatever its operands. -/
def Obligations.NoOtherStop : Prop := ∀ (c : Instr) (s : State), ∃ t, exec c s = .next t

/-- R98, R39, R204: without a logic rail, and in SHIP, every command but the four of the always-on and wake logic leaves the whole
state as it was. -/
def Obligations.AsleepKeepsAll : Prop := ∀ (c : Instr) (s : State), ¬ Awake s →
  match c with
  | .powerOnReset .. | .logicRailFail .. | .shipWake .. | .longPressHoldEnd .. => True
  | _ => exec c s = .next s

/-- R468, log entry 11: where no level source begins or ends and the path is not left without an engaged cell, what ends every
command changes nothing but the interrupt pending bits, the slots of the crypto engine and the model's own marks of fresh results.
-/
def Obligations.SettleFrame : Prop := ∀ old new : State, QuietEdges old new → tidyPath new = new →
  let t := settle old new
  t.pending = new.pending ∧ t.freeIx = new.freeIx ∧ t.now = new.now ∧ t.powered = new.powered ∧ t.orIn = new.orIn ∧
  t.upset = new.upset ∧ t.sram = new.sram ∧ t.wake = new.wake ∧ t.hw = new.hw ∧
  t.crystal = new.crystal ∧ t.xtalLost = new.xtalLost ∧ t.agents = new.agents ∧ t.cells = new.cells ∧ t.cordons = new.cordons ∧
  t.limp = new.limp ∧ t.bk = new.bk ∧ t.wdg = new.wdg ∧
  t.cel = { new.cel with cmd := seen new.cel.cmd } ∧ t.str = { new.str with cmd := seen new.str.cmd } ∧
  t.sys = { new.sys with cmd := seen new.sys.cmd } ∧ t.pwr = { new.pwr with cmd := seen new.pwr.cmd } ∧
  t.chg = { new.chg with cmd := seen new.chg.cmd } ∧ t.eis = { new.eis with cmd := seen new.eis.cmd } ∧
  t.ppt = { new.ppt with cmd := seen new.ppt.cmd } ∧ t.adc = { new.adc with cmd := seen new.adc.cmd } ∧
  t.stg = { new.stg with cmd := seen new.stg.cmd } ∧ t.trl = { new.trl with cmd := seen new.trl.cmd } ∧
  t.upd = { new.upd with cmd := seen new.upd.cmd } ∧ t.fls = { new.fls with cmd := seen new.fls.cmd } ∧
  t.flt = { new.flt with cmd := seen new.flt.cmd } ∧ t.clr = { new.clr with cmd := seen new.clr.cmd } ∧
  t.lcs = { new.lcs with cmd := seen new.lcs.cmd } ∧
  t.spi = { new.spi with irq := t.spi.irq } ∧ new.spi.irq &&& t.spi.irq = new.spi.irq ∧
  t.cry = { new.cry with cmd := seen new.cry.cmd, slot0 := t.cry.slot0, slot1 := t.cry.slot1, running := t.cry.running }

/-- The byte memories (log entry 9): a byte reads as written, every other byte as before, the canonical form is kept, and
canonical memories that read the same are the same. -/
def Obligations.MemoryReadsAndForm : Prop := ∀ (f : Byte) (m k : Mem),
  (∀ a b, memWf f m = true → memRead f (memWrite f m a b) a = b) ∧
  (∀ a x b, x ≠ a → memRead f (memWrite f m a b) x = memRead f m x) ∧
  (∀ a bs, memWf f m = true → memReadList f (memWriteList f m a bs) a bs.length = bs) ∧
  (∀ a x bs, x < a ∨ a + bs.length ≤ x → memRead f (memWriteList f m a bs) x = memRead f m x) ∧
  (∀ a b, memWf f m = true → memWf f (memWrite f m a b) = true) ∧
  (memWf f m = true → memWf f k = true → (∀ a, memRead f m a = memRead f k a) → m = k)

/-- R11, R13, R110, R294 to R297: register accesses. An address beyond the map is UNMAPPED; a P register is refused to the
unprivileged view, a read-only one ignores the write; in LIMP ROM and LOCKED every write but those R110 permits is refused with
READ_ONLY_MODE, and no refused access changes anything. The order of two refusals is the model's (log entry 13). -/
def Obligations.RegisterAccessRefusals : Prop := ∀ (s : State) (b : Agent) (a : Nat) (d : Word) (p : Bool),
  (0x4400 ≤ a → regRead b p a s = ⟨0x25, 0, s⟩ ∧ regWrite b p a d s = ⟨0x25, 0, s⟩) ∧
  (a < 0x4400 → (regAcc s b a = .roP ∨ regAcc s b a = .rwP) → regRead b false a s = ⟨0x23, 0, s⟩ ∧
    regRead b true a s = ⟨0x11, regReadValue b a s, regReadDone b a s⟩) ∧
  (a < 0x4400 → (regAcc s b a = .ro ∨ regAcc s b a = .rwU) → regRead b p a s = ⟨0x11, regReadValue b a s, regReadDone b a s⟩) ∧
  (a < 0x4400 → b ≠ .mainImage → s.sys.mode = .limp → (s.sys.sub = .rom ∨ s.sys.sub = .locked) →
    a ∉ [0x0003, 0x2406, 0x2408, 0x2409, 0x3803, 0x3805] → regWrite b p a d s = ⟨0x24, 0, s⟩) ∧
  (a < 0x4400 → b ≠ .mainImage → s.sys.mode = .limp → s.sys.sub = .rom → field d 8 8 ≠ 4 → field d 8 8 ≠ 5 →
    regWrite b p 0x0003 d s = ⟨0x24, 0, s⟩) ∧
  (a < 0x4400 → limpReadOnly s b = false → regAcc s b a = .ro → (regWrite b p a d s).code = 0x14 ∧ (regWrite b p a d s).st = s) ∧
  (a < 0x4400 → limpReadOnly s b = false → (regAcc s b a = .roP ∨ regAcc s b a = .rwP) → regWrite b false a d s = ⟨0x23, 0, s⟩) ∧
  (a < 0x4400 → limpReadOnly s b = false → regAcc s b a = .rwP → (regWrite b true a d s).code = 0x13 ∧
    (regWrite b true a d s).st = regWriteEffect b a d s) ∧
  (privView s .mainImage = true ∧ privView s .trellis = decide (s.trl.sess.state = .open_))

/-- R404, R405, R407: a record written is complete in the unit after the newest of the circular region, which wraps from 8,191 to
896, and, for the kinds FAULT and RESET, in the lowest unused unit of the first-fault region of the present state; every other
byte of the Cellar stays. -/
def Obligations.RecordWrittenComplete : Prop := ∀ (r : Record) (s : State),
  let u := nextUnit s
  let t := writeRecord r s
  896 ≤ u ∧ u ≤ 8191 ∧ unitComplete t u = true ∧ t.clr.head = u ∧ t.clr.nextSeq = s.clr.nextSeq + 1 ∧
  clrNum t (64 * u) 4 = s.clr.nextSeq.toNat ∧ clrNum t (64 * u + 4) 1 = r.kind % 256 ∧
  (896 ≤ s.clr.head → s.clr.head < 8191 → u = s.clr.head + 1) ∧ (s.clr.head = 8191 → u = 896) ∧
  (∀ k, (r.kind = 3 ∨ r.kind = 4) → k < 64 → unitUnused s (ffFirst s.lcs.state + k) = true →
    (∀ j, j < k → unitUnused s (ffFirst s.lcs.state + j) = false) →
      unitComplete t (ffFirst s.lcs.state + k) = true ∧
      clrBytes t (64 * (ffFirst s.lcs.state + k)) 64 = clrBytes t (64 * u) 64) ∧
  (r.kind ≠ 3 → r.kind ≠ 4 → ∀ a, a / 64 ≠ u → memRead ff t.clr.mem a = memRead ff s.clr.mem a)

/-- R407: the first-fault region is write-once. A record never changes a byte of a unit of it that is not unused, nor any byte
below it. -/
def Obligations.FirstFaultWriteOnce : Prop := ∀ (r : Record) (s : State) (f a : Nat), f < 896 → a / 64 = f →
  (f < 512 ∨ unitUnused s f = false) → memRead ff (writeRecord r s).clr.mem a = memRead ff s.clr.mem a

/-- The memories' canonical form is an invariant of every step. -/
def Obligations.EveryStepKeepsMemOk : Prop := ∀ s t : State, MemOk s → step s = .next t → MemOk t

/-- R413: each bit of the one-time programmable array goes from 0 to 1 once. No step clears one, whatever the command. -/
def Obligations.NoStepClearsAnOtpBit : Prop := ∀ s t : State, step s = .next t → BitsKept s.lcs.otp t.lcs.otp

/-- A command leaves the queue of waiting commands and the part itself as they are, whatever else it does. -/
def Obligations.QueueAndPartKept : Prop := ∀ (c : Instr) (s t : State), exec c s = .next t → t.pending = s.pending ∧ t.hw = s.hw

/-- The stores change only by the commands named: the Cellar, the two flash banks, the one-time programmable array, the staged
image's buffer and the page buffer hold the same bytes after every other command. -/
def Obligations.StorageFrame : Prop := ∀ (c : Instr) (s t : State), exec c s = .next t →
  (match c with
   | .powerOnReset .. | .logicRailFail .. | .lastGoodCopyWrite | .ready .. | .readyTimeout .. | .heldExpiry | .warmRestart |
   .bookCellarWrite | .shipEntryDone | .longPressReset | .longPressHoldEnd .. | .checkComplete | .stagedSetApply | .spiWrite .. |
   .registerWrite .. | .regReq .. | .setAddr .. | .graftOffer .. | .graftWindowComplete | .storeChunk .. | .manifestComplete | .graftVerify
   | .discard | .activate | .activateAt | .cancelAct | .activationTimeReached | .peerGuardRecheck | .trialEnd | .activationCellStep |
   .activationStructure | .repairActivation | .cellarRecordWrite => True
   | _ =>
     t.clr.mem = s.clr.mem) ∧
  (match c with
   | .powerOnReset .. | .logicRailFail .. | .shipWake .. | .longPressHoldEnd .. | .checkComplete | .spiWrite .. | .registerWrite .. |
   .regReq .. | .graftWindowComplete | .storeChunk .. | .activate | .activationTimeReached | .peerGuardRecheck | .trialEnd |
   .activationCellStep | .activationStructure | .repairActivation | .flashOpComplete .. => True
   | _ =>
     t.fls.bank0 = s.fls.bank0 ∧ t.fls.bank1 = s.fls.bank1) ∧
  (match c with
   | .powerOnReset .. | .longPressHoldEnd .. | .spiWrite .. | .registerWrite .. | .regReq .. | .programWord .. | .transition .. => True
   | _ =>
     t.lcs.otp = s.lcs.otp) ∧
  (match c with
   | .powerOnReset .. | .logicRailFail .. | .shipWake .. | .longPressHoldEnd .. | .stgWrite .. | .stgImgDataWrite .. | .checkComplete |
   .spiWrite .. | .registerWrite .. | .regReq .. | .activate | .activationTimeReached | .peerGuardRecheck | .trialEnd | .activationCellStep
   | .activationStructure | .repairActivation => True
   | _ =>
     t.stg.buf = s.stg.buf) ∧
  (match c with
   | .powerOnReset .. | .logicRailFail .. | .shipWake .. | .longPressHoldEnd .. | .spiWrite .. | .registerWrite .. | .regReq .. | .activate
   | .activationTimeReached | .peerGuardRecheck | .trialEnd | .activationCellStep | .activationStructure | .repairActivation |
   .flsDataAccess .. => True
   | _ =>
     t.fls.buf = s.fls.buf)

/-- What only the commands named may change: the logic supply, the OR-ing inputs as last known and the wake cause; and the
registers that writes over an interface, an activation or a cold reset set: the settings of the converters, of deep impedance
runs, of the Trellis ends and of the fault window, the data and note words, and the figures of the Cellar scan at start-up. -/
def Obligations.SettingsFrame : Prop := ∀ (c : Instr) (s t : State), exec c s = .next t →
  (match c with
   | .powerOnReset .. | .logicRailFail .. | .shipWake .. | .longPressHoldEnd .. | .spiWrite .. | .registerWrite .. | .regReq .. | .activate
   | .activationTimeReached | .peerGuardRecheck | .trialEnd | .activationCellStep | .activationStructure | .repairActivation => True
   | _ =>
     t.powered = s.powered) ∧
  (match c with
   | .powerOnReset .. | .logicRailFail .. | .telem .. | .shipWake .. | .longPressHoldEnd .. => True
   | _ =>
     t.orIn = s.orIn) ∧
  (match c with
   | .powerOnReset .. | .shipWake .. | .longPressHoldEnd .. => True
   | _ =>
     t.wake = s.wake) ∧
  (match c with
   | .powerOnReset .. | .logicRailFail .. | .shipWake .. | .longPressHoldEnd .. | .spiWrite .. | .registerWrite .. | .regReq .. | .activate
   | .activationTimeReached | .peerGuardRecheck | .trialEnd | .activationCellStep | .activationStructure | .repairActivation => True
   | _ =>
     t.sys.coldCause = s.sys.coldCause ∧ t.adc.irqEn = s.adc.irqEn ∧ t.adc.routes = s.adc.routes ∧ t.adc.timers = s.adc.timers ∧
     t.eis.deepF0 = s.eis.deepF0 ∧ t.eis.deepF1 = s.eis.deepF1 ∧ t.eis.deepPpd = s.eis.deepPpd ∧ t.eis.deepAmpl = s.eis.deepAmpl ∧
     t.eis.deepPair = s.eis.deepPair ∧ t.flt.c2win = s.flt.c2win ∧ t.lcs.data = s.lcs.data ∧ t.lcs.weak = s.lcs.weak ∧
     t.spi.privIgn = s.spi.privIgn ∧ t.trl.endA = s.trl.endA ∧ t.trl.endB = s.trl.endB ∧ t.trl.tmRank = s.trl.tmRank ∧
     t.upd.atLo = s.upd.atLo ∧ t.upd.atHi = s.upd.atHi ∧ t.clr.notes = s.clr.notes ∧ t.clr.uncorr = s.clr.uncorr ∧
     t.clr.incomplete = s.clr.incomplete ∧ t.clr.fallback = s.clr.fallback ∧ t.fls.previous = s.fls.previous)

/-- Which commands may write which kind of state: the commit timebase and the books, the crystal, the staged bank and its verdict,
the Trellis time and address, the watchdog's question and result, the life cycle, the flash operation, the generator, the
converters' failures, the button, SHIP, the changeover figures, the Graft's identity, the interrupt enables, the uncorrectable
words of the Cellar and the last event read; every other command leaves them as they were. -/
def Obligations.StatusFrame : Prop := ∀ (c : Instr) (s t : State), exec c s = .next t →
  (match c with
   | .powerOnReset .. | .logicRailFail .. | .commitTick .. | .shipWake .. | .longPressHoldEnd .. | .spiWrite .. | .registerWrite .. |
   .regReq .. | .activate | .activationTimeReached | .peerGuardRecheck | .trialEnd | .activationCellStep | .activationStructure |
   .repairActivation => True
   | _ =>
     t.now = s.now ∧ t.bk.drawCount = s.bk.drawCount ∧ t.bk.drawE = s.bk.drawE ∧ t.bk.drawLongest = s.bk.drawLongest ∧ t.bk.load = s.bk.load
     ∧ t.bk.short = s.bk.short ∧ t.bk.surgeCount = s.bk.surgeCount ∧ t.bk.surgeLongest = s.bk.surgeLongest ∧ t.bk.trnCount = s.bk.trnCount ∧
     t.bk.vCask = s.bk.vCask ∧ t.bk.violD = s.bk.violD ∧ t.bk.violS = s.bk.violS) ∧
  (match c with
   | .powerOnReset .. | .logicRailFail .. | .shipWake .. | .longPressHoldEnd .. | .spiRead .. | .spiWrite .. | .registerWrite .. |
   .regReq .. | .activate | .activationTimeReached | .peerGuardRecheck | .trialEnd | .activationCellStep | .activationStructure |
   .repairActivation | .clrSelWrite .. | .clrData15Read .. => True
   | _ =>
     t.clr.errors = s.clr.errors ∧ t.clr.errAddr = s.clr.errAddr) ∧
  (match c with
   | .powerOnReset .. | .logicRailFail .. | .crystalQualified | .crystalLost | .shipWake .. | .longPressHoldEnd .. | .spiWrite .. |
   .registerWrite .. | .regReq .. | .activate | .activationTimeReached | .peerGuardRecheck | .trialEnd | .activationCellStep |
   .activationStructure | .repairActivation => True
   | _ =>
     t.crystal = s.crystal ∧ t.xtalLost = s.xtalLost) ∧
  (match c with
   | .powerOnReset .. | .logicRailFail .. | .shipWake .. | .longPressHoldEnd .. | .checkComplete | .spiWrite .. | .registerWrite .. |
   .regReq .. | .activate | .activationTimeReached | .peerGuardRecheck | .trialEnd | .activationCellStep | .activationStructure |
   .repairActivation => True
   | _ =>
     t.stg.digest = s.stg.digest ∧ t.stg.reason = s.stg.reason ∧ t.stg.rCordon = s.stg.rCordon ∧ t.stg.rTrim = s.stg.rTrim ∧
     t.stg.rOffset = s.stg.rOffset) ∧
  (match c with
   | .powerOnReset .. | .logicRailFail .. | .shipWake .. | .longPressHoldEnd .. | .stgWrite .. | .stgImgDataWrite .. | .spiWrite .. |
   .registerWrite .. | .regReq .. | .activate | .activationTimeReached | .peerGuardRecheck | .trialEnd | .activationCellStep |
   .activationStructure | .repairActivation => True
   | _ =>
     t.stg.foreign = s.stg.foreign ∧ t.stg.imgPtr = s.stg.imgPtr ∧ t.stg.tLo = s.stg.tLo ∧ t.stg.tHi = s.stg.tHi) ∧
  (match c with
   | .powerOnReset .. | .logicRailFail .. | .shipWake .. | .longPressHoldEnd .. | .stagedSetApply | .spiWrite .. | .registerWrite .. |
   .regReq .. | .activate | .activationTimeReached | .peerGuardRecheck | .trialEnd | .activationCellStep | .activationStructure |
   .repairActivation => True
   | _ =>
     t.stg.applied = s.stg.applied ∧ t.stg.trimsIn = s.stg.trimsIn ∧ t.sys.warmCount = s.sys.warmCount ∧
     t.sys.warmDuration = s.sys.warmDuration) ∧
  (match c with
   | .powerOnReset .. | .logicRailFail .. | .shipWake .. | .longPressHoldEnd .. | .spiWrite .. | .registerWrite .. | .time .. | .regReq .. |
   .timeSend | .timeLockLost | .setAddr .. | .activate | .activationTimeReached | .peerGuardRecheck | .trialEnd | .activationCellStep |
   .activationStructure | .repairActivation => True
   | _ =>
     t.trl.locked = s.trl.locked ∧ t.trl.master = s.trl.master ∧ t.trl.rank = s.trl.rank ∧ t.trl.hops = s.trl.hops ∧
     t.trl.follow = s.trl.follow ∧ t.trl.good = s.trl.good ∧ t.trl.lostAt = s.trl.lostAt) ∧
  (match c with
   | .powerOnReset .. | .logicRailFail .. | .shipWake .. | .longPressHoldEnd .. | .spiWrite .. | .registerWrite .. | .regReq .. |
   .setAddr .. | .activate | .activationTimeReached | .peerGuardRecheck | .trialEnd | .activationCellStep | .activationStructure |
   .repairActivation => True
   | _ =>
     t.trl.addr = s.trl.addr) ∧
  (match c with
   | .powerOnReset .. | .logicRailFail .. | .shipWake .. | .longPressHoldEnd .. | .spiWrite .. | .registerWrite .. | .regReq .. | .activate
   | .activationTimeReached | .peerGuardRecheck | .trialEnd | .activationCellStep | .activationStructure | .repairActivation |
   .wdgAnswerEffective .. | .wdgExpiry => True
   | _ =>
     t.wdg.expiries = s.wdg.expiries ∧ t.wdg.lastCount = s.wdg.lastCount ∧ t.wdg.lastResult = s.wdg.lastResult) ∧
  (match c with
   | .powerOnReset .. | .logicRailFail .. | .ready .. | .readyTimeout .. | .limpCause .. | .heldExpiry | .shipWake .. | .longPressHoldEnd ..
   | .spiWrite .. | .registerWrite .. | .regReq .. | .activate | .activationTimeReached | .peerGuardRecheck | .trialEnd |
   .activationCellStep | .activationStructure | .repairActivation | .wdgAnswerEffective .. | .faultSourceActive .. | .wireFault .. => True
   | _ =>
     t.wdg.q = s.wdg.q ∧ t.wdg.opensAt = s.wdg.opensAt ∧ t.wdg.frac = s.wdg.frac) ∧
  (match c with
   | .powerOnReset .. | .logicRailFail .. | .shipWake .. | .longPressHoldEnd .. | .spiWrite .. | .registerWrite .. | .regReq .. | .activate
   | .activationTimeReached | .peerGuardRecheck | .trialEnd | .activationCellStep | .activationStructure | .repairActivation |
   .transition .. => True
   | _ =>
     t.lcs.state = s.lcs.state ∧ t.spi.privEn = s.spi.privEn) ∧
  (match c with
   | .powerOnReset .. | .logicRailFail .. | .shipWake .. | .longPressHoldEnd .. | .spiWrite .. | .registerWrite .. | .regReq .. | .activate
   | .activationTimeReached | .peerGuardRecheck | .trialEnd | .activationCellStep | .activationStructure | .repairActivation |
   .armTransition .. | .transition .. | .armTransitionExpiry => True
   | _ =>
     t.lcs.arm = s.lcs.arm) ∧
  (match c with
   | .powerOnReset .. | .logicRailFail .. | .shipWake .. | .longPressHoldEnd .. | .spiWrite .. | .registerWrite .. | .regReq .. | .activate
   | .activationTimeReached | .peerGuardRecheck | .trialEnd | .activationCellStep | .activationStructure | .repairActivation |
   .eraseSector .. | .programPage .. | .flashOpComplete .. => True
   | _ =>
     t.fls.op = s.fls.op) ∧
  (match c with
   | .powerOnReset .. | .logicRailFail .. | .ready .. | .readyTimeout .. | .limpCause .. | .heldExpiry | .shipWake .. | .longPressHoldEnd ..
   | .spiWrite .. | .registerWrite .. | .regReq .. | .activate | .activationTimeReached | .peerGuardRecheck | .trialEnd |
   .activationCellStep | .activationStructure | .repairActivation | .rngReady | .rngWindowFail .. | .faultSourceActive .. | .wireFault .. =>
   True
   | _ =>
     t.cry.rng = s.cry.rng) ∧
  (match c with
   | .powerOnReset .. | .logicRailFail .. | .shipWake .. | .longPressHoldEnd .. | .diag .. | .spiWrite .. | .registerWrite .. | .regReq .. |
   .activate | .activationTimeReached | .peerGuardRecheck | .trialEnd | .activationCellStep | .activationStructure | .repairActivation =>
   True
   | _ =>
     t.adc.diagChan = s.adc.diagChan ∧ t.adc.diagConv = s.adc.diagConv) ∧
  (match c with
   | .powerOnReset .. | .logicRailFail .. | .ready .. | .readyTimeout .. | .shipWake .. | .longPressHoldEnd .. |
   .calibrationFrameBoundary .. | .adcClearFailed .. | .spiWrite .. | .registerWrite .. | .regReq .. | .activate | .activationTimeReached |
   .peerGuardRecheck | .trialEnd | .activationCellStep | .activationStructure | .repairActivation => True
   | _ =>
     t.adc.failed = s.adc.failed) ∧
  (match c with
   | .powerOnReset .. | .logicRailFail .. | .btnPress | .shipWake .. | .longPressReset | .longPressHoldEnd .. | .spiWrite .. |
   .registerWrite .. | .regReq .. | .activate | .activationTimeReached | .peerGuardRecheck | .trialEnd | .activationCellStep |
   .activationStructure | .repairActivation | .btnRelease .. => True
   | _ =>
     t.eis.btn = s.eis.btn) ∧
  (match c with
   | .powerOnReset .. | .logicRailFail .. | .shipEntryDone | .shipWake .. | .longPressHoldEnd .. | .spiWrite .. | .registerWrite .. |
   .regReq .. | .activate | .activationTimeReached | .peerGuardRecheck | .trialEnd | .activationCellStep | .activationStructure |
   .repairActivation => True
   | _ =>
     t.eis.entries = s.eis.entries ∧ t.eis.mask = s.eis.mask ∧ t.eis.gateIn = s.eis.gateIn ∧ t.eis.wakeGate = s.eis.wakeGate ∧
     t.eis.wakeV = s.eis.wakeV) ∧
  (match c with
   | .powerOnReset .. | .logicRailFail .. | .ready .. | .readyTimeout .. | .sourceQualifyStart .. | .sourceDrop .. | .handbackTimeout |
   .testDrop .. | .shipWake .. | .longPressHoldEnd .. | .quietWindowEnd .. | .status .. | .peerEnd .. | .peerReplyTimeout .. | .swapPulse ..
   | .swapFail .. | .swapOfferTimeout .. | .partnerLost .. | .endContract .. | .stagedSetApply | .spiWrite .. | .registerWrite .. |
   .regReq .. | .activate | .activationTimeReached | .peerGuardRecheck | .trialEnd | .activationCellStep | .activationStructure |
   .repairActivation => True
   | _ =>
     t.pwr.coCause = s.pwr.coCause ∧ t.pwr.coCount = s.pwr.coCount ∧ t.pwr.coEntry = s.pwr.coEntry ∧ t.pwr.coStart = s.pwr.coStart) ∧
  (match c with
   | .powerOnReset .. | .logicRailFail .. | .shipWake .. | .longPressHoldEnd .. | .spiWrite .. | .registerWrite .. | .regReq .. |
   .graftOffer .. | .storeChunk .. | .discard | .activate | .activationTimeReached | .peerGuardRecheck | .trialEnd | .activationCellStep |
   .activationStructure | .repairActivation => True
   | _ =>
     t.upd.gid = s.upd.gid ∧ t.upd.release = s.upd.release) ∧
  (match c with
   | .powerOnReset .. | .logicRailFail .. | .shipWake .. | .longPressHoldEnd .. | .spiWrite .. | .ifWrite .. | .registerWrite .. |
   .regReq .. | .activate | .activationTimeReached | .peerGuardRecheck | .trialEnd | .activationCellStep | .activationStructure |
   .repairActivation => True
   | _ =>
     t.spi.irqEn = s.spi.irqEn) ∧
  (match c with
   | .powerOnReset .. | .logicRailFail .. | .shipWake .. | .longPressHoldEnd .. | .spiRead .. | .spiWrite .. | .registerWrite .. |
   .regReq .. | .activate | .activationTimeReached | .peerGuardRecheck | .trialEnd | .activationCellStep | .activationStructure |
   .repairActivation | .fltEventRead .. => True
   | _ =>
     t.flt.last = s.flt.last ∧ t.flt.lastAddr = s.flt.lastAddr)

/-- R377: the answer to question q, computed as the rule computes it. -/
def Obligations.WatchdogToken : Prop :=
  (∀ (q : BitVec 16) (salt : Word),
    let word : Word := ((~~~q).setWidth 32 <<< 16) ||| q.setWidth 32
    let r := (q &&& 0x1F).toNat
    token q salt = (if r = 0 then word else (word <<< r) ||| (word >>> (32 - r))) ^^^ salt) ∧
  token 0xACE1 0x0F0F3C3C = 0xA93265FE ∧ token 0xE270 0x0F0F3C3C = 0xED7F21B3 ∧ lfsrNext 0xACE1 = 0xE270

/-- R379, Table 14-2: the judgement of an answer at the count at which it becomes effective, and of a period without one, with the
result and the count that WDG_LAST records. -/
def Obligations.WatchdogJudgement : Prop := ∀ s : State, Awake s →
  (∀ c t, wdgRuns s.wdg = true → s.wdg.answer = some t → c < s.wdg.opensAt → ∃ u, exec (.wdgAnswerEffective c) s = .next (settle s u) ∧
    u.wdg.lastResult = 2 ∧ u.wdg.lastCount = c ∧ u.wdg.state = .trap) ∧
  (∀ c, wdgRuns s.wdg = true → s.wdg.answer = some (token s.wdg.q (wdgSalt s)) → s.wdg.opensAt ≤ c → c < s.wdg.period →
    ∃ u, exec (.wdgAnswerEffective c) s = .next (settle s u) ∧ u.wdg.lastResult = 1 ∧ u.wdg.lastCount = c ∧ u.wdg.count = 0 ∧
      u.wdg.q = lfsrNext s.wdg.q ∧ u.wdg.answer = none ∧ wdgRuns u.wdg = true) ∧
  (∀ c t, wdgRuns s.wdg = true → s.wdg.answer = some t → t ≠ token s.wdg.q (wdgSalt s) → s.wdg.opensAt ≤ c → c < s.wdg.period →
    ∃ u, exec (.wdgAnswerEffective c) s = .next (settle s u) ∧ u.wdg.lastResult = 4 ∧ u.wdg.lastCount = c ∧ u.wdg.state = .trap) ∧
  (wdgRuns s.wdg = true → ∃ u, exec .wdgExpiry s = .next (settle s u) ∧ u.wdg.lastResult = 5 ∧ u.wdg.lastCount = s.wdg.period ∧
    u.wdg.state = .trap) ∧
  (∀ t, wdgRuns s.wdg = true → s.wdg.answer = some t → s.wdg.opensAt ≤ s.wdg.period → ∃ u,
    exec (.wdgAnswerEffective s.wdg.period) s = .next (settle s u) ∧ u.wdg.lastResult = 3 ∧ u.wdg.lastCount = s.wdg.period ∧
    u.wdg.state = .trap) ∧
  (∀ c, wdgRuns s.wdg = false → exec (.wdgAnswerEffective c) s = .next (settle s s))

/-- R384, R27: a period written waits for the start of the first period that begins after it has crossed into the watchdog's
domain, which is sure from 110 µs on and open between 50 and 110 µs (log entry 83); it is ignored, with REJ, while LOCK is set,
out of its range or in TRAP; LOCK is only ever set by a write, and every power-on reset and core reset brings 16,384 ticks and no
lock. -/
def Obligations.WatchdogPeriodWrites : Prop := ∀ s : State, Awake s →
  (∀ d, s.wdg.lock = false → s.wdg.state ≠ .trap → 33 ≤ field d 0 18 → field d 0 18 ≤ 131072 → exec (.wdgPeriodWrite d) s =
    .next (settle s { s with wdg := { s.wdg with newPeriod := some (field d 0 18), newAt := s.now } })) ∧
  (∀ d, (s.wdg.lock = true ∨ s.wdg.state = .trap ∨ field d 0 18 < 33 ∨ 131072 < field d 0 18) → exec (.wdgPeriodWrite d) s =
    .next (settle s { s with wdg := { s.wdg with rej := true } })) ∧
  (∀ q p, s.wdg.newPeriod = some p → 110 ≤ s.now - s.wdg.newAt →
    (wdgPeriod q s).wdg.period = p ∧ (wdgPeriod q s).wdg.newPeriod = none) ∧
  (∀ q p, s.wdg.newPeriod = some p → s.now - s.wdg.newAt < 50 →
    (wdgPeriod q s).wdg.period = s.wdg.period ∧ (wdgPeriod q s).wdg.newPeriod = some p) ∧
  (∀ q, s.wdg.newPeriod = none → (wdgPeriod q s).wdg.period = s.wdg.period) ∧
  (∀ d, (wdgCfgWrite d s).wdg.lock = (s.wdg.lock || d.getLsbD 0)) ∧
  (∀ n a, (coreReset n a s).wdg.period = 16384 ∧ (coreReset n a s).wdg.lock = false ∧ (coreReset n a s).wdg.newPeriod = none) ∧
  (coldState s).wdg.period = 16384 ∧ (coldState s).wdg.lock = false ∧ (coldState s).wdg.newPeriod = none

/-- R418: the life-cycle state is what the transition words spell, a done word counting when all 32 bits read 1 and a void word
when 8 or more do. -/
def Obligations.LifeStateFromWords : Prop := ∀ s : State,
  let done := fun (t a : Nat) => decide (otpRaw s (pairWord t a + 1) = 0xFFFFFFFF)
  let void := fun (t a : Nat) => decide (8 ≤ popCount (otpRaw s (pairWord t a + 2)))
  let l1 := if done 1 0 = true ∧ void 1 0 = false then Life.factory else .blank
  let l2 := if done 2 0 = true ∧ void 2 0 = false then Life.provisioned else l1
  let l3 := if done 3 0 = true ∧ void 3 0 = false then Life.field else l2
  let l4 := [0, 1, 2, 3].foldl (fun l a =>
    let m := if done 4 a = true ∧ void 4 a = false then Life.return_ else l
    if done 6 a = true then Life.field else m) l3
  lifeFrom s = (if done 5 0 = true then Life.scrapped else l4)

/-- R283: the CRC-8 of the 56 bits of a frame is what the rule's loop leaves, and a frame that ends in its CRC leaves 0; the frame
of the rule's example ends in 0x61. -/
def Obligations.SpiFrameCrc : Prop :=
  (∀ v : Nat, v < 2 ^ 56 →
    crc8 v = (List.range 56).foldl (fun crc k =>
      let fb := Bool.xor (v.testBit (55 - k)) (decide (crc / 128 % 2 = 1))
      let c := crc * 2 % 256
      if fb then c ^^^ 0x2F else c) 0xFF ∧
    (bitsMsb 64 (v * 256 + crc8 v)).foldl crc8Bit 0xFF = 0) ∧
  crc8 0x01000000000000 = 0x61

/-- R395, Table 14-7: the fields of a compatibility message; a read of an empty queue returns 0. -/
def Obligations.CompatMessageFields : Prop := ∀ (s : State) (b : Agent) (n k : Nat) (a : Word), k < 16 → n < 256 →
  field (compatWord n k a) 24 8 = compatSource (n / 16) ∧ field (compatWord n k a) 20 4 = k ∧
  field (compatWord n k a) 16 4 = field a 29 3 ∧ field (compatWord n k a) 12 4 = field a 25 4 ∧
  field (compatWord n k a) 7 5 = field a 20 5 ∧ field (compatWord n k a) 1 6 = field a 14 6 ∧
  (s.flt.cmq = [] → regValue s b 0x3200 = 0)

/-- R37, R41, R101, R118: a power-on reset (the supply becomes valid) starts the module anew: the logic is supplied, the timebase
at zero, the queue, the part and, with no flash operation cut, both flash banks kept, the staged bank's applied count, the
watchdog's expiry count, the last event read and the interrupt enables at their reset values, and no wake cause held. The supply
inputs that stay above their threshold leave the module alone; where they fall below it and the reset re-arms, the module is left
unpowered with the stores kept; where the sag turns back before that, the module goes on with the sag marked (log entry 56). R25:
during STAGING the core PLL goes to a qualified crystal; a lost crystal returns it to the internal oscillator; in the other cases
neither report changes the clock. -/
def Obligations.PowerAndClockRows : Prop :=
(∀ s : State,
  (∀ env, ∃ t, exec (.powerOnReset env) s = .next t ∧ t.powered = true ∧ t.now = 0 ∧ t.hw = s.hw ∧ t.pending = s.pending ∧
    (s.fls.op = none → t.fls.bank0 = s.fls.bank0 ∧ t.fls.bank1 = s.fls.bank1) ∧ t.stg.applied = 0 ∧ t.wdg.expiries = 0 ∧
    t.flt.last = 0 ∧ t.flt.lastAddr = 0 ∧ t.spi.irqEn = 0) ∧
  (∀ low r, (s.powered = false ∨ railsUp low = true) → exec (.logicRailFail low r) s = .next { s with orIn := low }) ∧
  (∀ low, s.powered = true → railsUp low = false → ∃ t, exec (.logicRailFail low true) s = .next t ∧ t.powered = false ∧ t.orIn = low ∧
    t.sys.mode = .staging ∧ t.now = 0 ∧ t.hw = s.hw ∧ t.pending = s.pending ∧ t.wake = s.wake ∧ t.lcs.otp = s.lcs.otp ∧
    (s.fls.op = none → t.fls.bank0 = s.fls.bank0 ∧ t.fls.bank1 = s.fls.bank1)) ∧
  (∀ low, s.powered = true → railsUp low = false → s.sys.mode = .ship → exec (.logicRailFail low false) s = .next { s with orIn := low }) ∧
  (∀ low, s.powered = true → railsUp low = false → s.sys.mode ≠ .ship → ∃ u, exec (.logicRailFail low false) s =
    .next (settle { s with orIn := low } u) ∧ u.upset = true ∧ u.fls.op = none ∧ u.powered = true ∧ u.orIn = low)) ∧
(∀ s : State, Awake s →
  (s.sys.mode = .staging → exec .crystalQualified s = .next (settle s { s with crystal := true, xtalLost := false })) ∧
  (s.sys.mode ≠ .staging → exec .crystalQualified s = .next (settle s s)) ∧
  (s.crystal = true → exec .crystalLost s = .next (settle s { s with crystal := false, xtalLost := true })) ∧
  (s.crystal = false → exec .crystalLost s = .next (settle s s)))

/-- R31, R36, R41: a link that trains makes its cell READY with the measured delay, no telemetry yet and no frame waiting, and its
cordon takes it back; a failed training is counted, the third marks the cell FAILED with its link down; a lost link puts the cell
into TRAINING and out of its cordon, a switching one holding its set points until the hold of 1 ms ends with the switches off; a
gate-drive lockout turns the switches off at once. -/
def Obligations.LinkTrainingRows : Prop := ∀ (s : State) (n : Nat), Awake s →
  (∀ d, (s.cell n).state = .training → s.upd.skipped.getLsbD (n - 1) = false →
    let t := s.modCell n (fun c =>
      { noTelem c with state := .ready, mode := .off, uc := startUc s (s.cell n), removed := false, engaged := false, absorbing := false,
                       link := { clearLink c.link with trained := true, delayNs := d, fails := 0, down := false, holding := false } })
    let e := (t.cordon (servedCordon t n)).e
    exec (.linkTrainingComplete n d) s = .next (settle s (returnToCordon n
      (if startUc s (s.cell n) = 0 ∧ e.role = .battery then t.modRun e.index (runAbort s.now 10) else t)))) ∧
  ((s.cell n).state = .training → (s.cell n).link.fails < 2 → exec (.linkTrainingFail n) s =
    .next (settle s (s.modCell n (fun c => { c with link := { c.link with fails := c.link.fails + 1 } })))) ∧
  ((s.cell n).state = .training → 2 ≤ (s.cell n).link.fails → exec (.linkTrainingFail n) s =
    .next (settle s (loseCell n (s.modCell n (fun c =>
      { c with state := .failed, mode := .off, link := { c.link with fails := 3, down := true } }))))) ∧
  (∀ m, (s.cell n).state ≠ .off → (s.cell n).state ≠ .failed → (s.cell n).state ≠ .selftest → exec (.linkDown n m) s =
    .next (settle s (loseCell n (s.modCell n (fun c =>
      { c with state := if c.state = .off ∨ c.state = .failed then c.state else .training, armed := none, syncs := [],
               trip := putBit c.trip 8 true, removed := true, ucFill := 0, ucInto := 0,
               link := { clearLink c.link with trained := false, down := true, downBy := if m then .merja else .cell,
                                               holding := switching c } }))))) ∧
  ((s.cell n).link.holding = true → cellFitted s n = true → ∃ u, exec (.linkHoldExpiry n) s = .next (settle s u) ∧
    (u.cell n).mode = .off ∧ (u.cell n).engaged = false ∧ (u.cell n).absorbing = false ∧ (u.cell n).link.holding = false ∧
    (u.cell n).state = (s.cell n).state ∧ ∀ m, m ≠ n → u.cell m = s.cell m) ∧
  ((s.cell n).state ≠ .off → (s.cell n).state ≠ .failed → (s.cell n).state ≠ .selftest →
    let t := s.modCell n (fun c => let d := linkLost c
      { d with trip := putBit d.trip 6 true, latched := if Trip.uvlo ∈ d.latched then d.latched else .uvlo :: d.latched,
               mode := .off, engaged := false, absorbing := false, ucFill := 0, ucInto := 0, link := { d.link with holding := false } })
    exec (.gateDriveUvlo n) s = .next (settle s (abortTestsOf (servedCordon t n) (loseCell n t))))

/-- R29, R30, R34, R53, R57, R69: what a cell whose link has trained does with each frame from Merja. A SYNC in the reserved slot
is taken with its tick and commit-go flag, the last two being kept. While the core sends frames, a SET writes the set points of a
cell of a cordon (by its engage flag the cell engages in CASK_V), and an ARM is held for its tick. A CMD runs the microcode
commands: an erase enters UPDATE with the spare slot, a body is appended, an activation orders the written slot active. RSP gives
its data, an acknowledgement ends the wait it answers, and a negative one repeats the frame up to twice. R34, R35: at its tick an
armed set is applied by a cell that holds a commit-go SYNC of one of the two cycles before it, and given up by one whose SYNC had
no commit-go; a cell that received neither SYNC stops switching and holds the trip COMMIT_MISSED. -/
def Obligations.LinkFrameRows : Prop :=
(∀ (s : State) (n : Nat), Awake s → cellFitted s n = true → (s.cell n).link.trained = true →
  (∀ x, (s.cell n).link.slot = some x → ∃ u, exec (.sync n) s = .next (settle s u) ∧ (u.cell n).syncs = (x :: (s.cell n).syncs).take 2 ∧
    (u.cell n).link.slot = none) ∧
  (s.limp.linksHeld = false → s.sys.mode ≠ .staging →
    (∀ p, (s.cell n).cordon ≠ 0 → p.engage = false → (s.cell n).state = .standby → (s.cell n).latched = [] → (s.cell n).absorbing = false →
      p.mode = .portI → (0 ≤ p.iSet ∨ (s.cell n).valid = false ∨ 2000 ≤ (s.cell n).vPort) →
      ∃ u, exec (.set n p) s = .next (settle s u) ∧ (u.cell n).sp = p ∧ (u.cell n).state = .run ∧ (u.cell n).mode = .portI ∧
        ∀ m, m ≠ n → u.cell m = s.cell m) ∧
    (∀ p, (s.cell n).cordon ≠ 0 → p.engage = true → (s.cell n).state = .standby → (s.cell n).latched = [] →
      (p.iNeg = 0 ∨ (s.cell n).valid = false ∨ 2000 ≤ (s.cell n).vPort) →
      ∃ u, exec (.set n p) s = .next (settle s u) ∧ (u.cell n).sp = { p with mode := .caskV } ∧ (u.cell n).state = .run ∧
        (u.cell n).mode = .caskV ∧ (u.cell n).engaged = true ∧ (u.cell n).engagedBySet = true) ∧
    (∀ p, (s.cell n).cordon ≠ 0 → p.engage = false → p.mode = .portI → p.iSet < 0 → (s.cell n).valid = true → (s.cell n).vPort < 2000 →
      ∃ u, exec (.set n p) s = .next (settle s u) ∧ (u.cell n).sp = (s.cell n).sp ∧ (u.cell n).mode = (s.cell n).mode ∧
        (u.cell n).state = (s.cell n).state ∧ (u.cell n).limitReason = 4) ∧
    (∀ k p, ∃ u, exec (.arm n k p) s = .next (settle s u) ∧ (u.cell n).armed = some (k, p) ∧ (u.cell n).sp = (s.cell n).sp ∧
      (u.cell n).mode = (s.cell n).mode)) ∧
  (s.limp.linksHeld = false →
    ((s.cell n).state = .ready → runOnCordon s n = false → ∃ u, exec (.cmd n .ucErase) s = .next (settle s u) ∧
      (u.cell n).state = .update ∧ (u.cell n).ucFill = 0 ∧ (u.cell n).ucInto = spareSlot (s.cell n) ∧
      slotOf (u.cell n) (spareSlot (s.cell n)) = []) ∧
    (∀ bs, (s.cell n).state = .update → (s.cell n).ucFill + bs.length ≤ 65504 → ∃ u, exec (.cmd n (.ucBody bs)) s = .next (settle s u) ∧
      (u.cell n).ucFill = (s.cell n).ucFill + bs.length) ∧
    ((s.cell n).state = .update → ∃ u, exec (.cmd n .ucActivate) s = .next (settle s u) ∧ (u.cell n).activeSlot = (s.cell n).ucInto)) ∧
  (∀ q d, ∃ u, exec (.rsp n q d) s = .next (settle s u) ∧ (u.cell n).link.rsp = d) ∧
  (∀ q w, (s.cell n).link.waits = [w] → w.seq = q → ∃ u, exec (.ack n q true true) s = .next (settle s u) ∧ (u.cell n).link.waits = []) ∧
  (∀ q w, (s.cell n).link.waits = [w] → w.seq = q → w.tries < 2 → ∃ u, exec (.ack n q true false) s = .next (settle s u) ∧
    (u.cell n).link.waits = [{ w with tries := w.tries + 1 }]) ∧
  (∀ q w, (s.cell n).link.upWaits = [w] → w.seq = q → ∃ u, exec (.ack n q false true) s = .next (settle s u) ∧ (u.cell n).link.upWaits = [])) ∧
(∀ (s : State) (n k : Nat) (p : SetPoints), Awake s → cellFitted s n = true →
  (s.cell n).armed = some (k, p) →
  (goFor (s.cell n) k = true → (s.cell n).link.trained = true → (s.cell n).engaged = false → (s.cell n).latched = [] →
    (s.cell n).state = .run → (s.cell n).absorbing = false → p.mode = .portV → ∃ u, exec (.applyArmedSet n) s = .next (settle s u) ∧
      (u.cell n).armed = none ∧ (u.cell n).appliedAt = some k ∧ (u.cell n).sp = p ∧ (u.cell n).mode = .portV ∧ (u.cell n).state = .run) ∧
  (goFor (s.cell n) k = true → (s.cell n).engaged = true → ∃ u, exec (.applyArmedSet n) s = .next (settle s u) ∧
      (u.cell n).armed = none ∧ (u.cell n).appliedAt = some k ∧ (u.cell n).mode = (s.cell n).mode ∧ (u.cell n).sp.vMax = p.vMax ∧
      (u.cell n).sp.iPos = p.iPos ∧ (u.cell n).sp.iNeg = p.iNeg ∧ (u.cell n).sp.pLim = p.pLim ∧ (u.cell n).sp.iSet = (s.cell n).sp.iSet) ∧
  (goFor (s.cell n) k = false → syncFor (s.cell n) k = true → ∃ u, exec (.applyArmedSet n) s = .next (settle s u) ∧
    (u.cell n).armed = none ∧ (u.cell n).sp = (s.cell n).sp ∧ (u.cell n).mode = (s.cell n).mode) ∧
  (syncFor (s.cell n) k = false → (s.cell n).state = .run → ∃ u, exec (.commitMissed n) s = .next (settle s u) ∧
    (u.cell n).state = .tripped ∧ (u.cell n).mode = .off ∧ (u.cell n).armed = none ∧ Trip.commitMissed ∈ (u.cell n).latched) ∧
  (syncFor (s.cell n) k = true → exec (.commitMissed n) s = .next (settle s s)))

/-- R33, R37, R44, Table 2-17: a telemetry frame of a trained cell writes its values to the cell's window, chooses its region and
gives the inputs of the OR-ing bus their reading. R57, R63, R123, R179, R207: what each EVENT of a cell starts: a trip report sets
the trip's bit and fires the trip's trigger, a crossing is the path's latest band, the first engagement of a changeover is its
trigger, a cask above V_CASK_REGEN begins a regeneration episode and opens the gate, and a port at its maximum within 10 ms of the
charge command clears the suspicion of a missing string. -/
def Obligations.TelemetryRows : Prop := ∀ (s : State) (n : Nat), Awake s → (s.cell n).link.trained = true → cellFitted s n = true →
  (∀ f, ∃ u, exec (.telem n f) s = .next (settle s u) ∧ (u.cell n).valid = true ∧ (u.cell n).seq = f.seq % 65536 ∧
    (u.cell n).vPort = f.vPort ∧ (u.cell n).vCask = f.vCask ∧ (u.cell n).iPort = f.iPort ∧
    (u.cell n).pPort = (f.vPort : Int) * f.iPort / 10000 ∧
    (u.cell n).region = regionOf (s.cell n).region f.vPort f.vCask ∧ (u.cell n).t1 = f.t1 ∧ (u.cell n).t2 = f.t2 ∧ u.orIn.cask = f.vCask ∧
    ∀ m, m ≠ n → u.cell m = s.cell m) ∧
  (∀ t, t = Trip.portOv ∨ t = Trip.ot →
    let x := (s.modCell n (merjaGot typEvent)).modCell n (fun x => { x with trip := putBit x.trip (tripBit t) true })
    exec (.event n (.trips [t])) s = .next (settle s (fireSource (0x40 + servedCordon (s.modCell n (merjaGot typEvent)) n)
      (abortTestsOf (servedCordon (s.modCell n (merjaGot typEvent)) n) x)))) ∧
  (∀ b, srcOfCordon s (servedCordon s n) ≠ 0 → srcOfCordon s (servedCordon s n) ≤ 8 → s.sys.mode ≠ .limp → b ≠ .slope →
    ∃ u, exec (.event n (.crossing b)) s = .next (settle s u) ∧ (u.src (srcOfCordon s (servedCordon s n))).band = b) ∧
  (s.pwr.path = .changeover → s.pwr.coTrigger = 0 → ∃ u, exec (.event n (.engaged .setFrame)) s = .next (settle s (fireSource
    (0x30 + servedCordon u n) u)) ∧ u.pwr.coTrigger = 1 ∧ u.pwr.path = .changeover) ∧
  (s.ppt.regen.state = .none → ∃ u, exec (.event n .regenOn) s = .next (settle s u) ∧ u.ppt.regen.state = .absorb ∧
    u.ppt.regen.episodes = satInc 65535 s.ppt.regen.episodes ∧ u.ppt.regen.brkTime = 0 ∧ u.pwr.gate.closed = false) ∧
  (s.ppt.regen.state = .none → exec (.event n .regenOff) s = .next (settle s (s.modCell n (merjaGot typEvent)))) ∧
  (∀ m, (s.cordon (servedCordon s n)).e.role = .battery → 1 ≤ (s.cordon (servedCordon s n)).e.index →
    (s.cordon (servedCordon s n)).e.index ≤ 4 → (s.bat (s.cordon (servedCordon s n)).e.index).chargeAt ≠ 0 →
    s.now < (s.bat (s.cordon (servedCordon s n)).e.index).chargeAt + 10000 → ∃ u, exec (.event n (.portMax m)) s = .next (settle s u) ∧
      (u.bat (s.cordon (servedCordon s n)).e.index).maxSeen = true)

/-- R60, R62, R63, Table 2-8: a protection acts on the cell's own switches at once and is counted and latched; a gate-drive
lockout also ends its training; a self-clearing one lets it resume the set points it held, a latching one waits for RESTART, which
the module sends after an overcurrent until the retries are used up, when the cell is FAILED. R46, R47: an overload account that
runs empty stays at zero, binds the cell to its continuous ratings and refreshes the limits in effect. -/
def Obligations.ProtectionRows : Prop :=
(∀ (s : State) (n : Nat), Awake s → cellFitted s n = true →
  (∀ t, t ≠ .uvlo → t ≠ .desat → (s.cell n).state = .run → ∃ u, exec (.protectionTrip n t) s = .next (settle s u) ∧
    (u.cell n).state = .tripped ∧ (u.cell n).mode = .off ∧ t ∈ (u.cell n).latched ∧ (u.cell n).trip.getLsbD (tripBit t) = true) ∧
  ((s.cell n).state = .run → ∃ u, exec (.protectionTrip n .desat) s = .next (settle s u) ∧ (u.cell n).state = .failed ∧
    (u.cell n).mode = .off ∧ Trip.desat ∈ (u.cell n).latched) ∧
  (∀ t, tripLatching t = false → (s.cell n).state = .tripped → (s.cell n).latched = [t] → (s.cell n).sp.mode = .portV →
    (s.cell n).runBefore = true → ∃ u, exec (.tripCleared n t) s = .next (settle s u) ∧ (u.cell n).state = .run ∧
      (u.cell n).mode = .portV ∧ (u.cell n).latched = []) ∧
  (∀ t, tripLatching t = true → exec (.tripCleared n t) s = .next (settle s s)) ∧
  ((s.cell n).restart = true → (s.cordon (servedCordon s n)).state ≠ .stopped → (s.cell n).portShort = false → ocRetries (s.cell n) < 4 →
    (s.cell n).state = .tripped → ∃ u, exec (.ocRestart n) s = .next (settle s u) ∧ (u.cell n).restart = false ∧
      ∀ t ∈ (u.cell n).latched, tripLatching t = false ∧ t ∈ (s.cell n).latched) ∧
  ((s.cell n).restart = true → (s.cordon (servedCordon s n)).state ≠ .stopped → (s.cell n).portShort = false → 4 ≤ ocRetries (s.cell n) →
    exec (.ocRestart n) s = .next (settle s (loseCell n (s.modCell n (fun c => { c with state := .failed, restart := false })))))) ∧
(∀ (s : State) (n : Nat), Awake s → cellFitted s n = true →
  ∃ u, exec (.overloadAccountEmpty n) s = .next (settle s u) ∧ (u.cell n).ovld = 0 ∧ (u.cell n).ovldLow = true ∧
    (u.cell n).iLim ≤ iCont (s.cell n).vPort ∧ (u.cell n).pLim ≤ 3000 ∧ ∀ m, m ≠ n → u.cell m = s.cell m)

/-- Table 2-14: CEL_CMD on a fitted cell outside STAGING and LIMP. RESULT 0 and the effect of the code; a FAILED cell is refused
with 5, an absent cell with 3, and in LIMP and STAGING with 4. -/
def Obligations.CellCommandRows : Prop := ∀ (s : State) (n : Nat), Awake s →
  (cellFitted s n = false → ∀ c ∈ [Instr.startSelftest n, .restart n, .withdraw n, .returnCell n, .clearFailed n],
    ∃ u, exec c s = .next (settle s u) ∧ u.cel.cmd.result = 3 ∧ u.cells = s.cells) ∧
  (cellFitted s n = true → (s.sys.mode = .limp ∨ s.sys.mode = .staging) →
    ∀ c ∈ [Instr.startSelftest n, .restart n, .withdraw n, .returnCell n, .clearFailed n],
      ∃ u, exec c s = .next (settle s u) ∧ u.cel.cmd.result = 4 ∧ u.cells = s.cells) ∧
  (cellFitted s n = true → s.sys.mode ≠ .limp → s.sys.mode ≠ .staging →
    (testable (s.cell n).state = true → runOnCordon s n = false → mayLeave s n = true → ∃ u, exec (.startSelftest n) s =
      .next (settle s u) ∧ (u.cell n).state = .selftest ∧ (u.cell n).mode = .off ∧ (u.cell n).st.commanded = true ∧ u.cel.cmd = cmdRes 1 0) ∧
    ((s.cell n).state = .tripped → ocCondemned (s.cell n) = false → ∃ u, exec (.restart n) s = .next (settle s u) ∧
      (u.cell n).restart = false ∧ (∀ t ∈ (u.cell n).latched, tripLatching t = false ∧ t ∈ (s.cell n).latched) ∧ u.cel.cmd = cmdRes 2 0) ∧
    (testable (s.cell n).state = true → (s.cell n).withdrawn = false → runOnCordon s n = false → mayLeave s n = true →
      ∃ u, exec (.withdraw n) s = .next (settle s u) ∧ (u.cell n).withdrawn = true ∧ (u.cell n).state = .ready ∧ (u.cell n).mode = .off ∧
        u.cel.cmd = cmdRes 3 0) ∧
    ((s.cell n).state ≠ .failed → (s.cell n).withdrawn = true → ∃ u, exec (.returnCell n) s = .next (settle s u) ∧
      (u.cell n).withdrawn = false ∧ u.cel.cmd = cmdRes 4 0) ∧
    ((s.cell n).state = .failed → ∃ u, exec (.clearFailed n) s = .next (settle s u) ∧ (u.cell n).state = .training ∧
      (u.cell n).latched = [] ∧ (u.cell n).link.fails = 0 ∧ (u.cell n).link.trained = false ∧ u.cel.cmd = cmdRes 5 0) ∧
    ((s.cell n).state = .failed → ∀ c ∈ [Instr.startSelftest n, .restart n, .withdraw n, .returnCell n],
      ∃ u, exec c s = .next (settle s u) ∧ u.cel.cmd.result = 5 ∧ u.cells = s.cells))

/-- R70, R71, R190: a self-test due begins when the cell can be relieved and waits for an impedance run on its cordon; a passed
one returns the cell to its cordon with RESULT 1, a failed one marks it FAILED with the fault address; an abort returns it to
READY with RESULT 3, and after an hour it is tried again. R69: a microcode transfer ends with the cell's reset into TRAINING. A
transfer that is whole gets its completion mark and, where the slot then verifies, becomes the active one; a failed one leaves
another active slot as it is. -/
def Obligations.SelfTestRows : Prop :=
(∀ (s : State) (n : Nat), Awake s → cellFitted s n = true →
  (working s.sys.mode = true → testable (s.cell n).state = true → (s.cell n).withdrawn = false →
    (runOnCordon s n = false → mayLeave s n = true → ∃ u, exec (.selftestDue n) s = .next (settle s u) ∧ (u.cell n).state = .selftest ∧
      (u.cell n).mode = .off ∧ (u.cell n).st.waiting = false) ∧
    (runOnCordon s n = true → ∃ u, exec (.selftestDue n) s = .next (settle s u) ∧ (u.cell n).state = (s.cell n).state ∧
      (u.cell n).st.waiting = true) ∧
    (runOnCordon s n = false → mayLeave s n = true → (s.cell n).st.result = 3 → ∃ u, exec (.selftestReschedule n) s = .next (settle s u) ∧
      (u.cell n).state = .selftest ∧ (u.cell n).mode = .off)) ∧
  ((s.cell n).state = .selftest →
    (∀ a, exec (.selftestComplete n true a) s = .next (settle s (returnToCordon n (s.modCell n (fun x =>
      { x with state := .ready,
               st := { x.st with result := 1, aborts := 0, doneAt := s.now, commanded := false, waiting := false } }))))) ∧
    (∀ a, exec (.selftestComplete n false a) s = .next (settle s (loseCell n (raiseSrc (16 * n + 10) 0 (cellAddr s n a) (s.modCell n (fun x =>
      { x with state := .failed, st := { x.st with result := 2, aborts := 0, doneAt := s.now, commanded := false, waiting := false,
                                                   addr := cellAddr s n a } })))))) ∧
    ((s.cell n).st.aborts < 2 → exec (.abort n) s = .next (settle s (returnToCordon n (s.modCell n (fun x =>
      { x with state := .ready, st := { x.st with result := 3, aborts := (s.cell n).st.aborts + 1, commanded := false,
                                                  waiting := false } })))))) ∧
  ((s.cell n).state ≠ .selftest → exec (.abort n) s = .next (settle s s))) ∧
(∀ (s : State) (n : Nat) (ok : Bool), Awake s → cellFitted s n = true → (s.cell n).state = .update →
  ∃ u, exec (.microcodeTransferEnd n ok) s = .next (settle s u) ∧ (u.cell n).state = .training ∧ (u.cell n).mode = .off ∧
    (u.cell n).link.trained = false ∧ (u.cell n).ucFill = 0 ∧ (u.cell n).ucInto = 0 ∧
    (ok = true → (s.cell n).ucInto ≠ 0 → slotCode (slotOf (ucMark (s.cell n)) (s.cell n).ucInto) = 2 →
      (u.cell n).activeSlot = (s.cell n).ucInto) ∧
    (ok = false → (s.cell n).activeSlot ≠ (s.cell n).ucInto → (u.cell n).activeSlot = (s.cell n).activeSlot))

/-- Table 3-11: RESTART_CORDON returns a STOPPED cordon to IDLE with RESULT 0, refuses another state with 1 and LIMP with 2. R93:
the running image that waits for it is written to the last good copy, once: where the newer slot holds it already nothing is
written, and else the Cellar alone changes. -/
def Obligations.CordonAndCopyRows : Prop :=
(∀ (s : State) (n : Nat), Awake s →
  (s.sys.mode = .limp → exec (.restartCordon n) s = .next (settle s { s with str := { s.str with cmd := cmdRes 1 2 } })) ∧
  (s.sys.mode ≠ .limp → (s.cordon n).state ≠ .stopped → exec (.restartCordon n) s = .next (settle s { s with str := { s.str with cmd := cmdRes 1 1 } })) ∧
  (s.sys.mode ≠ .limp → (s.cordon n).state = .stopped → (s.cordon n).e.role = .system → 1 ≤ n → n ≤ 7 →
    ∃ u, exec (.restartCordon n) s = .next (settle s u) ∧ (u.cordon n).state = .idle ∧ (u.cordon n).shortTimes = [] ∧ u.str.cmd = cmdRes 1 0)) ∧
(∀ s : State, Awake s →
  (s.str.copyDue = true → (lgcPick s).map (lgcBytes s) = some s.str.image → exec .lastGoodCopyWrite s =
    .next (settle s { s with str := { s.str with copyDue := false } })) ∧
  (s.str.copyDue = true → (lgcPick s).map (lgcBytes s) ≠ some s.str.image → ∃ u, exec .lastGoodCopyWrite s = .next (settle s u) ∧
    u.str.copyDue = false ∧ u.str.image = s.str.image ∧ u.cells = s.cells ∧ u.cordons = s.cordons ∧
    (memWf ff s.clr.mem = true → s.str.image.length ≤ 8192 → lgcBytes u (if lgcPick s = some 0 then 1 else 0) = s.str.image)) ∧
  (s.str.copyDue = false → exec .lastGoodCopyWrite s = .next (settle s s)))

/-- R99, R116, R117, Table 4-11: SERVICE is entered for a lease of 1 to 60 min from a working mode and left on command or at the
end of the lease, to NORMAL or RESERVE as a source path is usable, the forcing of a fault source ended; a lease outside 1 to 60
min is refused with 5, and the commands outside their mode, or while the entry of SHIP runs, with 3. R108, R115, Table 4-11:
CORE_RESET with its key is LIMP cause 6 with a core reset of code 2 that stops the main image; CLEAR_LIMP_LOCK leads from LOCKED
to ROM with the LIMP count and the lock cleared; a wrong key is refused with 2 and a wrong mode with 3 or 6. -/
def Obligations.ServiceRows : Prop :=
(∀ s : State, Awake s →
  (∀ l, working s.sys.mode = true → s.eis.shipRun = false → 1 ≤ l → l ≤ 60 → ∃ u, exec (.enterService l) s = .next (settle s u) ∧
    u.sys.mode = .service ∧ u.sys.leaseEnd = s.now + l * 60000000 ∧ u.sys.cmd = cmdRes 1 0) ∧
  (∀ l, working s.sys.mode = true → s.eis.shipRun = false → (l = 0 ∨ 60 < l) → exec (.enterService l) s =
    .next (settle s { s with sys := { s.sys with cmd := cmdRes 1 5 } })) ∧
  (∀ l, (working s.sys.mode = false ∨ s.eis.shipRun = true) → exec (.enterService l) s =
    .next (settle s { s with sys := { s.sys with cmd := cmdRes 1 3 } })) ∧
  (s.sys.mode = .service → s.eis.shipRun = false →
    (∃ u, exec .leaveService s = .next (settle s u) ∧ u.sys.mode = (if ownPathUsable (serviceEnds s) then .normal else .reserve) ∧
      u.sys.leaseEnd = 0 ∧ u.sys.cmd = cmdRes 2 0 ∧ u.flt.force = none) ∧
    (∃ u, exec .serviceLeaseExpiry s = .next (settle s u) ∧ u.sys.mode = (if ownPathUsable (serviceEnds s) then .normal else .reserve) ∧
      u.sys.leaseEnd = 0 ∧ u.sys.cmd = s.sys.cmd ∧ u.flt.force = none)) ∧
  (s.sys.mode ≠ .service → exec .leaveService s = .next (settle s { s with sys := { s.sys with cmd := cmdRes 2 3 } }) ∧
    exec .serviceLeaseExpiry s = .next (settle s s))) ∧
(∀ s : State, Awake s →
  (working s.sys.mode = true → ∃ u, exec (.coreReset 0x5A) s = .next (settle s u) ∧ u.sys.mode = .limp ∧ u.sys.sub = .held ∧
    u.sys.reason = 6 ∧ u.sys.mainRuns = false ∧ u.sys.coreCause = 2) ∧
  (∀ k, k ≠ 0x5A → exec (.coreReset k) s = .next (settle s { s with sys := { s.sys with cmd := cmdRes 3 2 } })) ∧
  (working s.sys.mode = false → exec (.coreReset 0x5A) s = .next (settle s { s with sys := { s.sys with cmd := cmdRes 3 3 } })) ∧
  (s.sys.mode = .limp → s.sys.sub = .locked → exec .clearLimpLock s =
    .next (settle s { s with sys := { s.sys with sub := .rom, entries := [], cmd := cmdRes 5 0 }, limp := { s.limp with locked := false } })) ∧
  (s.sys.sub ≠ .locked → exec .clearLimpLock s = .next (settle s { s with sys := { s.sys with cmd := cmdRes 5 6 } })))

/-- R202 to R205, Tables 7-5, 7-6 and 7-8: ENTER_SHIP with its key begins the entry, the host's ALIVE exchange stopped, unless a
wake input stands above its threshold or an update runs; the entry's end leaves the module in SHIP with the core and the watchdog
stopped and the host interface closed; a button pressed for 100 ms after as long released wakes the module to STAGING when an
input stands above its threshold, and a report of neither leaves it in SHIP; a long press begins its entry and ends in a cold
reset of the module. -/
def Obligations.ShipRows : Prop := ∀ s : State,
  (∀ l, Awake s → shipMode s = true → s.eis.shipRun = false → wakeHigh s l = false → updating s = false →
    ∃ u, exec (.enterShip 0x5A l) s = .next (settle s u) ∧ u.sys.cmd = cmdRes 4 1 ∧ u.eis.shipRun = true ∧ u.flt.alive = false) ∧
  (∀ l, Awake s → shipMode s = true → s.eis.shipRun = false → (wakeHigh s l = true ∨ updating s = true) →
    exec (.enterShip 0x5A l) s = .next (settle s { s with sys := { s.sys with cmd := cmdRes 4 7 } })) ∧
  (∀ l k, Awake s → k ≠ 0x5A → exec (.enterShip k l) s = .next (settle s { s with sys := { s.sys with cmd := cmdRes 4 2 } })) ∧
  (Awake s → s.eis.shipRun = true → ∃ u, exec .shipEntryDone s = .next (settle s u) ∧ u.sys.mode = .ship ∧ u.sys.cmd = cmdRes 4 0 ∧
    u.sys.mainRuns = false ∧ u.eis.shipRun = false ∧ u.eis.entries = satInc 255 s.eis.entries ∧ u.wdg.state = .reset ∧
    u.spi.serving = false ∧ u.sys.caskHeld = false) ∧
  (Awake s → s.eis.shipRun = false → exec .shipEntryDone s = .next (settle s s)) ∧
  (∀ r, s.powered = true → s.sys.mode = .ship → 100 ≤ r.highMs → 100 ≤ r.pressMs → railsUp r.inputs = true →
    ∃ u, exec (.shipWake r) s = .next u ∧ u.sys.mode = .staging ∧ u.sys.lastStep = 1 ∧ u.wake = .button ∧ u.orIn = r.inputs ∧ u.now = 0) ∧
  (∀ r, s.powered = true → s.sys.mode = .ship → railsUp r.inputs = false → ∃ u, exec (.shipWake r) s = .next u ∧
    u = { s with freeIx := u.freeIx }) ∧
  (Awake s → s.eis.btn.low = true → s.eis.btn.ignored = false → btnResetEnabled s = true → s.eis.btn.longRun = false →
    ∃ u, exec .longPressReset s = .next (settle s u) ∧ u.eis.btn.longRun = true ∧ u.flt.alive = false) ∧
  (∀ env, s.powered = true → s.eis.btn.longRun = true → ∃ u, exec (.longPressHoldEnd env) s = .next u ∧ u.powered = true ∧
    u.now = 0 ∧ u.hw = s.hw ∧ u.pending = s.pending ∧ u.wdg.expiries = 0 ∧ u.flt.last = 0 ∧ u.spi.irqEn = 0) ∧
  (∀ env, s.eis.btn.longRun = false → exec (.longPressHoldEnd env) s = .next s)

/-- R103, R113: READY comes from the main image while it is awaited, and the start goes on; in LIMP, with a good copy, the cells'
links are open again, and with a copy that its checks refuse source 5 is reported and LIMP begins anew with cause 3; without READY
the wait ends in LIMP cause 7 with the main image stopped. -/
def Obligations.ReadyRows : Prop := ∀ s : State, Awake s →
  (∀ a env, a ≠ .mainImage → exec (.ready a env) s = .next (settle s { s with sys := { s.sys with cmd := cmdRes 0x10 8 } })) ∧
  (∀ env, s.sys.awaitReady = false → exec (.ready .mainImage env) s = .next (settle s { s with sys := { s.sys with cmd := cmdRes 0x10 3 } })) ∧
  (∀ env, s.sys.awaitReady = true → s.sys.mode = .staging → exec (.ready .mainImage env) s =
    .next (settle s (finishStart env 0 0 { s with sys := { s.sys with cmd := cmdRes 0x10 0, lastStep := 8 } }))) ∧
  (∀ env, s.sys.awaitReady = true → s.sys.mode = .limp →
    let t : State := { s with sys := { s.sys with cmd := cmdRes 0x10 0 } }
    exec (.ready .mainImage env) s = .next (settle s (if (copyVerdict t).reason = 0 then
      { t with sys := { t.sys with awaitReady := false }, limp := { t.limp with linksHeld := false } }
      else limpEntry 3 5 noAddr (collect 5 (copyVerdict t).reason noAddr t)))) ∧
  (∀ env, s.sys.awaitReady = true → s.sys.mode = .staging → exec (.readyTimeout env) s =
    .next (settle s (finishStart env 7 6 { s with sys := { s.sys with mainRuns := false, mainVintage := 0 } }))) ∧
  (∀ env, s.sys.awaitReady = true → s.sys.mode = .limp → ∃ u, exec (.readyTimeout env) s = .next (settle s u) ∧ u.sys.mode = .limp ∧
    u.sys.sub = .held ∧ u.sys.reason = 7 ∧ u.sys.mainRuns = false ∧ u.sys.coreCause = 6) ∧
  (∀ env, s.sys.awaitReady = false → exec (.readyTimeout env) s = .next (settle s s))

/-- R106, R108, R113, R115: a LIMP cause from a working mode enters LIMP in HELD with it, the watchdog's as soon as it traps; HELD
ends in ROM, or in LOCKED from the fourth entry on or where the lock stands, with the host interface open; a warm restart whose
conditions hold starts the main image and waits for READY where its checks pass, and else stays or reverts the trial; an entry
older than 10 min leaves the count. R104, R111, Table 4-6: LIMP takes a source back that is usable again, a cordon's before the
gate; the first time the cask reaches its least voltage under module control is held. -/
def Obligations.LimpRows : Prop :=
(∀ s : State, Awake s →
  (∀ c, 1 ≤ c → c ≤ 8 → s.sys.mode ≠ .staging → ∃ u, exec (.limpCause c) s = .next (settle s u) ∧ u.sys.mode = .limp ∧
    u.sys.sub = .held ∧ u.sys.reason = c) ∧
  (s.sys.mode = .limp → s.sys.sub = .held → s.limp.stayHeld = false → s.fls.trial = false → ∃ u, exec .heldExpiry s =
    .next (settle s u) ∧ u.sys.sub = (if s.limp.locked = true ∨ 4 ≤ limpCount s then .locked else .rom) ∧
      u.limp.locked = (s.limp.locked || decide (4 ≤ limpCount s)) ∧ u.spi.serving = true ∧ u.cry.rng = .notReady ∧ u.sys.mode = .limp) ∧
  ((s.sys.sub ≠ .held ∨ s.limp.stayHeld = true) → exec .heldExpiry s = .next (settle s s)) ∧
  (s.sys.mode = .limp → s.sys.sub = .rom → s.limp.warm = 0 → limpCount s ≤ 3 → c3Live s = false → (lastGood s).isSome = true →
    let c := warmChecks s
    exec .warmRestart s = .next (settle s (if c.2 then warmBegin c.1 else if c.1.fls.trial then revertTrial c.1 else c.1))) ∧
  (∀ t, (warmBegin t).limp.warm = 7 ∧ (warmBegin t).sys.mainRuns = true ∧ (warmBegin t).sys.awaitReady = true ∧
    (warmBegin t).sys.mode = t.sys.mode ∧ (warmBegin t).sys.sub = t.sys.sub) ∧
  ((s.sys.sub ≠ .rom ∨ s.limp.warm ≠ 0 ∨ 3 < limpCount s ∨ c3Live s = true) → exec .warmRestart s = .next (settle s s)) ∧
  (exec .limpCountAge s = .next (settle s { s with sys := { s.sys with entries := s.sys.entries.dropLast } }))) ∧
(∀ s : State, Awake s →
  (s.sys.mode = .limp → s.limp.power = true →
    (∀ r, r ≠ 0 → (s.cordon r).e.role = .source → (s.cordon r).state ≠ .stopped → exec (.limpSourceReadmit r) s =
      .next (settle s (limpSet { s with limp := { s.limp with src := putBit s.limp.src (r - 1) true, gate := false } }))) ∧
    (s.limp.src = 0 → gateFitted (boardImage s) = true → exec (.limpSourceReadmit 0) s =
      .next (settle s (limpSet { s with limp := { s.limp with gate := true } })))) ∧
  (∀ r, s.sys.mode ≠ .limp → exec (.limpSourceReadmit r) s = .next (settle s s)) ∧
  (working s.sys.mode = true ∨ (s.sys.mode = .limp ∧ s.limp.power = true) →
    exec .caskHeld s = .next (settle s { s with sys := { s.sys with caskHeld := true } })) ∧
  (s.sys.mode = .staging → exec .caskHeld s = .next (settle s s)))

/-- R122 to R125, R129, R140: a crossing report is the path's latest band, a slope report only where the entry has a slope
threshold; a valid path that stands INVALID opens its qualification window of the effective length, which ends in USABLE; a usable
path that samples invalid is dropped, the drop counted with its cause and its time; a drop older than 10 min leaves the count. -/
def Obligations.SourceRows : Prop := ∀ (s : State) (i : Nat), Awake s → 1 ≤ i → i ≤ 8 →
  (∀ b, (s.src i).state = .usable → s.sys.mode ≠ .limp → b ≠ .slope → exec (.sourceCrossingReport i b) s =
    .next (settle s (s.modSrc i (fun x => { x with band := b })))) ∧
  ((s.src i).state = .usable → s.sys.mode ≠ .limp → (s.src i).dvdt = 0 → exec (.sourceCrossingReport i .slope) s = .next (settle s s)) ∧
  (∀ b, (s.src i).state = .absent → exec (.sourceCrossingReport i b) s = .next (settle s s)) ∧
  (∀ mv, working s.sys.mode = true → (s.src i).state = .invalid → (s.src i).ref = 0 → (s.src i).band = .inside → (s.src i).declared ≠ 0 →
    ∃ u, exec (.sourceQualifyStart i mv) s = .next (settle s u) ∧ (u.src i).state = .qualifying ∧
      (u.src i).tQualEff = min 60000 ((s.src i).tQual * 2 ^ (recentDrops s i - 3)) ∧ (u.src i).qualEnd = s.now + 1000 * (u.src i).tQualEff ∧
      (u.src i).type_ = (s.src i).declared ∧ (u.src i).origin = 3) ∧
  ((s.src i).state = .qualifying → pathValid s i = true → s.sys.mode = .normal → s.pwr.path = .carried → exec (.qualificationEnd i) s =
    .next (settle s (s.modSrc i (fun x => { x with state := .usable })))) ∧
  ((s.src i).state = .qualifying → pathValid s i = true → s.sys.mode = .normal → s.pwr.path = .fed → exec (.qualificationEnd i) s =
    .next (settle s (applyPriority (s.modSrc i (fun x => { x with state := .usable }))))) ∧
  (pathValid s i = false → exec (.qualificationEnd i) s = .next (settle s s)) ∧
  (working s.sys.mode = true → usableState (s.src i).state = true → pathValid s i = false → exec (.sourceDrop i) s =
    .next (settle s (pathGone i (dropCause s i) (s.src i) (s.modSrc i (fun x =>
      { x with state := .invalid, drops := satInc 255 x.drops, lastCause := dropCause s i, limited := false, inreg := false,
               dropTimes := s.now :: x.dropTimes.filter (within s tenMin), lastDrop := some s.now }))))) ∧
  (pathValid s i = true → exec (.sourceDrop i) s = .next (settle s s)) ∧
  (exec (.dropCountAge i) s = .next (settle s (s.modSrc i (fun x => { x with dropTimes := x.dropTimes.dropLast }))))

/-- R137 to R139, Tables 5-7 and 5-8: a late changeover is marked and raises source 128; from CARRIED a hand-back to the highest
usable path begins, and ends in FED or, on its timeout, in CARRIED with that path dropped for cause 7; the cask low flag is set
outside FED and cleared. R133, R139 (TEST_DROP), Table 5-11: a supplement ends by hand-back of the engaged strings to the highest
usable path; a test drop in SERVICE drops the usable path of an entry for cause 6 and holds it out until its hold ends, which
leaves it INVALID; the command's refusals. -/
def Obligations.ChangeoverRows : Prop :=
(∀ s : State, Awake s →
  (s.pwr.path = .changeover → s.pwr.coLate = false → exec .coLate s = .next (settle s (raise 128 0 { s with pwr := { s.pwr with coLate := true } }))) ∧
  ((s.pwr.path ≠ .changeover ∨ s.pwr.coLate = true) → exec .coLate s = .next (settle s s)) ∧
  (∀ i r, s.sys.mode ≠ .limp → s.pwr.path = .carried → usableRanks s = i :: r → ∃ u, exec .handback s = .next (settle s u) ∧
    u.pwr.path = .handback ∧ u.pwr.handTo = i ∧ u.pwr.handSet = true ∧ u.sys = s.sys) ∧
  (s.sys.mode ≠ .limp → s.pwr.path = .carried → usableRanks s = [] → exec .handback s = .next (settle s s)) ∧
  (s.pwr.path = .handback → s.sys.mode ≠ .limp → ∃ u, exec .handbackComplete s = .next (settle s u) ∧ u.pwr.path = .fed ∧
    u.pwr.handTo = 0 ∧ u.pwr.handSet = false ∧ u.pwr.supplement = false) ∧
  (s.pwr.path ≠ .handback → exec .handbackComplete s = .next (settle s s)) ∧
  (s.pwr.path = .handback → s.sys.mode ≠ .limp → exec .handbackTimeout s =
    .next (settle s (engagedSet (fun _ => vCaskSet (boardImage
        (raise 129 s.pwr.handTo (dropPath s.pwr.handTo 7 false { s with pwr := { s.pwr with path := .carried, handTo := 0, handSet := false } }))) * 10)
      (raise 129 s.pwr.handTo (dropPath s.pwr.handTo 7 false { s with pwr := { s.pwr with path := .carried, handTo := 0, handSet := false } }))))) ∧
  (s.pwr.path = .handback → s.sys.mode = .limp → ∃ u, exec .handbackTimeout s = .next (settle s u) ∧ u.pwr.path = .carried ∧
    u.pwr.handTo = 0 ∧ u.pwr.handSet = false) ∧
  (s.sys.mode ≠ .staging → s.pwr.path ≠ .fed → exec .caskLow s = .next (settle s { s with pwr := { s.pwr with caskLow := true } })) ∧
  (exec .caskLowClear s = .next (settle s { s with pwr := { s.pwr with caskLow := false } }))) ∧
(∀ s : State, Awake s →
  (∀ i r, s.pwr.supplement = true → anyEngaged s = true → usableRanks s = i :: r → ∃ u, exec .supplementEnd s = .next (settle s u) ∧
    u.pwr.supplement = false ∧ u.pwr.path = .handback ∧ u.pwr.handTo = i) ∧
  (s.pwr.supplement = false → exec .supplementEnd s = .next (settle s s)) ∧
  (∀ i h, s.sys.mode = .service → s.pwr.testEntry = 0 → 1 ≤ h → h ≤ 60000 → usableState (s.src i).state = true →
    let t := pathGone i 6 (s.src i) ({ s with pwr := { s.pwr with testEntry := i } }.modSrc i (fun x =>
      { x with state := .testDropped, drops := satInc 255 x.drops, lastCause := 6, limited := false, inreg := false,
               dropTimes := s.now :: x.dropTimes.filter (within s tenMin), lastDrop := some s.now }))
    exec (.testDrop i h) s = .next (settle s { t with pwr := { t.pwr with cmd := cmdRes 1 0 } })) ∧
  (∀ i h, s.sys.mode ≠ .service → exec (.testDrop i h) s = .next (settle s { s with pwr := { s.pwr with cmd := cmdRes 1 2 } })) ∧
  (∀ i h, s.sys.mode = .service → s.pwr.testEntry = 0 → (h = 0 ∨ 60000 < h) → exec (.testDrop i h) s =
    .next (settle s { s with pwr := { s.pwr with cmd := cmdRes 1 4 } })) ∧
  (∀ i, 1 ≤ i → i ≤ 8 → (s.src i).state = .testDropped → s.pwr.testEntry = i → ∃ u, exec (.testDropHoldEnd i) s = .next (settle s u) ∧
    (u.src i).state = .invalid ∧ u.pwr.testEntry = 0))

/-- R57, R134, R135: a standby cell of a BATTERY cordon that reads its cask below V_ENGAGE engages: it runs in CASK_V at V_ENGAGE
with the cut-off as its least port voltage, its cordon too, and the module's path follows; a cell that is engaged already, or has
no V_ENGAGE, does not. R207 to R214: a cell of an absorb-ready string takes the absorbed current with its cask held, and gives it
back; the chopper gate rises once and falls with its time counted; a regeneration overvoltage raises source 136 once. -/
def Obligations.CaskReadingRows : Prop :=
(∀ (s : State) (n : Nat), Awake s →
  let c := servedCordon s n
  let x := s.cell n
  let t := s.modCell n (fun y => { y with state := .run, mode := .caskV, engaged := true, engagedBySet := false, absorbing := false,
                                          regulating := false,
                                          sp := { y.sp with vSet := x.sp.vEngage, vMin := max y.sp.vMin (cutoffV s c), iAc := 0, mode := .caskV } })
  (s.cordon c).e.role = .battery → switching x = true → x.engaged = false → x.sp.vEngage ≠ 0 → x.mode = .standby →
  (s.sys.mode = .normal → s.pwr.path = .unfed → exec (.engage n) s =
    .next (settle s { cordonEngages c 1 t with pwr := { s.pwr with path := .carried } })) ∧
  (s.sys.mode = .normal → s.pwr.path = .fed → exec (.engage n) s =
    .next (settle s { cordonEngages c 3 t with pwr := { s.pwr with supplement := true } })) ∧
  (s.sys.mode = .limp → s.pwr.path ≠ .fed → exec (.engage n) s = .next (settle s (limpSet (cordonEngages c 1 t))))) ∧
(∀ (s : State) (n : Nat), Awake s →
  ((s.cell n).sp.share ≠ 0 → switching (s.cell n) = true → (s.cell n).engaged = false → (s.cell n).absorbing = false →
    (s.cordon (servedCordon s n)).e.role = .battery → cellFitted s n = true → ∃ u, exec (.absorbEntry n) s = .next (settle s u) ∧
      (u.cell n).absorbing = true ∧ (u.cell n).mode = .caskV ∧ (u.cell n).state = .run) ∧
  ((s.cell n).sp.share = 0 → exec (.absorbEntry n) s = .next (settle s s)) ∧
  ((s.cell n).absorbing = true → (s.cell n).sp.mode = .standby → switching (s.cell n) = true → cellFitted s n = true →
    exec (.absorbRelease n) s = .next (settle s (regenTidy (s.modCell n (fun x =>
      if x.absorbing then
        { x with absorbing := false, absorbed := 0, mode := if switching x then x.sp.mode else x.mode,
                 state := if switching x then (if x.sp.mode = .standby then .standby else if x.sp.mode = .off then .ready else .run) else x.state }
      else x))))) ∧
  (chopperFitted (boardImage s) = true → s.ppt.regen.brk = false → ∃ u, exec .brkGateRise s = .next (settle s u) ∧ u.ppt.regen.brk = true ∧
    u.ppt.regen.state = .chop ∧ u.ppt.regen.brkAt = s.now) ∧
  (s.ppt.regen.brk = true → ∃ u, exec .brkGateFall s = .next (settle s u) ∧ u.ppt.regen.brk = false ∧
    u.ppt.regen.brkTime = s.ppt.regen.brkTime + (s.now - s.ppt.regen.brkAt)) ∧
  (s.ppt.regen.brk = true → exec .brkGateRise s = .next (settle s (regenStart s))) ∧
  (s.ppt.regen.brk = false → exec .brkGateFall s = .next (settle s s)) ∧
  (s.ppt.regen.brk = true → s.ppt.regen.ovBrk = true → s.ppt.regen.overAt = none → exec .regenOv s = .next (settle s s)) ∧
  (s.ppt.regen.brk = true → s.ppt.regen.ovBrk = false → exec .regenOv s =
    .next (settle s (raise 136 0 { s with ppt := { s.ppt with regen := { s.ppt.regen with ovBrk := true } } }))))

/-- R149 to R170: in a working mode every tick of 10 ms evaluates each string, counting evaluations; the end of the rest chooses
the phase; the safety and pre-charge timers halt the cycle with their bit of CHG_FLT, and the CV timer ends it. Table 6-9: CHG_CMD
on a string in use. RESTART leaves HOLD for a new cycle, HOLD suspends one, NEW_CYCLE begins a recharge cycle from MAINT with the
coulomb book's NET at zero; each answers RESULT 0, and 2 in another phase. A cycle ordered while the string is suspended waits for
the end of the suspension (log entry 72). -/
def Obligations.ChargeRows : Prop :=
(∀ (s : State) (i : Nat), Awake s →
  (working s.sys.mode = true → s.eis.shipRun = false → s.eis.btn.longRun = false → exec .chargeEvaluation s =
    .next (settle s (four.foldl (fun t j => evalString (decide ((s.chg.evals + 1) % 100 = 0)) j t)
      { s with chg := { s.chg with evals := s.chg.evals + 1 } }))) ∧
  (runningIn s i = true →
    ((s.chgI i).phase = .qualify → (s.chgI i).restRuns = true → ∀ v, (s.chgI i).rest.count = 0 → (s.chgI i).vNow = some v →
      v * 1000 < (prof s i).cells * (prof s i).vDeep * 100 → exec (.qualifyRestEnd i) s =
        .next (settle s (commandString i (demands i (s.modChg i (enterPhase .trickle)))))) ∧
    ((s.chgI i).phase = .cc → exec (.safeTimeout i) s =
      .next (settle s (commandString i (s.modChg i (fun g => halt 0 { g with safe := max g.safe (g.setSafe * 12000) }))))) ∧
    ((s.chgI i).phase = .pre → exec (.preTimeout i) s =
      .next (settle s (commandString i (s.modChg i (fun g => halt 1 { g with pre := max g.pre (g.setPre * 12000) }))))) ∧
    ((s.chgI i).phase = .cv → (prof s i).chem ≠ 3 → exec (.cvTimerExpiry i) s =
      .next (settle s (commandString i (demands i (terminate i 2 (s.modChg i (fun g => { g with cv := max g.cv (g.setCv * 6000) }))))))) ) ∧
  ((s.chgI i).pulse = true → working s.sys.mode = true → exec (.nicdPulseEnd i) s =
    .next (settle s (commandString i (s.modChg i (fun g => { g with pulse := false, pulseAt := s.now })))))) ∧
(∀ (s : State) (i : Nat), Awake s → working s.sys.mode = true → batUsed s i = true →
  ((s.chgI i).phase = .hold → (s.chgI i).susp = 0 →
    let t := commandString i (s.modChg i (newCycle s i false))
    exec (.chgRestart i) s = .next (settle s { t with chg := { t.chg with cmd := cmdRes 1 0 } })) ∧
  ((s.chgI i).phase = .hold → (s.chgI i).susp ≠ 0 → ∃ u, exec (.chgRestart i) s = .next (settle s u) ∧ (u.chgI i).cycleWait = 1 ∧
    (u.chgI i).phase = .hold ∧ u.chg.cmd = cmdRes 1 0) ∧
  ((s.chgI i).phase = .cc → exec (.chgRestart i) s = .next (settle s { s with chg := { s.chg with cmd := cmdRes 1 2 } })) ∧
  ((s.chgI i).phase = .cc →
    let t := commandString i ((s.modChg i (fun g =>
      { g with phase := .hold, pulse := false, grant := 0, demand := 0, half := false, lim := 0, restRuns := false, cycleWait := 0 })).modRun i (fun r => if r.kind = 3 then r else runAbort s.now 5 r))
    exec (.hold i) s = .next (settle s { t with chg := { t.chg with cmd := cmdRes 2 0 } })) ∧
  ((s.chgI i).phase = .maint → (s.chgI i).susp = 0 → ∃ u, exec (.newCycle i) s = .next (settle s u) ∧ (u.chgI i).phase = .qualify ∧ (u.chgI i).recharge = true ∧
    (u.chgI i).safe = 0 ∧ (u.bat i).book.net = 0 ∧ u.chg.cmd = cmdRes 3 0))

/-- R176, R177, R180, R182, Table 7-2: a battery switch that settled with its polarity right closes; one that did not opens and is
tried again; a missing-string pulse that falls below nine tenths confirms the string missing; a presence probe looks for it again
and a string that stayed below its voltage is back. Table 7-9: EIS_CMD on a string in use in a working mode. SWITCH_OPEN opens and
holds the switch, SWITCH_RELEASE lets it settle, ABORT ends a run with reason 9, SET_REF takes R_25 as the reference, BOOK_RESET
clears the book; RUN and RUN_DEEP start an impedance run of their kind. -/
def Obligations.BatteryRows : Prop :=
(∀ (s : State) (i : Nat), Awake s → 1 ≤ i → i ≤ 4 →
  ((s.bat i).sw = .settle → polarityOk s (s.bat i) = true → s.sys.mode ≠ .limp → ∀ v w, (s.bat i).settleAt + 20000 ≤ s.now →
    portStill v w = true → exec (.batswSettled i v w) s = .next (settle s (s.modBat i (fun b => { b with sw := .closed })))) ∧
  (∀ v w, portStill v w = false → exec (.batswSettled i v w) s = .next (settle s s)) ∧
  ((s.bat i).sw = .settle → exec (.batswSettleTimeout i) s =
    .next (settle s (raise (128 + 16 * i + 14) 0 (s.modBat i (fun b => { b with sw := .open_, retry := true }))))) ∧
  (working s.sys.mode = true → exec (.batswRetry i) s = .next (settle s (settleStart i (s.modBat i (fun b => { b with retry := false }))))) ∧
  (∀ v w, (s.bat i).miss = .pulse → 10 * w < 9 * v → ∃ u, exec (.missingPulseEnd i v w) s = .next (settle s u) ∧
    (u.bat i).miss = .confirmed ∧ (u.bat i).suspicions = 0 ∧ (u.bat i).probing = false) ∧
  (∀ v w, (s.bat i).miss = .pulse → 9 * v ≤ 10 * w → exec (.missingPulseEnd i v w) s =
    .next (settle s (commandString i (driveCordon (batCordon s i) .standby 0 0 (thr10 (chgThr s i))
      (s.modBat i (fun b => { b with miss := .none, suspicions := 0 })))))) ∧
  ((s.bat i).miss = .confirmed → (s.bat i).probing = false → (s.bat i).sw = .closed → working s.sys.mode = true →
    discharging s (batCordon s i) = false →
    let t := s.modBat i (fun b => { b with probing := true, probes := satInc 255 b.probes })
    exec (.presenceProbe i) s = .next (settle s (driveCordon (batCordon t i) .portI (probeCurrent t i) 0 (thr10 (chgThr t i)) t))) ∧
  ((s.bat i).probing = true → ∃ u, exec (.presenceProbeEnd i false) s = .next (settle s u) ∧ (u.bat i).probing = false ∧
    (u.bat i).miss = (s.bat i).miss)) ∧
(∀ (s : State) (i : Nat), Awake s → working s.sys.mode = true → batUsed s i = true →
  (discharging s (batCordon s i) = false → ∃ u, exec (.switchOpen i) s = .next (settle s u) ∧ (u.bat i).sw = .open_ ∧
    (u.bat i).holdCmd = true ∧ u.eis.cmd = cmdRes 1 0) ∧
  (discharging s (batCordon s i) = true → exec (.switchOpen i) s = .next (settle s { s with eis := { s.eis with cmd := cmdRes 1 8 } })) ∧
  (let t := settleStart i (s.modBat i (fun b => { b with holdCmd := false }));
    exec (.switchRelease i) s = .next (settle s { t with eis := { t.eis with cmd := cmdRes 2 0 } })) ∧
  (∀ e, eisSched s.str.image i = some e → (e.mode = 1 ∨ s.sys.mode = .service) → pairFree s i e.pair = true → runPhaseOk s i 2 = true →
    let t := startRun i 2 e.f0 e.f1 e.ppd e.ampl e.pair s
    exec (.run i) s = .next (settle s { t with eis := { t.eis with cmd := cmdRes 3 0 } })) ∧
  (s.sys.mode = .service → deepOk s = true → pairFree s i s.eis.deepPair = true → runPhaseOk s i 3 = true → deepBudgetOk s = true →
    let t := startRun i 3 s.eis.deepF0 s.eis.deepF1 s.eis.deepPpd s.eis.deepAmpl s.eis.deepPair s
    exec (.runDeep i) s = .next (settle s { t with eis := { t.eis with cmd := cmdRes 4 0 } })) ∧
  (let t := commandString i (s.modRun i (runAbort s.now 9));
    exec (.eisAbort i) s = .next (settle s { t with eis := { t.eis with cmd := cmdRes 5 0 } })) ∧
  (∀ now k r, r.running = true → (runAbort now k r).running = false ∧ (runAbort now k r).abort = k) ∧
  ((s.bat i).run.lastRun ≠ none → ∃ u, exec (.setRef i) s = .next (settle s u) ∧ (u.bat i).run.rRef = (s.bat i).run.r25 ∧
    (u.bat i).run.refAuto = false ∧ u.eis.cmd = cmdRes 6 0) ∧
  (∃ u, exec (.bookReset i) s = .next (settle s u) ∧ (u.bat i).book.net = 0 ∧ (u.bat i).book.chgIn = 0 ∧ (u.bat i).book.chgOut = 0 ∧
    (u.bat i).book.gapMs = 0 ∧ (u.bat i).book.uncertain = false ∧ u.eis.cmd = cmdRes 7 0))

/-- R187, R188, R195, R201: the books go to their protected block; a scheduled run that falls due waits or starts, and one that is
skipped waits no longer; an impedance point taken without a disturbance is kept with the impedance of its samples, and one
disturbed is taken once more; a press of BTN_N is counted, its release keeps the length of the press. -/
def Obligations.BooksRunsAndButtonRows : Prop := ∀ (s : State) (i : Nat), Awake s →
  (working s.sys.mode = true → exec .bookCellarWrite s = .next (settle s (writeBooks s))) ∧
  (batUsed s i = true → (eisSched s.str.image i).isSome = true → (s.bat i).run.due = none → exec (.eisScheduledDue i) s =
    .next (settle s (startScheduled i (s.modRun i (fun r => { r with due := match r.due with | none => some s.now | some t => some t }))))) ∧
  (batUsed s i = false → exec (.eisScheduledDue i) s = .next (settle s s)) ∧
  (1 ≤ i → i ≤ 4 → (s.bat i).run.running = false → exec (.eisScheduledSkip i) s = .next (settle s (s.modRun i (fun r =>
    if r.running then r else { r with due := none, retryAt := 0 })))) ∧
  (∀ l z, 1 ≤ i → i ≤ 4 → (s.bat i).run.running = true → 64 * (1 + pointPeriods (runFreq s i)) ≤ l.length → (s.bat i).run.dirty = false →
    (s.bat i).run.snap = [] → pointZ (pointSamples (runFreq s i) (l.map (·.1))) (pointSamples (runFreq s i) (l.map (·.2))) = some z →
    (s.bat i).run.cur + 1 < (s.bat i).run.points → exec (.eisPointComplete i l) s = .next (settle s (commandString i
      (s.modRun i (fun r => { nextPoint r with
        pts := { f := runFreq s i, re := z.1, im := z.2, clipped := l.any (fun p => decide (((chargeCommand s i).2.2.2 : Int) * 9990 ≤ p.1)),
                 lowAmp := lowAmplitude s i, noisy := pointNoisy (pointSamples (runFreq s i) (l.map (·.1))), repeated := (s.bat i).run.repeating } :: r.pts,
        cur := r.cur + 1, repeating := false }))))) ∧
  (∀ l, (s.bat i).run.running = true → 64 * (1 + pointPeriods (runFreq s i)) ≤ l.length → (s.bat i).run.dirty = true →
    (s.bat i).run.repeating = false → exec (.eisPointComplete i l) s =
      .next (settle s (commandString i (s.modRun i (fun r => { nextPoint r with repeating := true }))))) ∧
  (∀ l, (s.bat i).run.running = false → exec (.eisPointComplete i l) s = .next (settle s s)) ∧
  (s.eis.btn.low = false → exec .btnPress s = .next (settle s { s with eis := { s.eis with btn :=
    { s.eis.btn with low := true, presses := satInc 255 s.eis.btn.presses } } })) ∧
  (∀ l, s.eis.btn.low = true → exec (.btnRelease l) s = .next (settle s { s with eis := { s.eis with btn :=
    { s.eis.btn with low := false, ignored := false, last10 := if s.eis.btn.ignored then s.eis.btn.last10 else sat 16 l } } }))

/-- R218, R219, R226 (end of BACKOFF), Table 8-7: a seeking port alternates its presentation, recognises a partner and checks for
moisture; a dry and a wet result; a wet port and a port in BACKOFF try again. R221 to R223: an acknowledgement ends the wait for
it; STATUS goes out from the upper side; a message without reply is sent three times in all and then gives the fault of a silent
partner; a message with a bad CRC is counted; a frame that collides is aborted and goes again 100 µs later from the upper side and
300 µs later from the other. -/
def Obligations.PeerAttachRows : Prop :=
(∀ (s : State) (i : Nat), Awake s → 1 ≤ i → i ≤ 4 →
  ((s.peerI i).state = .seek → (bounds s i).mayExport = true → (bounds s i).mayImport = true →
    (∃ u, exec (.presentationToggle i false) s = .next (settle s u) ∧ (u.peerI i).frozen = false ∧
      (u.peerI i).present = if (s.peerI i).present = .pullUp then .pullDown else .pullUp) ∧
    (∃ u, exec (.presentationToggle i true) s = .next (settle s u) ∧ (u.peerI i).frozen = true ∧ (u.peerI i).present = (s.peerI i).present)) ∧
  ((s.peerI i).state = .seek → (s.peerI i).present ≠ .released → ∃ u, exec (.partnerRecognised i) s = .next (settle s u) ∧
    (u.peerI i).state = .check ∧ (u.peerI i).frozen = true ∧ (u.peerI i).upper = decide ((s.peerI i).present = .pullUp) ∧
    (u.peerI i).ownChecked = false ∧ (u.peerI i).caps = none) ∧
  (∀ k, (s.peerI i).quiet = true → (s.peerI i).state = .check → 200 ≤ k → exec (.quietWindowEnd i k) s =
    .next (settle s (checkResult i (s.modPeer i (fun p =>
      { p with quiet := false, present := heldPresent p, ownK := sat 16 k, ownChecked := true, ownDry := true }))))) ∧
  (∀ k, (s.peerI i).quiet = true → (s.peerI i).state = .check → k < 200 → exec (.quietWindowEnd i k) s =
    .next (settle s (foundWet i (s.modPeer i (fun p =>
      { p with quiet := false, present := heldPresent p, ownK := sat 16 k, ownChecked := true, ownDry := false }))))) ∧
  (∀ k, (s.peerI i).quiet = false → exec (.quietWindowEnd i k) s = .next (settle s s)) ∧
  ((s.peerI i).upper = true → (s.peerI i).state = .contract → ∃ u, exec (.moisturePeriodic i) s = .next (settle s u) ∧
    (u.peerI i).quiet = true ∧ (u.peerI i).present = .released ∧ (u.peerI i).ownChecked = false ∧
    (u.peerI i).sent = peerFrame 7 (s.peerI i).seq []) ∧
  ((s.peerI i).state = .wet → ∃ u, exec (.wetRetry i) s = .next (settle s u) ∧ (u.peerI i).state = .check ∧ (u.peerI i).ownChecked = false ∧ (u.peerI i).partnerChecked = false) ∧
  ((s.peerI i).state = .backoff → ∃ u, exec (.backoffEnd i) s = .next (settle s u) ∧ (u.peerI i).state = .seek ∧
    (u.peerI i).present = seekPresent (bounds s i) ∧ (u.peerI i).frozen = false)) ∧
(∀ (s : State) (i : Nat), Awake s → 1 ≤ i → i ≤ 4 →
  (∀ w, (s.peerI i).waits = some w → w.typ ≠ 6 → w.typ ≠ 8 → exec (.peerAck i w.seq) s =
    .next (settle s (s.modPeer i (fun p => { p with waits := none })))) ∧
  ((s.peerI i).upper = true → (s.peerI i).state = .contract → exec (.peerStatusSend i) s =
    .next (settle s (s.modPeer i (fun p => if p.upper ∧ attached p then
      say 5 (statusPayload s i (takePower s i p)) (takePower s i p) else p)))) ∧
  (∀ p typ bytes, (say typ bytes p).sent = peerFrame typ p.seq bytes ∧ (say typ bytes p).seq = (p.seq + 1) % 16 ∧
    (say typ bytes p).waits = some { typ := typ, seq := p.seq, sends := 1, frame := peerFrame typ p.seq bytes }) ∧
  (∀ w, (s.peerI i).waits = some w → w.typ ≠ 6 → w.sends < 3 → exec (.peerReplyTimeout i) s =
    .next (settle s (s.modPeer i (fun p => { p with waits := some { w with sends := w.sends + 1 }, sent := w.frame })))) ∧
  (∀ w, (s.peerI i).waits = some w → w.typ = 2 → 3 ≤ w.sends → (s.peerI i).state = .negotiate → ∃ u,
    exec (.peerReplyTimeout i) s = .next (settle s u) ∧ (u.peerI i).state = .backoff ∧ (u.peerI i).flt.getLsbD 4 = true ∧
      (u.peerI i).waits = none) ∧
  (exec (.peerMessageCrcFail i) s = .next (settle s (s.modPeer i (fun p => { p with crcErr := satInc 255 p.crcErr })))) ∧
  ((s.peerI i).sent ≠ [] → ∃ u, exec (.peerTransmitCollision i) s = .next (settle s u) ∧ (u.peerI i).aborted = (s.peerI i).sent ∧
    (u.peerI i).sent = [] ∧ (u.peerI i).resendAt = some (s.now + if (s.peerI i).upper then 100 else 300)) ∧
  (∀ q, (s.peerI i).waits = none → exec (.peerAck i q) s = .next (settle s s)))

/-- R222, R224 to R229: what each message of an attached partner does: CAPS are kept, an offer that matches forms the contract as
consumer and any other is rejected with its reason, ACCEPT forms it as supplier, REJECT ends the offer, STATUS refreshes what the
partner reports, END ends the contract, QUIET opens a window. -/
def Obligations.PeerMessageRows : Prop := ∀ (s : State) (i q : Nat), Awake s → 1 ≤ i → i ≤ 4 →
  (∀ c, (s.peerI i).state = .contract → (s.peerI i).upper = true → ∃ u, exec (.caps i q c) s = .next (settle s u) ∧
    (u.peerI i).caps = some c ∧ (u.peerI i).unitId = c.unitId ∧ (u.peerI i).addr = c.addr) ∧
  (∀ t, (s.peerI i).state = .negotiate → offerVerdict s i t = 0 → exec (.offer i q t) s =
    .next (settle s (formContract i .consumer t (s.modPeer i (tell 3 (le 1 q)))))) ∧
  (∀ t, (s.peerI i).state = .negotiate → offerVerdict s i t = 3 → ∃ u, exec (.offer i q t) s = .next (settle s u) ∧
    (u.peerI i).state = .backoff ∧ (u.peerI i).lastReject = 3 ∧ (u.peerI i).sent = peerFrame 4 (s.peerI i).seq (le 1 3)) ∧
  (∀ c w, (s.peerI i).state = .negotiate → (s.peerI i).waits = some w → w.typ = 2 → w.seq = q → (s.peerI i).caps = some c →
    exec (.accept i q) s = .next (settle s (formContract i .supplier (termsOf s i c true) s))) ∧
  (∀ w r, (s.peerI i).waits = some w → w.typ = 2 → (s.peerI i).state = .negotiate → r ≠ 2 → ∃ u, exec (.reject i r) s = .next (settle s u) ∧
    (u.peerI i).state = .backoff ∧ (u.peerI i).lastReject = r ∧ (u.peerI i).waits = none) ∧
  (∀ st, (s.peerI i).state = .swap → (s.peerI i).ownChecked = false → (s.peerI i).upper = true → (s.peerI i).recheck = false →
    ∃ u, exec (.status i q st) s = .next (settle s u) ∧ (u.peerI i).partnerFeed = st.ownFeed ∧ (u.peerI i).partnerExport = st.mayExport ∧
      (u.peerI i).pPartner = st.power ∧ (u.peerI i).statusAt = s.now) ∧
  ((s.peerI i).state = .contract → exec (.peerEnd i q 1) s =
    .next (settle s (endHeard i 1 (afterEnd 1) (s.modPeer i (tell 9 (le 1 q)))))) ∧
  ((s.peerI i).state = .contract → ∃ u, exec (.quiet i q) s = .next (settle s u) ∧ (u.peerI i).quiet = true ∧
    (u.peerI i).present = .released ∧ (u.peerI i).ownChecked = false ∧ (u.peerI i).sent = peerFrame 9 (s.peerI i).seq (le 1 q))

/-- R227 to R230, Table 8-12: the swap pulse moves the supply to the consumer's side with its own feed; a swap that fails ends
with END 10 and source 213; a lost partner puts the port into BACKOFF with source 214; the export test and the PPT_CMD commands.
-/
def Obligations.PeerSwapAndTestRows : Prop := ∀ (s : State) (i : Nat), Awake s → 1 ≤ i → i ≤ 4 →
  ((s.peerI i).state = .contract → (s.peerI i).role = .consumer → ownFeed s = true →
    let o : Terms := match (s.peerI i).caps with
      | none => { vC := (s.peerI i).vC, pC := (s.peerI i).pC, pS := (s.peerI i).pS, rC := (s.peerI i).rC }
      | some c => termsOf (dropPeerPath i s) i c true
    let t := (dropPeerPath i s).modPeer i (fun p =>
      { say 2 (offerPayload o) p with state := .swap, role := .supplier, swapTerms := true, swaps := satInc 255 p.swaps,
                                      swapAt := (dropPeerPath i s).now, test := false, testImport := false })
    exec (.swapPulse i) s = .next (settle s (supply i (s.peerI i).pS t))) ∧
  (((s.peerI i).state ≠ .contract ∨ (s.peerI i).role ≠ .consumer) → exec (.swapPulse i) s = .next (settle s s)) ∧
  ((s.peerI i).state = .swap → (s.peerI i).pulse = true → exec (.swapFail i) s =
    .next (settle s (raise 213 i ((endSent i 10 s).modPeer i (pptFlt 5))))) ∧
  ((s.peerI i).state = .swap → exec (.swapOfferTimeout i) s = .next (settle s (endSent i 10 s))) ∧
  ((s.peerI i).state = .swap → (s.peerI i).pulse = true → ∃ u, exec (.swapPulseEnd i) s = .next (settle s u) ∧ (u.peerI i).pulse = false ∧
    (u.peerI i).role = .consumer ∧ (u.peerI i).swapTerms = true) ∧
  ((s.peerI i).state = .idle → (s.peerI i).quiet = false → ∃ u, exec (.partnerLost i) s = .next (settle s (raise 214 i u)) ∧
    (u.peerI i).state = .backoff ∧ (u.peerI i).losses = satInc 255 (s.peerI i).losses ∧ (u.peerI i).flt.getLsbD 3 = true ∧ (u.peerI i).caps = none) ∧
  (∀ p d, s.sys.mode = .service → peerUsed s i = true → 1 ≤ p → p ≤ 960 → 1 ≤ d → d ≤ 60 → (s.peerI i).state = .contract →
    (s.peerI i).role = .supplier → (s.peerI i).test = false → (s.peerI i).waits = none → ∃ u, exec (.exportTest i p d) s = .next (settle s u) ∧
      (u.peerI i).testPower = p ∧ (u.peerI i).sent = peerFrame 8 (s.peerI i).seq (le 2 p ++ le 2 d) ∧ u.ppt.cmd = cmdRes 1 1) ∧
  ((s.peerI i).state = .contract → (s.peerI i).role = .consumer → (bounds s i).mayImport = true → ownFeed s = true →
    ∀ q p d, ∃ u, exec (.peerTest i q p d) s = .next (settle s u) ∧ (u.peerI i).test = true ∧ (u.peerI i).testImport = true ∧
      (u.peerI i).testPower = p ∧ (u.peerI i).sent = peerFrame 9 (s.peerI i).seq (le 1 q)) ∧
  ((s.peerI i).test = true → (s.peerI i).testImport = false → exec (.exportTestEnd i) s =
    .next (settle s (s.modPeer i (fun p => { p with test := false, testImport := false, testPower := 0 })))) ∧
  (working s.sys.mode = true → peerUsed s i = true → (s.peerI i).state = .contract → let t := endSent i 1 s
    exec (.endContract i) s = .next (settle s { t with ppt := { t.ppt with cmd := cmdRes 2 0 } })) ∧
  (working s.sys.mode = true → peerUsed s i = true → (s.peerI i).state = .contract → ∃ u, exec (.recheckMoisture i) s = .next (settle s u) ∧
    (u.peerI i).recheck = true ∧ u.ppt.cmd = cmdRes 3 0)

/-- R242 to R248, R253, Tables 9-2 and 9-3: a slot's result is written with its tag; a trigger holds the sample of its converters;
a triggered conversion writes ADC_RES, marks it unread and takes the held sample of a displaced trigger; timers, comparators and
software triggers fire their routes. R249 to R257, Tables 9-7 to 9-9 and 9-13: a settled reference, a frame boundary of the
rotation, and the ADC commands. -/
def Obligations.AdcRows : Prop :=
(∀ s : State, Awake s →
  (∀ x k raw,
    let a := bankGet {} (s.convX x).slots (k + 1)
    let r := tagged s x a.left a.channel false raw
    let t := s.modConv x (fun c => { c with slots := bankMod c.slots (k + 1) (fun a =>
      { a with res := r, left := if s.adc.settled.getLsbD x then a.left - 1 else a.left }) })
    adcRuns s = true → a.used = true →
    (servingSlot t a.channel ≠ some (x, k) → (r.valid = true → (t.convX x).wsrc ≠ k + 1) →
      exec (.slotConversionDone x k raw) s = .next (settle s t)) ∧
    (servingSlot t a.channel = some (x, k) → r.valid = true → (t.convX x).wsrc ≠ k + 1 →
      exec (.slotConversionDone x k raw) s = .next (settle s (slotServe a.channel a.range r.result t)))) ∧
  (∀ x k raw, adcRuns s = false → exec (.slotConversionDone x k raw) s = .next (settle s s)) ∧
  (∀ x raw h, x < 4 → adcRuns s = true → (s.convX x).held = some h → (s.convX x).en = false → ∃ u,
    exec (.triggeredConversionDone x raw) s = .next (settle s u) ∧ (u.convX x).held = (s.convX x).displaced ∧ (u.convX x).displaced = none ∧
      (u.convX x).unread = true ∧ (u.convX x).res.trig = h.trig ∧ (u.convX x).res.ovr = (s.convX x).unread ∧ (u.convX x).lastStart = some s.now) ∧
  (∀ r, exec (.trigger r) s = .next (settle s (fireRoute (bankGet {} s.adc.routes (r + 1)) s))) ∧
  (∀ r, (bankGet {} s.adc.routes (r + 1)).en = true → (bankGet {} s.adc.routes (r + 1)).conv = 1 → adcRuns s = true →
    trigCode (bankGet {} s.adc.routes (r + 1)).src ≠ 0 → (s.convX 0).held = none → ∃ u, exec (.trigger r) s = .next (settle s u) ∧
      (u.convX 0).held = some { trig := trigCode (bankGet {} s.adc.routes (r + 1)).src }) ∧
  (∀ t, timerOn (bankGet {} s.adc.timers (t + 1)) = true → exec (.adcTimerExpiry t) s = .next (settle s (fireSource (0x10 + t) s))) ∧
  (∀ c, let k := bankGet {} s.adc.cmps (c + 1)
    k.en = true → 1 ≤ k.mode → k.mode ≤ 4 → k.out = true → exec (.comparatorTransition c false) s = .next (settle s
      { s with adc := { s.adc with cmps := bankMod s.adc.cmps (c + 1) (fun c => { c with out := false }) } })) ∧
  (∀ m, exec (.adcSwtrgWrite m) s = .next (settle s (swTrigger m s)))) ∧
(∀ s : State, Awake s →
  (∀ x, adcRuns s = false → exec (.referenceSettled x) s = .next (settle s s)) ∧
  (∀ x, adcRuns s = true → x < 4 → s.adc.refinBad = false → exec (.referenceSettled x) s =
    .next (settle s { s with adc := { s.adc with settled := putBit s.adc.settled x true } })) ∧
  (∀ d p, working s.sys.mode = true → (rotate s.now d p s.adc).2 = none → exec (.calibrationFrameBoundary d p) s =
    .next (settle s { s with adc := (rotate s.now d p s.adc).1 })) ∧
  (∀ d p k, working s.sys.mode = true → (rotate s.now d p s.adc).2 = some k → exec (.calibrationFrameBoundary d p) s =
    .next (settle s (raiseSrc 208 k (blockAddr 0 3 k) { s with adc := (rotate s.now d p s.adc).1 }))) ∧
  (∀ x c, s.sys.mode = .service → x ≤ 3 → c ≤ 31 → s.adc.cmps.toList.any (fun k => k.module_ && decide (k.channel = c)) = false →
    s.adc.diagState ≠ 1 → exec (.diag x c) s = .next (settle s { s with adc :=
      { s.adc with diagState := 1, diagChan := c, diagConv := x, diagOpen := false, diagShort := false, cmd := cmdRes 1 1 } })) ∧
  (∀ v w n, s.adc.diagState = 1 → rSrc v w = some n → w - v < 1250000 → exec (.diagComplete v w) s =
    .next (settle s { s with adc := { s.adc with
      diagState := 2, rSrc := sat 22 n,
      diagOpen := decide (10 * (1250000 - (w - v)) < w - v), diagShort := decide (n < 10), cmd := cmdRes 1 0 } })) ∧
  (∀ v w, s.adc.diagState ≠ 1 → exec (.diagComplete v w) s = .next (settle s s)) ∧
  (∀ k, working s.sys.mode = true → k ≤ 4 → s.adc.failed.getLsbD k = true → exec (.adcClearFailed k false) s =
    .next (settle s { s with adc := { s.adc with cmd := cmdRes 2 0 } })) ∧
  (∀ k, working s.sys.mode = true → k ≤ 4 → s.adc.failed.getLsbD k = true → ∃ u, exec (.adcClearFailed k true) s = .next (settle s u) ∧
    u.adc.failed = putBit s.adc.failed k false ∧ u.adc.cmd = cmdRes 2 0))

/-- R260 to R262, R271, Table 10-1: a write opens the empty bank for its agent with the trims in effect; a write of another agent
is refused with 4 and counted, one while the bank is being checked, armed or scheduled with 1; an image word goes to the buffer at
the pointer, which moves on. R263 to R271, Table 10-6: the bank's commands by its owner. CHECK begins a check that ends in CHECKED
with the set's digest or in OPEN with its reason; COMMIT of a checked set arms it for the fourth tick from now, COMMIT_AT
schedules it, CANCEL takes a scheduled set back, CLEAR empties the bank. -/
def Obligations.StagingBankRows : Prop :=
(∀ (s : State) (a : Agent) (d : Word), Awake s → working s.sys.mode = true →
  (s.stg.state = .empty → ∃ u, exec (.stgWrite a 0x403 d) s = .next (settle s u) ∧ u.stg.state = .open_ ∧ u.stg.owner = some a ∧
    u.stg.trims = s.stg.trimsIn ∧ u.stg.imgSrc = field d 0 2 ∧ u.stg.takeover = bit d 7 ∧ u.stg.foreign = 0) ∧
  (∀ o, stgWritable (o - 0x400) = false → exec (.stgWrite a o d) s = .next (settle s s)) ∧
  (s.stg.state = .open_ → s.stg.owner = some a → s.stg.imgPtr < 2048 → ∃ u, exec (.stgImgDataWrite a d) s = .next (settle s u) ∧
    u.stg.buf = memPutWord 0 s.stg.buf (4 * s.stg.imgPtr) d ∧ u.stg.imgPtr = s.stg.imgPtr + 1) ∧
  (s.stg.state = .open_ → s.stg.owner = some a → 2048 ≤ s.stg.imgPtr → ∃ u, exec (.stgImgDataWrite a d) s = .next (settle s u) ∧
    u.stg.buf = s.stg.buf ∧ u.stg.overrun = true) ∧
  (s.stg.state = .armed → exec (.stgImgDataWrite a d) s =
    .next (settle s { s with stg := { s.stg with cmd := cmdAnswer s.stg.cmd 1 } })) ∧
  (∀ b, s.stg.state = .open_ → s.stg.owner = some b → b ≠ a → ∃ u, exec (.stgImgDataWrite a d) s = .next (settle s u) ∧
    u.stg.buf = s.stg.buf ∧ u.stg.foreign = satInc 255 s.stg.foreign ∧ u.stg.cmd.result = 4)) ∧
(∀ (s : State) (a : Agent), Awake s → working s.sys.mode = true → s.stg.owner = some a →
  (s.stg.state = .open_ → exec (.check a) s = .next (settle s { s with stg :=
    { s.stg with state := .checking, after := .stay, actAt := s.now, cmd := cmdRes 1 1 } })) ∧
  (s.stg.state = .checking → s.stg.after = .stay → s.sys.mode ≠ .limp → (checkSet s).1.reason = 0 → ∃ u, exec .checkComplete s = .next (settle s u) ∧
    u.stg.state = .checked ∧ u.stg.cmd.result = 0 ∧ u.stg.reason = 0) ∧
  (s.stg.state = .checking → s.sys.mode ≠ .limp → (checkSet s).1.reason ≠ 0 → s.stg.bySeq = false → ∃ u, exec .checkComplete s = .next (settle s u) ∧
    u.stg.state = .open_ ∧ u.stg.cmd.result = 2 ∧ u.stg.reason = (checkSet s).1.reason) ∧
  (s.stg.state = .checked →
    let t : State := { s with stg :=
      { s.stg with
        at_ := false, tries := 0, actAt := s.now, state := .armed, k := commitTickOf s,
        tick := BitVec.ofNat 32 (commitTickOf s), cells := setCells s, acked := 0, goSent := false } }
    let v := sendArms (setCells s) t
    exec (.commit a) s = .next (settle s { v with stg := { v.stg with cmd := cmdRes 2 1 } })) ∧
  (s.stg.state = .open_ → exec (.commit a) s = .next (settle s { s with stg :=
    { s.stg with state := .checking, after := .commit, actAt := s.now, cmd := cmdRes 2 1 } })) ∧
  (s.stg.state = .open_ → exec (.commitAt a) s = .next (settle s { s with stg :=
    { s.stg with state := .checking, after := .commitAt, actAt := s.now, cmd := cmdRes 3 1 } })) ∧
  (s.stg.state ≠ .checking → exec .checkComplete s = .next (settle s s)) ∧
  (s.stg.state = .checked → atRefusal { s with stg := { s.stg with actAt := s.now } } = 0 → ∃ u, exec (.commitAt a) s = .next (settle s u) ∧
    u.stg.state = .scheduled ∧ u.stg.at_ = true ∧ u.stg.k = tickAt s ∧ u.stg.cmd = cmdRes 3 0) ∧
  (s.stg.state = .scheduled → exec (.cancel a) s = .next (settle s { s with stg :=
    { s.stg with state := .checked, at_ := false, actAt := s.now, cmd := cmdRes 4 0 } })) ∧
  (s.stg.state = .open_ → exec (.clear a) s = .next (settle s { s with stg := { stgEmpty s.stg with cmd := cmdRes 5 0 } })) ∧
  ((stgEmpty s.stg).state = .empty ∧ (stgEmpty s.stg).owner = none))

/-- R34, R266 to R272: arming at the scheduled tick, a missing acknowledgement (a scheduled set is cancelled with source 135, a
committed one is armed again), the set's application once its commit-go has left, a lost Trellis time, and an owner that has been
idle. R264 and R273 to R275: a commit tick advances the timebase by 10 µs, and in a working mode the books and engines take their
interval; a waiting increase of the second kind that applies is no longer in transit. -/
def Obligations.StagingProgressRows : Prop :=
(∀ s : State, Awake s →
  (s.stg.state = .scheduled → exec .commitAtArm s = .next (settle s (sendArms (setCells s) { s with stg :=
    { s.stg with state := .armed, tick := BitVec.ofNat 32 s.stg.k, cells := setCells s, acked := 0, goSent := false } }))) ∧
  (s.stg.state = .armed → s.stg.goSent = false → allAcked s.stg = false → s.stg.at_ = true → exec .armAckMissing s =
    .next (settle s (raise 135 0 (dropArms { s with stg :=
      { s.stg with state := .checked, at_ := false, cmd := cmdAnswer s.stg.cmd 9, cancels := satInc 255 s.stg.cancels } })))) ∧
  (s.stg.state = .armed → s.stg.goSent = false → allAcked s.stg = false → s.stg.at_ = false → s.stg.tries = 0 → exec .armAckMissing s =
    .next (settle s (armFor (commitTickOf (dropArms s)) { dropArms s with stg :=
      { (dropArms s).stg with tries := 1, defers := satInc 255 s.stg.defers } }))) ∧
  (s.stg.state = .armed → s.stg.goSent = true → s.stg.k ≤ tickNow s → s.sys.mode ≠ .limp → exec .stagedSetApply s =
    .next (settle s (applySet s))) ∧
  ((s.stg.goSent = false ∨ tickNow s < s.stg.k) → exec .stagedSetApply s = .next (settle s s)) ∧
  (s.stg.state = .armed → s.stg.goSent = true → s.stg.k ≤ tickNow s → s.sys.mode = .limp → s.stg.takeover = true → takeoverWaits s = false →
    exec .stagedSetApply s = .next (settle s (takeover114 s))) ∧
  (s.stg.state = .scheduled → exec .scheduledTimeLost s = .next (settle s { s with stg :=
    { s.stg with state := .checked, at_ := false, cmd := cmdAnswer s.stg.cmd 8, cancels := satInc 255 s.stg.cancels } })) ∧
  (s.stg.state = .open_ ∨ s.stg.state = .checked → exec .bankOwnerIdle s = .next (settle s { s with stg := stgEmpty s.stg }))) ∧
(∀ s : State, Awake s →
  (∀ g,
    let h : Gate := if gateFitted (boardImage s) then { s.pwr.gate with ain7 := g.ain7, ain8 := g.ain8 } else s.pwr.gate
    let t : State := { s with
      now := s.now + 10, clr := { s.clr with undo := s.clr.undo.take (s.clr.undo.length - 100) },
      sys := { s.sys with shown := none }, pwr := { s.pwr with gate := h } }
    let u := riseTick (rampTick (syncTick (goTick (frameTick t))))
    exec (.commitTick g) s = .next (settle s (aliveTick (regenTidy (recloseGate (armShares (peerResend (bindCells (rephaseTick
      (if working u.sys.mode then workTick u else u)))))))))) ∧
  (∀ n, working s.sys.mode = true → (s.cordon n).give = true → (s.cordon n).e.role = .system →
    let t := s.modCordon n (fun k => { k with give := false })
    exec (.giveApplied n) s = .next (settle s (if givePending t then t else transitEnds n t))))

/-- R283 to R292, Tables 11-1 to 11-4: while the interface serves, each accepted frame is counted, the response prepared before it
is the one loaded, and the response prepared for the next frame is the code, the address and the data of the command: NOP 0x15
with data 0, a read 0x11 or its refusal, an interface register 0x16, an unknown command 0x22. -/
def Obligations.HostFrameRows : Prop := ∀ (s : State) (a : Nat), Awake s → s.spi.serving = true →
  let t : State := { s with spi := { s.spi with loaded := s.spi.next, frames := s.spi.frames + 1 } }
  (exec (.nop a false) s = .next (settle s { t with spi := { t.spi with next := { status := 0x15, addr := a, data := 0 } } })) ∧
  (exec (.nop a true) s = .next (settle s { t with spi := { t.spi with late := true, next := { status := 0x26, addr := a, data := 0 } } })) ∧
  (let x := regRead .hostSpi (privView t .hostSpi) a t;
    x.code ≠ 0x23 → x.st.spi.serving = true →
    exec (.spiRead a false) s = .next (settle s { x.st with spi := { x.st.spi with next := { status := x.code, addr := a, data := x.data } } })) ∧
  (∀ d, let x := regWrite .hostSpi (privView t .hostSpi) a d t;
    x.code ≠ 0x23 → x.st.spi.serving = true →
    exec (.spiWrite a d false) s = .next (settle s { x.st with spi := { x.st.spi with next := { status := x.code, addr := a, data := x.data } } })) ∧
  (∀ d, let x := regWrite .hostSpi (privView t .hostSpi) a d t;
    x.code = 0x23 → x.st.spi.serving = true → exec (.spiWrite a d false) s = .next (settle s { x.st with spi :=
      { x.st.spi with denied := true, deniedCount := satInc 255 x.st.spi.deniedCount, next := { status := 0x23, addr := a, data := x.data } } })) ∧
  (a ≤ 7 → exec (.ifRead a false) s = .next (settle s { t with spi := { t.spi with next := { status := 0x16, addr := a, data := ifValue t a } } })) ∧
  (∀ d, exec (.ifWrite 4 d false) s = .next (settle s { t with spi :=
    { t.spi with irqEn := d.setWidth 10, next := { status := 0x16, addr := 4, data := (d.setWidth 10).setWidth 32 } } })) ∧
  (exec (.unknownCmd a false) s = .next (settle s { t with spi := { t.spi with unknown := true, next := { status := 0x22, addr := a, data := 0 } } }))

/-- R289, R290: RESEND answers with the response loaded for the frame before it, bit 7 of its status set, and changes nothing else
but the frame count; a frame of a wrong length is discarded with 0x20, one of 64 edges whose CRC fails with 0x21, the edge count
in the data. -/
def Obligations.ResendAndDiscardRows : Prop := ∀ (s : State) (a : Nat), Awake s → s.spi.serving = true →
  (s.spi.loaded.status ≠ 0 → exec (.resend a false) s = .next (settle s { s with spi :=
    { s.spi with loaded := s.spi.next, frames := s.spi.frames + 1,
                 next := { s.spi.loaded with status := s.spi.loaded.status ||| 0x80 } } })) ∧
  (∃ u, exec (.frameDiscarded 64 false) s = .next (settle s u) ∧ u.spi.next.status = 0x21 ∧ u.spi.next.data = 0x40000000 ∧ u.spi.frameErr = true ∧
    u.spi.crcErr = true ∧ u.spi.discarded = satInc 65535 s.spi.discarded ∧ u.spi.crcCount = satInc 255 s.spi.crcCount ∧
    u.spi.frames = s.spi.frames ∧ u.spi.loaded = s.spi.next) ∧
  (∀ e, e ≠ 64 → e ≤ 255 → ∃ u, exec (.frameDiscarded e false) s = .next (settle s u) ∧ u.spi.next.status = 0x20 ∧
    u.spi.next.data = pack [(24, 8, e)] ∧ u.spi.crcErr = s.spi.crcErr ∧ u.spi.crcCount = s.spi.crcCount)

/-- R13, R431: a register write of an agent has its effect under that agent's own view; the index registers that each agent holds
for itself, whether written as registers or by their own commands. -/
def Obligations.RegisterWriteRows : Prop := ∀ (s : State) (d : Word), Awake s →
  (∀ b a, (b ≠ .hostSpi ∨ s.spi.serving = true) → exec (.registerWrite b a d) s =
    .next (settle s (regWrite b (privView s b) a d s).st)) ∧
  (∀ b, ∃ u, exec (.clrSelWrite b d) s = .next (settle s u) ∧ (u.agent b).clrSel = field d 0 13 % 8192 ∧
    (u.agent b).clrBuf = Vector.ofFn (fun w : Fin 16 => memWord ff s.clr.mem (64 * (field d 0 13 % 8192) + 4 * w.val)) ∧
    ∀ c, c ≠ b → u.agent c = s.agent c) ∧
  (∀ b, ∃ u, exec (.clrData15Read b) s = .next (settle s u) ∧ (u.agent b).clrSel = ((s.agent b).clrSel + 1) % 8192 ∧ ∀ c, c ≠ b → u.agent c = s.agent c) ∧
  (∀ b, ∃ u, exec (.updHxDataWrite b d) s = .next (settle s u) ∧ (u.agent b).hxBuf = memPutWord 0 (s.agent b).hxBuf (4 * (s.agent b).hxWord) d ∧
    (u.agent b).hxWord = ((s.agent b).hxWord + 1) % 64 ∧ ∀ c, c ≠ b → u.agent c = s.agent c) ∧
  (∀ b, ∃ u, exec (.updHxIdxWrite b d) s = .next (settle s u) ∧ (u.agent b).hxIdx = field d 0 16 ∧ (u.agent b).hxWord = 0 ∧ ∀ c, c ≠ b → u.agent c = s.agent c) ∧
  (∀ b, exec (.trlTimeLoRead b) s = .next (settle s (timeLatch b s)))

/-- R298 to R300, Table 11-8a, over either interface: a REQUEST waits for the generator, the challenge lasts 10 s, VERIFY takes a
context slot or waits for one, a valid signature opens the session for its lease; CLOSE, the lease's end and a challenge's end
close it with their RESULT; a lockout ends with no failure counted. -/
def Obligations.SessionRows : Prop := ∀ (s : State) (i : SessIface), Awake s →
  (∀ l, exec (.request l) s = .next (settle s (if requestRefusal .spi l s = 0 then modSess .spi (fun x =>
    { x with state := .waitRng, result := 0, waitCrypto := false, lease := l, until_ := 0, buf := [] }) s
    else sessRes .spi (requestRefusal .spi l s) s))) ∧
  ((sess i s).state = .waitRng → s.cry.rng = .ready → ∃ t, exec (.challengeFormed i) s = .next (settle s (match i with
      | .spi => t
      | .trl => authSend (le 1 2 ++ memReadList 0 t.trl.sess.buf 0 48) t)) ∧
    (sess i t).state = .challenge ∧ (sess i t).until_ = s.now + 10 * oneSec ∧ (sess i t).count = ((sess i s).count + 1) % 65536) ∧
  ((sess i s).state ≠ .waitRng → exec (.challengeFormed i) s = .next (settle s s)) ∧
  (s.spi.sess.state = .challenge → exec .verify s = .next (settle s (sessSlot .spi (modSess .spi (fun x => { x with state := .verifying }) s)))) ∧
  ((sess i s).state = .verifying → (sess i s).waitCrypto = false → exec (.verifyComplete i) s =
    .next (settle s (tellResult i (if sessSigOk i s then modSess i (fun x =>
      { x with state := .open_, result := 1, fails := 0, until_ := s.now + (sess i s).lease * oneMin }) s else sessRefuse i s)))) ∧
  (tellResult .spi s = s) ∧
  (s.spi.sess.state = .open_ → exec .close s = .next (settle s (sessNone .spi 7 s))) ∧
  ((sess i s).state = .challenge → exec (.challengeExpiry i) s = .next (settle s (sessNone i 4 s))) ∧
  ((sess i s).state = .open_ → exec (.sessionLeaseExpiry i) s = .next (settle s (sessNone i 8 s))) ∧
  (lockedOut (sess i s) = true → exec (.lockoutEnd i) s = .next (settle s (modSess i (fun x =>
    { x with state := .none, fails := 0, until_ := 0 }) s))) ∧
  (exec (.spiAuthDataAccess none) s = .next (settle s (authStep s))) ∧
  (∀ w, 12 ≤ s.spi.authPtr → s.spi.authPtr ≤ 34 → ∃ u, exec (.spiAuthDataAccess (some w)) s = .next (settle s u) ∧
    u.spi.authPtr = s.spi.authPtr + 1 ∧ u.spi.sess.buf = memPutWord 0 s.spi.sess.buf (4 * s.spi.authPtr) w)

/-- R320 to R323, R328, R332, R334: what a port in service does with the frames of its segment: HEARTBEAT of another module, TIME,
DELAY_REQ, DELAY_RSP of the neighbour, CREDIT of the neighbour; LONG_REQ ends three intervals after it was last heard. -/
def Obligations.TrellisSegmentRows : Prop := ∀ (s : State) (p : TrlPort), Awake s → (s.port p).state ≠ .off →
  (∀ hb : Hb, hb.src ≠ s.trl.addr → hb.isModule = true → hb.longReq = false → exec (.heartbeat p hb) s =
    .next (settle s (heardModule p hb (s.modPort p (portHear hb.src true hb.cr s.now))))) ∧
  (∀ hb : Hb, hb.src ≠ s.trl.addr → hb.isModule = true → hb.longReq = false → (s.port p).state = .linked → hb.src = (s.port p).peer →
    ∃ u, exec (.heartbeat p hb) s = .next (settle s u) ∧ (u.port p).peerHb = hb.tHb ∧ (u.port p).state = .linked) ∧
  (∀ t : TimeFrame, exec (.time p t) s = .next (settle s (hearTime p t (s.modPort p (fun x =>
    { x with rx := x.rx + 1, bit := if x.hasPeer ∧ 6 < x.held + t.cr then satInc 255 x.bit else x.bit,
             held := if x.hasPeer then min 6 (x.held + t.cr) else x.held }))))) ∧
  (∀ (v : Via) a t1 t2 t3, v.port = p → let t := s.modPort p (portHear a v.isModule v.cr s.now)
    exec (.delayReq v a t1 t2 t3) s = .next (settle s (enqueue p (ownFrame t 1 false a 3 (le 8 t2 ++ le 8 t3)) none t))) ∧
  (∀ (v : Via) a t1 t2 t3 t4, v.port = p → v.isModule = true → (s.port p).hasPeer = true → (s.port p).peer = a → ∃ u,
    exec (.delayRsp v a t1 t2 t3 t4) s = .next (settle s u) ∧ (u.port p).delay = sat 16 (((t4 - t1) - (t3 - t2)) / 2)) ∧
  (∀ n, (s.port p).hasPeer = true → (s.port p).held + n ≤ 6 → ∃ u, exec (.credit p n) s = .next (settle s u) ∧
    (u.port p).held = (s.port p).held + n) ∧
  (exec (.longReqExpiry p) s = .next (settle s (s.modPort p (fun x => { x with longAt := none }))))

/-- R326 to R331, R336 to R339: a frame for this module is accepted while a buffer is free, its SRC learned and its credit owed,
and its request run; a frame for another is held for the other port or, when its own port is where it belongs, freed. -/
def Obligations.TrellisFrameRows : Prop := ∀ (s : State) (v : Via) (a : Nat), Awake s →
  (s.port v.port).state ≠ .off → bufFree (s.port v.port) v.isModule = true → a ≠ s.trl.addr → (s.port v.port).hasPeer = false →
  let t := learnSrc v.port a (s.modPort v.port (portHear a v.isModule v.cr s.now))
  (∀ r : RegReq, r.src = a → exec (.regReq v r) s = .next (settle s (regRequest v.prio r t))) ∧
  (∀ op, exec (.auth v a op) s = .next (settle s (authOp v.prio a op t))) ∧
  (∀ o, exec (.graftOffer v a o) s = .next (settle s (heardOffer v.port a o t))) ∧
  (∀ g f n, exec (.graftWant v a g f n) s = .next (settle s (heardWant v.port a g f n t))) ∧
  (∀ w, exec (.graftWindow v a w) s = .next (settle s (heardWindow v.port a w t))) ∧
  (∀ bs, exec (.graftChunk v a bs) s = .next (settle s (heardChunk v.port a bs t))) ∧
  (∀ bs w, s.upd.window = some w → w.src = a → w.port = v.port → w.got.length < w.count → exec (.graftChunk v a bs) s =
    .next (settle s { t with upd := { t.upd with window := some { w with got := w.got ++ [bs] } } })) ∧
  (∀ w, s.upd.want = none → s.upd.window = none → exec (.graftWindow v a w) s = .next (settle s t)) ∧
  (∀ g f n, g ≠ s.upd.gid → s.upd.window = none → exec (.graftWant v a g f n) s = .next (settle s t)) ∧
  (∀ r : RegReq, r.src = a → keptFor r t = none → reqOk r = false → exec (.regReq v r) s = .next (settle s t)) ∧
  (∀ f : TrlFrame, f.src = a → f.isModule = v.isModule → f.cr = v.cr → 4 < f.typ → f.bcast = false → f.dest ≠ s.trl.addr →
    learnedOn t f.dest ≠ some v.port → exec (.trellisForward v.port f) s = .next (settle s (forwardFrame v.port f t))) ∧
  (∀ f : TrlFrame, f.src = a → f.isModule = v.isModule → f.cr = v.cr → 4 < f.typ → f.bcast = false → f.dest = s.trl.addr →
    exec (.trellisForward v.port f) s = .next (settle s (freeAtOnce v.port f.isModule t)))

/-- R312, R316 to R318, R330: frame errors are counted on their port, a data clash begins a backoff with TRL_FLT bit 8; the frame
a port may send is taken off its queue when it was acknowledged and is tried again otherwise; an arbitration loss is counted. -/
def Obligations.TrellisSendRows : Prop := ∀ (s : State) (p : TrlPort), Awake s →
  ((s.port p).state ≠ .off → exec (.trellisFrameError p .clash) s = .next (settle s (trlFlt 8 (s.modPort p (fun x =>
    { x with clash := satInc 65535 x.clash, backoff := true }))))) ∧
  ((s.port p).state ≠ .off → exec (.trellisFcrcFail p) s = .next (settle s (s.modPort p (fun x => { x with crc := satInc 255 x.crc })))) ∧
  (exec (.clashBackoffEnd p) s = .next (settle s (s.modPort p (fun x => { x with backoff := false })))) ∧
  (∀ k q, sendIx (s.port p) = some k → (s.port p).queue[k]? = some q →
    exec (.trellisSendResult p .taken) s = .next (settle s (frameTaken p k q s)) ∧
    exec (.trellisSendResult p .noTake) s = .next (settle s (frameFailed p k q (s.modPort p (fun x => { x with noAck := satInc 255 x.noAck })))) ∧
    exec (.trellisSendResult p .error) s = .next (settle s (frameFailed p k q s)) ∧
    exec (.trellisSendResult p .arbLost) s = .next (settle s (s.modPort p (fun x => { x with lost := x.lost + 1 })))) ∧
  ((s.port p).state ≠ .off → let t : State := { s with trl := { s.trl with hb := s.trl.hb + 1 } }
    exec (.heartbeatSend p) s = .next (settle s (enqueue p (ownFrame s 0 true 0 0 (heartbeatBody s p)) none t))) ∧
  ((s.port p).owed ≠ 0 → (s.port p).queue = [] → exec (.creditOwedSend p) s =
    .next (settle s (enqueue p (ownFrame s 0 true 0 4 []) none s)))

/-- R324, R329, R332 to R335, Tables 12-5 and 12-9: timers of the Trellis logic and the TRL_CMD commands. R310, R329, R334, R339,
Table 12-9: TRL_CMD in a working mode: SET_ADDR, FLUSH_LEARN, MEASURE_DELAY, END_SESSION; outside one, RESULT 2. -/
def Obligations.TrellisTimerRows : Prop :=
(∀ (s : State) (p : TrlPort), Awake s →
  ((s.port p).state = .linked → ∃ u, exec (.neighbourLost p) s = .next (settle s (raiseSrc (224 + portIx p) 0 (trlAddr (portIx p)) u)) ∧
    (u.port p).state = .merged ∧ (u.port p).hasPeer = false ∧ (u.port p).held = 0 ∧ (u.port p).losses = satInc 255 (s.port p).losses) ∧
  (exec .timeSend s = .next (settle s (
    let t := electSelf s
    if t.trl.follow = 0 then t
    else
      let f := ownFrame t 0 true 0 1 (timeBody t)
      let u := if t.trl.follow = 1 then t else enqueue .a f none t
      if u.trl.follow = 2 then u else enqueue .b f none u))) ∧
  (s.trl.locked = true → exec .timeLockLost s = .next (settle s (electSelf { endLock s with trl :=
    { (endLock s).trl with follow := 0, master := 0, rank := 255, hops := 0, good := 0 } }))) ∧
  (exec .delayMeasure s = .next (settle s (askDelay .b (askDelay .a s)))) ∧
  (∀ a, exec (.learnAge a) s = .next (settle s { s with trl := { s.trl with learn := s.trl.learn.filter (fun e => decide (e.addr ≠ a)) } })) ∧
  (∀ a, exec (.censusAge p a) s = .next (settle s (s.modPort p (fun x => { x with census := x.census.filter (fun t => decide (t.addr ≠ a)) })))) ∧
  (s.spi.serving = true → exec .passThroughOpen s = .next (settle s { s with trl := trlOn s.now s.trl }))) ∧
(∀ s : State, Awake s →
  (working s.sys.mode = true →
    (∀ a, exec (.setAddr a) s = .next (settle s (trlRes 1 0 (saveIdentity (electSelf { s with trl := { s.trl with addr := a % 65536 } }))))) ∧
    (exec .flushLearn s = .next (settle s (trlRes 2 0 { s with trl := { s.trl with learn := [], noBcastB := false } }))) ∧
    (exec .measureDelay s = .next (settle s (trlRes 3 0 (askDelay .b (askDelay .a s))))) ∧
    (s.trl.sess.state = .open_ → exec .endSession s = .next (settle s (trlRes 4 0 { s with trl := { s.trl with sess := endSession9 s.trl.sess } }))) ∧
    (s.trl.sess.state ≠ .open_ → exec .endSession s = .next (settle s (trlRes 4 4 s)))) ∧
  (working s.sys.mode = false →
    (∀ a, exec (.setAddr a) s = .next (settle s (trlRes 1 2 s))) ∧ exec .flushLearn s = .next (settle s (trlRes 2 2 s)) ∧
    exec .measureDelay s = .next (settle s (trlRes 3 2 s)) ∧ exec .endSession s = .next (settle s (trlRes 4 2 s))))

/-- R345, R353 to R358, Table 13-5: windows and chunks. A whole window whose CRC is right is stored and the next asked for, one
whose CRC is wrong is counted; a window that times out is dropped and counted; a manifest whose form is right makes its chunk
count known; a chunk is stored by register, or refused with its RESULT. R346 to R348, R359 to R362, R364, Table 13-9: verification
with a context slot, DISCARD, ACTIVATE, ACTIVATE_AT and CANCEL_ACT with the states that refuse them, and the scheduled instant. -/
def Obligations.GraftRows : Prop :=
(∀ s : State, Awake s →
  (∀ w, s.upd.window = some w → w.got.length = w.count → fcrcBytes w.got.flatten = w.crc → exec .graftWindowComplete s =
    .next (settle s (sendWant (storeWindow w.got w.first { s with upd := { s.upd with window := none, want := none } })))) ∧
  (∀ w, s.upd.window = some w → w.got.length = w.count → fcrcBytes w.got.flatten ≠ w.crc → exec .graftWindowComplete s =
    .next (settle s { s with upd := { s.upd with window := none, badWindows := satInc 255 s.upd.badWindows } })) ∧
  (∀ w, s.upd.window = some w → exec .graftWindowTimeout s =
    .next (settle s { s with upd := { s.upd with window := none, badWindows := satInc 255 s.upd.badWindows } })) ∧
  (s.upd.state = .verified → s.upd.bitmap ≠ 0 → exec .graftOfferSend s = .next (settle s (offerTo .b (offerTo .a s)))) ∧
  (s.upd.state = .receiving → exec .graftWantRepeat s = .next (settle s (sendWant s))) ∧
  (s.upd.state = .receiving → s.upd.formOk = false → manifestHeld s = true → exec .manifestComplete s =
    .next (settle s (if formCheck (graftMan s) ≠ 0 then refuseGraft (formCheck (graftMan s)) 0 s else
      tidyHeld (saveState { s with upd := { s.upd with formOk := true, total := manChunks (graftMan s) } })))) ∧
  (∀ a, let k := (s.agent a).hxIdx
    s.upd.state = .receiving → s.fls.trial = false → k ≠ 0 → chunkRefusal s k = 0 → exec (.storeChunk a) s =
      .next (settle s (updRes 1 0 (storeOne k (memReadList 0 (s.agent a).hxBuf 0 256) s)))) ∧
  (∀ a, let k := (s.agent a).hxIdx
    s.upd.state = .receiving → s.fls.trial = false → k ≠ 0 → chunkRefusal s k ≠ 0 → exec (.storeChunk a) s =
      .next (settle s (updRes 1 (chunkRefusal s k) s)))) ∧
(∀ s : State, Awake s →
  (s.upd.state = .complete → s.cry.rng = .ready → s.cry.slot0 = 0 → s.cry.slot1 = 0 → exec .graftVerify s =
    .next (settle s (verified (releaseSlot 2 { s with cry := { s.cry with slot0 := 2 } })))) ∧
  (s.upd.state = .complete → s.cry.rng = .ready → s.cry.slot0 = 3 → s.cry.slot1 = 5 → exec .graftVerify s =
    .next (settle s { s with cry := { s.cry with busyCnt := satInc 255 s.cry.busyCnt } })) ∧
  (s.upd.state = .verified → ∃ u, exec .discard s = .next (settle s u) ∧ u.upd.state = .none ∧ u.upd.gid = 0 ∧ u.upd.total = 0 ∧
    u.upd.bitmap = 0 ∧ u.upd.cmd = cmdRes 2 0) ∧
  (s.upd.state = .none → exec .discard s = .next (settle s (updRes 2 3 s))) ∧
  (working s.sys.mode = true → s.eis.shipRun = false → s.upd.state = .verified → exec .activate s =
    .next (settle s (beginActivation (limpIdle s) (updRes 3 0 s)))) ∧
  (working s.sys.mode = true → s.eis.shipRun = false → s.upd.state = .carried → exec .activate s = .next (settle s (updRes 3 3 s))) ∧
  (working s.sys.mode = true → s.eis.shipRun = false → s.upd.state = .verified → s.trl.locked = true →
    100000 ≤ trlUntil s (activateTime s) → trlUntil s (activateTime s) ≤ 86400000000 → exec .activateAt s =
      .next (settle s (updRes 4 0 (saveActivation { s with upd := { s.upd with phase := .scheduled } })))) ∧
  (s.upd.phase = .scheduled → exec .cancelAct s = .next (settle s (updRes 5 0 (saveActivation { s with upd := { s.upd with phase := .idle } })))) ∧
  (s.upd.phase = .scheduled → s.upd.state = .verified → working s.sys.mode = true → exec .activationTimeReached s =
    .next (settle s (beginActivation false s))))

/-- R360 to R366, Table 13-8: the phases of an activation: the peer guard, the end of the trial, a step of CELLS, a stalled cell,
STRUCTURE, and a repair activation from ROM. -/
def Obligations.ActivationRows : Prop := ∀ s : State, Awake s →
  (s.upd.state = .activating → s.upd.phase = .guard → working s.sys.mode = true → partnerInLimp s = false → exec .peerGuardRecheck s =
    .next (settle s (enterMain { s with upd := { s.upd with cmd := cmdAnswer s.upd.cmd 0 } }))) ∧
  (s.upd.state = .activating → s.upd.phase = .guard → working s.sys.mode = true → partnerInLimp s = true →
    s.upd.guardAt + 60 * oneSec ≤ s.now → ∃ u, exec .peerGuardRecheck s = .next (settle s u) ∧ u.upd.state = .verified ∧
      u.upd.phase = .idle ∧ u.upd.reason = 0x21) ∧
  (s.fls.trial = true → s.upd.trialBy = true → working s.sys.mode = true → exec .trialEnd s =
    .next (settle s (enterCells { s with fls := { s.fls with trial := false }, upd := { s.upd with trialBy := false } }))) ∧
  (s.upd.state = .activating → s.upd.phase = .cells → actMode s = true → exec .activationCellStep s = .next (settle s (cellStep s))) ∧
  (∀ n, s.upd.state = .activating → s.upd.phase = .cells → bankGet 0 s.upd.waitAt n ≠ 0 → exec (.actStalled n) s =
    .next (settle s (raise 235 n { s with upd := { s.upd with reason := 0x23 } }))) ∧
  (s.upd.state = .activating → s.upd.phase = .structure_ → s.upd.repair = false → actMode s = true → (writeStore s).upd.repair = false →
    exec .activationStructure s = .next (settle s (stageStructure (writeStore s)))) ∧
  (s.sys.mode = .limp → s.sys.sub = .rom → s.limp.power = true → s.sys.vResult = 2 → s.upd.state = .verified → s.upd.bound = true →
    compatible { s with upd := { s.upd with repair := true } } = true → exec .repairActivation s = .next (settle s (beginActivation true s)))

/-- R350, R351, Table 13-11: flash commands name a sector of the inactive bank's free area and answer 1 until the array is done;
an erase leaves the sector blank, a page programmed blank holds the data; each access of the page buffer advances its pointer. -/
def Obligations.FlashRows : Prop := ∀ s : State, Awake s →
  (∀ b k, flsRefusal s b k 0 = 0 → exec (.eraseSector b k) s = .next (settle s (flsRes 1 1 { s with fls := { s.fls with
    op := some { program := false, bank := b, sector := k, page := 0, data := memReadList 0 s.fls.buf 0 256 } } }))) ∧
  (∀ b k p, flsRefusal s b k p = 0 → exec (.programPage b k p) s = .next (settle s (flsRes 2 1 { s with fls := { s.fls with
    op := some { program := true, bank := b, sector := k, page := p, data := memReadList 0 s.fls.buf 0 256 } } }))) ∧
  (∀ b k p, flsRefusal s b k p ≠ 0 → exec (.programPage b k p) s = .next (settle s (flsRes 2 (flsRefusal s b k p) s))) ∧
  (∀ o ok, s.fls.op = some o → o.program = false → exec (.flashOpComplete ok) s =
    .next (settle s (flsRes 1 0 (sectorErase o.bank o.sector { s with fls := { s.fls with op := none } })))) ∧
  (exec (.flsDataAccess none) s = .next (settle s { s with fls := { s.fls with ptr := (s.fls.ptr + 1) % 64 } })) ∧
  (∀ w, exec (.flsDataAccess (some w)) s = .next (settle s { s with fls :=
    { s.fls with buf := memPutWord 0 s.fls.buf (4 * s.fls.ptr) w, ptr := (s.fls.ptr + 1) % 64 } }))

/-- R368 to R371, Table 13-12: an operation of the register interface takes a context slot, or is refused with 2 while both are
held and with 5 out of sequence; its final operation answers 1 until the engine posts the result; RELEASE gives the slot back.
R421 to R424: the generator: a random word is drawn while it is READY; it becomes READY after start-up; a window that fails at
start-up, or the third of 64 in service, makes it FAILED. -/
def Obligations.CryptoRows : Prop :=
(∀ s : State, Awake s →
  (s.cry.mode = .none → s.cry.slot0 = 0 → s.cry.slot1 ≠ 5 →
    exec .shaStart s = .next (settle s (cryRes 1 0 { s with cry := { s.cry with slot0 := 5, mode := .sha, fin := false, stream := [] } })) ∧
    exec .ecdsaVerify s = .next (settle s (cryRes 3 1 { s with cry := { s.cry with slot0 := 5, mode := .ecdsa, fin := true } })) ∧
    (∀ n, exec (.gcmEncStart n) s = .next (settle s (cryRes 4 0 { s with cry :=
      { s.cry with slot0 := 5, mode := .gcmEnc, fin := false, aad := n, stream := [], out := [], ctx := bufWords s 0 11 } }))) ∧
    (∀ n, exec (.gcmDecStart n) s = .next (settle s (cryRes 5 0 { s with cry :=
      { s.cry with slot0 := 5, mode := .gcmDec, fin := false, aad := n, stream := [], out := [], ctx := bufWords s 0 11 } })))) ∧
  (s.cry.mode ≠ .none → exec .shaStart s = .next (settle s (cryRes 1 5 s))) ∧
  (s.cry.mode = .none → s.cry.slot0 = 2 → s.cry.slot1 = 3 → exec .shaStart s =
    .next (settle s (cryRes 1 2 { s with cry := { s.cry with busyCnt := satInc 255 s.cry.busyCnt } }))) ∧
  (∀ n, s.cry.mode = .sha → s.cry.fin = false → 1 ≤ n → n ≤ 4 → s.cry.stream ≠ [] → exec (.shaFinal n) s =
    .next (settle s (cryRes 2 1 { s with cry := { s.cry with fin := true, lastBytes := n } }))) ∧
  (s.cry.mode = .gcmEnc → s.cry.fin = false → s.cry.aad ≤ 4 * s.cry.stream.length → exec .gcmFinal s =
    .next (settle s (cryRes 6 1 { s with cry := { s.cry with fin := true } }))) ∧
  (s.cry.fin = false → slotHeld s 5 = true → ∃ u, exec .cryRelease s = .next (settle s u) ∧ slotHeld u 5 = false ∧ u.cry.mode = .none ∧
    u.cry.cmd = cmdRes 7 0) ∧
  (∀ w, s.cry.mode = .sha → s.cry.fin = false → exec (.cryDataAccess (some w)) s =
    .next (settle s { s with cry := { s.cry with stream := w :: s.cry.stream } })) ∧
  (exec (.cryDataAccess none) s = .next (settle s { s with cry := { s.cry with out := s.cry.out.tail } })) ∧
  (∀ w, ∃ u, exec (.cryBufAccess (some w)) s = .next (settle s u) ∧ u.cry.ptr = (s.cry.ptr + 1) % 64 ∧
    u.cry.buf = memPutWord 0 s.cry.buf (4 * s.cry.ptr) w) ∧
  (s.cry.fin = true → s.cry.mode = .sha → ∃ u, exec .cryptoOpComplete s = .next (settle s u) ∧ u.cry.mode = .none ∧ u.cry.fin = false ∧
    u.cry.cmd = cmdRes 2 0)) ∧
(∀ s : State, Awake s →
  (s.cry.rng = .ready → exec .rngDataRead s = .next (settle s { s with freeIx := s.freeIx + 1 })) ∧
  (s.cry.rng = .notReady → exec .rngReady s = .next (settle s { s with cry := { s.cry with rng := .ready } })) ∧
  (∀ t, s.cry.rng = .notReady → ∃ u, exec (.rngWindowFail t) s = .next (settle s u) ∧ u.cry.rng = .failed ∧
    u.lcs.rngFails = satInc 255 s.lcs.rngFails) ∧
  (∀ t, s.cry.rng = .ready → s.lcs.rngTimes = [] → ∃ u, exec (.rngWindowFail t) s = .next (settle s u) ∧ u.cry.rng = .ready ∧
    u.lcs.rngTimes = [s.now]))

/-- R374 to R384, Tables 14-1 to 14-3: the window opens; an answer crosses, and a further one while it crosses is ignored and
counted; judged at its count it services the watchdog in the window with the right token only, and anything else, or no answer, is
an expiry; the hard timer then holds the cores in reset; a period is taken within its limits and else rejected. -/
def Obligations.WatchdogRows : Prop := ∀ s : State, Awake s →
  (s.wdg.state = .closed → exec .wdgWindowOpen s = .next (settle s { s with wdg := { s.wdg with state := .open_, count := s.wdg.opensAt, wakeReq := s.wdg.wake } })) ∧
  (∀ t, wdgRuns s.wdg = true → s.wdg.answer = none → exec (.wdgAnswer t) s = .next (settle s { s with wdg := { s.wdg with answer := some t } })) ∧
  (∀ t u, wdgRuns s.wdg = true → s.wdg.answer = some u → exec (.wdgAnswer t) s =
    .next (settle s { s with wdg := { s.wdg with ignored := satInc 255 s.wdg.ignored } })) ∧
  (∀ c, s.wdg.state = .open_ → s.wdg.answer = some (token s.wdg.q (wdgSalt s)) → s.wdg.opensAt ≤ c → c < s.wdg.period →
    exec (.wdgAnswerEffective c) s = .next (settle s (serviced c s))) ∧
  (∀ c t, wdgRuns s.wdg = true → s.wdg.answer = some t → c < s.wdg.opensAt → exec (.wdgAnswerEffective c) s = .next (settle s (expire 2 c s))) ∧
  (∀ c t, s.wdg.state = .open_ → s.wdg.answer = some t → t ≠ token s.wdg.q (wdgSalt s) → s.wdg.opensAt ≤ c → c < s.wdg.period →
    exec (.wdgAnswerEffective c) s = .next (settle s (expire 4 c s))) ∧
  (wdgRuns s.wdg = true → exec .wdgExpiry s = .next (settle s (expire 5 s.wdg.period s))) ∧
  (s.wdg.state = .trap → exec .wdgHardTimerEnd s = .next (settle s (coreReset 1 wdgAddr s))) ∧
  (∀ d, s.wdg.lock = false → s.wdg.state ≠ .trap → 33 ≤ field d 0 18 → field d 0 18 ≤ 131072 → exec (.wdgPeriodWrite d) s =
    .next (settle s { s with wdg := { s.wdg with newPeriod := some (field d 0 18), newAt := s.now } })) ∧
  (∀ d, (s.wdg.lock = true ∨ field d 0 18 < 33 ∨ 131072 < field d 0 18) → exec (.wdgPeriodWrite d) s =
    .next (settle s { s with wdg := { s.wdg with rej := true } }))

/-- R385 to R393, Table 14-6: a named source that becomes active is latched and takes its class's reaction; a wire fault on its
pair; a C2 window that ends unclosed is LIMP cause 3; a source that becomes inactive is no longer live. R390, R391, R395 to R398,
Tables 14-9 and 14-10: pending bits are cleared by ones, an event read removes the oldest event and fills the shadow, a
compatibility read its message; a force in SERVICE with its key latches source 241; ALIVE makes an edge while its conditions hold,
and a pin that does not follow raises source 242. -/
def Obligations.FaultRows : Prop :=
(∀ s : State, Awake s →
  (∀ n a w, named s n = true → n ≠ 210 → exec (.faultSourceActive n a w) s =
    .next (settle s (warmAtOnceFrom s (raiseSrc n a (locatedAddr s n w) s)))) ∧
  (∀ n a w, named s n = false → exec (.faultSourceActive n a w) s = .next (settle s s)) ∧
  (∀ n, named s n = true → n ≠ 210 → levelCond s n = false → exec (.faultSourceInactive n) s = .next (settle s (pairInactive n s))) ∧
  (∀ n l, named s n = true → exec (.wireFault n l) s = .next (settle s (warmAtOnceFrom s (wireFault n s)))) ∧
  (∀ g w, bankGet none s.flt.win (g + 1) = some w → exec (.c2WindowEscalation g) s =
    .next (settle s (
      let a := (s.fsrc w.source).addr
      let t := pushEvent (eventWord 2 3 s.flt.evSeq.toNat (windowArg s w.source) w.source) (compatWord w.source 5 a) a s
      limpEntry 3 5 a { t with flt := { t.flt with escalated := true, win := bankPut t.flt.win (g + 1) none } })))) ∧
(∀ s : State, Awake s →
  (∀ k d, k < 8 → exec (.fltPendClear k d) s = .next (settle s (pendClear k d s))) ∧
  (∀ b e q, s.flt.evq = e :: q → exec (.fltEventRead b) s =
    .next (settle s { s with flt := { s.flt with evq := q, last := e.word, lastAddr := e.addr } })) ∧
  (∀ b m q, s.flt.cmq = m :: q → exec (.fltCompatRead b) s = .next (settle s { s with flt := { s.flt with cmq := q, cmLast := m } })) ∧
  (∀ d, forceRefusal d s ≠ 0 → exec (.fltForce d) s =
    .next (settle s { s with flt := { s.flt with cmd := cmdRes (field d 0 8) (forceRefusal d s) } })) ∧
  (∀ d, forceRefusal d s = 0 → field d 8 2 ≠ 0 → exec (.fltForce d) s = .next (settle s (wireFault (field d 0 8)
    (raise 241 (field d 0 8) { s with flt := { s.flt with cmd := cmdRes (field d 0 8) 0,
                                                          force := some { source := field d 0 8, kind := field d 8 2 } } })))) ∧
  (aliveOk s = true → exec .aliveEdge s =
    .next (settle s { s with flt := { s.flt with alive := true, aliveStop := 0, aliveLevel := !s.flt.aliveLevel } })) ∧
  (exec .aliveFeedback s = .next (settle s (raiseSrc 242 0 (blockAddr 0 2 3) s))))

/-- R404 to R408: the write controller writes the oldest record of its queue; NOTE queues the eight note words while the queue has
room, and answers 1 when it has none. R413 to R419, Tables 15-7 and 15-8: an OTP word that the state opens, reads zero and has
data is programmed, and reads back RESULT 0 where every bit took and 6 where one did not; a transition is armed with its key for
10 s and then made by an agent of the view it requires; the arming ends. -/
def Obligations.LifeCycleRows : Prop :=
(∀ s : State, Awake s →
  (∀ r q, s.clr.queue = r :: q → exec .cellarRecordWrite s = .next (settle s (writeRecord r { s with clr := { s.clr with queue := q } }))) ∧
  (s.clr.queue.length < 32 → ∃ u r, exec .note s = .next (settle s u) ∧ u.clr.queue = s.clr.queue ++ [r] ∧ r.kind = 10 ∧
    r.words = s.clr.notes.toList ∧ u.clr.cmd = cmdRes 1 0 ∧ u.clr.mem = s.clr.mem) ∧
  (32 ≤ s.clr.queue.length → exec .note s = .next (settle s { s with clr := { s.clr with cmd := cmdRes 1 1 } }))) ∧
(∀ (s : State) (b : Agent), Awake s →
  (∀ w, let m := freeWord s
    wordOpen s w = true → otpRaw s w = 0 → s.lcs.data ≠ 0 → exec (.programWord b w) s =
      .next (settle s (lcsRes 1 (if s.lcs.data &&& m.1 = s.lcs.data then 0 else 6) (otpPut false w (s.lcs.data &&& m.1) m.2)))) ∧
  (∀ w, (wordOpen s w = false ∨ otpRaw s w ≠ 0 ∨ s.lcs.data = 0) → exec (.programWord b w) s = .next (settle s (lcsRes 1 5 s))) ∧
  (∀ t, lcsMode s = true → exec (.armTransition b 0xC3 t) s = .next (settle s (lcsRes 2 0 { s with lcs :=
    { s.lcs with arm := some { target := t, until_ := s.now + 10 * oneSec } } }))) ∧
  (∀ t k, k ≠ 0xC3 → lcsMode s = true → exec (.armTransition b k t) s = .next (settle s (lcsRes 2 3 s))) ∧
  (∀ m p, lcsMode s = true → s.lcs.arm = some m → s.now < m.until_ → transOf s m.target = some p → transView s p.1 b = true →
    transOk s p.1 = true → exec (.transition b 0xC3 m.target) s = .next (settle s (lcsRes 3 0 (transition p.1 p.2 s)))) ∧
  (exec .armTransitionExpiry s = .next (settle s { s with lcs := { s.lcs with arm := none } })))
end

