-- ==== Sys2Proof/Laws/Mem.lean ====
section
/-! SUPPORT. The laws of the byte memories: every operation keeps the canonical form, a read after a write gives what was
written, and a write leaves every other address alone. -/

namespace Sys2Proof.Machine

/-! ### The canonical form -/

/-- A memory above a bound is above every lower bound. -/
theorem memWfFrom_mono {fill : Byte} {m : Mem} {lo hi : Nat} (h : lo ≤ hi) (w : memWfFrom fill hi m = true) :
    memWfFrom fill lo m = true := by
  cases m with
  | nil => rfl
  | cons e m => simp only [memWfFrom, Bool.and_eq_true, decide_eq_true_eq] at w ⊢; exact ⟨⟨by omega, w.1.2⟩, w.2⟩

/-- A write above a bound keeps the form above it. -/
theorem memWrite_wfFrom {fill b : Byte} {a : Nat} {m : Mem} {lo : Nat} (ha : lo ≤ a) (w : memWfFrom fill lo m = true) :
    memWfFrom fill lo (memWrite fill m a b) = true := by
  induction m generalizing lo with
  | nil => unfold memWrite; split <;> simp_all [memWfFrom]
  | cons e m ih =>
    obtain ⟨k, c⟩ := e
    simp only [memWfFrom, Bool.and_eq_true, decide_eq_true_eq] at w
    unfold memWrite
    split
    · split
      · simp [memWfFrom, w.1.1, w.1.2, w.2]
      · simp only [memWfFrom, Bool.and_eq_true, decide_eq_true_eq]
        exact ⟨⟨ha, by assumption⟩, ⟨by omega, w.1.2⟩, w.2⟩
    · split
      · split
        · exact memWfFrom_mono (by omega) w.2
        · simp only [memWfFrom, Bool.and_eq_true, decide_eq_true_eq]
          exact ⟨⟨ha, by assumption⟩, by have := w.2; subst_vars; exact this⟩
      · simp only [memWfFrom, Bool.and_eq_true, decide_eq_true_eq]
        exact ⟨⟨w.1.1, w.1.2⟩, ih (by omega) w.2⟩

/-- Writing one byte keeps the canonical form. -/
theorem memWrite_wf {fill b : Byte} {a : Nat} {m : Mem} (w : memWf fill m = true) : memWf fill (memWrite fill m a b) = true :=
  memWrite_wfFrom (Nat.zero_le a) w

/-- Writing a run of bytes keeps the canonical form. -/
theorem memWriteList_wf {fill : Byte} {bs : List Byte} {a : Nat} {m : Mem} (w : memWf fill m = true) :
    memWf fill (memWriteList fill m a bs) = true := by
  induction bs generalizing a m with
  | nil => exact w
  | cons b bs ih => exact ih (memWrite_wf w)

/-- Writing a word keeps the canonical form. -/
theorem memPutWord_wf {fill : Byte} {a : Nat} {x : Word} {m : Mem} (w : memWf fill m = true) :
    memWf fill (memPutWord fill m a x) = true := memWriteList_wf w

/-- Erasing a range keeps the form above a bound. -/
theorem memErase_wfFrom {fill : Byte} {p q : Nat} {m : Mem} {lo : Nat} (w : memWfFrom fill lo m = true) :
    memWfFrom fill lo (memErase m p q) = true := by
  induction m generalizing lo with
  | nil => rfl
  | cons e m ih =>
    obtain ⟨k, c⟩ := e
    simp only [memWfFrom, Bool.and_eq_true, decide_eq_true_eq] at w
    have hm := ih w.2
    unfold memErase at hm ⊢
    rw [List.filter_cons]
    split
    · simp only [memWfFrom, Bool.and_eq_true, decide_eq_true_eq]; exact ⟨w.1, hm⟩
    · exact memWfFrom_mono (by omega) hm

/-- Erasing a range keeps the canonical form. -/
theorem memErase_wf {fill : Byte} {p q : Nat} {m : Mem} (w : memWf fill m = true) : memWf fill (memErase m p q) = true :=
  memErase_wfFrom w

/-- The empty memory is canonical. -/
@[simp] theorem memWf_nil (fill : Byte) : memWf fill [] = true := rfl

/-! ### Reading -/

/-- Below its first address a memory reads as fill. -/
theorem memRead_below {fill : Byte} {m : Mem} {lo a : Nat} (w : memWfFrom fill lo m = true) (h : a < lo) :
    memRead fill m a = fill := by
  induction m generalizing lo with
  | nil => rfl
  | cons e m ih =>
    obtain ⟨k, c⟩ := e
    simp only [memWfFrom, Bool.and_eq_true, decide_eq_true_eq] at w
    unfold memRead
    rw [if_neg (by omega)]
    exact ih w.2 (by omega)

/-- A byte written is read back. -/
theorem memRead_memWrite_self {fill b : Byte} {a : Nat} {m : Mem} {lo : Nat} (w : memWfFrom fill lo m = true) :
    memRead fill (memWrite fill m a b) a = b := by
  induction m generalizing lo with
  | nil => unfold memWrite; split <;> simp_all [memRead]
  | cons e m ih =>
    obtain ⟨k, c⟩ := e
    simp only [memWfFrom, Bool.and_eq_true, decide_eq_true_eq] at w
    unfold memWrite
    split
    · split
      · unfold memRead; rw [if_neg (by omega), memRead_below w.2 (by omega)]; subst_vars; rfl
      · simp [memRead]
    · split
      · split
        · rw [memRead_below w.2 (by omega)]; subst_vars; rfl
        · simp [memRead]
      · unfold memRead; rw [if_neg (by omega)]; exact ih w.2

/-- A byte written leaves every other address alone. -/
theorem memRead_memWrite_ne {fill b : Byte} {a x : Nat} {m : Mem} (h : x ≠ a) :
    memRead fill (memWrite fill m a b) x = memRead fill m x := by
  induction m with
  | nil => unfold memWrite; split <;> simp [memRead, Ne.symm h]
  | cons e m ih =>
    obtain ⟨k, c⟩ := e
    unfold memWrite
    split
    · split
      · rfl
      · simp [memRead, Ne.symm h]
    · split
      · have : k ≠ x := by omega
        split <;> simp [memRead, Ne.symm h, this]
      · unfold memRead; rw [ih]

/-- A run of bytes leaves the addresses outside it alone. -/
theorem memRead_memWriteList_out {fill : Byte} {bs : List Byte} {a x : Nat} {m : Mem} (h : x < a ∨ a + bs.length ≤ x) :
    memRead fill (memWriteList fill m a bs) x = memRead fill m x := by
  induction bs generalizing a m with
  | nil => rfl
  | cons b bs ih =>
    rw [List.length_cons] at h
    unfold memWriteList
    rw [ih (by omega), memRead_memWrite_ne (by omega)]

/-- A run of bytes is read back. -/
theorem memReadList_memWriteList {fill : Byte} {bs : List Byte} {a : Nat} {m : Mem} (w : memWf fill m = true) :
    memReadList fill (memWriteList fill m a bs) a bs.length = bs := by
  induction bs generalizing a m with
  | nil => rfl
  | cons b bs ih =>
    rw [List.length_cons]
    unfold memReadList memWriteList
    rw [ih (memWrite_wf w), memRead_memWriteList_out (by omega), memRead_memWrite_self w]

/-- A range erased reads as fill. -/
theorem memRead_memErase_in {fill : Byte} {p q x : Nat} {m : Mem} (h : p ≤ x) (k : x < q) : memRead fill (memErase m p q) x = fill := by
  induction m with
  | nil => rfl
  | cons e m ih =>
    obtain ⟨i, c⟩ := e
    unfold memErase at ih ⊢
    rw [List.filter_cons]
    split
    · rename_i hi
      have : i ≠ x := by rintro rfl; simp at hi; omega
      unfold memRead; rw [if_neg this]; exact ih
    · exact ih

/-- Outside an erased range nothing changes. -/
theorem memRead_memErase_out {fill : Byte} {p q x : Nat} {m : Mem} (h : x < p ∨ q ≤ x) : memRead fill (memErase m p q) x = memRead fill m x := by
  induction m with
  | nil => rfl
  | cons e m ih =>
    obtain ⟨i, c⟩ := e
    unfold memErase at ih ⊢
    rw [List.filter_cons]
    split
    · unfold memRead; rw [ih]
    · rename_i hi
      rw [ih]
      have : i ≠ x := by rintro rfl; simp at hi; omega
      conv => rhs; unfold memRead
      rw [if_neg this]

/-- A run of bytes read beside a written run reads as before. -/
theorem memReadList_out {fill : Byte} (m : Mem) (a : Nat) (bs : List Byte) (x n : Nat) (hd : x + n ≤ a ∨ a + bs.length ≤ x) :
    memReadList fill (memWriteList fill m a bs) x n = memReadList fill m x n := by
  induction n generalizing x with
  | zero => rfl
  | succ n ih => simp only [memReadList]; rw [memRead_memWriteList_out (by omega), ih (x + 1) (by omega)]

/-- A run written in two parts. -/
theorem memWriteList_append {fill : Byte} (m : Mem) (a : Nat) (xs ys : List Byte) :
    memWriteList fill m a (xs ++ ys) = memWriteList fill (memWriteList fill m a xs) (a + xs.length) ys := by
  induction xs generalizing m a with
  | nil => rfl
  | cons b xs ih => simp only [List.cons_append, memWriteList]; rw [ih]; congr 1; simp; omega

end Sys2Proof.Machine
end

