-- ==== Sys2Proof/Laws/Copy.lean ====
section
/-! SUPPORT. The last good copy: a copy that is written is what its slot then holds (R93). -/

open Sys2Proof.Machine

namespace Sys2Proof.Laws

/-- The bytes of a little-endian number. -/
theorem le_length (n v : Nat) : (le n v).length = n := by
  induction n generalizing v with
  | zero => rfl
  | succ n ih => simp [le, ih]

/-- Two bytes of a number, read back. -/
theorem ofLe_le (v : Nat) (h : v < 65536) : ofLe (le 2 v) = v := by simp [le, ofLe]; omega

/-- The four writes of a copy: the slot holds the image, with the length that its trailer shows. -/
theorem lgc_bytes (m : Mem) (hw : memWf ff m = true) (im : Image) (hl : im.length ≤ 8192) (k : Nat) (hk : k = 0 ∨ k = 1) (A B C D : List Byte)
    (hB : B.length = 4) :
    let m1 := memWriteList ff (memWriteList ff (memWriteList ff (memWriteList ff m (lgcTrailer k + 8) A) (lgcSlot k) im) (lgcTrailer k) (B ++ le 2 im.length ++ C)) (lgcTrailer k + 8) D
    memReadList ff m1 (lgcSlot k) (ofLe (memReadList ff m1 (lgcTrailer k + 4) 2)) = im := by
  intro m1
  have hs : lgcSlot k + 8192 ≤ lgcTrailer k := by rcases hk with h | h <;> subst h <;> decide
  have w1 : memWf ff (memWriteList ff (memWriteList ff m (lgcTrailer k + 8) A) (lgcSlot k) im) = true :=
    memWriteList_wf (memWriteList_wf hw)
  have w0 := memWriteList_wf (bs := A) (a := lgcTrailer k + 8) hw
  have e1 : memReadList ff m1 (lgcTrailer k + 4) 2 = le 2 im.length := by
    show memReadList ff (memWriteList ff _ _ _) _ _ = _
    rw [memReadList_out _ _ _ _ _ (by omega), memWriteList_append, memReadList_out _ _ _ _ _ (by rw [List.length_append, hB, le_length]; omega), memWriteList_append, hB]
    have := memReadList_memWriteList (fill := ff) (bs := le 2 im.length) (a := lgcTrailer k + 4) (memWriteList_wf (bs := B) (a := lgcTrailer k) w1)
    rwa [le_length] at this
  rw [e1, ofLe_le _ (by omega)]
  show memReadList ff (memWriteList ff _ _ _) _ _ = _
  rw [memReadList_out _ _ _ _ _ (by omega), memReadList_out _ _ _ _ _ (by omega)]
  exact memReadList_memWriteList w0

/-- What a put to the Cellar writes. -/
theorem clrPut_mem (o : Nat) (bs : List Byte) (s : State) : (clrPut o bs s).clr.mem = memWriteList ff s.clr.mem o bs := rfl

/-- A put to the Cellar changes the Cellar's bytes and their marks only. -/
theorem clrPut_only (o : Nat) (bs : List Byte) (s t : State) (h : ∃ m b u, t = { s with clr := { s.clr with mem := m, bad := b, undo := u } }) :
    ∃ m b u, clrPut o bs t = { s with clr := { s.clr with mem := m, bad := b, undo := u } } := by
  obtain ⟨m, b, u, rfl⟩ := h
  exact ⟨_, _, _, rfl⟩

/-- A copy that is not yet held: only the Cellar changes, and the slot written holds the image. -/
theorem lgcWrite_holds (im : Image) (s : State) (h : (lgcPick s).map (lgcBytes s) ≠ some im) :
    (∃ m b u, lgcWrite im s = { s with clr := { s.clr with mem := m, bad := b, undo := u } }) ∧
      (memWf ff s.clr.mem = true → im.length ≤ 8192 → lgcBytes (lgcWrite im s) (if lgcPick s = some 0 then 1 else 0) = im) := by
  unfold lgcWrite
  simp only [if_neg h]
  constructor
  · exact clrPut_only _ _ _ _ (clrPut_only _ _ _ _ (clrPut_only _ _ _ _ (clrPut_only _ _ _ _ ⟨_, _, _, rfl⟩)))
  · intro hw hl
    unfold lgcBytes clrNum clrBytes
    simp only [clrPut_mem]
    exact lgc_bytes _ hw im hl _ (by split <;> simp) _ _ _ _ (le_length _ _)

end Sys2Proof.Laws
end

