-- ==== Sys2Proof/Laws/State.lean ====
section
/-! SUPPORT. What each update of a bank of the state leaves alone, field by field, and what reading a window after
changing it gives: no later proof unfolds a record update. -/

namespace Sys2Proof.Machine

/-! ### Banks -/

/-- Reading window j of a bank after window i was changed. -/
theorem bankGet_bankMod {α : Type} {k : Nat} (d : α) (v : Vector α k) (i j : Nat) (f : α → α) :
    bankGet d (bankMod v i f) j = if i = j ∧ 0 < i ∧ i ≤ k then f (bankGet d v j) else bankGet d v j := by
  unfold bankGet bankMod
  by_cases hj : 0 < j ∧ j - 1 < k <;> by_cases hi : 0 < i ∧ i - 1 < k <;> by_cases h : i = j
  · subst h; simp [hj]; intro; omega
  · have : i - 1 ≠ j - 1 := by omega
    simp [hi, hj, h, Vector.getElem_set_ne, this]
  · subst h; exact absurd hj hi
  · simp [hi, hj, h]
  · subst h; exact absurd hi hj
  · simp [hi, hj, h]
  · subst h
    have : ¬ (0 < i ∧ i ≤ k) := by omega
    simp [hi, this]
  · simp [hj, h]

/-- Reading window j of a bank after window i was set. -/
theorem bankGet_bankPut {α : Type} {k : Nat} (d : α) (v : Vector α k) (i j : Nat) (x : α) :
    bankGet d (bankPut v i x) j = if i = j ∧ 0 < i ∧ i ≤ k then x else bankGet d v j :=
  bankGet_bankMod d v i j (fun _ => x)

/-- A bank after a change of one window, read at that window. -/
theorem bankGet_bankMod_self {α : Type} {k : Nat} (d : α) (v : Vector α k) (i : Nat) (f : α → α) (h : 0 < i ∧ i ≤ k) :
    bankGet d (bankMod v i f) i = f (bankGet d v i) := by simp [bankGet_bankMod, h]

/-! ### Fields an update leaves alone -/


section modCell
variable (s : State) (n : Nat) (f : Cell → Cell)

@[simp] theorem modCell_pending : (s.modCell n f).pending = s.pending := by unfold State.modCell; split <;> rfl
@[simp] theorem modCell_freeIx : (s.modCell n f).freeIx = s.freeIx := by unfold State.modCell; split <;> rfl
@[simp] theorem modCell_now : (s.modCell n f).now = s.now := by unfold State.modCell; split <;> rfl
@[simp] theorem modCell_powered : (s.modCell n f).powered = s.powered := by unfold State.modCell; split <;> rfl
@[simp] theorem modCell_orIn : (s.modCell n f).orIn = s.orIn := by unfold State.modCell; split <;> rfl
@[simp] theorem modCell_upset : (s.modCell n f).upset = s.upset := by unfold State.modCell; split <;> rfl
@[simp] theorem modCell_sram : (s.modCell n f).sram = s.sram := by unfold State.modCell; split <;> rfl
@[simp] theorem modCell_wake : (s.modCell n f).wake = s.wake := by unfold State.modCell; split <;> rfl
@[simp] theorem modCell_hw : (s.modCell n f).hw = s.hw := by unfold State.modCell; split <;> rfl
@[simp] theorem modCell_crystal : (s.modCell n f).crystal = s.crystal := by unfold State.modCell; split <;> rfl
@[simp] theorem modCell_xtalLost : (s.modCell n f).xtalLost = s.xtalLost := by unfold State.modCell; split <;> rfl
@[simp] theorem modCell_agents : (s.modCell n f).agents = s.agents := by unfold State.modCell; split <;> rfl
@[simp] theorem modCell_cel : (s.modCell n f).cel = s.cel := by unfold State.modCell; split <;> rfl
@[simp] theorem modCell_cordons : (s.modCell n f).cordons = s.cordons := by unfold State.modCell; split <;> rfl
@[simp] theorem modCell_str : (s.modCell n f).str = s.str := by unfold State.modCell; split <;> rfl
@[simp] theorem modCell_sys : (s.modCell n f).sys = s.sys := by unfold State.modCell; split <;> rfl
@[simp] theorem modCell_limp : (s.modCell n f).limp = s.limp := by unfold State.modCell; split <;> rfl
@[simp] theorem modCell_pwr : (s.modCell n f).pwr = s.pwr := by unfold State.modCell; split <;> rfl
@[simp] theorem modCell_chg : (s.modCell n f).chg = s.chg := by unfold State.modCell; split <;> rfl
@[simp] theorem modCell_eis : (s.modCell n f).eis = s.eis := by unfold State.modCell; split <;> rfl
@[simp] theorem modCell_ppt : (s.modCell n f).ppt = s.ppt := by unfold State.modCell; split <;> rfl
@[simp] theorem modCell_adc : (s.modCell n f).adc = s.adc := by unfold State.modCell; split <;> rfl
@[simp] theorem modCell_stg : (s.modCell n f).stg = s.stg := by unfold State.modCell; split <;> rfl
@[simp] theorem modCell_bk : (s.modCell n f).bk = s.bk := by unfold State.modCell; split <;> rfl
@[simp] theorem modCell_spi : (s.modCell n f).spi = s.spi := by unfold State.modCell; split <;> rfl
@[simp] theorem modCell_trl : (s.modCell n f).trl = s.trl := by unfold State.modCell; split <;> rfl
@[simp] theorem modCell_upd : (s.modCell n f).upd = s.upd := by unfold State.modCell; split <;> rfl
@[simp] theorem modCell_fls : (s.modCell n f).fls = s.fls := by unfold State.modCell; split <;> rfl
@[simp] theorem modCell_cry : (s.modCell n f).cry = s.cry := by unfold State.modCell; split <;> rfl
@[simp] theorem modCell_wdg : (s.modCell n f).wdg = s.wdg := by unfold State.modCell; split <;> rfl
@[simp] theorem modCell_flt : (s.modCell n f).flt = s.flt := by unfold State.modCell; split <;> rfl
@[simp] theorem modCell_clr : (s.modCell n f).clr = s.clr := by unfold State.modCell; split <;> rfl
@[simp] theorem modCell_lcs : (s.modCell n f).lcs = s.lcs := by unfold State.modCell; split <;> rfl
end modCell


section modCordon
variable (s : State) (n : Nat) (f : Cordon → Cordon)

@[simp] theorem modCordon_pending : (s.modCordon n f).pending = s.pending := rfl
@[simp] theorem modCordon_freeIx : (s.modCordon n f).freeIx = s.freeIx := rfl
@[simp] theorem modCordon_now : (s.modCordon n f).now = s.now := rfl
@[simp] theorem modCordon_powered : (s.modCordon n f).powered = s.powered := rfl
@[simp] theorem modCordon_orIn : (s.modCordon n f).orIn = s.orIn := rfl
@[simp] theorem modCordon_upset : (s.modCordon n f).upset = s.upset := rfl
@[simp] theorem modCordon_sram : (s.modCordon n f).sram = s.sram := rfl
@[simp] theorem modCordon_wake : (s.modCordon n f).wake = s.wake := rfl
@[simp] theorem modCordon_hw : (s.modCordon n f).hw = s.hw := rfl
@[simp] theorem modCordon_crystal : (s.modCordon n f).crystal = s.crystal := rfl
@[simp] theorem modCordon_xtalLost : (s.modCordon n f).xtalLost = s.xtalLost := rfl
@[simp] theorem modCordon_agents : (s.modCordon n f).agents = s.agents := rfl
@[simp] theorem modCordon_cel : (s.modCordon n f).cel = s.cel := rfl
@[simp] theorem modCordon_cells : (s.modCordon n f).cells = s.cells := rfl
@[simp] theorem modCordon_str : (s.modCordon n f).str = s.str := rfl
@[simp] theorem modCordon_sys : (s.modCordon n f).sys = s.sys := rfl
@[simp] theorem modCordon_limp : (s.modCordon n f).limp = s.limp := rfl
@[simp] theorem modCordon_pwr : (s.modCordon n f).pwr = s.pwr := rfl
@[simp] theorem modCordon_chg : (s.modCordon n f).chg = s.chg := rfl
@[simp] theorem modCordon_eis : (s.modCordon n f).eis = s.eis := rfl
@[simp] theorem modCordon_ppt : (s.modCordon n f).ppt = s.ppt := rfl
@[simp] theorem modCordon_adc : (s.modCordon n f).adc = s.adc := rfl
@[simp] theorem modCordon_stg : (s.modCordon n f).stg = s.stg := rfl
@[simp] theorem modCordon_bk : (s.modCordon n f).bk = s.bk := rfl
@[simp] theorem modCordon_spi : (s.modCordon n f).spi = s.spi := rfl
@[simp] theorem modCordon_trl : (s.modCordon n f).trl = s.trl := rfl
@[simp] theorem modCordon_upd : (s.modCordon n f).upd = s.upd := rfl
@[simp] theorem modCordon_fls : (s.modCordon n f).fls = s.fls := rfl
@[simp] theorem modCordon_cry : (s.modCordon n f).cry = s.cry := rfl
@[simp] theorem modCordon_wdg : (s.modCordon n f).wdg = s.wdg := rfl
@[simp] theorem modCordon_flt : (s.modCordon n f).flt = s.flt := rfl
@[simp] theorem modCordon_clr : (s.modCordon n f).clr = s.clr := rfl
@[simp] theorem modCordon_lcs : (s.modCordon n f).lcs = s.lcs := rfl
end modCordon


section modSrc
variable (s : State) (i : Nat) (f : Source → Source)

@[simp] theorem modSrc_pending : (s.modSrc i f).pending = s.pending := rfl
@[simp] theorem modSrc_freeIx : (s.modSrc i f).freeIx = s.freeIx := rfl
@[simp] theorem modSrc_now : (s.modSrc i f).now = s.now := rfl
@[simp] theorem modSrc_powered : (s.modSrc i f).powered = s.powered := rfl
@[simp] theorem modSrc_orIn : (s.modSrc i f).orIn = s.orIn := rfl
@[simp] theorem modSrc_upset : (s.modSrc i f).upset = s.upset := rfl
@[simp] theorem modSrc_sram : (s.modSrc i f).sram = s.sram := rfl
@[simp] theorem modSrc_wake : (s.modSrc i f).wake = s.wake := rfl
@[simp] theorem modSrc_hw : (s.modSrc i f).hw = s.hw := rfl
@[simp] theorem modSrc_crystal : (s.modSrc i f).crystal = s.crystal := rfl
@[simp] theorem modSrc_xtalLost : (s.modSrc i f).xtalLost = s.xtalLost := rfl
@[simp] theorem modSrc_agents : (s.modSrc i f).agents = s.agents := rfl
@[simp] theorem modSrc_cel : (s.modSrc i f).cel = s.cel := rfl
@[simp] theorem modSrc_cells : (s.modSrc i f).cells = s.cells := rfl
@[simp] theorem modSrc_cordons : (s.modSrc i f).cordons = s.cordons := rfl
@[simp] theorem modSrc_str : (s.modSrc i f).str = s.str := rfl
@[simp] theorem modSrc_sys : (s.modSrc i f).sys = s.sys := rfl
@[simp] theorem modSrc_limp : (s.modSrc i f).limp = s.limp := rfl
@[simp] theorem modSrc_chg : (s.modSrc i f).chg = s.chg := rfl
@[simp] theorem modSrc_eis : (s.modSrc i f).eis = s.eis := rfl
@[simp] theorem modSrc_ppt : (s.modSrc i f).ppt = s.ppt := rfl
@[simp] theorem modSrc_adc : (s.modSrc i f).adc = s.adc := rfl
@[simp] theorem modSrc_stg : (s.modSrc i f).stg = s.stg := rfl
@[simp] theorem modSrc_bk : (s.modSrc i f).bk = s.bk := rfl
@[simp] theorem modSrc_spi : (s.modSrc i f).spi = s.spi := rfl
@[simp] theorem modSrc_trl : (s.modSrc i f).trl = s.trl := rfl
@[simp] theorem modSrc_upd : (s.modSrc i f).upd = s.upd := rfl
@[simp] theorem modSrc_fls : (s.modSrc i f).fls = s.fls := rfl
@[simp] theorem modSrc_cry : (s.modSrc i f).cry = s.cry := rfl
@[simp] theorem modSrc_wdg : (s.modSrc i f).wdg = s.wdg := rfl
@[simp] theorem modSrc_flt : (s.modSrc i f).flt = s.flt := rfl
@[simp] theorem modSrc_clr : (s.modSrc i f).clr = s.clr := rfl
@[simp] theorem modSrc_lcs : (s.modSrc i f).lcs = s.lcs := rfl
end modSrc


section modChg
variable (s : State) (i : Nat) (f : Chg → Chg)

@[simp] theorem modChg_pending : (s.modChg i f).pending = s.pending := rfl
@[simp] theorem modChg_freeIx : (s.modChg i f).freeIx = s.freeIx := rfl
@[simp] theorem modChg_now : (s.modChg i f).now = s.now := rfl
@[simp] theorem modChg_powered : (s.modChg i f).powered = s.powered := rfl
@[simp] theorem modChg_orIn : (s.modChg i f).orIn = s.orIn := rfl
@[simp] theorem modChg_upset : (s.modChg i f).upset = s.upset := rfl
@[simp] theorem modChg_sram : (s.modChg i f).sram = s.sram := rfl
@[simp] theorem modChg_wake : (s.modChg i f).wake = s.wake := rfl
@[simp] theorem modChg_hw : (s.modChg i f).hw = s.hw := rfl
@[simp] theorem modChg_crystal : (s.modChg i f).crystal = s.crystal := rfl
@[simp] theorem modChg_xtalLost : (s.modChg i f).xtalLost = s.xtalLost := rfl
@[simp] theorem modChg_agents : (s.modChg i f).agents = s.agents := rfl
@[simp] theorem modChg_cel : (s.modChg i f).cel = s.cel := rfl
@[simp] theorem modChg_cells : (s.modChg i f).cells = s.cells := rfl
@[simp] theorem modChg_cordons : (s.modChg i f).cordons = s.cordons := rfl
@[simp] theorem modChg_str : (s.modChg i f).str = s.str := rfl
@[simp] theorem modChg_sys : (s.modChg i f).sys = s.sys := rfl
@[simp] theorem modChg_limp : (s.modChg i f).limp = s.limp := rfl
@[simp] theorem modChg_pwr : (s.modChg i f).pwr = s.pwr := rfl
@[simp] theorem modChg_eis : (s.modChg i f).eis = s.eis := rfl
@[simp] theorem modChg_ppt : (s.modChg i f).ppt = s.ppt := rfl
@[simp] theorem modChg_adc : (s.modChg i f).adc = s.adc := rfl
@[simp] theorem modChg_stg : (s.modChg i f).stg = s.stg := rfl
@[simp] theorem modChg_bk : (s.modChg i f).bk = s.bk := rfl
@[simp] theorem modChg_spi : (s.modChg i f).spi = s.spi := rfl
@[simp] theorem modChg_trl : (s.modChg i f).trl = s.trl := rfl
@[simp] theorem modChg_upd : (s.modChg i f).upd = s.upd := rfl
@[simp] theorem modChg_fls : (s.modChg i f).fls = s.fls := rfl
@[simp] theorem modChg_cry : (s.modChg i f).cry = s.cry := rfl
@[simp] theorem modChg_wdg : (s.modChg i f).wdg = s.wdg := rfl
@[simp] theorem modChg_flt : (s.modChg i f).flt = s.flt := rfl
@[simp] theorem modChg_clr : (s.modChg i f).clr = s.clr := rfl
@[simp] theorem modChg_lcs : (s.modChg i f).lcs = s.lcs := rfl
end modChg


section modBat
variable (s : State) (i : Nat) (f : Bat → Bat)

@[simp] theorem modBat_pending : (s.modBat i f).pending = s.pending := rfl
@[simp] theorem modBat_freeIx : (s.modBat i f).freeIx = s.freeIx := rfl
@[simp] theorem modBat_now : (s.modBat i f).now = s.now := rfl
@[simp] theorem modBat_powered : (s.modBat i f).powered = s.powered := rfl
@[simp] theorem modBat_orIn : (s.modBat i f).orIn = s.orIn := rfl
@[simp] theorem modBat_upset : (s.modBat i f).upset = s.upset := rfl
@[simp] theorem modBat_sram : (s.modBat i f).sram = s.sram := rfl
@[simp] theorem modBat_wake : (s.modBat i f).wake = s.wake := rfl
@[simp] theorem modBat_hw : (s.modBat i f).hw = s.hw := rfl
@[simp] theorem modBat_crystal : (s.modBat i f).crystal = s.crystal := rfl
@[simp] theorem modBat_xtalLost : (s.modBat i f).xtalLost = s.xtalLost := rfl
@[simp] theorem modBat_agents : (s.modBat i f).agents = s.agents := rfl
@[simp] theorem modBat_cel : (s.modBat i f).cel = s.cel := rfl
@[simp] theorem modBat_cells : (s.modBat i f).cells = s.cells := rfl
@[simp] theorem modBat_cordons : (s.modBat i f).cordons = s.cordons := rfl
@[simp] theorem modBat_str : (s.modBat i f).str = s.str := rfl
@[simp] theorem modBat_sys : (s.modBat i f).sys = s.sys := rfl
@[simp] theorem modBat_limp : (s.modBat i f).limp = s.limp := rfl
@[simp] theorem modBat_pwr : (s.modBat i f).pwr = s.pwr := rfl
@[simp] theorem modBat_chg : (s.modBat i f).chg = s.chg := rfl
@[simp] theorem modBat_ppt : (s.modBat i f).ppt = s.ppt := rfl
@[simp] theorem modBat_adc : (s.modBat i f).adc = s.adc := rfl
@[simp] theorem modBat_stg : (s.modBat i f).stg = s.stg := rfl
@[simp] theorem modBat_bk : (s.modBat i f).bk = s.bk := rfl
@[simp] theorem modBat_spi : (s.modBat i f).spi = s.spi := rfl
@[simp] theorem modBat_trl : (s.modBat i f).trl = s.trl := rfl
@[simp] theorem modBat_upd : (s.modBat i f).upd = s.upd := rfl
@[simp] theorem modBat_fls : (s.modBat i f).fls = s.fls := rfl
@[simp] theorem modBat_cry : (s.modBat i f).cry = s.cry := rfl
@[simp] theorem modBat_wdg : (s.modBat i f).wdg = s.wdg := rfl
@[simp] theorem modBat_flt : (s.modBat i f).flt = s.flt := rfl
@[simp] theorem modBat_clr : (s.modBat i f).clr = s.clr := rfl
@[simp] theorem modBat_lcs : (s.modBat i f).lcs = s.lcs := rfl
end modBat


section modRun
variable (s : State) (i : Nat) (f : EisRun → EisRun)

@[simp] theorem modRun_pending : (s.modRun i f).pending = s.pending := rfl
@[simp] theorem modRun_freeIx : (s.modRun i f).freeIx = s.freeIx := rfl
@[simp] theorem modRun_now : (s.modRun i f).now = s.now := rfl
@[simp] theorem modRun_powered : (s.modRun i f).powered = s.powered := rfl
@[simp] theorem modRun_orIn : (s.modRun i f).orIn = s.orIn := rfl
@[simp] theorem modRun_upset : (s.modRun i f).upset = s.upset := rfl
@[simp] theorem modRun_sram : (s.modRun i f).sram = s.sram := rfl
@[simp] theorem modRun_wake : (s.modRun i f).wake = s.wake := rfl
@[simp] theorem modRun_hw : (s.modRun i f).hw = s.hw := rfl
@[simp] theorem modRun_crystal : (s.modRun i f).crystal = s.crystal := rfl
@[simp] theorem modRun_xtalLost : (s.modRun i f).xtalLost = s.xtalLost := rfl
@[simp] theorem modRun_agents : (s.modRun i f).agents = s.agents := rfl
@[simp] theorem modRun_cel : (s.modRun i f).cel = s.cel := rfl
@[simp] theorem modRun_cells : (s.modRun i f).cells = s.cells := rfl
@[simp] theorem modRun_cordons : (s.modRun i f).cordons = s.cordons := rfl
@[simp] theorem modRun_str : (s.modRun i f).str = s.str := rfl
@[simp] theorem modRun_sys : (s.modRun i f).sys = s.sys := rfl
@[simp] theorem modRun_limp : (s.modRun i f).limp = s.limp := rfl
@[simp] theorem modRun_pwr : (s.modRun i f).pwr = s.pwr := rfl
@[simp] theorem modRun_chg : (s.modRun i f).chg = s.chg := rfl
@[simp] theorem modRun_ppt : (s.modRun i f).ppt = s.ppt := rfl
@[simp] theorem modRun_adc : (s.modRun i f).adc = s.adc := rfl
@[simp] theorem modRun_stg : (s.modRun i f).stg = s.stg := rfl
@[simp] theorem modRun_bk : (s.modRun i f).bk = s.bk := rfl
@[simp] theorem modRun_spi : (s.modRun i f).spi = s.spi := rfl
@[simp] theorem modRun_trl : (s.modRun i f).trl = s.trl := rfl
@[simp] theorem modRun_upd : (s.modRun i f).upd = s.upd := rfl
@[simp] theorem modRun_fls : (s.modRun i f).fls = s.fls := rfl
@[simp] theorem modRun_cry : (s.modRun i f).cry = s.cry := rfl
@[simp] theorem modRun_wdg : (s.modRun i f).wdg = s.wdg := rfl
@[simp] theorem modRun_flt : (s.modRun i f).flt = s.flt := rfl
@[simp] theorem modRun_clr : (s.modRun i f).clr = s.clr := rfl
@[simp] theorem modRun_lcs : (s.modRun i f).lcs = s.lcs := rfl
end modRun


section modBook
variable (s : State) (i : Nat) (f : Book → Book)

@[simp] theorem modBook_pending : (s.modBook i f).pending = s.pending := rfl
@[simp] theorem modBook_freeIx : (s.modBook i f).freeIx = s.freeIx := rfl
@[simp] theorem modBook_now : (s.modBook i f).now = s.now := rfl
@[simp] theorem modBook_powered : (s.modBook i f).powered = s.powered := rfl
@[simp] theorem modBook_orIn : (s.modBook i f).orIn = s.orIn := rfl
@[simp] theorem modBook_upset : (s.modBook i f).upset = s.upset := rfl
@[simp] theorem modBook_sram : (s.modBook i f).sram = s.sram := rfl
@[simp] theorem modBook_wake : (s.modBook i f).wake = s.wake := rfl
@[simp] theorem modBook_hw : (s.modBook i f).hw = s.hw := rfl
@[simp] theorem modBook_crystal : (s.modBook i f).crystal = s.crystal := rfl
@[simp] theorem modBook_xtalLost : (s.modBook i f).xtalLost = s.xtalLost := rfl
@[simp] theorem modBook_agents : (s.modBook i f).agents = s.agents := rfl
@[simp] theorem modBook_cel : (s.modBook i f).cel = s.cel := rfl
@[simp] theorem modBook_cells : (s.modBook i f).cells = s.cells := rfl
@[simp] theorem modBook_cordons : (s.modBook i f).cordons = s.cordons := rfl
@[simp] theorem modBook_str : (s.modBook i f).str = s.str := rfl
@[simp] theorem modBook_sys : (s.modBook i f).sys = s.sys := rfl
@[simp] theorem modBook_limp : (s.modBook i f).limp = s.limp := rfl
@[simp] theorem modBook_pwr : (s.modBook i f).pwr = s.pwr := rfl
@[simp] theorem modBook_chg : (s.modBook i f).chg = s.chg := rfl
@[simp] theorem modBook_ppt : (s.modBook i f).ppt = s.ppt := rfl
@[simp] theorem modBook_adc : (s.modBook i f).adc = s.adc := rfl
@[simp] theorem modBook_stg : (s.modBook i f).stg = s.stg := rfl
@[simp] theorem modBook_bk : (s.modBook i f).bk = s.bk := rfl
@[simp] theorem modBook_spi : (s.modBook i f).spi = s.spi := rfl
@[simp] theorem modBook_trl : (s.modBook i f).trl = s.trl := rfl
@[simp] theorem modBook_upd : (s.modBook i f).upd = s.upd := rfl
@[simp] theorem modBook_fls : (s.modBook i f).fls = s.fls := rfl
@[simp] theorem modBook_cry : (s.modBook i f).cry = s.cry := rfl
@[simp] theorem modBook_wdg : (s.modBook i f).wdg = s.wdg := rfl
@[simp] theorem modBook_flt : (s.modBook i f).flt = s.flt := rfl
@[simp] theorem modBook_clr : (s.modBook i f).clr = s.clr := rfl
@[simp] theorem modBook_lcs : (s.modBook i f).lcs = s.lcs := rfl
end modBook


section modPeer
variable (s : State) (i : Nat) (f : Peer → Peer)

@[simp] theorem modPeer_pending : (s.modPeer i f).pending = s.pending := rfl
@[simp] theorem modPeer_freeIx : (s.modPeer i f).freeIx = s.freeIx := rfl
@[simp] theorem modPeer_now : (s.modPeer i f).now = s.now := rfl
@[simp] theorem modPeer_powered : (s.modPeer i f).powered = s.powered := rfl
@[simp] theorem modPeer_orIn : (s.modPeer i f).orIn = s.orIn := rfl
@[simp] theorem modPeer_upset : (s.modPeer i f).upset = s.upset := rfl
@[simp] theorem modPeer_sram : (s.modPeer i f).sram = s.sram := rfl
@[simp] theorem modPeer_wake : (s.modPeer i f).wake = s.wake := rfl
@[simp] theorem modPeer_hw : (s.modPeer i f).hw = s.hw := rfl
@[simp] theorem modPeer_crystal : (s.modPeer i f).crystal = s.crystal := rfl
@[simp] theorem modPeer_xtalLost : (s.modPeer i f).xtalLost = s.xtalLost := rfl
@[simp] theorem modPeer_agents : (s.modPeer i f).agents = s.agents := rfl
@[simp] theorem modPeer_cel : (s.modPeer i f).cel = s.cel := rfl
@[simp] theorem modPeer_cells : (s.modPeer i f).cells = s.cells := rfl
@[simp] theorem modPeer_cordons : (s.modPeer i f).cordons = s.cordons := rfl
@[simp] theorem modPeer_str : (s.modPeer i f).str = s.str := rfl
@[simp] theorem modPeer_sys : (s.modPeer i f).sys = s.sys := rfl
@[simp] theorem modPeer_limp : (s.modPeer i f).limp = s.limp := rfl
@[simp] theorem modPeer_pwr : (s.modPeer i f).pwr = s.pwr := rfl
@[simp] theorem modPeer_chg : (s.modPeer i f).chg = s.chg := rfl
@[simp] theorem modPeer_eis : (s.modPeer i f).eis = s.eis := rfl
@[simp] theorem modPeer_adc : (s.modPeer i f).adc = s.adc := rfl
@[simp] theorem modPeer_stg : (s.modPeer i f).stg = s.stg := rfl
@[simp] theorem modPeer_bk : (s.modPeer i f).bk = s.bk := rfl
@[simp] theorem modPeer_spi : (s.modPeer i f).spi = s.spi := rfl
@[simp] theorem modPeer_trl : (s.modPeer i f).trl = s.trl := rfl
@[simp] theorem modPeer_upd : (s.modPeer i f).upd = s.upd := rfl
@[simp] theorem modPeer_fls : (s.modPeer i f).fls = s.fls := rfl
@[simp] theorem modPeer_cry : (s.modPeer i f).cry = s.cry := rfl
@[simp] theorem modPeer_wdg : (s.modPeer i f).wdg = s.wdg := rfl
@[simp] theorem modPeer_flt : (s.modPeer i f).flt = s.flt := rfl
@[simp] theorem modPeer_clr : (s.modPeer i f).clr = s.clr := rfl
@[simp] theorem modPeer_lcs : (s.modPeer i f).lcs = s.lcs := rfl
end modPeer


section modConv
variable (s : State) (x : Nat) (f : Conv → Conv)

@[simp] theorem modConv_pending : (s.modConv x f).pending = s.pending := rfl
@[simp] theorem modConv_freeIx : (s.modConv x f).freeIx = s.freeIx := rfl
@[simp] theorem modConv_now : (s.modConv x f).now = s.now := rfl
@[simp] theorem modConv_powered : (s.modConv x f).powered = s.powered := rfl
@[simp] theorem modConv_orIn : (s.modConv x f).orIn = s.orIn := rfl
@[simp] theorem modConv_upset : (s.modConv x f).upset = s.upset := rfl
@[simp] theorem modConv_sram : (s.modConv x f).sram = s.sram := rfl
@[simp] theorem modConv_wake : (s.modConv x f).wake = s.wake := rfl
@[simp] theorem modConv_hw : (s.modConv x f).hw = s.hw := rfl
@[simp] theorem modConv_crystal : (s.modConv x f).crystal = s.crystal := rfl
@[simp] theorem modConv_xtalLost : (s.modConv x f).xtalLost = s.xtalLost := rfl
@[simp] theorem modConv_agents : (s.modConv x f).agents = s.agents := rfl
@[simp] theorem modConv_cel : (s.modConv x f).cel = s.cel := rfl
@[simp] theorem modConv_cells : (s.modConv x f).cells = s.cells := rfl
@[simp] theorem modConv_cordons : (s.modConv x f).cordons = s.cordons := rfl
@[simp] theorem modConv_str : (s.modConv x f).str = s.str := rfl
@[simp] theorem modConv_sys : (s.modConv x f).sys = s.sys := rfl
@[simp] theorem modConv_limp : (s.modConv x f).limp = s.limp := rfl
@[simp] theorem modConv_pwr : (s.modConv x f).pwr = s.pwr := rfl
@[simp] theorem modConv_chg : (s.modConv x f).chg = s.chg := rfl
@[simp] theorem modConv_eis : (s.modConv x f).eis = s.eis := rfl
@[simp] theorem modConv_ppt : (s.modConv x f).ppt = s.ppt := rfl
@[simp] theorem modConv_stg : (s.modConv x f).stg = s.stg := rfl
@[simp] theorem modConv_bk : (s.modConv x f).bk = s.bk := rfl
@[simp] theorem modConv_spi : (s.modConv x f).spi = s.spi := rfl
@[simp] theorem modConv_trl : (s.modConv x f).trl = s.trl := rfl
@[simp] theorem modConv_upd : (s.modConv x f).upd = s.upd := rfl
@[simp] theorem modConv_fls : (s.modConv x f).fls = s.fls := rfl
@[simp] theorem modConv_cry : (s.modConv x f).cry = s.cry := rfl
@[simp] theorem modConv_wdg : (s.modConv x f).wdg = s.wdg := rfl
@[simp] theorem modConv_flt : (s.modConv x f).flt = s.flt := rfl
@[simp] theorem modConv_clr : (s.modConv x f).clr = s.clr := rfl
@[simp] theorem modConv_lcs : (s.modConv x f).lcs = s.lcs := rfl
end modConv


section modPort
variable (s : State) (p : TrlPort) (f : Port → Port)

@[simp] theorem modPort_pending : (s.modPort p f).pending = s.pending := by cases p <;> rfl
@[simp] theorem modPort_freeIx : (s.modPort p f).freeIx = s.freeIx := by cases p <;> rfl
@[simp] theorem modPort_now : (s.modPort p f).now = s.now := by cases p <;> rfl
@[simp] theorem modPort_powered : (s.modPort p f).powered = s.powered := by cases p <;> rfl
@[simp] theorem modPort_orIn : (s.modPort p f).orIn = s.orIn := by cases p <;> rfl
@[simp] theorem modPort_upset : (s.modPort p f).upset = s.upset := by cases p <;> rfl
@[simp] theorem modPort_sram : (s.modPort p f).sram = s.sram := by cases p <;> rfl
@[simp] theorem modPort_wake : (s.modPort p f).wake = s.wake := by cases p <;> rfl
@[simp] theorem modPort_hw : (s.modPort p f).hw = s.hw := by cases p <;> rfl
@[simp] theorem modPort_crystal : (s.modPort p f).crystal = s.crystal := by cases p <;> rfl
@[simp] theorem modPort_xtalLost : (s.modPort p f).xtalLost = s.xtalLost := by cases p <;> rfl
@[simp] theorem modPort_agents : (s.modPort p f).agents = s.agents := by cases p <;> rfl
@[simp] theorem modPort_cel : (s.modPort p f).cel = s.cel := by cases p <;> rfl
@[simp] theorem modPort_cells : (s.modPort p f).cells = s.cells := by cases p <;> rfl
@[simp] theorem modPort_cordons : (s.modPort p f).cordons = s.cordons := by cases p <;> rfl
@[simp] theorem modPort_str : (s.modPort p f).str = s.str := by cases p <;> rfl
@[simp] theorem modPort_sys : (s.modPort p f).sys = s.sys := by cases p <;> rfl
@[simp] theorem modPort_limp : (s.modPort p f).limp = s.limp := by cases p <;> rfl
@[simp] theorem modPort_pwr : (s.modPort p f).pwr = s.pwr := by cases p <;> rfl
@[simp] theorem modPort_chg : (s.modPort p f).chg = s.chg := by cases p <;> rfl
@[simp] theorem modPort_eis : (s.modPort p f).eis = s.eis := by cases p <;> rfl
@[simp] theorem modPort_ppt : (s.modPort p f).ppt = s.ppt := by cases p <;> rfl
@[simp] theorem modPort_adc : (s.modPort p f).adc = s.adc := by cases p <;> rfl
@[simp] theorem modPort_stg : (s.modPort p f).stg = s.stg := by cases p <;> rfl
@[simp] theorem modPort_bk : (s.modPort p f).bk = s.bk := by cases p <;> rfl
@[simp] theorem modPort_spi : (s.modPort p f).spi = s.spi := by cases p <;> rfl
@[simp] theorem modPort_upd : (s.modPort p f).upd = s.upd := by cases p <;> rfl
@[simp] theorem modPort_fls : (s.modPort p f).fls = s.fls := by cases p <;> rfl
@[simp] theorem modPort_cry : (s.modPort p f).cry = s.cry := by cases p <;> rfl
@[simp] theorem modPort_wdg : (s.modPort p f).wdg = s.wdg := by cases p <;> rfl
@[simp] theorem modPort_flt : (s.modPort p f).flt = s.flt := by cases p <;> rfl
@[simp] theorem modPort_clr : (s.modPort p f).clr = s.clr := by cases p <;> rfl
@[simp] theorem modPort_lcs : (s.modPort p f).lcs = s.lcs := by cases p <;> rfl
end modPort


section modAgent
variable (s : State) (a : Agent) (f : AgentRegs → AgentRegs)

@[simp] theorem modAgent_pending : (s.modAgent a f).pending = s.pending := rfl
@[simp] theorem modAgent_freeIx : (s.modAgent a f).freeIx = s.freeIx := rfl
@[simp] theorem modAgent_now : (s.modAgent a f).now = s.now := rfl
@[simp] theorem modAgent_powered : (s.modAgent a f).powered = s.powered := rfl
@[simp] theorem modAgent_orIn : (s.modAgent a f).orIn = s.orIn := rfl
@[simp] theorem modAgent_upset : (s.modAgent a f).upset = s.upset := rfl
@[simp] theorem modAgent_sram : (s.modAgent a f).sram = s.sram := rfl
@[simp] theorem modAgent_wake : (s.modAgent a f).wake = s.wake := rfl
@[simp] theorem modAgent_hw : (s.modAgent a f).hw = s.hw := rfl
@[simp] theorem modAgent_crystal : (s.modAgent a f).crystal = s.crystal := rfl
@[simp] theorem modAgent_xtalLost : (s.modAgent a f).xtalLost = s.xtalLost := rfl
@[simp] theorem modAgent_cel : (s.modAgent a f).cel = s.cel := rfl
@[simp] theorem modAgent_cells : (s.modAgent a f).cells = s.cells := rfl
@[simp] theorem modAgent_cordons : (s.modAgent a f).cordons = s.cordons := rfl
@[simp] theorem modAgent_str : (s.modAgent a f).str = s.str := rfl
@[simp] theorem modAgent_sys : (s.modAgent a f).sys = s.sys := rfl
@[simp] theorem modAgent_limp : (s.modAgent a f).limp = s.limp := rfl
@[simp] theorem modAgent_pwr : (s.modAgent a f).pwr = s.pwr := rfl
@[simp] theorem modAgent_chg : (s.modAgent a f).chg = s.chg := rfl
@[simp] theorem modAgent_eis : (s.modAgent a f).eis = s.eis := rfl
@[simp] theorem modAgent_ppt : (s.modAgent a f).ppt = s.ppt := rfl
@[simp] theorem modAgent_adc : (s.modAgent a f).adc = s.adc := rfl
@[simp] theorem modAgent_stg : (s.modAgent a f).stg = s.stg := rfl
@[simp] theorem modAgent_bk : (s.modAgent a f).bk = s.bk := rfl
@[simp] theorem modAgent_spi : (s.modAgent a f).spi = s.spi := rfl
@[simp] theorem modAgent_trl : (s.modAgent a f).trl = s.trl := rfl
@[simp] theorem modAgent_upd : (s.modAgent a f).upd = s.upd := rfl
@[simp] theorem modAgent_fls : (s.modAgent a f).fls = s.fls := rfl
@[simp] theorem modAgent_cry : (s.modAgent a f).cry = s.cry := rfl
@[simp] theorem modAgent_wdg : (s.modAgent a f).wdg = s.wdg := rfl
@[simp] theorem modAgent_flt : (s.modAgent a f).flt = s.flt := rfl
@[simp] theorem modAgent_clr : (s.modAgent a f).clr = s.clr := rfl
@[simp] theorem modAgent_lcs : (s.modAgent a f).lcs = s.lcs := rfl
end modAgent


section modFsrc
variable (s : State) (n : Nat) (f : FltSrc → FltSrc)

@[simp] theorem modFsrc_pending : (s.modFsrc n f).pending = s.pending := rfl
@[simp] theorem modFsrc_freeIx : (s.modFsrc n f).freeIx = s.freeIx := rfl
@[simp] theorem modFsrc_now : (s.modFsrc n f).now = s.now := rfl
@[simp] theorem modFsrc_powered : (s.modFsrc n f).powered = s.powered := rfl
@[simp] theorem modFsrc_orIn : (s.modFsrc n f).orIn = s.orIn := rfl
@[simp] theorem modFsrc_upset : (s.modFsrc n f).upset = s.upset := rfl
@[simp] theorem modFsrc_sram : (s.modFsrc n f).sram = s.sram := rfl
@[simp] theorem modFsrc_wake : (s.modFsrc n f).wake = s.wake := rfl
@[simp] theorem modFsrc_hw : (s.modFsrc n f).hw = s.hw := rfl
@[simp] theorem modFsrc_crystal : (s.modFsrc n f).crystal = s.crystal := rfl
@[simp] theorem modFsrc_xtalLost : (s.modFsrc n f).xtalLost = s.xtalLost := rfl
@[simp] theorem modFsrc_agents : (s.modFsrc n f).agents = s.agents := rfl
@[simp] theorem modFsrc_cel : (s.modFsrc n f).cel = s.cel := rfl
@[simp] theorem modFsrc_cells : (s.modFsrc n f).cells = s.cells := rfl
@[simp] theorem modFsrc_cordons : (s.modFsrc n f).cordons = s.cordons := rfl
@[simp] theorem modFsrc_str : (s.modFsrc n f).str = s.str := rfl
@[simp] theorem modFsrc_sys : (s.modFsrc n f).sys = s.sys := rfl
@[simp] theorem modFsrc_limp : (s.modFsrc n f).limp = s.limp := rfl
@[simp] theorem modFsrc_pwr : (s.modFsrc n f).pwr = s.pwr := rfl
@[simp] theorem modFsrc_chg : (s.modFsrc n f).chg = s.chg := rfl
@[simp] theorem modFsrc_eis : (s.modFsrc n f).eis = s.eis := rfl
@[simp] theorem modFsrc_ppt : (s.modFsrc n f).ppt = s.ppt := rfl
@[simp] theorem modFsrc_adc : (s.modFsrc n f).adc = s.adc := rfl
@[simp] theorem modFsrc_stg : (s.modFsrc n f).stg = s.stg := rfl
@[simp] theorem modFsrc_bk : (s.modFsrc n f).bk = s.bk := rfl
@[simp] theorem modFsrc_spi : (s.modFsrc n f).spi = s.spi := rfl
@[simp] theorem modFsrc_trl : (s.modFsrc n f).trl = s.trl := rfl
@[simp] theorem modFsrc_upd : (s.modFsrc n f).upd = s.upd := rfl
@[simp] theorem modFsrc_fls : (s.modFsrc n f).fls = s.fls := rfl
@[simp] theorem modFsrc_cry : (s.modFsrc n f).cry = s.cry := rfl
@[simp] theorem modFsrc_wdg : (s.modFsrc n f).wdg = s.wdg := rfl
@[simp] theorem modFsrc_clr : (s.modFsrc n f).clr = s.clr := rfl
@[simp] theorem modFsrc_lcs : (s.modFsrc n f).lcs = s.lcs := rfl
end modFsrc


section setBank
variable (s : State) (k : Nat) (w : Mem)

@[simp] theorem setBank_pending : (s.setBank k w).pending = s.pending := by unfold State.setBank; split <;> rfl
@[simp] theorem setBank_freeIx : (s.setBank k w).freeIx = s.freeIx := by unfold State.setBank; split <;> rfl
@[simp] theorem setBank_now : (s.setBank k w).now = s.now := by unfold State.setBank; split <;> rfl
@[simp] theorem setBank_powered : (s.setBank k w).powered = s.powered := by unfold State.setBank; split <;> rfl
@[simp] theorem setBank_orIn : (s.setBank k w).orIn = s.orIn := by unfold State.setBank; split <;> rfl
@[simp] theorem setBank_upset : (s.setBank k w).upset = s.upset := by unfold State.setBank; split <;> rfl
@[simp] theorem setBank_sram : (s.setBank k w).sram = s.sram := by unfold State.setBank; split <;> rfl
@[simp] theorem setBank_wake : (s.setBank k w).wake = s.wake := by unfold State.setBank; split <;> rfl
@[simp] theorem setBank_hw : (s.setBank k w).hw = s.hw := by unfold State.setBank; split <;> rfl
@[simp] theorem setBank_crystal : (s.setBank k w).crystal = s.crystal := by unfold State.setBank; split <;> rfl
@[simp] theorem setBank_xtalLost : (s.setBank k w).xtalLost = s.xtalLost := by unfold State.setBank; split <;> rfl
@[simp] theorem setBank_agents : (s.setBank k w).agents = s.agents := by unfold State.setBank; split <;> rfl
@[simp] theorem setBank_cel : (s.setBank k w).cel = s.cel := by unfold State.setBank; split <;> rfl
@[simp] theorem setBank_cells : (s.setBank k w).cells = s.cells := by unfold State.setBank; split <;> rfl
@[simp] theorem setBank_cordons : (s.setBank k w).cordons = s.cordons := by unfold State.setBank; split <;> rfl
@[simp] theorem setBank_str : (s.setBank k w).str = s.str := by unfold State.setBank; split <;> rfl
@[simp] theorem setBank_sys : (s.setBank k w).sys = s.sys := by unfold State.setBank; split <;> rfl
@[simp] theorem setBank_limp : (s.setBank k w).limp = s.limp := by unfold State.setBank; split <;> rfl
@[simp] theorem setBank_pwr : (s.setBank k w).pwr = s.pwr := by unfold State.setBank; split <;> rfl
@[simp] theorem setBank_chg : (s.setBank k w).chg = s.chg := by unfold State.setBank; split <;> rfl
@[simp] theorem setBank_eis : (s.setBank k w).eis = s.eis := by unfold State.setBank; split <;> rfl
@[simp] theorem setBank_ppt : (s.setBank k w).ppt = s.ppt := by unfold State.setBank; split <;> rfl
@[simp] theorem setBank_adc : (s.setBank k w).adc = s.adc := by unfold State.setBank; split <;> rfl
@[simp] theorem setBank_stg : (s.setBank k w).stg = s.stg := by unfold State.setBank; split <;> rfl
@[simp] theorem setBank_bk : (s.setBank k w).bk = s.bk := by unfold State.setBank; split <;> rfl
@[simp] theorem setBank_spi : (s.setBank k w).spi = s.spi := by unfold State.setBank; split <;> rfl
@[simp] theorem setBank_trl : (s.setBank k w).trl = s.trl := by unfold State.setBank; split <;> rfl
@[simp] theorem setBank_upd : (s.setBank k w).upd = s.upd := by unfold State.setBank; split <;> rfl
@[simp] theorem setBank_cry : (s.setBank k w).cry = s.cry := by unfold State.setBank; split <;> rfl
@[simp] theorem setBank_wdg : (s.setBank k w).wdg = s.wdg := by unfold State.setBank; split <;> rfl
@[simp] theorem setBank_flt : (s.setBank k w).flt = s.flt := by unfold State.setBank; split <;> rfl
@[simp] theorem setBank_clr : (s.setBank k w).clr = s.clr := by unfold State.setBank; split <;> rfl
@[simp] theorem setBank_lcs : (s.setBank k w).lcs = s.lcs := by unfold State.setBank; split <;> rfl
end setBank


/-! ### Windows that an update of another bank leaves alone -/

@[simp] theorem modCell_cordon (s : State) (n : Nat) (f : Cell → Cell) (m : Nat) : (s.modCell n f).cordon m = s.cordon m := by unfold State.modCell; split <;> rfl
@[simp] theorem modCell_src (s : State) (n : Nat) (f : Cell → Cell) (m : Nat) : (s.modCell n f).src m = s.src m := by unfold State.modCell; split <;> rfl
@[simp] theorem modCell_chgI (s : State) (n : Nat) (f : Cell → Cell) (m : Nat) : (s.modCell n f).chgI m = s.chgI m := by unfold State.modCell; split <;> rfl
@[simp] theorem modCell_bat (s : State) (n : Nat) (f : Cell → Cell) (m : Nat) : (s.modCell n f).bat m = s.bat m := by unfold State.modCell; split <;> rfl
@[simp] theorem modCell_peerI (s : State) (n : Nat) (f : Cell → Cell) (m : Nat) : (s.modCell n f).peerI m = s.peerI m := by unfold State.modCell; split <;> rfl
@[simp] theorem modCell_convX (s : State) (n : Nat) (f : Cell → Cell) (m : Nat) : (s.modCell n f).convX m = s.convX m := by unfold State.modCell; split <;> rfl
@[simp] theorem modCell_port (s : State) (n : Nat) (f : Cell → Cell) (q : TrlPort) : (s.modCell n f).port q = s.port q := by unfold State.modCell; split <;> rfl
@[simp] theorem modCell_agent (s : State) (n : Nat) (f : Cell → Cell) (b : Agent) : (s.modCell n f).agent b = s.agent b := by unfold State.modCell; split <;> rfl
@[simp] theorem modCell_fsrc (s : State) (n : Nat) (f : Cell → Cell) (m : Nat) : (s.modCell n f).fsrc m = s.fsrc m := by unfold State.modCell; split <;> rfl
@[simp] theorem modCell_bank (s : State) (n : Nat) (f : Cell → Cell) (m : Nat) : (s.modCell n f).bank m = s.bank m := by unfold State.modCell; split <;> rfl
@[simp] theorem modCell_otpWord (s : State) (n : Nat) (f : Cell → Cell) (m : Nat) : (s.modCell n f).otpWord m = s.otpWord m := by unfold State.modCell; split <;> rfl
@[simp] theorem modCordon_cell (s : State) (n : Nat) (f : Cordon → Cordon) (m : Nat) : (s.modCordon n f).cell m = s.cell m := rfl
@[simp] theorem modCordon_src (s : State) (n : Nat) (f : Cordon → Cordon) (m : Nat) : (s.modCordon n f).src m = s.src m := rfl
@[simp] theorem modCordon_chgI (s : State) (n : Nat) (f : Cordon → Cordon) (m : Nat) : (s.modCordon n f).chgI m = s.chgI m := rfl
@[simp] theorem modCordon_bat (s : State) (n : Nat) (f : Cordon → Cordon) (m : Nat) : (s.modCordon n f).bat m = s.bat m := rfl
@[simp] theorem modCordon_peerI (s : State) (n : Nat) (f : Cordon → Cordon) (m : Nat) : (s.modCordon n f).peerI m = s.peerI m := rfl
@[simp] theorem modCordon_convX (s : State) (n : Nat) (f : Cordon → Cordon) (m : Nat) : (s.modCordon n f).convX m = s.convX m := rfl
@[simp] theorem modCordon_port (s : State) (n : Nat) (f : Cordon → Cordon) (q : TrlPort) : (s.modCordon n f).port q = s.port q := rfl
@[simp] theorem modCordon_agent (s : State) (n : Nat) (f : Cordon → Cordon) (b : Agent) : (s.modCordon n f).agent b = s.agent b := rfl
@[simp] theorem modCordon_fsrc (s : State) (n : Nat) (f : Cordon → Cordon) (m : Nat) : (s.modCordon n f).fsrc m = s.fsrc m := rfl
@[simp] theorem modCordon_bank (s : State) (n : Nat) (f : Cordon → Cordon) (m : Nat) : (s.modCordon n f).bank m = s.bank m := rfl
@[simp] theorem modCordon_otpWord (s : State) (n : Nat) (f : Cordon → Cordon) (m : Nat) : (s.modCordon n f).otpWord m = s.otpWord m := rfl
@[simp] theorem modSrc_cell (s : State) (i : Nat) (f : Source → Source) (m : Nat) : (s.modSrc i f).cell m = s.cell m := rfl
@[simp] theorem modSrc_cordon (s : State) (i : Nat) (f : Source → Source) (m : Nat) : (s.modSrc i f).cordon m = s.cordon m := rfl
@[simp] theorem modSrc_chgI (s : State) (i : Nat) (f : Source → Source) (m : Nat) : (s.modSrc i f).chgI m = s.chgI m := rfl
@[simp] theorem modSrc_bat (s : State) (i : Nat) (f : Source → Source) (m : Nat) : (s.modSrc i f).bat m = s.bat m := rfl
@[simp] theorem modSrc_peerI (s : State) (i : Nat) (f : Source → Source) (m : Nat) : (s.modSrc i f).peerI m = s.peerI m := rfl
@[simp] theorem modSrc_convX (s : State) (i : Nat) (f : Source → Source) (m : Nat) : (s.modSrc i f).convX m = s.convX m := rfl
@[simp] theorem modSrc_port (s : State) (i : Nat) (f : Source → Source) (q : TrlPort) : (s.modSrc i f).port q = s.port q := rfl
@[simp] theorem modSrc_agent (s : State) (i : Nat) (f : Source → Source) (b : Agent) : (s.modSrc i f).agent b = s.agent b := rfl
@[simp] theorem modSrc_fsrc (s : State) (i : Nat) (f : Source → Source) (m : Nat) : (s.modSrc i f).fsrc m = s.fsrc m := rfl
@[simp] theorem modSrc_bank (s : State) (i : Nat) (f : Source → Source) (m : Nat) : (s.modSrc i f).bank m = s.bank m := rfl
@[simp] theorem modSrc_otpWord (s : State) (i : Nat) (f : Source → Source) (m : Nat) : (s.modSrc i f).otpWord m = s.otpWord m := rfl
@[simp] theorem modChg_cell (s : State) (i : Nat) (f : Chg → Chg) (m : Nat) : (s.modChg i f).cell m = s.cell m := rfl
@[simp] theorem modChg_cordon (s : State) (i : Nat) (f : Chg → Chg) (m : Nat) : (s.modChg i f).cordon m = s.cordon m := rfl
@[simp] theorem modChg_src (s : State) (i : Nat) (f : Chg → Chg) (m : Nat) : (s.modChg i f).src m = s.src m := rfl
@[simp] theorem modChg_bat (s : State) (i : Nat) (f : Chg → Chg) (m : Nat) : (s.modChg i f).bat m = s.bat m := rfl
@[simp] theorem modChg_peerI (s : State) (i : Nat) (f : Chg → Chg) (m : Nat) : (s.modChg i f).peerI m = s.peerI m := rfl
@[simp] theorem modChg_convX (s : State) (i : Nat) (f : Chg → Chg) (m : Nat) : (s.modChg i f).convX m = s.convX m := rfl
@[simp] theorem modChg_port (s : State) (i : Nat) (f : Chg → Chg) (q : TrlPort) : (s.modChg i f).port q = s.port q := rfl
@[simp] theorem modChg_agent (s : State) (i : Nat) (f : Chg → Chg) (b : Agent) : (s.modChg i f).agent b = s.agent b := rfl
@[simp] theorem modChg_fsrc (s : State) (i : Nat) (f : Chg → Chg) (m : Nat) : (s.modChg i f).fsrc m = s.fsrc m := rfl
@[simp] theorem modChg_bank (s : State) (i : Nat) (f : Chg → Chg) (m : Nat) : (s.modChg i f).bank m = s.bank m := rfl
@[simp] theorem modChg_otpWord (s : State) (i : Nat) (f : Chg → Chg) (m : Nat) : (s.modChg i f).otpWord m = s.otpWord m := rfl
@[simp] theorem modBat_cell (s : State) (i : Nat) (f : Bat → Bat) (m : Nat) : (s.modBat i f).cell m = s.cell m := rfl
@[simp] theorem modBat_cordon (s : State) (i : Nat) (f : Bat → Bat) (m : Nat) : (s.modBat i f).cordon m = s.cordon m := rfl
@[simp] theorem modBat_src (s : State) (i : Nat) (f : Bat → Bat) (m : Nat) : (s.modBat i f).src m = s.src m := rfl
@[simp] theorem modBat_chgI (s : State) (i : Nat) (f : Bat → Bat) (m : Nat) : (s.modBat i f).chgI m = s.chgI m := rfl
@[simp] theorem modBat_peerI (s : State) (i : Nat) (f : Bat → Bat) (m : Nat) : (s.modBat i f).peerI m = s.peerI m := rfl
@[simp] theorem modBat_convX (s : State) (i : Nat) (f : Bat → Bat) (m : Nat) : (s.modBat i f).convX m = s.convX m := rfl
@[simp] theorem modBat_port (s : State) (i : Nat) (f : Bat → Bat) (q : TrlPort) : (s.modBat i f).port q = s.port q := rfl
@[simp] theorem modBat_agent (s : State) (i : Nat) (f : Bat → Bat) (b : Agent) : (s.modBat i f).agent b = s.agent b := rfl
@[simp] theorem modBat_fsrc (s : State) (i : Nat) (f : Bat → Bat) (m : Nat) : (s.modBat i f).fsrc m = s.fsrc m := rfl
@[simp] theorem modBat_bank (s : State) (i : Nat) (f : Bat → Bat) (m : Nat) : (s.modBat i f).bank m = s.bank m := rfl
@[simp] theorem modBat_otpWord (s : State) (i : Nat) (f : Bat → Bat) (m : Nat) : (s.modBat i f).otpWord m = s.otpWord m := rfl
@[simp] theorem modRun_cell (s : State) (i : Nat) (f : EisRun → EisRun) (m : Nat) : (s.modRun i f).cell m = s.cell m := rfl
@[simp] theorem modRun_cordon (s : State) (i : Nat) (f : EisRun → EisRun) (m : Nat) : (s.modRun i f).cordon m = s.cordon m := rfl
@[simp] theorem modRun_src (s : State) (i : Nat) (f : EisRun → EisRun) (m : Nat) : (s.modRun i f).src m = s.src m := rfl
@[simp] theorem modRun_chgI (s : State) (i : Nat) (f : EisRun → EisRun) (m : Nat) : (s.modRun i f).chgI m = s.chgI m := rfl
@[simp] theorem modRun_peerI (s : State) (i : Nat) (f : EisRun → EisRun) (m : Nat) : (s.modRun i f).peerI m = s.peerI m := rfl
@[simp] theorem modRun_convX (s : State) (i : Nat) (f : EisRun → EisRun) (m : Nat) : (s.modRun i f).convX m = s.convX m := rfl
@[simp] theorem modRun_port (s : State) (i : Nat) (f : EisRun → EisRun) (q : TrlPort) : (s.modRun i f).port q = s.port q := rfl
@[simp] theorem modRun_agent (s : State) (i : Nat) (f : EisRun → EisRun) (b : Agent) : (s.modRun i f).agent b = s.agent b := rfl
@[simp] theorem modRun_fsrc (s : State) (i : Nat) (f : EisRun → EisRun) (m : Nat) : (s.modRun i f).fsrc m = s.fsrc m := rfl
@[simp] theorem modRun_bank (s : State) (i : Nat) (f : EisRun → EisRun) (m : Nat) : (s.modRun i f).bank m = s.bank m := rfl
@[simp] theorem modRun_otpWord (s : State) (i : Nat) (f : EisRun → EisRun) (m : Nat) : (s.modRun i f).otpWord m = s.otpWord m := rfl
@[simp] theorem modBook_cell (s : State) (i : Nat) (f : Book → Book) (m : Nat) : (s.modBook i f).cell m = s.cell m := rfl
@[simp] theorem modBook_cordon (s : State) (i : Nat) (f : Book → Book) (m : Nat) : (s.modBook i f).cordon m = s.cordon m := rfl
@[simp] theorem modBook_src (s : State) (i : Nat) (f : Book → Book) (m : Nat) : (s.modBook i f).src m = s.src m := rfl
@[simp] theorem modBook_chgI (s : State) (i : Nat) (f : Book → Book) (m : Nat) : (s.modBook i f).chgI m = s.chgI m := rfl
@[simp] theorem modBook_peerI (s : State) (i : Nat) (f : Book → Book) (m : Nat) : (s.modBook i f).peerI m = s.peerI m := rfl
@[simp] theorem modBook_convX (s : State) (i : Nat) (f : Book → Book) (m : Nat) : (s.modBook i f).convX m = s.convX m := rfl
@[simp] theorem modBook_port (s : State) (i : Nat) (f : Book → Book) (q : TrlPort) : (s.modBook i f).port q = s.port q := rfl
@[simp] theorem modBook_agent (s : State) (i : Nat) (f : Book → Book) (b : Agent) : (s.modBook i f).agent b = s.agent b := rfl
@[simp] theorem modBook_fsrc (s : State) (i : Nat) (f : Book → Book) (m : Nat) : (s.modBook i f).fsrc m = s.fsrc m := rfl
@[simp] theorem modBook_bank (s : State) (i : Nat) (f : Book → Book) (m : Nat) : (s.modBook i f).bank m = s.bank m := rfl
@[simp] theorem modBook_otpWord (s : State) (i : Nat) (f : Book → Book) (m : Nat) : (s.modBook i f).otpWord m = s.otpWord m := rfl
@[simp] theorem modPeer_cell (s : State) (i : Nat) (f : Peer → Peer) (m : Nat) : (s.modPeer i f).cell m = s.cell m := rfl
@[simp] theorem modPeer_cordon (s : State) (i : Nat) (f : Peer → Peer) (m : Nat) : (s.modPeer i f).cordon m = s.cordon m := rfl
@[simp] theorem modPeer_src (s : State) (i : Nat) (f : Peer → Peer) (m : Nat) : (s.modPeer i f).src m = s.src m := rfl
@[simp] theorem modPeer_chgI (s : State) (i : Nat) (f : Peer → Peer) (m : Nat) : (s.modPeer i f).chgI m = s.chgI m := rfl
@[simp] theorem modPeer_bat (s : State) (i : Nat) (f : Peer → Peer) (m : Nat) : (s.modPeer i f).bat m = s.bat m := rfl
@[simp] theorem modPeer_convX (s : State) (i : Nat) (f : Peer → Peer) (m : Nat) : (s.modPeer i f).convX m = s.convX m := rfl
@[simp] theorem modPeer_port (s : State) (i : Nat) (f : Peer → Peer) (q : TrlPort) : (s.modPeer i f).port q = s.port q := rfl
@[simp] theorem modPeer_agent (s : State) (i : Nat) (f : Peer → Peer) (b : Agent) : (s.modPeer i f).agent b = s.agent b := rfl
@[simp] theorem modPeer_fsrc (s : State) (i : Nat) (f : Peer → Peer) (m : Nat) : (s.modPeer i f).fsrc m = s.fsrc m := rfl
@[simp] theorem modPeer_bank (s : State) (i : Nat) (f : Peer → Peer) (m : Nat) : (s.modPeer i f).bank m = s.bank m := rfl
@[simp] theorem modPeer_otpWord (s : State) (i : Nat) (f : Peer → Peer) (m : Nat) : (s.modPeer i f).otpWord m = s.otpWord m := rfl
@[simp] theorem modConv_cell (s : State) (x : Nat) (f : Conv → Conv) (m : Nat) : (s.modConv x f).cell m = s.cell m := rfl
@[simp] theorem modConv_cordon (s : State) (x : Nat) (f : Conv → Conv) (m : Nat) : (s.modConv x f).cordon m = s.cordon m := rfl
@[simp] theorem modConv_src (s : State) (x : Nat) (f : Conv → Conv) (m : Nat) : (s.modConv x f).src m = s.src m := rfl
@[simp] theorem modConv_chgI (s : State) (x : Nat) (f : Conv → Conv) (m : Nat) : (s.modConv x f).chgI m = s.chgI m := rfl
@[simp] theorem modConv_bat (s : State) (x : Nat) (f : Conv → Conv) (m : Nat) : (s.modConv x f).bat m = s.bat m := rfl
@[simp] theorem modConv_peerI (s : State) (x : Nat) (f : Conv → Conv) (m : Nat) : (s.modConv x f).peerI m = s.peerI m := rfl
@[simp] theorem modConv_port (s : State) (x : Nat) (f : Conv → Conv) (q : TrlPort) : (s.modConv x f).port q = s.port q := rfl
@[simp] theorem modConv_agent (s : State) (x : Nat) (f : Conv → Conv) (b : Agent) : (s.modConv x f).agent b = s.agent b := rfl
@[simp] theorem modConv_fsrc (s : State) (x : Nat) (f : Conv → Conv) (m : Nat) : (s.modConv x f).fsrc m = s.fsrc m := rfl
@[simp] theorem modConv_bank (s : State) (x : Nat) (f : Conv → Conv) (m : Nat) : (s.modConv x f).bank m = s.bank m := rfl
@[simp] theorem modConv_otpWord (s : State) (x : Nat) (f : Conv → Conv) (m : Nat) : (s.modConv x f).otpWord m = s.otpWord m := rfl
@[simp] theorem modPort_cell (s : State) (p : TrlPort) (f : Port → Port) (m : Nat) : (s.modPort p f).cell m = s.cell m := by cases p <;> rfl
@[simp] theorem modPort_cordon (s : State) (p : TrlPort) (f : Port → Port) (m : Nat) : (s.modPort p f).cordon m = s.cordon m := by cases p <;> rfl
@[simp] theorem modPort_src (s : State) (p : TrlPort) (f : Port → Port) (m : Nat) : (s.modPort p f).src m = s.src m := by cases p <;> rfl
@[simp] theorem modPort_chgI (s : State) (p : TrlPort) (f : Port → Port) (m : Nat) : (s.modPort p f).chgI m = s.chgI m := by cases p <;> rfl
@[simp] theorem modPort_bat (s : State) (p : TrlPort) (f : Port → Port) (m : Nat) : (s.modPort p f).bat m = s.bat m := by cases p <;> rfl
@[simp] theorem modPort_peerI (s : State) (p : TrlPort) (f : Port → Port) (m : Nat) : (s.modPort p f).peerI m = s.peerI m := by cases p <;> rfl
@[simp] theorem modPort_convX (s : State) (p : TrlPort) (f : Port → Port) (m : Nat) : (s.modPort p f).convX m = s.convX m := by cases p <;> rfl
@[simp] theorem modPort_agent (s : State) (p : TrlPort) (f : Port → Port) (b : Agent) : (s.modPort p f).agent b = s.agent b := by cases p <;> rfl
@[simp] theorem modPort_fsrc (s : State) (p : TrlPort) (f : Port → Port) (m : Nat) : (s.modPort p f).fsrc m = s.fsrc m := by cases p <;> rfl
@[simp] theorem modPort_bank (s : State) (p : TrlPort) (f : Port → Port) (m : Nat) : (s.modPort p f).bank m = s.bank m := by cases p <;> rfl
@[simp] theorem modPort_otpWord (s : State) (p : TrlPort) (f : Port → Port) (m : Nat) : (s.modPort p f).otpWord m = s.otpWord m := by cases p <;> rfl
@[simp] theorem modAgent_cell (s : State) (a : Agent) (f : AgentRegs → AgentRegs) (m : Nat) : (s.modAgent a f).cell m = s.cell m := rfl
@[simp] theorem modAgent_cordon (s : State) (a : Agent) (f : AgentRegs → AgentRegs) (m : Nat) : (s.modAgent a f).cordon m = s.cordon m := rfl
@[simp] theorem modAgent_src (s : State) (a : Agent) (f : AgentRegs → AgentRegs) (m : Nat) : (s.modAgent a f).src m = s.src m := rfl
@[simp] theorem modAgent_chgI (s : State) (a : Agent) (f : AgentRegs → AgentRegs) (m : Nat) : (s.modAgent a f).chgI m = s.chgI m := rfl
@[simp] theorem modAgent_bat (s : State) (a : Agent) (f : AgentRegs → AgentRegs) (m : Nat) : (s.modAgent a f).bat m = s.bat m := rfl
@[simp] theorem modAgent_peerI (s : State) (a : Agent) (f : AgentRegs → AgentRegs) (m : Nat) : (s.modAgent a f).peerI m = s.peerI m := rfl
@[simp] theorem modAgent_convX (s : State) (a : Agent) (f : AgentRegs → AgentRegs) (m : Nat) : (s.modAgent a f).convX m = s.convX m := rfl
@[simp] theorem modAgent_port (s : State) (a : Agent) (f : AgentRegs → AgentRegs) (q : TrlPort) : (s.modAgent a f).port q = s.port q := rfl
@[simp] theorem modAgent_fsrc (s : State) (a : Agent) (f : AgentRegs → AgentRegs) (m : Nat) : (s.modAgent a f).fsrc m = s.fsrc m := rfl
@[simp] theorem modAgent_bank (s : State) (a : Agent) (f : AgentRegs → AgentRegs) (m : Nat) : (s.modAgent a f).bank m = s.bank m := rfl
@[simp] theorem modAgent_otpWord (s : State) (a : Agent) (f : AgentRegs → AgentRegs) (m : Nat) : (s.modAgent a f).otpWord m = s.otpWord m := rfl
@[simp] theorem modFsrc_cell (s : State) (n : Nat) (f : FltSrc → FltSrc) (m : Nat) : (s.modFsrc n f).cell m = s.cell m := rfl
@[simp] theorem modFsrc_cordon (s : State) (n : Nat) (f : FltSrc → FltSrc) (m : Nat) : (s.modFsrc n f).cordon m = s.cordon m := rfl
@[simp] theorem modFsrc_src (s : State) (n : Nat) (f : FltSrc → FltSrc) (m : Nat) : (s.modFsrc n f).src m = s.src m := rfl
@[simp] theorem modFsrc_chgI (s : State) (n : Nat) (f : FltSrc → FltSrc) (m : Nat) : (s.modFsrc n f).chgI m = s.chgI m := rfl
@[simp] theorem modFsrc_bat (s : State) (n : Nat) (f : FltSrc → FltSrc) (m : Nat) : (s.modFsrc n f).bat m = s.bat m := rfl
@[simp] theorem modFsrc_peerI (s : State) (n : Nat) (f : FltSrc → FltSrc) (m : Nat) : (s.modFsrc n f).peerI m = s.peerI m := rfl
@[simp] theorem modFsrc_convX (s : State) (n : Nat) (f : FltSrc → FltSrc) (m : Nat) : (s.modFsrc n f).convX m = s.convX m := rfl
@[simp] theorem modFsrc_port (s : State) (n : Nat) (f : FltSrc → FltSrc) (q : TrlPort) : (s.modFsrc n f).port q = s.port q := rfl
@[simp] theorem modFsrc_agent (s : State) (n : Nat) (f : FltSrc → FltSrc) (b : Agent) : (s.modFsrc n f).agent b = s.agent b := rfl
@[simp] theorem modFsrc_bank (s : State) (n : Nat) (f : FltSrc → FltSrc) (m : Nat) : (s.modFsrc n f).bank m = s.bank m := rfl
@[simp] theorem modFsrc_otpWord (s : State) (n : Nat) (f : FltSrc → FltSrc) (m : Nat) : (s.modFsrc n f).otpWord m = s.otpWord m := rfl
@[simp] theorem setBank_cell (s : State) (k : Nat) (w : Mem) (m : Nat) : (s.setBank k w).cell m = s.cell m := by unfold State.setBank; split <;> rfl
@[simp] theorem setBank_cordon (s : State) (k : Nat) (w : Mem) (m : Nat) : (s.setBank k w).cordon m = s.cordon m := by unfold State.setBank; split <;> rfl
@[simp] theorem setBank_src (s : State) (k : Nat) (w : Mem) (m : Nat) : (s.setBank k w).src m = s.src m := by unfold State.setBank; split <;> rfl
@[simp] theorem setBank_chgI (s : State) (k : Nat) (w : Mem) (m : Nat) : (s.setBank k w).chgI m = s.chgI m := by unfold State.setBank; split <;> rfl
@[simp] theorem setBank_bat (s : State) (k : Nat) (w : Mem) (m : Nat) : (s.setBank k w).bat m = s.bat m := by unfold State.setBank; split <;> rfl
@[simp] theorem setBank_peerI (s : State) (k : Nat) (w : Mem) (m : Nat) : (s.setBank k w).peerI m = s.peerI m := by unfold State.setBank; split <;> rfl
@[simp] theorem setBank_convX (s : State) (k : Nat) (w : Mem) (m : Nat) : (s.setBank k w).convX m = s.convX m := by unfold State.setBank; split <;> rfl
@[simp] theorem setBank_port (s : State) (k : Nat) (w : Mem) (q : TrlPort) : (s.setBank k w).port q = s.port q := by unfold State.setBank; split <;> rfl
@[simp] theorem setBank_agent (s : State) (k : Nat) (w : Mem) (b : Agent) : (s.setBank k w).agent b = s.agent b := by unfold State.setBank; split <;> rfl
@[simp] theorem setBank_fsrc (s : State) (k : Nat) (w : Mem) (m : Nat) : (s.setBank k w).fsrc m = s.fsrc m := by unfold State.setBank; split <;> rfl
@[simp] theorem setBank_otpWord (s : State) (k : Nat) (w : Mem) (m : Nat) : (s.setBank k w).otpWord m = s.otpWord m := by unfold State.setBank; split <;> rfl

/-! ### The window an update changes -/

/-- Cell m after a change of cell n. -/
theorem modCell_cell (s : State) (n m : Nat) (f : Cell → Cell) :
    (s.modCell n f).cell m = if n = m ∧ cellFitted s n = true then f (s.cell m) else s.cell m := by
  unfold State.modCell State.cell
  by_cases h : cellFitted s n = true
  · have h7 : 0 < n ∧ n ≤ 7 := by
      have h' := h
      unfold cellFitted at h'
      have : cellCount s.hw.variant ≤ 7 := by cases s.hw.variant <;> decide
      simp at h'; omega
    simp [h, bankGet_bankMod, h7]
  · simp [h]
/-- A fitted cell after its own change. -/
theorem modCell_cell_self (s : State) (n : Nat) (f : Cell → Cell) (h : cellFitted s n = true) :
    (s.modCell n f).cell n = f (s.cell n) := by simp [modCell_cell, h]
/-- Fitting does not change with a cell. -/
@[simp] theorem modCell_fitted (s : State) (n m : Nat) (f : Cell → Cell) : cellFitted (s.modCell n f) m = cellFitted s m := by
  simp [cellFitted]
/-- Cordon m after a change of cordon n. -/
theorem modCordon_cordon (s : State) (n m : Nat) (f : Cordon → Cordon) :
    (s.modCordon n f).cordon m = if n = m ∧ 0 < n ∧ n ≤ 7 then f (s.cordon m) else s.cordon m :=
  bankGet_bankMod _ _ _ _ _
/-- Source entry j after a change of entry i. -/
theorem modSrc_src (s : State) (i j : Nat) (f : Source → Source) :
    (s.modSrc i f).src j = if i = j ∧ 0 < i ∧ i ≤ 8 then f (s.src j) else s.src j := bankGet_bankMod _ _ _ _ _
/-- Charge instance j after a change of instance i. -/
theorem modChg_chgI (s : State) (i j : Nat) (f : Chg → Chg) :
    (s.modChg i f).chgI j = if i = j ∧ 0 < i ∧ i ≤ 4 then f (s.chgI j) else s.chgI j := bankGet_bankMod _ _ _ _ _
/-- The supervision of string j after a change of string i's. -/
theorem modBat_bat (s : State) (i j : Nat) (f : Bat → Bat) :
    (s.modBat i f).bat j = if i = j ∧ 0 < i ∧ i ≤ 4 then f (s.bat j) else s.bat j := bankGet_bankMod _ _ _ _ _
/-- Peer port j after a change of port i. -/
theorem modPeer_peerI (s : State) (i j : Nat) (f : Peer → Peer) :
    (s.modPeer i f).peerI j = if i = j ∧ 0 < i ∧ i ≤ 4 then f (s.peerI j) else s.peerI j := bankGet_bankMod _ _ _ _ _
/-- Converter y after a change of converter x. -/
theorem modConv_convX (s : State) (x y : Nat) (f : Conv → Conv) :
    (s.modConv x f).convX y = if x = y ∧ x < 4 then f (s.convX y) else s.convX y := by
  unfold State.modConv State.convX
  rw [bankGet_bankMod]; congr 1; simp
/-- A Trellis port after a change of one. -/
theorem modPort_port (s : State) (p q : TrlPort) (f : Port → Port) :
    (s.modPort p f).port q = if p = q then f (s.port q) else s.port q := by
  cases p <;> cases q <;> rfl
/-- An agent's registers after a change of one agent's. -/
theorem modAgent_agent (s : State) (a b : Agent) (f : AgentRegs → AgentRegs) :
    (s.modAgent a f).agent b = if a = b then f (s.agent b) else s.agent b := by
  unfold State.modAgent State.agent
  rw [bankGet_bankMod]
  cases a <;> cases b <;> simp [agentIx]
/-- Fault source m after a change of source n. -/
theorem modFsrc_fsrc (s : State) (n m : Nat) (f : FltSrc → FltSrc) :
    (s.modFsrc n f).fsrc m = if n = m ∧ n < 256 then f (s.fsrc m) else s.fsrc m := by
  unfold State.modFsrc State.fsrc
  rw [bankGet_bankMod]; congr 1; simp

/-! ### The frame around a command -/

/-- A command on a module that is awake. -/
theorem act_awake (s : State) (f : State → State) (h : Awake s) : act s f = .next (settle s (f s)) := by
  simp [act, h.1, h.2]
/-- A command on a module without logic rail, or in SHIP, changes nothing. -/
theorem act_asleep (s : State) (f : State → State) (h : ¬ Awake s) : act s f = .next s := by
  simp only [act]; rw [if_neg h]

end Sys2Proof.Machine
end

