-- ==== Sys2Proof/Laws/Cordons.lean ====
section
/-! SUPPORT. What the operations of a cordon leave of a cell: a loss, a return, a takeover or a stop changes how a cell
runs, and nothing of its link, its protections, its counts, its tests or its slots. -/

open Sys2Proof.Machine

namespace Sys2Proof.Laws

/-- A cell but for how it runs: the fields that its cordon's operations may write are set aside. -/
def cellCore (c : Cell) : Cell :=
  { c with state := .off, mode := .off, sp := noSetPoints, phaseK := 0, phaseN := 0, replaces := 0, engaged := false,
           engagedBySet := false, absorbing := false }

/-- Every cell of `t` is that of `s` but for how it runs. -/
structure CoreKept (s t : State) : Prop where
  core : ∀ m, cellCore (t.cell m) = cellCore (s.cell m)

theorem CoreKept.refl (s : State) : CoreKept s s := ⟨fun _ => rfl⟩

theorem CoreKept.trans {s t u : State} (h : CoreKept s t) (k : CoreKept t u) : CoreKept s u :=
  ⟨fun m => (k.core m).trans (h.core m)⟩

/-! The fields that the core shows. -/

theorem CoreKept.link {s t : State} (h : CoreKept s t) (m : Nat) : (t.cell m).link = (s.cell m).link :=
  show (cellCore (t.cell m)).link = (cellCore (s.cell m)).link from congrArg Cell.link (h.core m)
theorem CoreKept.latched {s t : State} (h : CoreKept s t) (m : Nat) : (t.cell m).latched = (s.cell m).latched :=
  show (cellCore (t.cell m)).latched = (cellCore (s.cell m)).latched from congrArg Cell.latched (h.core m)
theorem CoreKept.trip {s t : State} (h : CoreKept s t) (m : Nat) : (t.cell m).trip = (s.cell m).trip :=
  show (cellCore (t.cell m)).trip = (cellCore (s.cell m)).trip from congrArg Cell.trip (h.core m)
theorem CoreKept.st {s t : State} (h : CoreKept s t) (m : Nat) : (t.cell m).st = (s.cell m).st :=
  show (cellCore (t.cell m)).st = (cellCore (s.cell m)).st from congrArg Cell.st (h.core m)
theorem CoreKept.restart {s t : State} (h : CoreKept s t) (m : Nat) : (t.cell m).restart = (s.cell m).restart :=
  show (cellCore (t.cell m)).restart = (cellCore (s.cell m)).restart from congrArg Cell.restart (h.core m)
theorem CoreKept.portShort {s t : State} (h : CoreKept s t) (m : Nat) : (t.cell m).portShort = (s.cell m).portShort :=
  show (cellCore (t.cell m)).portShort = (cellCore (s.cell m)).portShort from congrArg Cell.portShort (h.core m)
theorem CoreKept.withdrawn {s t : State} (h : CoreKept s t) (m : Nat) : (t.cell m).withdrawn = (s.cell m).withdrawn :=
  show (cellCore (t.cell m)).withdrawn = (cellCore (s.cell m)).withdrawn from congrArg Cell.withdrawn (h.core m)
theorem CoreKept.removed {s t : State} (h : CoreKept s t) (m : Nat) : (t.cell m).removed = (s.cell m).removed :=
  show (cellCore (t.cell m)).removed = (cellCore (s.cell m)).removed from congrArg Cell.removed (h.core m)
theorem CoreKept.uc {s t : State} (h : CoreKept s t) (m : Nat) : (t.cell m).uc = (s.cell m).uc :=
  show (cellCore (t.cell m)).uc = (cellCore (s.cell m)).uc from congrArg Cell.uc (h.core m)
theorem CoreKept.valid {s t : State} (h : CoreKept s t) (m : Nat) : (t.cell m).valid = (s.cell m).valid :=
  show (cellCore (t.cell m)).valid = (cellCore (s.cell m)).valid from congrArg Cell.valid (h.core m)
theorem CoreKept.activeSlot {s t : State} (h : CoreKept s t) (m : Nat) : (t.cell m).activeSlot = (s.cell m).activeSlot :=
  show (cellCore (t.cell m)).activeSlot = (cellCore (s.cell m)).activeSlot from congrArg Cell.activeSlot (h.core m)

/-- A change of one cell that keeps its core. -/
theorem CoreKept.modCell {s t : State} (n : Nat) (f : Cell → Cell) (h : CoreKept s t) (hf : ∀ c, cellCore (f c) = cellCore c) :
    CoreKept s (t.modCell n f) := ⟨fun m => by
  rw [modCell_cell]; split
  · rw [hf, h.core]
  · exact h.core m⟩

/-- A change of a cordon keeps every cell. -/
theorem CoreKept.modCordon {s t : State} (n : Nat) (f : Cordon → Cordon) (h : CoreKept s t) : CoreKept s (t.modCordon n f) :=
  ⟨h.core⟩

/-- Only the cells count. -/
theorem CoreKept.of_cells {s t u : State} (h : CoreKept s t) (e : u.cells = t.cells) : CoreKept s u := ⟨fun m => by
  show cellCore (bankGet {} u.cells m) = _; rw [e]; exact h.core m⟩

/-- A change of several cells that keeps each core. -/
theorem CoreKept.modCells {s t : State} (ns : List Nat) (f : Nat → Cell → Cell) (h : CoreKept s t)
    (hf : ∀ n c, cellCore (f n c) = cellCore c) : CoreKept s (t.modCells ns f) := by
  unfold State.modCells
  induction ns generalizing t with
  | nil => exact h
  | cons n ns ih => exact ih (h.modCell n (f n) (hf n))

/-- A takeover by a spare cell. -/
theorem takeover_core (c n m : Nat) (s : State) : CoreKept s (takeover c n m s) := by
  refine CoreKept.of_cells (t := State.modCell (freeNat 16 s).2 n _) ?_ rfl
  exact CoreKept.modCell n _ ⟨fun _ => rfl⟩ (fun _ => rfl)

/-- The cover of a lost cell by a free spare. -/
theorem coverLost_core (c : Nat) (s : State) : CoreKept s (coverLost c s) := by
  unfold coverLost
  split
  · exact .refl s
  · split
    · exact .refl s
    · exact takeover_core ..

/-- A stop of a cordon. -/
theorem stopCordon_core (c r : Nat) (s : State) : CoreKept s (stopCordon c r s) := by
  unfold stopCordon
  extract_lets k cells s1 s2 s3
  have h1 : CoreKept s s1 := CoreKept.modCells _ _ (.refl s) (fun _ _ => rfl)
  have h3 : CoreKept s s3 := h1.of_cells rfl
  clear_value s3
  split
  · exact .refl s
  · split
    · exact h3.of_cells rfl
    · exact h3

/-- One of two states. -/
theorem CoreKept.ite {s t u : State} {b : Prop} [Decidable b] (h : CoreKept s t) (k : CoreKept s u) :
    CoreKept s (if b then t else u) := by split <;> assumption

/-- A share given back to a returning cell. -/
theorem shareBack_core (s : State) (c m : Nat) (x : Cell) : cellCore (shareBack s c m x) = cellCore x := by
  unfold shareBack; dsimp only; split <;> rfl

/-- The return of a cell to its cordon. -/
theorem returnToCordon_core (n : Nat) (s : State) : CoreKept s (returnToCordon n s) := by
  unfold returnToCordon
  extract_lets own c k s1 s2 s3
  have h1 : CoreKept s s1 := coverLost_core ..
  have h2 : CoreKept s s2 := CoreKept.modCell n _ (.refl s) (fun x => by split; exacts [shareBack_core .., rfl])
  have h3 : CoreKept s s3 := .ite (((h2.modCells seven _ (fun _ x => by split <;> rfl)).modCordon ..).trans (coverLost_core ..))
    (h2.modCordon ..)
  clear_value s1 s3
  exact .ite (.refl s) (.ite (.ite (.ite (h1.modCordon ..) h1) (.refl s)) (.ite (h3.modCordon ..) h3))

/-- The loss of a cell. -/
theorem loseCell_core (n : Nat) (s : State) : CoreKept s (loseCell n s) := by
  unfold loseCell
  extract_lets own c k live s1 back s2
  have h1 : CoreKept s s1 := CoreKept.modCell n _ (.refl s) (fun _ => rfl)
  have h2 : CoreKept s s2 := h1.modCordon ..
  clear_value s1 s2
  refine .ite (.refl s) (.ite (.ite h1 (.ite (h2.trans (stopCordon_core ..)) (.ite (h2.modCordon ..) h2))) (.ite ?_ (.refl s)))
  exact .ite (stopCordon_core ..) (.ite (.refl s) (.ite (takeover_core ..) ((CoreKept.refl s).modCordon ..)))

end Sys2Proof.Laws
end

