-- ==== Sys2Proof/Laws/Drive.lean ====
section
/-! SUPPORT. What the operations that drive the cordons may write, said once for each: the cells, the cordons, the record of
takeovers and the place in the free values (`BoardOnly`), and for those that choose the feeds the gate and the paths besides
(`FeedOnly`). -/

open Sys2Proof.Machine

namespace Sys2Proof.Laws

/-- Only the cells, the cordons, the record of takeovers and the place in the free values differ. -/
def BoardOnly (s t : State) : Prop := t = { s with cells := t.cells, cordons := t.cordons, cel := t.cel, freeIx := t.freeIx }

theorem BoardOnly.elim {s t : State} (h : BoardOnly s t) : ∃ C K L f, t = { s with cells := C, cordons := K, cel := L, freeIx := f } :=
  ⟨t.cells, t.cordons, t.cel, t.freeIx, h⟩

theorem BoardOnly.refl (s : State) : BoardOnly s s := rfl

theorem BoardOnly.trans {s t u : State} (h : BoardOnly s t) (k : BoardOnly t u) : BoardOnly s u := by
  obtain ⟨_, _, _, _, rfl⟩ := h.elim; obtain ⟨_, _, _, _, rfl⟩ := k.elim; rfl

theorem BoardOnly.sys {s t : State} (h : BoardOnly s t) : t.sys = s.sys := by obtain ⟨_, _, _, _, rfl⟩ := h.elim; rfl
theorem BoardOnly.pwr {s t : State} (h : BoardOnly s t) : t.pwr = s.pwr := by obtain ⟨_, _, _, _, rfl⟩ := h.elim; rfl
theorem BoardOnly.limp {s t : State} (h : BoardOnly s t) : t.limp = s.limp := by obtain ⟨_, _, _, _, rfl⟩ := h.elim; rfl
theorem BoardOnly.eis {s t : State} (h : BoardOnly s t) : t.eis = s.eis := by obtain ⟨_, _, _, _, rfl⟩ := h.elim; rfl
theorem BoardOnly.chg {s t : State} (h : BoardOnly s t) : t.chg = s.chg := by obtain ⟨_, _, _, _, rfl⟩ := h.elim; rfl
theorem BoardOnly.ppt {s t : State} (h : BoardOnly s t) : t.ppt = s.ppt := by obtain ⟨_, _, _, _, rfl⟩ := h.elim; rfl
theorem BoardOnly.flt {s t : State} (h : BoardOnly s t) : t.flt = s.flt := by obtain ⟨_, _, _, _, rfl⟩ := h.elim; rfl

theorem BoardOnly.modCell {s t : State} (h : BoardOnly s t) (n : Nat) (f : Cell → Cell) : BoardOnly s (t.modCell n f) :=
  h.trans (by unfold State.modCell; split <;> rfl)

theorem BoardOnly.modCordon {s t : State} (h : BoardOnly s t) (n : Nat) (f : Cordon → Cordon) : BoardOnly s (t.modCordon n f) :=
  h.trans rfl

/-- A fold of steps of which each writes only the board. -/
theorem BoardOnly.foldl {α : Type} {s : State} (f : State → α → State) (hf : ∀ t a, BoardOnly t (f t a)) :
    ∀ (l : List α) {t : State}, BoardOnly s t → BoardOnly s (l.foldl f t)
  | [], _, h => h
  | a :: l, _, h => BoardOnly.foldl f hf l (h.trans (hf _ a))

theorem BoardOnly.modCells {s t : State} (h : BoardOnly s t) (ns : List Nat) (f : Nat → Cell → Cell) : BoardOnly s (t.modCells ns f) :=
  BoardOnly.foldl (fun u n => u.modCell n (f n)) (fun u _ => (BoardOnly.refl u).modCell _ _) ns h

theorem BoardOnly.ite {s t u : State} {b : Prop} [Decidable b] (h : BoardOnly s t) (k : BoardOnly s u) :
    BoardOnly s (if b then t else u) := by split <;> assumption

/-- R72: a takeover. -/
theorem takeover_board (c n m : Nat) (s : State) : BoardOnly s (takeover c n m s) := by
  unfold takeover
  extract_lets d x md s1 s2
  have h1 : BoardOnly s s1 := (show BoardOnly s d.2 from rfl).modCell _ _
  exact (h1.modCordon _ _).trans rfl

theorem coverLost_board (c : Nat) (s : State) : BoardOnly s (coverLost c s) := by
  unfold coverLost
  split
  · exact .refl s
  · exact .ite (.refl s) (takeover_board ..)

/-- R55: the phases of a cordon. -/
theorem rephase_board (c : Nat) (s : State) : BoardOnly s (rephase c s) := by
  unfold rephase
  exact (BoardOnly.foldl _ (fun t a => (BoardOnly.refl t).modCell _ _) _ ((BoardOnly.refl s).modCells _ _)).modCordon _ _

/-- R53, R96: driving a cordon. -/
theorem driveCordon_board (c : Nat) (m : CellMode) (i : Int) (v vm : Nat) (s : State) : BoardOnly s (driveCordon c m i v vm s) := by
  unfold driveCordon
  extract_lets
  refine .ite (.refl s) ?_
  have h : BoardOnly s (if m = .off then s else coverLost c s) := .ite (.refl s) (coverLost_board ..)
  exact h.trans (((((BoardOnly.refl _).modCells _ _).modCordon _ _)).trans (rephase_board ..))

/-- R139: the set points of the engaged cells. -/
theorem engagedSet_board (f : Nat → Nat) (s : State) : BoardOnly s (engagedSet f s) := by
  unfold engagedSet
  exact BoardOnly.foldl _ (fun t c => BoardOnly.foldl _ (fun u _ => (BoardOnly.refl u).modCell _ _) _ (.refl t)) _ (.refl s)

theorem driveRank_board (i : Nat) (s : State) : BoardOnly s (driveRank i s) := by
  unfold driveRank
  exact .ite (.refl s) (.ite (driveCordon_board ..) (driveCordon_board ..))

/-- R139: the engaged cells released to standby. -/
theorem releaseEngaged_board (s : State) : BoardOnly s (releaseEngaged s) := by
  unfold releaseEngaged
  exact BoardOnly.foldl _ (fun t c => .ite (((BoardOnly.refl t).modCells _ _).trans (driveCordon_board ..)) (.refl t)) _ (.refl s)

/-- Only what `BoardOnly` allows, the gate and the states of the paths differ. -/
def FeedOnly (s t : State) : Prop :=
  t = { s with cells := t.cells, cordons := t.cordons, cel := t.cel, freeIx := t.freeIx, pwr := { s.pwr with gate := t.pwr.gate, src := t.pwr.src } }

theorem FeedOnly.elim {s t : State} (h : FeedOnly s t) :
    ∃ C K L f g p, t = { s with cells := C, cordons := K, cel := L, freeIx := f, pwr := { s.pwr with gate := g, src := p } } :=
  ⟨t.cells, t.cordons, t.cel, t.freeIx, t.pwr.gate, t.pwr.src, h⟩

theorem BoardOnly.feed {s t : State} (h : BoardOnly s t) : FeedOnly s t := by
  obtain ⟨_, _, _, _, rfl⟩ := h.elim; rfl

theorem FeedOnly.trans {s t u : State} (h : FeedOnly s t) (k : FeedOnly t u) : FeedOnly s u := by
  obtain ⟨_, _, _, _, _, _, rfl⟩ := h.elim; obtain ⟨_, _, _, _, _, _, rfl⟩ := k.elim; rfl

theorem FeedOnly.sys {s t : State} (h : FeedOnly s t) : t.sys = s.sys := by obtain ⟨_, _, _, _, _, _, rfl⟩ := h.elim; rfl
theorem FeedOnly.limp {s t : State} (h : FeedOnly s t) : t.limp = s.limp := by obtain ⟨_, _, _, _, _, _, rfl⟩ := h.elim; rfl
theorem FeedOnly.path {s t : State} (h : FeedOnly s t) : t.pwr.path = s.pwr.path := by obtain ⟨_, _, _, _, _, _, rfl⟩ := h.elim; rfl
theorem FeedOnly.handTo {s t : State} (h : FeedOnly s t) : t.pwr.handTo = s.pwr.handTo := by obtain ⟨_, _, _, _, _, _, rfl⟩ := h.elim; rfl
theorem FeedOnly.handSet {s t : State} (h : FeedOnly s t) : t.pwr.handSet = s.pwr.handSet := by obtain ⟨_, _, _, _, _, _, rfl⟩ := h.elim; rfl
theorem FeedOnly.supplement {s t : State} (h : FeedOnly s t) : t.pwr.supplement = s.pwr.supplement := by
  obtain ⟨_, _, _, _, _, _, rfl⟩ := h.elim; rfl
theorem FeedOnly.rise {s t : State} (h : FeedOnly s t) : t.pwr.rise = s.pwr.rise := by obtain ⟨_, _, _, _, _, _, rfl⟩ := h.elim; rfl

theorem FeedOnly.ite {s t u : State} {b : Prop} [Decidable b] (h : FeedOnly s t) (k : FeedOnly s u) :
    FeedOnly s (if b then t else u) := by split <;> assumption

theorem FeedOnly.refl (s : State) : FeedOnly s s := (BoardOnly.refl s).feed

theorem gateOpens_feed (s : State) : FeedOnly s (gateOpens s) := rfl
theorem gateFollows_feed (s : State) : FeedOnly s (gateFollows s) := by
  unfold gateFollows; exact .ite (.refl s) rfl

theorem markFeeding_feed (s : State) : FeedOnly s (markFeeding s) := by unfold markFeeding; rfl

/-- R126: the feeds in their order of priority. -/
theorem applyPriority_feed (s : State) : FeedOnly s (applyPriority s) := by
  unfold applyPriority
  extract_lets s1 g s2
  have h1 : FeedOnly s s1 := (BoardOnly.foldl _ (fun t i => driveRank_board i t) _ (BoardOnly.refl s)).feed
  have h2 : FeedOnly s s2 := h1.trans (.ite (gateFollows_feed _) (gateOpens_feed _))
  clear_value s2
  have h3 : FeedOnly s2 { s2 with pwr := { s2.pwr with gate := { s2.pwr.gate with surge := g && s2.pwr.gate.surge } } } := rfl
  exact h2.trans (h3.trans (markFeeding_feed _))

/-- R139: a hand-back in progress stands as it was begun. -/
theorem handSet_feed (i : Nat) (s : State) : FeedOnly { s with pwr := { s.pwr with path := .handback, handTo := i, handSet := true } } (handSet i s) := by
  have key : ∀ f, FeedOnly { s with pwr := { s.pwr with path := .handback, handTo := i, handSet := true } }
      (applyPriority { engagedSet f s with pwr := { (engagedSet f s).pwr with path := .handback, handTo := i, handSet := true } }) := by
    intro f
    have h := engagedSet_board f s
    generalize engagedSet f s = t at h ⊢
    obtain ⟨C, K, L, x, rfl⟩ := h.elim
    refine FeedOnly.trans ?_ (applyPriority_feed _)
    rfl
  unfold handSet
  exact key _

/-- What the cordons of LIMP may write: the board, the bits of the strings in LIMP's record, and the gate, path and rise. -/
def LimpOnly (s t : State) : Prop :=
  t = { s with cells := t.cells, cordons := t.cordons, cel := t.cel, freeIx := t.freeIx, limp := t.limp,
               pwr := { s.pwr with gate := t.pwr.gate, path := t.pwr.path, rise := t.pwr.rise } }

theorem LimpOnly.elim {s t : State} (h : LimpOnly s t) :
    ∃ C K L f m g p r, t = { s with cells := C, cordons := K, cel := L, freeIx := f, limp := m, pwr := { s.pwr with gate := g, path := p, rise := r } } :=
  ⟨t.cells, t.cordons, t.cel, t.freeIx, t.limp, t.pwr.gate, t.pwr.path, t.pwr.rise, h⟩

theorem LimpOnly.trans {s t u : State} (h : LimpOnly s t) (k : LimpOnly t u) : LimpOnly s u := by
  obtain ⟨_, _, _, _, _, _, _, _, rfl⟩ := h.elim; obtain ⟨_, _, _, _, _, _, _, _, rfl⟩ := k.elim; rfl

theorem LimpOnly.sys {s t : State} (h : LimpOnly s t) : t.sys = s.sys := by obtain ⟨_, _, _, _, _, _, _, _, rfl⟩ := h.elim; rfl
theorem LimpOnly.hand {s t : State} (h : LimpOnly s t) : t.pwr.handTo = s.pwr.handTo := by obtain ⟨_, _, _, _, _, _, _, _, rfl⟩ := h.elim; rfl
theorem LimpOnly.flt {s t : State} (h : LimpOnly s t) : t.flt = s.flt := by obtain ⟨_, _, _, _, _, _, _, _, rfl⟩ := h.elim; rfl

theorem BoardOnly.limpOnly {s t : State} (h : BoardOnly s t) : LimpOnly s t := by
  obtain ⟨_, _, _, _, rfl⟩ := h.elim; rfl

theorem LimpOnly.refl (s : State) : LimpOnly s s := (BoardOnly.refl s).limpOnly

theorem LimpOnly.ite {s t u : State} {b : Prop} [Decidable b] (h : LimpOnly s t) (k : LimpOnly s u) :
    LimpOnly s (if b then t else u) := by split <;> assumption

theorem LimpOnly.drive {s t : State} (h : LimpOnly s t) (c : Nat) (m : CellMode) (i : Int) (v vm : Nat) :
    LimpOnly s (driveCordon c m i v vm t) := h.trans (driveCordon_board ..).limpOnly

/-- R109: one cordon in LIMP. -/
theorem limpCordon_limp (im : Image) (c : Nat) (s : State) : LimpOnly s (limpCordon im c s) := by
  unfold limpCordon
  extract_lets k e v s1 b lm s2 p s3
  have h1 : LimpOnly s s1 := ((BoardOnly.refl s).modCordon _ _).limpOnly
  have h2 : LimpOnly s s2 := h1.trans rfl
  have h3 : LimpOnly s s3 := h1.trans rfl
  clear_value s1 s2 s3
  split
  · exact .ite (h1.drive ..) (.ite h1 (h1.drive ..))
  · refine .ite (.ite h1 (h1.drive ..)) (.ite ?_ (.ite ?_ (h1.drive ..)))
    · exact h2.trans ((BoardOnly.refl _).modCells _ _).limpOnly
    · exact (h3.trans ((BoardOnly.refl _).modCordon _ _).limpOnly).drive ..
  · exact .ite h1 (h1.drive ..)
  · exact .ite h1 (h1.drive ..)
  · exact h1

/-- R107, R109: the module's power in LIMP. -/
theorem limpSet_limp (s : State) : LimpOnly s (limpSet s) := by
  unfold limpSet
  split
  · exact (((BoardOnly.refl s).modCells _ _).limpOnly).trans rfl
  · rename_i im _
    extract_lets lm s1 s2
    have h1 : LimpOnly s s1 := rfl
    have h2 : LimpOnly s s2 := by
      refine .ite (h1.trans ?_) (h1.trans rfl)
      unfold gateFollows; exact .ite (.refl _) rfl
    clear_value s1 s2
    have hf : ∀ (l : List Nat) {t : State}, LimpOnly s t → LimpOnly s (l.foldl (fun t c => limpCordon im c t) t) := by
      intro l
      induction l with
      | nil => exact fun h => h
      | cons c l ih => exact fun h => ih (h.trans (limpCordon_limp ..))
    exact hf _ h2

/-- R400: a record queued touches nothing but the Cellar's queue. -/
theorem queueRecord_sys (k n a : Nat) (ad w : Word) (x y : Bool) (s : State) : (queueRecord k n a ad w x y s).sys = s.sys := by
  unfold queueRecord; split <;> rfl

/-- R99: a change of mode sets it. -/
theorem setMode_mode (m : Mode) (s : State) : (setMode m s).sys.mode = m := by
  unfold setMode
  split
  · assumption
  · simp only [record, queueRecord_sys]

/-- R99: a change of mode keeps the reason of LIMP. -/
theorem setMode_reason (m : Mode) (s : State) : (setMode m s).sys.reason = s.sys.reason := by
  unfold setMode
  split
  · rfl
  · simp only [record, queueRecord_sys]

/-- R108: a core reset keeps the mode, the sub-state and the reason of LIMP. -/
theorem coreReset_sys (k : Nat) (a : Word) (s : State) : (coreReset k a s).sys.mode = s.sys.mode ∧
    (coreReset k a s).sys.sub = s.sys.sub ∧ (coreReset k a s).sys.reason = s.sys.reason := by
  unfold coreReset
  simp only [queueRecord_sys]
  exact ⟨rfl, rfl, rfl⟩

/-- R177: the cordons released from STAGING. -/
theorem releaseStaging_sys (s : State) : (releaseStaging s).sys = s.sys := by
  have hs : ∀ i (t : State), (settleStart i t).sys = t.sys := by
    intro i t
    unfold settleStart
    extract_lets b
    split
    · exact (driveCordon_board ..).sys
    · rfl
  have hf : ∀ (l : List Nat) (t : State), (l.foldl (fun t i => settleStart i t) t).sys = t.sys := by
    intro l
    induction l with
    | nil => exact fun _ => rfl
    | cons i l ih => exact fun t => (ih _).trans (hs i t)
  unfold releaseStaging
  exact hf _ _

/-- R107: LIMP entered from STAGING. -/
theorem limpFromStaging_sys (s : State) : (limpFromStaging s).sys.mode = s.sys.mode ∧
    (limpFromStaging s).sys.sub = s.sys.sub ∧ (limpFromStaging s).sys.reason = s.sys.reason := by
  unfold limpFromStaging
  extract_lets s1 s3 s4
  have h : s4.sys = s3.sys := (releaseStaging_sys _).trans (queueRecord_sys ..)
  have e : s3.sys.mode = s.sys.mode ∧ s3.sys.sub = s.sys.sub ∧ s3.sys.reason = s.sys.reason := ⟨rfl, rfl, rfl⟩
  rw [← h] at e
  clear_value s4
  split
  · unfold startRise; split <;> exact e
  · exact e

/-- R107, R108: LIMP is entered in HELD with its cause. -/
theorem limpEntry_enters (c k : Nat) (a : Word) (s : State) (hm : s.sys.mode ≠ .ship) (hp : s.powered = true) :
    (limpEntry c k a s).sys.mode = .limp ∧ (limpEntry c k a s).sys.sub = .held ∧ (limpEntry c k a s).sys.reason = c := by
  unfold limpEntry
  rw [if_neg (by simp [hm, hp])]
  extract_lets fl st sg s8 a1 a2 a3 s7 sv s6 a4 s5 s4 s3 e1 e2 e3 e4 e5 e6 e7 e8 s2 s1 s0
  have h7 : s7.sys.reason = c := rfl
  have h6 : s6.sys.mode = .limp ∧ s6.sys.reason = c := ⟨setMode_mode _ _, (setMode_reason _ _).trans h7⟩
  have h5 : s5.sys.mode = .limp ∧ s5.sys.sub = .held ∧ s5.sys.reason = c := ⟨h6.1, rfl, h6.2⟩
  clear_value s5
  have h4 : s4.sys = s5.sys := (BoardOnly.modCells (.refl _) _ _).sys
  have h3 : s3.sys = s4.sys := by simp only [s3]; unfold aliveStop; split <;> rfl
  have h2 : s2.sys = s3.sys := rfl
  have h1 : s1.sys = s2.sys := by simp only [s1]; split <;> rfl
  have e1 : s1.sys.mode = .limp ∧ s1.sys.sub = .held ∧ s1.sys.reason = c := by rw [h1, h2, h3, h4]; exact h5
  clear_value s1
  have h0 : s0.sys.mode = .limp ∧ s0.sys.sub = .held ∧ s0.sys.reason = c := by
    simp only [s0, (limpSet_limp _).sys]
    split
    · obtain ⟨f1, f2, f3⟩ := limpFromStaging_sys s1
      rw [f1, f2, f3]; exact e1
    · exact e1
  clear_value s0
  split
  · exact h0
  · obtain ⟨f1, f2, f3⟩ := coreReset_sys k a s0
    rw [f1, f2, f3]; exact h0

end Sys2Proof.Laws
end

