-- ==== Sys2Proof/Laws/Keeps.lean ====
section
/-! SUPPORT. What every operation keeps. `Good W r s` says of two states: the queue and the part are the same, no bit of
the one-time programmable array has cleared, memories that were canonical still are, and of the register groups of
`Group` only those that `W` allows may differ. One lemma for every operation of the model, down to every command. -/

open Sys2Proof.Machine

namespace Sys2Proof.Laws
set_option Elab.async false
set_option linter.all false

/-- A byte written over its own bits clears none. -/
theorem memWrite_bitsKept {m : Mem} {a : Nat} {b : Byte} (h : memRead 0 m a &&& b = memRead 0 m a) : BitsKept m (memWrite 0 m a b) := by
  intro x
  by_cases hx : x = a
  · subst hx
    induction m with
    | nil => simp [memRead]
    | cons e m ih =>
      obtain ⟨k, c⟩ := e
      unfold memWrite
      split
      · have hk : k ≠ x := by omega
        split
        · subst_vars; exact BitVec.and_self
        · simpa [memRead, hk] using h
      · split
        · subst_vars
          split
          · subst_vars; simp [memRead] at h ⊢; rw [← h]; simp
          · simpa [memRead] using h
        · have hk : k ≠ x := by omega
          simp only [memRead, hk, if_false] at h ⊢
          exact ih h
  · rw [memRead_memWrite_ne hx]; exact BitVec.and_self
/-- Bits kept twice are kept. -/
theorem bitsKept_trans {m k l : Mem} (h : BitsKept m k) (g : BitsKept k l) : BitsKept m l := fun x => by
  have h1 := h x; have h2 := g x
  rw [← h1, BitVec.and_assoc, h2]

/-- A run of bytes written over their own bits clears none. -/
theorem memWriteList_bitsKept {m : Mem} {a : Nat} {bs : List Byte}
    (h : ∀ i (hi : i < bs.length), memRead 0 m (a + i) &&& bs[i] = memRead 0 m (a + i)) : BitsKept m (memWriteList 0 m a bs) := by
  induction bs generalizing a m with
  | nil => intro x; exact BitVec.and_self
  | cons b bs ih =>
    refine bitsKept_trans (memWrite_bitsKept (a := a) (b := b) (h 0 (by simp))) (ih fun i hi => ?_)
    rw [memRead_memWrite_ne (by omega)]
    have := h (i + 1) (by simpa using hi)
    simpa [Nat.add_assoc, Nat.add_comm 1 i] using this
/-- Four bytes, least significant first, as a word. -/
theorem ofLe_four (b0 b1 b2 b3 : Byte) : BitVec.ofNat 32 (ofLe [b0, b1, b2, b3]) = b3 ++ b2 ++ b1 ++ b0 := by
  apply BitVec.eq_of_toNat_eq
  have h0 := b0.isLt; have h1 := b1.isLt; have h2 := b2.isLt; have h3 := b3.isLt
  simp only [ofLe, BitVec.toNat_ofNat, BitVec.toNat_append]
  rw [← Nat.shiftLeft_add_eq_or_of_lt h0, ← Nat.shiftLeft_add_eq_or_of_lt h1, ← Nat.shiftLeft_add_eq_or_of_lt h2]
  simp only [Nat.shiftLeft_eq]
  omega
/-- The bytes of a word. -/
theorem wordBytes_eq (w : Word) : wordBytes w = [w.extractLsb' 0 8, w.extractLsb' 8 8, w.extractLsb' 16 8, w.extractLsb' 24 8] := by
  simp only [wordBytes, le]
  congr 1 <;> [skip; congr 1 <;> [skip; congr 1 <;> [skip; congr 1]]] <;>
    (apply BitVec.eq_of_toNat_eq; simp [BitVec.extractLsb'_toNat, Nat.shiftRight_eq_div_pow, Nat.div_div_eq_div_mul])
/-- A word written over its own bits clears none. -/
theorem memPutWord_or_bitsKept (m : Mem) (a : Nat) (d : Word) : BitsKept m (memPutWord 0 m a (memWord 0 m a ||| d)) := by
  unfold memPutWord
  refine memWriteList_bitsKept fun i hi => ?_
  simp only [memWord, memReadList, ofLe_four, wordBytes_eq] at hi ⊢
  have : i = 0 ∨ i = 1 ∨ i = 2 ∨ i = 3 := by simp at hi; omega
  rcases this with rfl | rfl | rfl | rfl <;> simp only [List.getElem_cons_zero, List.getElem_cons_succ, Nat.add_zero] <;> ext j hj
  all_goals
    simp only [BitVec.getElem_and, BitVec.getElem_extractLsb', BitVec.getLsbD_or, BitVec.getLsbD_append, Bool.and_eq_left_iff_imp, Nat.add_assoc,
      Nat.zero_add]
    intro h
    rw [← BitVec.getLsbD_eq_getElem hj] at h
    rw [Bool.or_eq_true]
    left
    split_ifs <;> first | omega | (convert h using 2; omega)

/-- The register groups of a frame: those of one group are written by the same commands. -/
inductive Group where
  | cellar
  | flash
  | otp
  | image
  | page
  | powered
  | inputs
  | wakeCause
  | settings
  | clock
  | badWords
  | crystal
  | verdict
  | staged
  | applied
  | timing
  | address
  | expiry
  | question
  | life
  | arming
  | flashOp
  | rng
  | diag
  | failed
  | button
  | ship
  | changeover
  | graft
  | irq
  | lastEvent

/-- The registers that the frames name, as one value. -/
structure Store where
  pending : List Instr
  hw : Hw
  otp : Mem
  held : Mem
  mem : Mem
  bank0 : Mem
  bank1 : Mem
  stg : Mem
  spi : Mem
  trl : Mem
  fls : Mem
  cry : Mem
  sram : Mem
  powered : Bool
  inputs : OrInputs
  wakeCause : Wake
  settings : Nat × BitVec 12 × Vector Route 8 × Vector AdcTimer 4 × Nat × Nat × Nat × Nat × Nat × Nat × Word × Bool × Bool × Bool × Bool × Nat × BitVec 32 × BitVec 16 × Vector Word 8 × Nat × Nat × Nat × Nat
  clock : Nat × Nat × Nat × Nat × Int × Nat × Nat × Nat × Nat × Nat × Nat × Nat
  badWords : Nat × Word
  crystal : Bool × Bool
  verdict : BitVec 32 × Nat × Nat × Bool × Nat
  staged : Nat × Nat × BitVec 32 × BitVec 16
  applied : Nat × Vector Trim 7 × Nat × Nat
  timing : Bool × Nat × Nat × Nat × Nat × Nat × Nat
  address : Nat
  expiry : Nat × Nat × Nat
  question : BitVec 16 × Nat × Nat
  life : Life × Bool
  arming : Option ArmT
  flashOp : Option FlashOp
  rng : RngState
  diag : Nat × Nat
  failed : BitVec 5
  button : Button
  ship : Nat × BitVec 7 × Bool × Nat × Vector Nat 7
  changeover : Nat × Nat × Nat × Nat
  graft : BitVec 64 × Nat
  irq : BitVec 10
  lastEvent : Word × Word

/-- The memories of a store are canonical. -/
def Store.Ok (a : Store) : Prop :=
  memWf ff a.mem = true ∧ memWf ff a.bank0 = true ∧ memWf ff a.bank1 = true ∧
  memWf 0 a.otp = true ∧ memWf 0 a.held = true ∧ memWf 0 a.stg = true ∧ memWf 0 a.spi = true ∧
  memWf 0 a.trl = true ∧ memWf 0 a.fls = true ∧ memWf 0 a.cry = true ∧ memWf 0 a.sram = true

/-- From store `a` to store `b`. -/
structure Keeps (W : Group → Prop) (a b : Store) : Prop where
  pending : b.pending = a.pending
  hw : b.hw = a.hw
  bits : BitsKept a.otp b.otp
  ok : a.Ok → b.Ok
  cellar : ¬ W .cellar → b.mem = a.mem
  flash : ¬ W .flash → b.bank0 = a.bank0 ∧ b.bank1 = a.bank1
  otp : ¬ W .otp → b.otp = a.otp
  image : ¬ W .image → b.stg = a.stg
  page : ¬ W .page → b.fls = a.fls
  powered : ¬ W .powered → b.powered = a.powered
  inputs : ¬ W .inputs → b.inputs = a.inputs
  wakeCause : ¬ W .wakeCause → b.wakeCause = a.wakeCause
  settings : ¬ W .settings → b.settings = a.settings
  clock : ¬ W .clock → b.clock = a.clock
  badWords : ¬ W .badWords → b.badWords = a.badWords
  crystal : ¬ W .crystal → b.crystal = a.crystal
  verdict : ¬ W .verdict → b.verdict = a.verdict
  staged : ¬ W .staged → b.staged = a.staged
  applied : ¬ W .applied → b.applied = a.applied
  timing : ¬ W .timing → b.timing = a.timing
  address : ¬ W .address → b.address = a.address
  expiry : ¬ W .expiry → b.expiry = a.expiry
  question : ¬ W .question → b.question = a.question
  life : ¬ W .life → b.life = a.life
  arming : ¬ W .arming → b.arming = a.arming
  flashOp : ¬ W .flashOp → b.flashOp = a.flashOp
  rng : ¬ W .rng → b.rng = a.rng
  diag : ¬ W .diag → b.diag = a.diag
  failed : ¬ W .failed → b.failed = a.failed
  button : ¬ W .button → b.button = a.button
  ship : ¬ W .ship → b.ship = a.ship
  changeover : ¬ W .changeover → b.changeover = a.changeover
  graft : ¬ W .graft → b.graft = a.graft
  irq : ¬ W .irq → b.irq = a.irq
  lastEvent : ¬ W .lastEvent → b.lastEvent = a.lastEvent

/-- The store of a state. -/
def store (s : State) : Store :=
  ⟨s.pending, s.hw, s.lcs.otp, s.lcs.held, s.clr.mem, s.fls.bank0, s.fls.bank1, s.stg.buf, s.spi.sess.buf, s.trl.sess.buf, s.fls.buf, s.cry.buf, s.sram, s.powered, s.orIn, s.wake, (s.sys.coldCause, s.adc.irqEn, s.adc.routes, s.adc.timers, s.eis.deepF0, s.eis.deepF1, s.eis.deepPpd, s.eis.deepAmpl, s.eis.deepPair, s.flt.c2win, s.lcs.data, s.lcs.weak, s.spi.privIgn, s.trl.endA, s.trl.endB, s.trl.tmRank, s.upd.atLo, s.upd.atHi, s.clr.notes, s.clr.uncorr, s.clr.incomplete, s.clr.fallback, s.fls.previous), (s.now, s.bk.drawCount, s.bk.drawE, s.bk.drawLongest, s.bk.load, s.bk.short, s.bk.surgeCount, s.bk.surgeLongest, s.bk.trnCount, s.bk.vCask, s.bk.violD, s.bk.violS), (s.clr.errors, s.clr.errAddr), (s.crystal, s.xtalLost), (s.stg.digest, s.stg.reason, s.stg.rCordon, s.stg.rTrim, s.stg.rOffset), (s.stg.foreign, s.stg.imgPtr, s.stg.tLo, s.stg.tHi), (s.stg.applied, s.stg.trimsIn, s.sys.warmCount, s.sys.warmDuration), (s.trl.locked, s.trl.master, s.trl.rank, s.trl.hops, s.trl.follow, s.trl.good, s.trl.lostAt), s.trl.addr, (s.wdg.expiries, s.wdg.lastCount, s.wdg.lastResult), (s.wdg.q, s.wdg.opensAt, s.wdg.frac), (s.lcs.state, s.spi.privEn), s.lcs.arm, s.fls.op, s.cry.rng, (s.adc.diagChan, s.adc.diagConv), s.adc.failed, s.eis.btn, (s.eis.entries, s.eis.mask, s.eis.gateIn, s.eis.wakeGate, s.eis.wakeV), (s.pwr.coCause, s.pwr.coCount, s.pwr.coEntry, s.pwr.coStart), (s.upd.gid, s.upd.release), s.spi.irqEn, (s.flt.last, s.flt.lastAddr)⟩

/-- State `s` keeps what state `r` holds, but for the groups `W` allows. -/
structure Good (W : Group → Prop) (r s : State) : Prop where
  keeps : Keeps W (store r) (store s)

/-- A store keeps itself. -/
theorem Keeps.refl {W : Group → Prop} (a : Store) : Keeps W a a := by
  constructor <;> first | exact fun _ => BitVec.and_self | (intros; first | rfl | exact ⟨rfl, rfl⟩ | assumption) | rfl
/-- A state keeps itself. -/
theorem Good.refl {W : Group → Prop} (s : State) : Good W s s := ⟨Keeps.refl _⟩
/-- What one state keeps of another, part by part. -/
theorem Good.fold {W : Group → Prop} {r t : State} (h : Good W r t) : Keeps W (store r)
    ⟨t.pending, t.hw, t.lcs.otp, t.lcs.held, t.clr.mem, t.fls.bank0, t.fls.bank1, t.stg.buf, t.spi.sess.buf, t.trl.sess.buf, t.fls.buf, t.cry.buf, t.sram, t.powered, t.orIn, t.wake, (t.sys.coldCause, t.adc.irqEn, t.adc.routes, t.adc.timers, t.eis.deepF0, t.eis.deepF1, t.eis.deepPpd, t.eis.deepAmpl, t.eis.deepPair, t.flt.c2win, t.lcs.data, t.lcs.weak, t.spi.privIgn, t.trl.endA, t.trl.endB, t.trl.tmRank, t.upd.atLo, t.upd.atHi, t.clr.notes, t.clr.uncorr, t.clr.incomplete, t.clr.fallback, t.fls.previous), (t.now, t.bk.drawCount, t.bk.drawE, t.bk.drawLongest, t.bk.load, t.bk.short, t.bk.surgeCount, t.bk.surgeLongest, t.bk.trnCount, t.bk.vCask, t.bk.violD, t.bk.violS), (t.clr.errors, t.clr.errAddr), (t.crystal, t.xtalLost), (t.stg.digest, t.stg.reason, t.stg.rCordon, t.stg.rTrim, t.stg.rOffset), (t.stg.foreign, t.stg.imgPtr, t.stg.tLo, t.stg.tHi), (t.stg.applied, t.stg.trimsIn, t.sys.warmCount, t.sys.warmDuration), (t.trl.locked, t.trl.master, t.trl.rank, t.trl.hops, t.trl.follow, t.trl.good, t.trl.lostAt), t.trl.addr, (t.wdg.expiries, t.wdg.lastCount, t.wdg.lastResult), (t.wdg.q, t.wdg.opensAt, t.wdg.frac), (t.lcs.state, t.spi.privEn), t.lcs.arm, t.fls.op, t.cry.rng, (t.adc.diagChan, t.adc.diagConv), t.adc.failed, t.eis.btn, (t.eis.entries, t.eis.mask, t.eis.gateIn, t.eis.wakeGate, t.eis.wakeV), (t.pwr.coCause, t.pwr.coCount, t.pwr.coEntry, t.pwr.coStart), (t.upd.gid, t.upd.release), t.spi.irqEn, (t.flt.last, t.flt.lastAddr)⟩ := h.1
/-- A state given by its fields. -/
theorem Good.mk' {W : Group → Prop} {r : State} {x0 x1 x2 x3 x4 x5 x6 x7 x8 x9 x10 x11 x12 x13 x14 x15 x16 x17 x18 x19 x20 x21 x22 x23 x24 x25 x26 x27 x28 x29 x30 x31 x32 x33}
    (h : Keeps W (store r) ⟨x0, x8, x33.otp, x33.held, x32.mem, x28.bank0, x28.bank1, x23.buf, x25.sess.buf, x26.sess.buf, x28.buf, x29.buf, x6, x3, x4, x7, (x16.coldCause, x22.irqEn, x22.routes, x22.timers, x20.deepF0, x20.deepF1, x20.deepPpd, x20.deepAmpl, x20.deepPair, x31.c2win, x33.data, x33.weak, x25.privIgn, x26.endA, x26.endB, x26.tmRank, x27.atLo, x27.atHi, x32.notes, x32.uncorr, x32.incomplete, x32.fallback, x28.previous), (x2, x24.drawCount, x24.drawE, x24.drawLongest, x24.load, x24.short, x24.surgeCount, x24.surgeLongest, x24.trnCount, x24.vCask, x24.violD, x24.violS), (x32.errors, x32.errAddr), (x9, x10), (x23.digest, x23.reason, x23.rCordon, x23.rTrim, x23.rOffset), (x23.foreign, x23.imgPtr, x23.tLo, x23.tHi), (x23.applied, x23.trimsIn, x16.warmCount, x16.warmDuration), (x26.locked, x26.master, x26.rank, x26.hops, x26.follow, x26.good, x26.lostAt), x26.addr, (x30.expiries, x30.lastCount, x30.lastResult), (x30.q, x30.opensAt, x30.frac), (x33.state, x25.privEn), x33.arm, x28.op, x29.rng, (x22.diagChan, x22.diagConv), x22.failed, x20.btn, (x20.entries, x20.mask, x20.gateIn, x20.wakeGate, x20.wakeV), (x18.coCause, x18.coCount, x18.coEntry, x18.coStart), (x27.gid, x27.release), x25.irqEn, (x31.last, x31.lastAddr)⟩) :
    Good W r (State.mk x0 x1 x2 x3 x4 x5 x6 x7 x8 x9 x10 x11 x12 x13 x14 x15 x16 x17 x18 x19 x20 x21 x22 x23 x24 x25 x26 x27 x28 x29 x30 x31 x32 x33) := ⟨h⟩
/-- A write to one memory, held. -/
theorem Good.fold_held {W : Group → Prop} {r t : State} {m : Mem} (h : Good W r t) (w : memWf 0 t.lcs.held = true → memWf 0 m = true) :
    Keeps W (store r) ⟨t.pending, t.hw, t.lcs.otp, m, t.clr.mem, t.fls.bank0, t.fls.bank1, t.stg.buf, t.spi.sess.buf, t.trl.sess.buf, t.fls.buf, t.cry.buf, t.sram, t.powered, t.orIn, t.wake, (t.sys.coldCause, t.adc.irqEn, t.adc.routes, t.adc.timers, t.eis.deepF0, t.eis.deepF1, t.eis.deepPpd, t.eis.deepAmpl, t.eis.deepPair, t.flt.c2win, t.lcs.data, t.lcs.weak, t.spi.privIgn, t.trl.endA, t.trl.endB, t.trl.tmRank, t.upd.atLo, t.upd.atHi, t.clr.notes, t.clr.uncorr, t.clr.incomplete, t.clr.fallback, t.fls.previous), (t.now, t.bk.drawCount, t.bk.drawE, t.bk.drawLongest, t.bk.load, t.bk.short, t.bk.surgeCount, t.bk.surgeLongest, t.bk.trnCount, t.bk.vCask, t.bk.violD, t.bk.violS), (t.clr.errors, t.clr.errAddr), (t.crystal, t.xtalLost), (t.stg.digest, t.stg.reason, t.stg.rCordon, t.stg.rTrim, t.stg.rOffset), (t.stg.foreign, t.stg.imgPtr, t.stg.tLo, t.stg.tHi), (t.stg.applied, t.stg.trimsIn, t.sys.warmCount, t.sys.warmDuration), (t.trl.locked, t.trl.master, t.trl.rank, t.trl.hops, t.trl.follow, t.trl.good, t.trl.lostAt), t.trl.addr, (t.wdg.expiries, t.wdg.lastCount, t.wdg.lastResult), (t.wdg.q, t.wdg.opensAt, t.wdg.frac), (t.lcs.state, t.spi.privEn), t.lcs.arm, t.fls.op, t.cry.rng, (t.adc.diagChan, t.adc.diagConv), t.adc.failed, t.eis.btn, (t.eis.entries, t.eis.mask, t.eis.gateIn, t.eis.wakeGate, t.eis.wakeV), (t.pwr.coCause, t.pwr.coCount, t.pwr.coEntry, t.pwr.coStart), (t.upd.gid, t.upd.release), t.spi.irqEn, (t.flt.last, t.flt.lastAddr)⟩ :=
  { h.1 with
    ok := fun k => (by have := h.1.ok k; simp only [Store.Ok, store] at this ⊢; simp_all) }
/-- A write to one memory, mem. -/
theorem Good.fold_mem {W : Group → Prop} {r t : State} {m : Mem} (h : Good W r t) (g : W .cellar) (w : memWf ff t.clr.mem = true → memWf ff m = true) :
    Keeps W (store r) ⟨t.pending, t.hw, t.lcs.otp, t.lcs.held, m, t.fls.bank0, t.fls.bank1, t.stg.buf, t.spi.sess.buf, t.trl.sess.buf, t.fls.buf, t.cry.buf, t.sram, t.powered, t.orIn, t.wake, (t.sys.coldCause, t.adc.irqEn, t.adc.routes, t.adc.timers, t.eis.deepF0, t.eis.deepF1, t.eis.deepPpd, t.eis.deepAmpl, t.eis.deepPair, t.flt.c2win, t.lcs.data, t.lcs.weak, t.spi.privIgn, t.trl.endA, t.trl.endB, t.trl.tmRank, t.upd.atLo, t.upd.atHi, t.clr.notes, t.clr.uncorr, t.clr.incomplete, t.clr.fallback, t.fls.previous), (t.now, t.bk.drawCount, t.bk.drawE, t.bk.drawLongest, t.bk.load, t.bk.short, t.bk.surgeCount, t.bk.surgeLongest, t.bk.trnCount, t.bk.vCask, t.bk.violD, t.bk.violS), (t.clr.errors, t.clr.errAddr), (t.crystal, t.xtalLost), (t.stg.digest, t.stg.reason, t.stg.rCordon, t.stg.rTrim, t.stg.rOffset), (t.stg.foreign, t.stg.imgPtr, t.stg.tLo, t.stg.tHi), (t.stg.applied, t.stg.trimsIn, t.sys.warmCount, t.sys.warmDuration), (t.trl.locked, t.trl.master, t.trl.rank, t.trl.hops, t.trl.follow, t.trl.good, t.trl.lostAt), t.trl.addr, (t.wdg.expiries, t.wdg.lastCount, t.wdg.lastResult), (t.wdg.q, t.wdg.opensAt, t.wdg.frac), (t.lcs.state, t.spi.privEn), t.lcs.arm, t.fls.op, t.cry.rng, (t.adc.diagChan, t.adc.diagConv), t.adc.failed, t.eis.btn, (t.eis.entries, t.eis.mask, t.eis.gateIn, t.eis.wakeGate, t.eis.wakeV), (t.pwr.coCause, t.pwr.coCount, t.pwr.coEntry, t.pwr.coStart), (t.upd.gid, t.upd.release), t.spi.irqEn, (t.flt.last, t.flt.lastAddr)⟩ :=
  { h.1 with
    ok := fun k => (by have := h.1.ok k; simp only [Store.Ok, store] at this ⊢; simp_all)
    cellar := fun k => absurd g k }
/-- A write to one memory, bank0. -/
theorem Good.fold_bank0 {W : Group → Prop} {r t : State} {m : Mem} (h : Good W r t) (g : W .flash) (w : memWf ff t.fls.bank0 = true → memWf ff m = true) :
    Keeps W (store r) ⟨t.pending, t.hw, t.lcs.otp, t.lcs.held, t.clr.mem, m, t.fls.bank1, t.stg.buf, t.spi.sess.buf, t.trl.sess.buf, t.fls.buf, t.cry.buf, t.sram, t.powered, t.orIn, t.wake, (t.sys.coldCause, t.adc.irqEn, t.adc.routes, t.adc.timers, t.eis.deepF0, t.eis.deepF1, t.eis.deepPpd, t.eis.deepAmpl, t.eis.deepPair, t.flt.c2win, t.lcs.data, t.lcs.weak, t.spi.privIgn, t.trl.endA, t.trl.endB, t.trl.tmRank, t.upd.atLo, t.upd.atHi, t.clr.notes, t.clr.uncorr, t.clr.incomplete, t.clr.fallback, t.fls.previous), (t.now, t.bk.drawCount, t.bk.drawE, t.bk.drawLongest, t.bk.load, t.bk.short, t.bk.surgeCount, t.bk.surgeLongest, t.bk.trnCount, t.bk.vCask, t.bk.violD, t.bk.violS), (t.clr.errors, t.clr.errAddr), (t.crystal, t.xtalLost), (t.stg.digest, t.stg.reason, t.stg.rCordon, t.stg.rTrim, t.stg.rOffset), (t.stg.foreign, t.stg.imgPtr, t.stg.tLo, t.stg.tHi), (t.stg.applied, t.stg.trimsIn, t.sys.warmCount, t.sys.warmDuration), (t.trl.locked, t.trl.master, t.trl.rank, t.trl.hops, t.trl.follow, t.trl.good, t.trl.lostAt), t.trl.addr, (t.wdg.expiries, t.wdg.lastCount, t.wdg.lastResult), (t.wdg.q, t.wdg.opensAt, t.wdg.frac), (t.lcs.state, t.spi.privEn), t.lcs.arm, t.fls.op, t.cry.rng, (t.adc.diagChan, t.adc.diagConv), t.adc.failed, t.eis.btn, (t.eis.entries, t.eis.mask, t.eis.gateIn, t.eis.wakeGate, t.eis.wakeV), (t.pwr.coCause, t.pwr.coCount, t.pwr.coEntry, t.pwr.coStart), (t.upd.gid, t.upd.release), t.spi.irqEn, (t.flt.last, t.flt.lastAddr)⟩ :=
  { h.1 with
    ok := fun k => (by have := h.1.ok k; simp only [Store.Ok, store] at this ⊢; simp_all)
    flash := fun k => absurd g k }
/-- A write to one memory, bank1. -/
theorem Good.fold_bank1 {W : Group → Prop} {r t : State} {m : Mem} (h : Good W r t) (g : W .flash) (w : memWf ff t.fls.bank1 = true → memWf ff m = true) :
    Keeps W (store r) ⟨t.pending, t.hw, t.lcs.otp, t.lcs.held, t.clr.mem, t.fls.bank0, m, t.stg.buf, t.spi.sess.buf, t.trl.sess.buf, t.fls.buf, t.cry.buf, t.sram, t.powered, t.orIn, t.wake, (t.sys.coldCause, t.adc.irqEn, t.adc.routes, t.adc.timers, t.eis.deepF0, t.eis.deepF1, t.eis.deepPpd, t.eis.deepAmpl, t.eis.deepPair, t.flt.c2win, t.lcs.data, t.lcs.weak, t.spi.privIgn, t.trl.endA, t.trl.endB, t.trl.tmRank, t.upd.atLo, t.upd.atHi, t.clr.notes, t.clr.uncorr, t.clr.incomplete, t.clr.fallback, t.fls.previous), (t.now, t.bk.drawCount, t.bk.drawE, t.bk.drawLongest, t.bk.load, t.bk.short, t.bk.surgeCount, t.bk.surgeLongest, t.bk.trnCount, t.bk.vCask, t.bk.violD, t.bk.violS), (t.clr.errors, t.clr.errAddr), (t.crystal, t.xtalLost), (t.stg.digest, t.stg.reason, t.stg.rCordon, t.stg.rTrim, t.stg.rOffset), (t.stg.foreign, t.stg.imgPtr, t.stg.tLo, t.stg.tHi), (t.stg.applied, t.stg.trimsIn, t.sys.warmCount, t.sys.warmDuration), (t.trl.locked, t.trl.master, t.trl.rank, t.trl.hops, t.trl.follow, t.trl.good, t.trl.lostAt), t.trl.addr, (t.wdg.expiries, t.wdg.lastCount, t.wdg.lastResult), (t.wdg.q, t.wdg.opensAt, t.wdg.frac), (t.lcs.state, t.spi.privEn), t.lcs.arm, t.fls.op, t.cry.rng, (t.adc.diagChan, t.adc.diagConv), t.adc.failed, t.eis.btn, (t.eis.entries, t.eis.mask, t.eis.gateIn, t.eis.wakeGate, t.eis.wakeV), (t.pwr.coCause, t.pwr.coCount, t.pwr.coEntry, t.pwr.coStart), (t.upd.gid, t.upd.release), t.spi.irqEn, (t.flt.last, t.flt.lastAddr)⟩ :=
  { h.1 with
    ok := fun k => (by have := h.1.ok k; simp only [Store.Ok, store] at this ⊢; simp_all)
    flash := fun k => absurd g k }
/-- A write to one memory, stg. -/
theorem Good.fold_stg {W : Group → Prop} {r t : State} {m : Mem} (h : Good W r t) (g : W .image) (w : memWf 0 t.stg.buf = true → memWf 0 m = true) :
    Keeps W (store r) ⟨t.pending, t.hw, t.lcs.otp, t.lcs.held, t.clr.mem, t.fls.bank0, t.fls.bank1, m, t.spi.sess.buf, t.trl.sess.buf, t.fls.buf, t.cry.buf, t.sram, t.powered, t.orIn, t.wake, (t.sys.coldCause, t.adc.irqEn, t.adc.routes, t.adc.timers, t.eis.deepF0, t.eis.deepF1, t.eis.deepPpd, t.eis.deepAmpl, t.eis.deepPair, t.flt.c2win, t.lcs.data, t.lcs.weak, t.spi.privIgn, t.trl.endA, t.trl.endB, t.trl.tmRank, t.upd.atLo, t.upd.atHi, t.clr.notes, t.clr.uncorr, t.clr.incomplete, t.clr.fallback, t.fls.previous), (t.now, t.bk.drawCount, t.bk.drawE, t.bk.drawLongest, t.bk.load, t.bk.short, t.bk.surgeCount, t.bk.surgeLongest, t.bk.trnCount, t.bk.vCask, t.bk.violD, t.bk.violS), (t.clr.errors, t.clr.errAddr), (t.crystal, t.xtalLost), (t.stg.digest, t.stg.reason, t.stg.rCordon, t.stg.rTrim, t.stg.rOffset), (t.stg.foreign, t.stg.imgPtr, t.stg.tLo, t.stg.tHi), (t.stg.applied, t.stg.trimsIn, t.sys.warmCount, t.sys.warmDuration), (t.trl.locked, t.trl.master, t.trl.rank, t.trl.hops, t.trl.follow, t.trl.good, t.trl.lostAt), t.trl.addr, (t.wdg.expiries, t.wdg.lastCount, t.wdg.lastResult), (t.wdg.q, t.wdg.opensAt, t.wdg.frac), (t.lcs.state, t.spi.privEn), t.lcs.arm, t.fls.op, t.cry.rng, (t.adc.diagChan, t.adc.diagConv), t.adc.failed, t.eis.btn, (t.eis.entries, t.eis.mask, t.eis.gateIn, t.eis.wakeGate, t.eis.wakeV), (t.pwr.coCause, t.pwr.coCount, t.pwr.coEntry, t.pwr.coStart), (t.upd.gid, t.upd.release), t.spi.irqEn, (t.flt.last, t.flt.lastAddr)⟩ :=
  { h.1 with
    ok := fun k => (by have := h.1.ok k; simp only [Store.Ok, store] at this ⊢; simp_all)
    image := fun k => absurd g k }
/-- A write to one memory, spi. -/
theorem Good.fold_spi {W : Group → Prop} {r t : State} {m : Mem} (h : Good W r t) (w : memWf 0 t.spi.sess.buf = true → memWf 0 m = true) :
    Keeps W (store r) ⟨t.pending, t.hw, t.lcs.otp, t.lcs.held, t.clr.mem, t.fls.bank0, t.fls.bank1, t.stg.buf, m, t.trl.sess.buf, t.fls.buf, t.cry.buf, t.sram, t.powered, t.orIn, t.wake, (t.sys.coldCause, t.adc.irqEn, t.adc.routes, t.adc.timers, t.eis.deepF0, t.eis.deepF1, t.eis.deepPpd, t.eis.deepAmpl, t.eis.deepPair, t.flt.c2win, t.lcs.data, t.lcs.weak, t.spi.privIgn, t.trl.endA, t.trl.endB, t.trl.tmRank, t.upd.atLo, t.upd.atHi, t.clr.notes, t.clr.uncorr, t.clr.incomplete, t.clr.fallback, t.fls.previous), (t.now, t.bk.drawCount, t.bk.drawE, t.bk.drawLongest, t.bk.load, t.bk.short, t.bk.surgeCount, t.bk.surgeLongest, t.bk.trnCount, t.bk.vCask, t.bk.violD, t.bk.violS), (t.clr.errors, t.clr.errAddr), (t.crystal, t.xtalLost), (t.stg.digest, t.stg.reason, t.stg.rCordon, t.stg.rTrim, t.stg.rOffset), (t.stg.foreign, t.stg.imgPtr, t.stg.tLo, t.stg.tHi), (t.stg.applied, t.stg.trimsIn, t.sys.warmCount, t.sys.warmDuration), (t.trl.locked, t.trl.master, t.trl.rank, t.trl.hops, t.trl.follow, t.trl.good, t.trl.lostAt), t.trl.addr, (t.wdg.expiries, t.wdg.lastCount, t.wdg.lastResult), (t.wdg.q, t.wdg.opensAt, t.wdg.frac), (t.lcs.state, t.spi.privEn), t.lcs.arm, t.fls.op, t.cry.rng, (t.adc.diagChan, t.adc.diagConv), t.adc.failed, t.eis.btn, (t.eis.entries, t.eis.mask, t.eis.gateIn, t.eis.wakeGate, t.eis.wakeV), (t.pwr.coCause, t.pwr.coCount, t.pwr.coEntry, t.pwr.coStart), (t.upd.gid, t.upd.release), t.spi.irqEn, (t.flt.last, t.flt.lastAddr)⟩ :=
  { h.1 with
    ok := fun k => (by have := h.1.ok k; simp only [Store.Ok, store] at this ⊢; simp_all) }
/-- A write to one memory, trl. -/
theorem Good.fold_trl {W : Group → Prop} {r t : State} {m : Mem} (h : Good W r t) (w : memWf 0 t.trl.sess.buf = true → memWf 0 m = true) :
    Keeps W (store r) ⟨t.pending, t.hw, t.lcs.otp, t.lcs.held, t.clr.mem, t.fls.bank0, t.fls.bank1, t.stg.buf, t.spi.sess.buf, m, t.fls.buf, t.cry.buf, t.sram, t.powered, t.orIn, t.wake, (t.sys.coldCause, t.adc.irqEn, t.adc.routes, t.adc.timers, t.eis.deepF0, t.eis.deepF1, t.eis.deepPpd, t.eis.deepAmpl, t.eis.deepPair, t.flt.c2win, t.lcs.data, t.lcs.weak, t.spi.privIgn, t.trl.endA, t.trl.endB, t.trl.tmRank, t.upd.atLo, t.upd.atHi, t.clr.notes, t.clr.uncorr, t.clr.incomplete, t.clr.fallback, t.fls.previous), (t.now, t.bk.drawCount, t.bk.drawE, t.bk.drawLongest, t.bk.load, t.bk.short, t.bk.surgeCount, t.bk.surgeLongest, t.bk.trnCount, t.bk.vCask, t.bk.violD, t.bk.violS), (t.clr.errors, t.clr.errAddr), (t.crystal, t.xtalLost), (t.stg.digest, t.stg.reason, t.stg.rCordon, t.stg.rTrim, t.stg.rOffset), (t.stg.foreign, t.stg.imgPtr, t.stg.tLo, t.stg.tHi), (t.stg.applied, t.stg.trimsIn, t.sys.warmCount, t.sys.warmDuration), (t.trl.locked, t.trl.master, t.trl.rank, t.trl.hops, t.trl.follow, t.trl.good, t.trl.lostAt), t.trl.addr, (t.wdg.expiries, t.wdg.lastCount, t.wdg.lastResult), (t.wdg.q, t.wdg.opensAt, t.wdg.frac), (t.lcs.state, t.spi.privEn), t.lcs.arm, t.fls.op, t.cry.rng, (t.adc.diagChan, t.adc.diagConv), t.adc.failed, t.eis.btn, (t.eis.entries, t.eis.mask, t.eis.gateIn, t.eis.wakeGate, t.eis.wakeV), (t.pwr.coCause, t.pwr.coCount, t.pwr.coEntry, t.pwr.coStart), (t.upd.gid, t.upd.release), t.spi.irqEn, (t.flt.last, t.flt.lastAddr)⟩ :=
  { h.1 with
    ok := fun k => (by have := h.1.ok k; simp only [Store.Ok, store] at this ⊢; simp_all) }
/-- A write to one memory, fls. -/
theorem Good.fold_fls {W : Group → Prop} {r t : State} {m : Mem} (h : Good W r t) (g : W .page) (w : memWf 0 t.fls.buf = true → memWf 0 m = true) :
    Keeps W (store r) ⟨t.pending, t.hw, t.lcs.otp, t.lcs.held, t.clr.mem, t.fls.bank0, t.fls.bank1, t.stg.buf, t.spi.sess.buf, t.trl.sess.buf, m, t.cry.buf, t.sram, t.powered, t.orIn, t.wake, (t.sys.coldCause, t.adc.irqEn, t.adc.routes, t.adc.timers, t.eis.deepF0, t.eis.deepF1, t.eis.deepPpd, t.eis.deepAmpl, t.eis.deepPair, t.flt.c2win, t.lcs.data, t.lcs.weak, t.spi.privIgn, t.trl.endA, t.trl.endB, t.trl.tmRank, t.upd.atLo, t.upd.atHi, t.clr.notes, t.clr.uncorr, t.clr.incomplete, t.clr.fallback, t.fls.previous), (t.now, t.bk.drawCount, t.bk.drawE, t.bk.drawLongest, t.bk.load, t.bk.short, t.bk.surgeCount, t.bk.surgeLongest, t.bk.trnCount, t.bk.vCask, t.bk.violD, t.bk.violS), (t.clr.errors, t.clr.errAddr), (t.crystal, t.xtalLost), (t.stg.digest, t.stg.reason, t.stg.rCordon, t.stg.rTrim, t.stg.rOffset), (t.stg.foreign, t.stg.imgPtr, t.stg.tLo, t.stg.tHi), (t.stg.applied, t.stg.trimsIn, t.sys.warmCount, t.sys.warmDuration), (t.trl.locked, t.trl.master, t.trl.rank, t.trl.hops, t.trl.follow, t.trl.good, t.trl.lostAt), t.trl.addr, (t.wdg.expiries, t.wdg.lastCount, t.wdg.lastResult), (t.wdg.q, t.wdg.opensAt, t.wdg.frac), (t.lcs.state, t.spi.privEn), t.lcs.arm, t.fls.op, t.cry.rng, (t.adc.diagChan, t.adc.diagConv), t.adc.failed, t.eis.btn, (t.eis.entries, t.eis.mask, t.eis.gateIn, t.eis.wakeGate, t.eis.wakeV), (t.pwr.coCause, t.pwr.coCount, t.pwr.coEntry, t.pwr.coStart), (t.upd.gid, t.upd.release), t.spi.irqEn, (t.flt.last, t.flt.lastAddr)⟩ :=
  { h.1 with
    ok := fun k => (by have := h.1.ok k; simp only [Store.Ok, store] at this ⊢; simp_all)
    page := fun k => absurd g k }
/-- A write to one memory, cry. -/
theorem Good.fold_cry {W : Group → Prop} {r t : State} {m : Mem} (h : Good W r t) (w : memWf 0 t.cry.buf = true → memWf 0 m = true) :
    Keeps W (store r) ⟨t.pending, t.hw, t.lcs.otp, t.lcs.held, t.clr.mem, t.fls.bank0, t.fls.bank1, t.stg.buf, t.spi.sess.buf, t.trl.sess.buf, t.fls.buf, m, t.sram, t.powered, t.orIn, t.wake, (t.sys.coldCause, t.adc.irqEn, t.adc.routes, t.adc.timers, t.eis.deepF0, t.eis.deepF1, t.eis.deepPpd, t.eis.deepAmpl, t.eis.deepPair, t.flt.c2win, t.lcs.data, t.lcs.weak, t.spi.privIgn, t.trl.endA, t.trl.endB, t.trl.tmRank, t.upd.atLo, t.upd.atHi, t.clr.notes, t.clr.uncorr, t.clr.incomplete, t.clr.fallback, t.fls.previous), (t.now, t.bk.drawCount, t.bk.drawE, t.bk.drawLongest, t.bk.load, t.bk.short, t.bk.surgeCount, t.bk.surgeLongest, t.bk.trnCount, t.bk.vCask, t.bk.violD, t.bk.violS), (t.clr.errors, t.clr.errAddr), (t.crystal, t.xtalLost), (t.stg.digest, t.stg.reason, t.stg.rCordon, t.stg.rTrim, t.stg.rOffset), (t.stg.foreign, t.stg.imgPtr, t.stg.tLo, t.stg.tHi), (t.stg.applied, t.stg.trimsIn, t.sys.warmCount, t.sys.warmDuration), (t.trl.locked, t.trl.master, t.trl.rank, t.trl.hops, t.trl.follow, t.trl.good, t.trl.lostAt), t.trl.addr, (t.wdg.expiries, t.wdg.lastCount, t.wdg.lastResult), (t.wdg.q, t.wdg.opensAt, t.wdg.frac), (t.lcs.state, t.spi.privEn), t.lcs.arm, t.fls.op, t.cry.rng, (t.adc.diagChan, t.adc.diagConv), t.adc.failed, t.eis.btn, (t.eis.entries, t.eis.mask, t.eis.gateIn, t.eis.wakeGate, t.eis.wakeV), (t.pwr.coCause, t.pwr.coCount, t.pwr.coEntry, t.pwr.coStart), (t.upd.gid, t.upd.release), t.spi.irqEn, (t.flt.last, t.flt.lastAddr)⟩ :=
  { h.1 with
    ok := fun k => (by have := h.1.ok k; simp only [Store.Ok, store] at this ⊢; simp_all) }
/-- A write to one memory, sram. -/
theorem Good.fold_sram {W : Group → Prop} {r t : State} {m : Mem} (h : Good W r t) (w : memWf 0 t.sram = true → memWf 0 m = true) :
    Keeps W (store r) ⟨t.pending, t.hw, t.lcs.otp, t.lcs.held, t.clr.mem, t.fls.bank0, t.fls.bank1, t.stg.buf, t.spi.sess.buf, t.trl.sess.buf, t.fls.buf, t.cry.buf, m, t.powered, t.orIn, t.wake, (t.sys.coldCause, t.adc.irqEn, t.adc.routes, t.adc.timers, t.eis.deepF0, t.eis.deepF1, t.eis.deepPpd, t.eis.deepAmpl, t.eis.deepPair, t.flt.c2win, t.lcs.data, t.lcs.weak, t.spi.privIgn, t.trl.endA, t.trl.endB, t.trl.tmRank, t.upd.atLo, t.upd.atHi, t.clr.notes, t.clr.uncorr, t.clr.incomplete, t.clr.fallback, t.fls.previous), (t.now, t.bk.drawCount, t.bk.drawE, t.bk.drawLongest, t.bk.load, t.bk.short, t.bk.surgeCount, t.bk.surgeLongest, t.bk.trnCount, t.bk.vCask, t.bk.violD, t.bk.violS), (t.clr.errors, t.clr.errAddr), (t.crystal, t.xtalLost), (t.stg.digest, t.stg.reason, t.stg.rCordon, t.stg.rTrim, t.stg.rOffset), (t.stg.foreign, t.stg.imgPtr, t.stg.tLo, t.stg.tHi), (t.stg.applied, t.stg.trimsIn, t.sys.warmCount, t.sys.warmDuration), (t.trl.locked, t.trl.master, t.trl.rank, t.trl.hops, t.trl.follow, t.trl.good, t.trl.lostAt), t.trl.addr, (t.wdg.expiries, t.wdg.lastCount, t.wdg.lastResult), (t.wdg.q, t.wdg.opensAt, t.wdg.frac), (t.lcs.state, t.spi.privEn), t.lcs.arm, t.fls.op, t.cry.rng, (t.adc.diagChan, t.adc.diagConv), t.adc.failed, t.eis.btn, (t.eis.entries, t.eis.mask, t.eis.gateIn, t.eis.wakeGate, t.eis.wakeV), (t.pwr.coCause, t.pwr.coCount, t.pwr.coEntry, t.pwr.coStart), (t.upd.gid, t.upd.release), t.spi.irqEn, (t.flt.last, t.flt.lastAddr)⟩ :=
  { h.1 with
    ok := fun k => (by have := h.1.ok k; simp only [Store.Ok, store] at this ⊢; simp_all) }
/-- A write to the group powered. -/
theorem Good.fold_powered {W : Group → Prop} {r t : State} {m} (h : Good W r t) (g : W .powered) :
    Keeps W (store r) ⟨t.pending, t.hw, t.lcs.otp, t.lcs.held, t.clr.mem, t.fls.bank0, t.fls.bank1, t.stg.buf, t.spi.sess.buf, t.trl.sess.buf, t.fls.buf, t.cry.buf, t.sram, m, t.orIn, t.wake, (t.sys.coldCause, t.adc.irqEn, t.adc.routes, t.adc.timers, t.eis.deepF0, t.eis.deepF1, t.eis.deepPpd, t.eis.deepAmpl, t.eis.deepPair, t.flt.c2win, t.lcs.data, t.lcs.weak, t.spi.privIgn, t.trl.endA, t.trl.endB, t.trl.tmRank, t.upd.atLo, t.upd.atHi, t.clr.notes, t.clr.uncorr, t.clr.incomplete, t.clr.fallback, t.fls.previous), (t.now, t.bk.drawCount, t.bk.drawE, t.bk.drawLongest, t.bk.load, t.bk.short, t.bk.surgeCount, t.bk.surgeLongest, t.bk.trnCount, t.bk.vCask, t.bk.violD, t.bk.violS), (t.clr.errors, t.clr.errAddr), (t.crystal, t.xtalLost), (t.stg.digest, t.stg.reason, t.stg.rCordon, t.stg.rTrim, t.stg.rOffset), (t.stg.foreign, t.stg.imgPtr, t.stg.tLo, t.stg.tHi), (t.stg.applied, t.stg.trimsIn, t.sys.warmCount, t.sys.warmDuration), (t.trl.locked, t.trl.master, t.trl.rank, t.trl.hops, t.trl.follow, t.trl.good, t.trl.lostAt), t.trl.addr, (t.wdg.expiries, t.wdg.lastCount, t.wdg.lastResult), (t.wdg.q, t.wdg.opensAt, t.wdg.frac), (t.lcs.state, t.spi.privEn), t.lcs.arm, t.fls.op, t.cry.rng, (t.adc.diagChan, t.adc.diagConv), t.adc.failed, t.eis.btn, (t.eis.entries, t.eis.mask, t.eis.gateIn, t.eis.wakeGate, t.eis.wakeV), (t.pwr.coCause, t.pwr.coCount, t.pwr.coEntry, t.pwr.coStart), (t.upd.gid, t.upd.release), t.spi.irqEn, (t.flt.last, t.flt.lastAddr)⟩ :=
  { h.1 with powered := fun k => absurd g k }
/-- A write to the group inputs. -/
theorem Good.fold_inputs {W : Group → Prop} {r t : State} {m} (h : Good W r t) (g : W .inputs) :
    Keeps W (store r) ⟨t.pending, t.hw, t.lcs.otp, t.lcs.held, t.clr.mem, t.fls.bank0, t.fls.bank1, t.stg.buf, t.spi.sess.buf, t.trl.sess.buf, t.fls.buf, t.cry.buf, t.sram, t.powered, m, t.wake, (t.sys.coldCause, t.adc.irqEn, t.adc.routes, t.adc.timers, t.eis.deepF0, t.eis.deepF1, t.eis.deepPpd, t.eis.deepAmpl, t.eis.deepPair, t.flt.c2win, t.lcs.data, t.lcs.weak, t.spi.privIgn, t.trl.endA, t.trl.endB, t.trl.tmRank, t.upd.atLo, t.upd.atHi, t.clr.notes, t.clr.uncorr, t.clr.incomplete, t.clr.fallback, t.fls.previous), (t.now, t.bk.drawCount, t.bk.drawE, t.bk.drawLongest, t.bk.load, t.bk.short, t.bk.surgeCount, t.bk.surgeLongest, t.bk.trnCount, t.bk.vCask, t.bk.violD, t.bk.violS), (t.clr.errors, t.clr.errAddr), (t.crystal, t.xtalLost), (t.stg.digest, t.stg.reason, t.stg.rCordon, t.stg.rTrim, t.stg.rOffset), (t.stg.foreign, t.stg.imgPtr, t.stg.tLo, t.stg.tHi), (t.stg.applied, t.stg.trimsIn, t.sys.warmCount, t.sys.warmDuration), (t.trl.locked, t.trl.master, t.trl.rank, t.trl.hops, t.trl.follow, t.trl.good, t.trl.lostAt), t.trl.addr, (t.wdg.expiries, t.wdg.lastCount, t.wdg.lastResult), (t.wdg.q, t.wdg.opensAt, t.wdg.frac), (t.lcs.state, t.spi.privEn), t.lcs.arm, t.fls.op, t.cry.rng, (t.adc.diagChan, t.adc.diagConv), t.adc.failed, t.eis.btn, (t.eis.entries, t.eis.mask, t.eis.gateIn, t.eis.wakeGate, t.eis.wakeV), (t.pwr.coCause, t.pwr.coCount, t.pwr.coEntry, t.pwr.coStart), (t.upd.gid, t.upd.release), t.spi.irqEn, (t.flt.last, t.flt.lastAddr)⟩ :=
  { h.1 with inputs := fun k => absurd g k }
/-- A write to the group wakeCause. -/
theorem Good.fold_wakeCause {W : Group → Prop} {r t : State} {m} (h : Good W r t) (g : W .wakeCause) :
    Keeps W (store r) ⟨t.pending, t.hw, t.lcs.otp, t.lcs.held, t.clr.mem, t.fls.bank0, t.fls.bank1, t.stg.buf, t.spi.sess.buf, t.trl.sess.buf, t.fls.buf, t.cry.buf, t.sram, t.powered, t.orIn, m, (t.sys.coldCause, t.adc.irqEn, t.adc.routes, t.adc.timers, t.eis.deepF0, t.eis.deepF1, t.eis.deepPpd, t.eis.deepAmpl, t.eis.deepPair, t.flt.c2win, t.lcs.data, t.lcs.weak, t.spi.privIgn, t.trl.endA, t.trl.endB, t.trl.tmRank, t.upd.atLo, t.upd.atHi, t.clr.notes, t.clr.uncorr, t.clr.incomplete, t.clr.fallback, t.fls.previous), (t.now, t.bk.drawCount, t.bk.drawE, t.bk.drawLongest, t.bk.load, t.bk.short, t.bk.surgeCount, t.bk.surgeLongest, t.bk.trnCount, t.bk.vCask, t.bk.violD, t.bk.violS), (t.clr.errors, t.clr.errAddr), (t.crystal, t.xtalLost), (t.stg.digest, t.stg.reason, t.stg.rCordon, t.stg.rTrim, t.stg.rOffset), (t.stg.foreign, t.stg.imgPtr, t.stg.tLo, t.stg.tHi), (t.stg.applied, t.stg.trimsIn, t.sys.warmCount, t.sys.warmDuration), (t.trl.locked, t.trl.master, t.trl.rank, t.trl.hops, t.trl.follow, t.trl.good, t.trl.lostAt), t.trl.addr, (t.wdg.expiries, t.wdg.lastCount, t.wdg.lastResult), (t.wdg.q, t.wdg.opensAt, t.wdg.frac), (t.lcs.state, t.spi.privEn), t.lcs.arm, t.fls.op, t.cry.rng, (t.adc.diagChan, t.adc.diagConv), t.adc.failed, t.eis.btn, (t.eis.entries, t.eis.mask, t.eis.gateIn, t.eis.wakeGate, t.eis.wakeV), (t.pwr.coCause, t.pwr.coCount, t.pwr.coEntry, t.pwr.coStart), (t.upd.gid, t.upd.release), t.spi.irqEn, (t.flt.last, t.flt.lastAddr)⟩ :=
  { h.1 with wakeCause := fun k => absurd g k }
/-- A write to the group settings. -/
theorem Good.fold_settings {W : Group → Prop} {r t : State} {m} (h : Good W r t) (g : W .settings) :
    Keeps W (store r) ⟨t.pending, t.hw, t.lcs.otp, t.lcs.held, t.clr.mem, t.fls.bank0, t.fls.bank1, t.stg.buf, t.spi.sess.buf, t.trl.sess.buf, t.fls.buf, t.cry.buf, t.sram, t.powered, t.orIn, t.wake, m, (t.now, t.bk.drawCount, t.bk.drawE, t.bk.drawLongest, t.bk.load, t.bk.short, t.bk.surgeCount, t.bk.surgeLongest, t.bk.trnCount, t.bk.vCask, t.bk.violD, t.bk.violS), (t.clr.errors, t.clr.errAddr), (t.crystal, t.xtalLost), (t.stg.digest, t.stg.reason, t.stg.rCordon, t.stg.rTrim, t.stg.rOffset), (t.stg.foreign, t.stg.imgPtr, t.stg.tLo, t.stg.tHi), (t.stg.applied, t.stg.trimsIn, t.sys.warmCount, t.sys.warmDuration), (t.trl.locked, t.trl.master, t.trl.rank, t.trl.hops, t.trl.follow, t.trl.good, t.trl.lostAt), t.trl.addr, (t.wdg.expiries, t.wdg.lastCount, t.wdg.lastResult), (t.wdg.q, t.wdg.opensAt, t.wdg.frac), (t.lcs.state, t.spi.privEn), t.lcs.arm, t.fls.op, t.cry.rng, (t.adc.diagChan, t.adc.diagConv), t.adc.failed, t.eis.btn, (t.eis.entries, t.eis.mask, t.eis.gateIn, t.eis.wakeGate, t.eis.wakeV), (t.pwr.coCause, t.pwr.coCount, t.pwr.coEntry, t.pwr.coStart), (t.upd.gid, t.upd.release), t.spi.irqEn, (t.flt.last, t.flt.lastAddr)⟩ :=
  { h.1 with settings := fun k => absurd g k }
/-- A write to the group clock. -/
theorem Good.fold_clock {W : Group → Prop} {r t : State} {m} (h : Good W r t) (g : W .clock) :
    Keeps W (store r) ⟨t.pending, t.hw, t.lcs.otp, t.lcs.held, t.clr.mem, t.fls.bank0, t.fls.bank1, t.stg.buf, t.spi.sess.buf, t.trl.sess.buf, t.fls.buf, t.cry.buf, t.sram, t.powered, t.orIn, t.wake, (t.sys.coldCause, t.adc.irqEn, t.adc.routes, t.adc.timers, t.eis.deepF0, t.eis.deepF1, t.eis.deepPpd, t.eis.deepAmpl, t.eis.deepPair, t.flt.c2win, t.lcs.data, t.lcs.weak, t.spi.privIgn, t.trl.endA, t.trl.endB, t.trl.tmRank, t.upd.atLo, t.upd.atHi, t.clr.notes, t.clr.uncorr, t.clr.incomplete, t.clr.fallback, t.fls.previous), m, (t.clr.errors, t.clr.errAddr), (t.crystal, t.xtalLost), (t.stg.digest, t.stg.reason, t.stg.rCordon, t.stg.rTrim, t.stg.rOffset), (t.stg.foreign, t.stg.imgPtr, t.stg.tLo, t.stg.tHi), (t.stg.applied, t.stg.trimsIn, t.sys.warmCount, t.sys.warmDuration), (t.trl.locked, t.trl.master, t.trl.rank, t.trl.hops, t.trl.follow, t.trl.good, t.trl.lostAt), t.trl.addr, (t.wdg.expiries, t.wdg.lastCount, t.wdg.lastResult), (t.wdg.q, t.wdg.opensAt, t.wdg.frac), (t.lcs.state, t.spi.privEn), t.lcs.arm, t.fls.op, t.cry.rng, (t.adc.diagChan, t.adc.diagConv), t.adc.failed, t.eis.btn, (t.eis.entries, t.eis.mask, t.eis.gateIn, t.eis.wakeGate, t.eis.wakeV), (t.pwr.coCause, t.pwr.coCount, t.pwr.coEntry, t.pwr.coStart), (t.upd.gid, t.upd.release), t.spi.irqEn, (t.flt.last, t.flt.lastAddr)⟩ :=
  { h.1 with clock := fun k => absurd g k }
/-- A write to the group badWords. -/
theorem Good.fold_badWords {W : Group → Prop} {r t : State} {m} (h : Good W r t) (g : W .badWords) :
    Keeps W (store r) ⟨t.pending, t.hw, t.lcs.otp, t.lcs.held, t.clr.mem, t.fls.bank0, t.fls.bank1, t.stg.buf, t.spi.sess.buf, t.trl.sess.buf, t.fls.buf, t.cry.buf, t.sram, t.powered, t.orIn, t.wake, (t.sys.coldCause, t.adc.irqEn, t.adc.routes, t.adc.timers, t.eis.deepF0, t.eis.deepF1, t.eis.deepPpd, t.eis.deepAmpl, t.eis.deepPair, t.flt.c2win, t.lcs.data, t.lcs.weak, t.spi.privIgn, t.trl.endA, t.trl.endB, t.trl.tmRank, t.upd.atLo, t.upd.atHi, t.clr.notes, t.clr.uncorr, t.clr.incomplete, t.clr.fallback, t.fls.previous), (t.now, t.bk.drawCount, t.bk.drawE, t.bk.drawLongest, t.bk.load, t.bk.short, t.bk.surgeCount, t.bk.surgeLongest, t.bk.trnCount, t.bk.vCask, t.bk.violD, t.bk.violS), m, (t.crystal, t.xtalLost), (t.stg.digest, t.stg.reason, t.stg.rCordon, t.stg.rTrim, t.stg.rOffset), (t.stg.foreign, t.stg.imgPtr, t.stg.tLo, t.stg.tHi), (t.stg.applied, t.stg.trimsIn, t.sys.warmCount, t.sys.warmDuration), (t.trl.locked, t.trl.master, t.trl.rank, t.trl.hops, t.trl.follow, t.trl.good, t.trl.lostAt), t.trl.addr, (t.wdg.expiries, t.wdg.lastCount, t.wdg.lastResult), (t.wdg.q, t.wdg.opensAt, t.wdg.frac), (t.lcs.state, t.spi.privEn), t.lcs.arm, t.fls.op, t.cry.rng, (t.adc.diagChan, t.adc.diagConv), t.adc.failed, t.eis.btn, (t.eis.entries, t.eis.mask, t.eis.gateIn, t.eis.wakeGate, t.eis.wakeV), (t.pwr.coCause, t.pwr.coCount, t.pwr.coEntry, t.pwr.coStart), (t.upd.gid, t.upd.release), t.spi.irqEn, (t.flt.last, t.flt.lastAddr)⟩ :=
  { h.1 with badWords := fun k => absurd g k }
/-- A write to the group crystal. -/
theorem Good.fold_crystal {W : Group → Prop} {r t : State} {m} (h : Good W r t) (g : W .crystal) :
    Keeps W (store r) ⟨t.pending, t.hw, t.lcs.otp, t.lcs.held, t.clr.mem, t.fls.bank0, t.fls.bank1, t.stg.buf, t.spi.sess.buf, t.trl.sess.buf, t.fls.buf, t.cry.buf, t.sram, t.powered, t.orIn, t.wake, (t.sys.coldCause, t.adc.irqEn, t.adc.routes, t.adc.timers, t.eis.deepF0, t.eis.deepF1, t.eis.deepPpd, t.eis.deepAmpl, t.eis.deepPair, t.flt.c2win, t.lcs.data, t.lcs.weak, t.spi.privIgn, t.trl.endA, t.trl.endB, t.trl.tmRank, t.upd.atLo, t.upd.atHi, t.clr.notes, t.clr.uncorr, t.clr.incomplete, t.clr.fallback, t.fls.previous), (t.now, t.bk.drawCount, t.bk.drawE, t.bk.drawLongest, t.bk.load, t.bk.short, t.bk.surgeCount, t.bk.surgeLongest, t.bk.trnCount, t.bk.vCask, t.bk.violD, t.bk.violS), (t.clr.errors, t.clr.errAddr), m, (t.stg.digest, t.stg.reason, t.stg.rCordon, t.stg.rTrim, t.stg.rOffset), (t.stg.foreign, t.stg.imgPtr, t.stg.tLo, t.stg.tHi), (t.stg.applied, t.stg.trimsIn, t.sys.warmCount, t.sys.warmDuration), (t.trl.locked, t.trl.master, t.trl.rank, t.trl.hops, t.trl.follow, t.trl.good, t.trl.lostAt), t.trl.addr, (t.wdg.expiries, t.wdg.lastCount, t.wdg.lastResult), (t.wdg.q, t.wdg.opensAt, t.wdg.frac), (t.lcs.state, t.spi.privEn), t.lcs.arm, t.fls.op, t.cry.rng, (t.adc.diagChan, t.adc.diagConv), t.adc.failed, t.eis.btn, (t.eis.entries, t.eis.mask, t.eis.gateIn, t.eis.wakeGate, t.eis.wakeV), (t.pwr.coCause, t.pwr.coCount, t.pwr.coEntry, t.pwr.coStart), (t.upd.gid, t.upd.release), t.spi.irqEn, (t.flt.last, t.flt.lastAddr)⟩ :=
  { h.1 with crystal := fun k => absurd g k }
/-- A write to the group verdict. -/
theorem Good.fold_verdict {W : Group → Prop} {r t : State} {m} (h : Good W r t) (g : W .verdict) :
    Keeps W (store r) ⟨t.pending, t.hw, t.lcs.otp, t.lcs.held, t.clr.mem, t.fls.bank0, t.fls.bank1, t.stg.buf, t.spi.sess.buf, t.trl.sess.buf, t.fls.buf, t.cry.buf, t.sram, t.powered, t.orIn, t.wake, (t.sys.coldCause, t.adc.irqEn, t.adc.routes, t.adc.timers, t.eis.deepF0, t.eis.deepF1, t.eis.deepPpd, t.eis.deepAmpl, t.eis.deepPair, t.flt.c2win, t.lcs.data, t.lcs.weak, t.spi.privIgn, t.trl.endA, t.trl.endB, t.trl.tmRank, t.upd.atLo, t.upd.atHi, t.clr.notes, t.clr.uncorr, t.clr.incomplete, t.clr.fallback, t.fls.previous), (t.now, t.bk.drawCount, t.bk.drawE, t.bk.drawLongest, t.bk.load, t.bk.short, t.bk.surgeCount, t.bk.surgeLongest, t.bk.trnCount, t.bk.vCask, t.bk.violD, t.bk.violS), (t.clr.errors, t.clr.errAddr), (t.crystal, t.xtalLost), m, (t.stg.foreign, t.stg.imgPtr, t.stg.tLo, t.stg.tHi), (t.stg.applied, t.stg.trimsIn, t.sys.warmCount, t.sys.warmDuration), (t.trl.locked, t.trl.master, t.trl.rank, t.trl.hops, t.trl.follow, t.trl.good, t.trl.lostAt), t.trl.addr, (t.wdg.expiries, t.wdg.lastCount, t.wdg.lastResult), (t.wdg.q, t.wdg.opensAt, t.wdg.frac), (t.lcs.state, t.spi.privEn), t.lcs.arm, t.fls.op, t.cry.rng, (t.adc.diagChan, t.adc.diagConv), t.adc.failed, t.eis.btn, (t.eis.entries, t.eis.mask, t.eis.gateIn, t.eis.wakeGate, t.eis.wakeV), (t.pwr.coCause, t.pwr.coCount, t.pwr.coEntry, t.pwr.coStart), (t.upd.gid, t.upd.release), t.spi.irqEn, (t.flt.last, t.flt.lastAddr)⟩ :=
  { h.1 with verdict := fun k => absurd g k }
/-- A write to the group staged. -/
theorem Good.fold_staged {W : Group → Prop} {r t : State} {m} (h : Good W r t) (g : W .staged) :
    Keeps W (store r) ⟨t.pending, t.hw, t.lcs.otp, t.lcs.held, t.clr.mem, t.fls.bank0, t.fls.bank1, t.stg.buf, t.spi.sess.buf, t.trl.sess.buf, t.fls.buf, t.cry.buf, t.sram, t.powered, t.orIn, t.wake, (t.sys.coldCause, t.adc.irqEn, t.adc.routes, t.adc.timers, t.eis.deepF0, t.eis.deepF1, t.eis.deepPpd, t.eis.deepAmpl, t.eis.deepPair, t.flt.c2win, t.lcs.data, t.lcs.weak, t.spi.privIgn, t.trl.endA, t.trl.endB, t.trl.tmRank, t.upd.atLo, t.upd.atHi, t.clr.notes, t.clr.uncorr, t.clr.incomplete, t.clr.fallback, t.fls.previous), (t.now, t.bk.drawCount, t.bk.drawE, t.bk.drawLongest, t.bk.load, t.bk.short, t.bk.surgeCount, t.bk.surgeLongest, t.bk.trnCount, t.bk.vCask, t.bk.violD, t.bk.violS), (t.clr.errors, t.clr.errAddr), (t.crystal, t.xtalLost), (t.stg.digest, t.stg.reason, t.stg.rCordon, t.stg.rTrim, t.stg.rOffset), m, (t.stg.applied, t.stg.trimsIn, t.sys.warmCount, t.sys.warmDuration), (t.trl.locked, t.trl.master, t.trl.rank, t.trl.hops, t.trl.follow, t.trl.good, t.trl.lostAt), t.trl.addr, (t.wdg.expiries, t.wdg.lastCount, t.wdg.lastResult), (t.wdg.q, t.wdg.opensAt, t.wdg.frac), (t.lcs.state, t.spi.privEn), t.lcs.arm, t.fls.op, t.cry.rng, (t.adc.diagChan, t.adc.diagConv), t.adc.failed, t.eis.btn, (t.eis.entries, t.eis.mask, t.eis.gateIn, t.eis.wakeGate, t.eis.wakeV), (t.pwr.coCause, t.pwr.coCount, t.pwr.coEntry, t.pwr.coStart), (t.upd.gid, t.upd.release), t.spi.irqEn, (t.flt.last, t.flt.lastAddr)⟩ :=
  { h.1 with staged := fun k => absurd g k }
/-- A write to the group applied. -/
theorem Good.fold_applied {W : Group → Prop} {r t : State} {m} (h : Good W r t) (g : W .applied) :
    Keeps W (store r) ⟨t.pending, t.hw, t.lcs.otp, t.lcs.held, t.clr.mem, t.fls.bank0, t.fls.bank1, t.stg.buf, t.spi.sess.buf, t.trl.sess.buf, t.fls.buf, t.cry.buf, t.sram, t.powered, t.orIn, t.wake, (t.sys.coldCause, t.adc.irqEn, t.adc.routes, t.adc.timers, t.eis.deepF0, t.eis.deepF1, t.eis.deepPpd, t.eis.deepAmpl, t.eis.deepPair, t.flt.c2win, t.lcs.data, t.lcs.weak, t.spi.privIgn, t.trl.endA, t.trl.endB, t.trl.tmRank, t.upd.atLo, t.upd.atHi, t.clr.notes, t.clr.uncorr, t.clr.incomplete, t.clr.fallback, t.fls.previous), (t.now, t.bk.drawCount, t.bk.drawE, t.bk.drawLongest, t.bk.load, t.bk.short, t.bk.surgeCount, t.bk.surgeLongest, t.bk.trnCount, t.bk.vCask, t.bk.violD, t.bk.violS), (t.clr.errors, t.clr.errAddr), (t.crystal, t.xtalLost), (t.stg.digest, t.stg.reason, t.stg.rCordon, t.stg.rTrim, t.stg.rOffset), (t.stg.foreign, t.stg.imgPtr, t.stg.tLo, t.stg.tHi), m, (t.trl.locked, t.trl.master, t.trl.rank, t.trl.hops, t.trl.follow, t.trl.good, t.trl.lostAt), t.trl.addr, (t.wdg.expiries, t.wdg.lastCount, t.wdg.lastResult), (t.wdg.q, t.wdg.opensAt, t.wdg.frac), (t.lcs.state, t.spi.privEn), t.lcs.arm, t.fls.op, t.cry.rng, (t.adc.diagChan, t.adc.diagConv), t.adc.failed, t.eis.btn, (t.eis.entries, t.eis.mask, t.eis.gateIn, t.eis.wakeGate, t.eis.wakeV), (t.pwr.coCause, t.pwr.coCount, t.pwr.coEntry, t.pwr.coStart), (t.upd.gid, t.upd.release), t.spi.irqEn, (t.flt.last, t.flt.lastAddr)⟩ :=
  { h.1 with applied := fun k => absurd g k }
/-- A write to the group timing. -/
theorem Good.fold_timing {W : Group → Prop} {r t : State} {m} (h : Good W r t) (g : W .timing) :
    Keeps W (store r) ⟨t.pending, t.hw, t.lcs.otp, t.lcs.held, t.clr.mem, t.fls.bank0, t.fls.bank1, t.stg.buf, t.spi.sess.buf, t.trl.sess.buf, t.fls.buf, t.cry.buf, t.sram, t.powered, t.orIn, t.wake, (t.sys.coldCause, t.adc.irqEn, t.adc.routes, t.adc.timers, t.eis.deepF0, t.eis.deepF1, t.eis.deepPpd, t.eis.deepAmpl, t.eis.deepPair, t.flt.c2win, t.lcs.data, t.lcs.weak, t.spi.privIgn, t.trl.endA, t.trl.endB, t.trl.tmRank, t.upd.atLo, t.upd.atHi, t.clr.notes, t.clr.uncorr, t.clr.incomplete, t.clr.fallback, t.fls.previous), (t.now, t.bk.drawCount, t.bk.drawE, t.bk.drawLongest, t.bk.load, t.bk.short, t.bk.surgeCount, t.bk.surgeLongest, t.bk.trnCount, t.bk.vCask, t.bk.violD, t.bk.violS), (t.clr.errors, t.clr.errAddr), (t.crystal, t.xtalLost), (t.stg.digest, t.stg.reason, t.stg.rCordon, t.stg.rTrim, t.stg.rOffset), (t.stg.foreign, t.stg.imgPtr, t.stg.tLo, t.stg.tHi), (t.stg.applied, t.stg.trimsIn, t.sys.warmCount, t.sys.warmDuration), m, t.trl.addr, (t.wdg.expiries, t.wdg.lastCount, t.wdg.lastResult), (t.wdg.q, t.wdg.opensAt, t.wdg.frac), (t.lcs.state, t.spi.privEn), t.lcs.arm, t.fls.op, t.cry.rng, (t.adc.diagChan, t.adc.diagConv), t.adc.failed, t.eis.btn, (t.eis.entries, t.eis.mask, t.eis.gateIn, t.eis.wakeGate, t.eis.wakeV), (t.pwr.coCause, t.pwr.coCount, t.pwr.coEntry, t.pwr.coStart), (t.upd.gid, t.upd.release), t.spi.irqEn, (t.flt.last, t.flt.lastAddr)⟩ :=
  { h.1 with timing := fun k => absurd g k }
/-- A write to the group address. -/
theorem Good.fold_address {W : Group → Prop} {r t : State} {m} (h : Good W r t) (g : W .address) :
    Keeps W (store r) ⟨t.pending, t.hw, t.lcs.otp, t.lcs.held, t.clr.mem, t.fls.bank0, t.fls.bank1, t.stg.buf, t.spi.sess.buf, t.trl.sess.buf, t.fls.buf, t.cry.buf, t.sram, t.powered, t.orIn, t.wake, (t.sys.coldCause, t.adc.irqEn, t.adc.routes, t.adc.timers, t.eis.deepF0, t.eis.deepF1, t.eis.deepPpd, t.eis.deepAmpl, t.eis.deepPair, t.flt.c2win, t.lcs.data, t.lcs.weak, t.spi.privIgn, t.trl.endA, t.trl.endB, t.trl.tmRank, t.upd.atLo, t.upd.atHi, t.clr.notes, t.clr.uncorr, t.clr.incomplete, t.clr.fallback, t.fls.previous), (t.now, t.bk.drawCount, t.bk.drawE, t.bk.drawLongest, t.bk.load, t.bk.short, t.bk.surgeCount, t.bk.surgeLongest, t.bk.trnCount, t.bk.vCask, t.bk.violD, t.bk.violS), (t.clr.errors, t.clr.errAddr), (t.crystal, t.xtalLost), (t.stg.digest, t.stg.reason, t.stg.rCordon, t.stg.rTrim, t.stg.rOffset), (t.stg.foreign, t.stg.imgPtr, t.stg.tLo, t.stg.tHi), (t.stg.applied, t.stg.trimsIn, t.sys.warmCount, t.sys.warmDuration), (t.trl.locked, t.trl.master, t.trl.rank, t.trl.hops, t.trl.follow, t.trl.good, t.trl.lostAt), m, (t.wdg.expiries, t.wdg.lastCount, t.wdg.lastResult), (t.wdg.q, t.wdg.opensAt, t.wdg.frac), (t.lcs.state, t.spi.privEn), t.lcs.arm, t.fls.op, t.cry.rng, (t.adc.diagChan, t.adc.diagConv), t.adc.failed, t.eis.btn, (t.eis.entries, t.eis.mask, t.eis.gateIn, t.eis.wakeGate, t.eis.wakeV), (t.pwr.coCause, t.pwr.coCount, t.pwr.coEntry, t.pwr.coStart), (t.upd.gid, t.upd.release), t.spi.irqEn, (t.flt.last, t.flt.lastAddr)⟩ :=
  { h.1 with address := fun k => absurd g k }
/-- A write to the group expiry. -/
theorem Good.fold_expiry {W : Group → Prop} {r t : State} {m} (h : Good W r t) (g : W .expiry) :
    Keeps W (store r) ⟨t.pending, t.hw, t.lcs.otp, t.lcs.held, t.clr.mem, t.fls.bank0, t.fls.bank1, t.stg.buf, t.spi.sess.buf, t.trl.sess.buf, t.fls.buf, t.cry.buf, t.sram, t.powered, t.orIn, t.wake, (t.sys.coldCause, t.adc.irqEn, t.adc.routes, t.adc.timers, t.eis.deepF0, t.eis.deepF1, t.eis.deepPpd, t.eis.deepAmpl, t.eis.deepPair, t.flt.c2win, t.lcs.data, t.lcs.weak, t.spi.privIgn, t.trl.endA, t.trl.endB, t.trl.tmRank, t.upd.atLo, t.upd.atHi, t.clr.notes, t.clr.uncorr, t.clr.incomplete, t.clr.fallback, t.fls.previous), (t.now, t.bk.drawCount, t.bk.drawE, t.bk.drawLongest, t.bk.load, t.bk.short, t.bk.surgeCount, t.bk.surgeLongest, t.bk.trnCount, t.bk.vCask, t.bk.violD, t.bk.violS), (t.clr.errors, t.clr.errAddr), (t.crystal, t.xtalLost), (t.stg.digest, t.stg.reason, t.stg.rCordon, t.stg.rTrim, t.stg.rOffset), (t.stg.foreign, t.stg.imgPtr, t.stg.tLo, t.stg.tHi), (t.stg.applied, t.stg.trimsIn, t.sys.warmCount, t.sys.warmDuration), (t.trl.locked, t.trl.master, t.trl.rank, t.trl.hops, t.trl.follow, t.trl.good, t.trl.lostAt), t.trl.addr, m, (t.wdg.q, t.wdg.opensAt, t.wdg.frac), (t.lcs.state, t.spi.privEn), t.lcs.arm, t.fls.op, t.cry.rng, (t.adc.diagChan, t.adc.diagConv), t.adc.failed, t.eis.btn, (t.eis.entries, t.eis.mask, t.eis.gateIn, t.eis.wakeGate, t.eis.wakeV), (t.pwr.coCause, t.pwr.coCount, t.pwr.coEntry, t.pwr.coStart), (t.upd.gid, t.upd.release), t.spi.irqEn, (t.flt.last, t.flt.lastAddr)⟩ :=
  { h.1 with expiry := fun k => absurd g k }
/-- A write to the group question. -/
theorem Good.fold_question {W : Group → Prop} {r t : State} {m} (h : Good W r t) (g : W .question) :
    Keeps W (store r) ⟨t.pending, t.hw, t.lcs.otp, t.lcs.held, t.clr.mem, t.fls.bank0, t.fls.bank1, t.stg.buf, t.spi.sess.buf, t.trl.sess.buf, t.fls.buf, t.cry.buf, t.sram, t.powered, t.orIn, t.wake, (t.sys.coldCause, t.adc.irqEn, t.adc.routes, t.adc.timers, t.eis.deepF0, t.eis.deepF1, t.eis.deepPpd, t.eis.deepAmpl, t.eis.deepPair, t.flt.c2win, t.lcs.data, t.lcs.weak, t.spi.privIgn, t.trl.endA, t.trl.endB, t.trl.tmRank, t.upd.atLo, t.upd.atHi, t.clr.notes, t.clr.uncorr, t.clr.incomplete, t.clr.fallback, t.fls.previous), (t.now, t.bk.drawCount, t.bk.drawE, t.bk.drawLongest, t.bk.load, t.bk.short, t.bk.surgeCount, t.bk.surgeLongest, t.bk.trnCount, t.bk.vCask, t.bk.violD, t.bk.violS), (t.clr.errors, t.clr.errAddr), (t.crystal, t.xtalLost), (t.stg.digest, t.stg.reason, t.stg.rCordon, t.stg.rTrim, t.stg.rOffset), (t.stg.foreign, t.stg.imgPtr, t.stg.tLo, t.stg.tHi), (t.stg.applied, t.stg.trimsIn, t.sys.warmCount, t.sys.warmDuration), (t.trl.locked, t.trl.master, t.trl.rank, t.trl.hops, t.trl.follow, t.trl.good, t.trl.lostAt), t.trl.addr, (t.wdg.expiries, t.wdg.lastCount, t.wdg.lastResult), m, (t.lcs.state, t.spi.privEn), t.lcs.arm, t.fls.op, t.cry.rng, (t.adc.diagChan, t.adc.diagConv), t.adc.failed, t.eis.btn, (t.eis.entries, t.eis.mask, t.eis.gateIn, t.eis.wakeGate, t.eis.wakeV), (t.pwr.coCause, t.pwr.coCount, t.pwr.coEntry, t.pwr.coStart), (t.upd.gid, t.upd.release), t.spi.irqEn, (t.flt.last, t.flt.lastAddr)⟩ :=
  { h.1 with question := fun k => absurd g k }
/-- A write to the group life. -/
theorem Good.fold_life {W : Group → Prop} {r t : State} {m} (h : Good W r t) (g : W .life) :
    Keeps W (store r) ⟨t.pending, t.hw, t.lcs.otp, t.lcs.held, t.clr.mem, t.fls.bank0, t.fls.bank1, t.stg.buf, t.spi.sess.buf, t.trl.sess.buf, t.fls.buf, t.cry.buf, t.sram, t.powered, t.orIn, t.wake, (t.sys.coldCause, t.adc.irqEn, t.adc.routes, t.adc.timers, t.eis.deepF0, t.eis.deepF1, t.eis.deepPpd, t.eis.deepAmpl, t.eis.deepPair, t.flt.c2win, t.lcs.data, t.lcs.weak, t.spi.privIgn, t.trl.endA, t.trl.endB, t.trl.tmRank, t.upd.atLo, t.upd.atHi, t.clr.notes, t.clr.uncorr, t.clr.incomplete, t.clr.fallback, t.fls.previous), (t.now, t.bk.drawCount, t.bk.drawE, t.bk.drawLongest, t.bk.load, t.bk.short, t.bk.surgeCount, t.bk.surgeLongest, t.bk.trnCount, t.bk.vCask, t.bk.violD, t.bk.violS), (t.clr.errors, t.clr.errAddr), (t.crystal, t.xtalLost), (t.stg.digest, t.stg.reason, t.stg.rCordon, t.stg.rTrim, t.stg.rOffset), (t.stg.foreign, t.stg.imgPtr, t.stg.tLo, t.stg.tHi), (t.stg.applied, t.stg.trimsIn, t.sys.warmCount, t.sys.warmDuration), (t.trl.locked, t.trl.master, t.trl.rank, t.trl.hops, t.trl.follow, t.trl.good, t.trl.lostAt), t.trl.addr, (t.wdg.expiries, t.wdg.lastCount, t.wdg.lastResult), (t.wdg.q, t.wdg.opensAt, t.wdg.frac), m, t.lcs.arm, t.fls.op, t.cry.rng, (t.adc.diagChan, t.adc.diagConv), t.adc.failed, t.eis.btn, (t.eis.entries, t.eis.mask, t.eis.gateIn, t.eis.wakeGate, t.eis.wakeV), (t.pwr.coCause, t.pwr.coCount, t.pwr.coEntry, t.pwr.coStart), (t.upd.gid, t.upd.release), t.spi.irqEn, (t.flt.last, t.flt.lastAddr)⟩ :=
  { h.1 with life := fun k => absurd g k }
/-- A write to the group arming. -/
theorem Good.fold_arming {W : Group → Prop} {r t : State} {m} (h : Good W r t) (g : W .arming) :
    Keeps W (store r) ⟨t.pending, t.hw, t.lcs.otp, t.lcs.held, t.clr.mem, t.fls.bank0, t.fls.bank1, t.stg.buf, t.spi.sess.buf, t.trl.sess.buf, t.fls.buf, t.cry.buf, t.sram, t.powered, t.orIn, t.wake, (t.sys.coldCause, t.adc.irqEn, t.adc.routes, t.adc.timers, t.eis.deepF0, t.eis.deepF1, t.eis.deepPpd, t.eis.deepAmpl, t.eis.deepPair, t.flt.c2win, t.lcs.data, t.lcs.weak, t.spi.privIgn, t.trl.endA, t.trl.endB, t.trl.tmRank, t.upd.atLo, t.upd.atHi, t.clr.notes, t.clr.uncorr, t.clr.incomplete, t.clr.fallback, t.fls.previous), (t.now, t.bk.drawCount, t.bk.drawE, t.bk.drawLongest, t.bk.load, t.bk.short, t.bk.surgeCount, t.bk.surgeLongest, t.bk.trnCount, t.bk.vCask, t.bk.violD, t.bk.violS), (t.clr.errors, t.clr.errAddr), (t.crystal, t.xtalLost), (t.stg.digest, t.stg.reason, t.stg.rCordon, t.stg.rTrim, t.stg.rOffset), (t.stg.foreign, t.stg.imgPtr, t.stg.tLo, t.stg.tHi), (t.stg.applied, t.stg.trimsIn, t.sys.warmCount, t.sys.warmDuration), (t.trl.locked, t.trl.master, t.trl.rank, t.trl.hops, t.trl.follow, t.trl.good, t.trl.lostAt), t.trl.addr, (t.wdg.expiries, t.wdg.lastCount, t.wdg.lastResult), (t.wdg.q, t.wdg.opensAt, t.wdg.frac), (t.lcs.state, t.spi.privEn), m, t.fls.op, t.cry.rng, (t.adc.diagChan, t.adc.diagConv), t.adc.failed, t.eis.btn, (t.eis.entries, t.eis.mask, t.eis.gateIn, t.eis.wakeGate, t.eis.wakeV), (t.pwr.coCause, t.pwr.coCount, t.pwr.coEntry, t.pwr.coStart), (t.upd.gid, t.upd.release), t.spi.irqEn, (t.flt.last, t.flt.lastAddr)⟩ :=
  { h.1 with arming := fun k => absurd g k }
/-- A write to the group flashOp. -/
theorem Good.fold_flashOp {W : Group → Prop} {r t : State} {m} (h : Good W r t) (g : W .flashOp) :
    Keeps W (store r) ⟨t.pending, t.hw, t.lcs.otp, t.lcs.held, t.clr.mem, t.fls.bank0, t.fls.bank1, t.stg.buf, t.spi.sess.buf, t.trl.sess.buf, t.fls.buf, t.cry.buf, t.sram, t.powered, t.orIn, t.wake, (t.sys.coldCause, t.adc.irqEn, t.adc.routes, t.adc.timers, t.eis.deepF0, t.eis.deepF1, t.eis.deepPpd, t.eis.deepAmpl, t.eis.deepPair, t.flt.c2win, t.lcs.data, t.lcs.weak, t.spi.privIgn, t.trl.endA, t.trl.endB, t.trl.tmRank, t.upd.atLo, t.upd.atHi, t.clr.notes, t.clr.uncorr, t.clr.incomplete, t.clr.fallback, t.fls.previous), (t.now, t.bk.drawCount, t.bk.drawE, t.bk.drawLongest, t.bk.load, t.bk.short, t.bk.surgeCount, t.bk.surgeLongest, t.bk.trnCount, t.bk.vCask, t.bk.violD, t.bk.violS), (t.clr.errors, t.clr.errAddr), (t.crystal, t.xtalLost), (t.stg.digest, t.stg.reason, t.stg.rCordon, t.stg.rTrim, t.stg.rOffset), (t.stg.foreign, t.stg.imgPtr, t.stg.tLo, t.stg.tHi), (t.stg.applied, t.stg.trimsIn, t.sys.warmCount, t.sys.warmDuration), (t.trl.locked, t.trl.master, t.trl.rank, t.trl.hops, t.trl.follow, t.trl.good, t.trl.lostAt), t.trl.addr, (t.wdg.expiries, t.wdg.lastCount, t.wdg.lastResult), (t.wdg.q, t.wdg.opensAt, t.wdg.frac), (t.lcs.state, t.spi.privEn), t.lcs.arm, m, t.cry.rng, (t.adc.diagChan, t.adc.diagConv), t.adc.failed, t.eis.btn, (t.eis.entries, t.eis.mask, t.eis.gateIn, t.eis.wakeGate, t.eis.wakeV), (t.pwr.coCause, t.pwr.coCount, t.pwr.coEntry, t.pwr.coStart), (t.upd.gid, t.upd.release), t.spi.irqEn, (t.flt.last, t.flt.lastAddr)⟩ :=
  { h.1 with flashOp := fun k => absurd g k }
/-- A write to the group rng. -/
theorem Good.fold_rng {W : Group → Prop} {r t : State} {m} (h : Good W r t) (g : W .rng) :
    Keeps W (store r) ⟨t.pending, t.hw, t.lcs.otp, t.lcs.held, t.clr.mem, t.fls.bank0, t.fls.bank1, t.stg.buf, t.spi.sess.buf, t.trl.sess.buf, t.fls.buf, t.cry.buf, t.sram, t.powered, t.orIn, t.wake, (t.sys.coldCause, t.adc.irqEn, t.adc.routes, t.adc.timers, t.eis.deepF0, t.eis.deepF1, t.eis.deepPpd, t.eis.deepAmpl, t.eis.deepPair, t.flt.c2win, t.lcs.data, t.lcs.weak, t.spi.privIgn, t.trl.endA, t.trl.endB, t.trl.tmRank, t.upd.atLo, t.upd.atHi, t.clr.notes, t.clr.uncorr, t.clr.incomplete, t.clr.fallback, t.fls.previous), (t.now, t.bk.drawCount, t.bk.drawE, t.bk.drawLongest, t.bk.load, t.bk.short, t.bk.surgeCount, t.bk.surgeLongest, t.bk.trnCount, t.bk.vCask, t.bk.violD, t.bk.violS), (t.clr.errors, t.clr.errAddr), (t.crystal, t.xtalLost), (t.stg.digest, t.stg.reason, t.stg.rCordon, t.stg.rTrim, t.stg.rOffset), (t.stg.foreign, t.stg.imgPtr, t.stg.tLo, t.stg.tHi), (t.stg.applied, t.stg.trimsIn, t.sys.warmCount, t.sys.warmDuration), (t.trl.locked, t.trl.master, t.trl.rank, t.trl.hops, t.trl.follow, t.trl.good, t.trl.lostAt), t.trl.addr, (t.wdg.expiries, t.wdg.lastCount, t.wdg.lastResult), (t.wdg.q, t.wdg.opensAt, t.wdg.frac), (t.lcs.state, t.spi.privEn), t.lcs.arm, t.fls.op, m, (t.adc.diagChan, t.adc.diagConv), t.adc.failed, t.eis.btn, (t.eis.entries, t.eis.mask, t.eis.gateIn, t.eis.wakeGate, t.eis.wakeV), (t.pwr.coCause, t.pwr.coCount, t.pwr.coEntry, t.pwr.coStart), (t.upd.gid, t.upd.release), t.spi.irqEn, (t.flt.last, t.flt.lastAddr)⟩ :=
  { h.1 with rng := fun k => absurd g k }
/-- A write to the group diag. -/
theorem Good.fold_diag {W : Group → Prop} {r t : State} {m} (h : Good W r t) (g : W .diag) :
    Keeps W (store r) ⟨t.pending, t.hw, t.lcs.otp, t.lcs.held, t.clr.mem, t.fls.bank0, t.fls.bank1, t.stg.buf, t.spi.sess.buf, t.trl.sess.buf, t.fls.buf, t.cry.buf, t.sram, t.powered, t.orIn, t.wake, (t.sys.coldCause, t.adc.irqEn, t.adc.routes, t.adc.timers, t.eis.deepF0, t.eis.deepF1, t.eis.deepPpd, t.eis.deepAmpl, t.eis.deepPair, t.flt.c2win, t.lcs.data, t.lcs.weak, t.spi.privIgn, t.trl.endA, t.trl.endB, t.trl.tmRank, t.upd.atLo, t.upd.atHi, t.clr.notes, t.clr.uncorr, t.clr.incomplete, t.clr.fallback, t.fls.previous), (t.now, t.bk.drawCount, t.bk.drawE, t.bk.drawLongest, t.bk.load, t.bk.short, t.bk.surgeCount, t.bk.surgeLongest, t.bk.trnCount, t.bk.vCask, t.bk.violD, t.bk.violS), (t.clr.errors, t.clr.errAddr), (t.crystal, t.xtalLost), (t.stg.digest, t.stg.reason, t.stg.rCordon, t.stg.rTrim, t.stg.rOffset), (t.stg.foreign, t.stg.imgPtr, t.stg.tLo, t.stg.tHi), (t.stg.applied, t.stg.trimsIn, t.sys.warmCount, t.sys.warmDuration), (t.trl.locked, t.trl.master, t.trl.rank, t.trl.hops, t.trl.follow, t.trl.good, t.trl.lostAt), t.trl.addr, (t.wdg.expiries, t.wdg.lastCount, t.wdg.lastResult), (t.wdg.q, t.wdg.opensAt, t.wdg.frac), (t.lcs.state, t.spi.privEn), t.lcs.arm, t.fls.op, t.cry.rng, m, t.adc.failed, t.eis.btn, (t.eis.entries, t.eis.mask, t.eis.gateIn, t.eis.wakeGate, t.eis.wakeV), (t.pwr.coCause, t.pwr.coCount, t.pwr.coEntry, t.pwr.coStart), (t.upd.gid, t.upd.release), t.spi.irqEn, (t.flt.last, t.flt.lastAddr)⟩ :=
  { h.1 with diag := fun k => absurd g k }
/-- A write to the group failed. -/
theorem Good.fold_failed {W : Group → Prop} {r t : State} {m} (h : Good W r t) (g : W .failed) :
    Keeps W (store r) ⟨t.pending, t.hw, t.lcs.otp, t.lcs.held, t.clr.mem, t.fls.bank0, t.fls.bank1, t.stg.buf, t.spi.sess.buf, t.trl.sess.buf, t.fls.buf, t.cry.buf, t.sram, t.powered, t.orIn, t.wake, (t.sys.coldCause, t.adc.irqEn, t.adc.routes, t.adc.timers, t.eis.deepF0, t.eis.deepF1, t.eis.deepPpd, t.eis.deepAmpl, t.eis.deepPair, t.flt.c2win, t.lcs.data, t.lcs.weak, t.spi.privIgn, t.trl.endA, t.trl.endB, t.trl.tmRank, t.upd.atLo, t.upd.atHi, t.clr.notes, t.clr.uncorr, t.clr.incomplete, t.clr.fallback, t.fls.previous), (t.now, t.bk.drawCount, t.bk.drawE, t.bk.drawLongest, t.bk.load, t.bk.short, t.bk.surgeCount, t.bk.surgeLongest, t.bk.trnCount, t.bk.vCask, t.bk.violD, t.bk.violS), (t.clr.errors, t.clr.errAddr), (t.crystal, t.xtalLost), (t.stg.digest, t.stg.reason, t.stg.rCordon, t.stg.rTrim, t.stg.rOffset), (t.stg.foreign, t.stg.imgPtr, t.stg.tLo, t.stg.tHi), (t.stg.applied, t.stg.trimsIn, t.sys.warmCount, t.sys.warmDuration), (t.trl.locked, t.trl.master, t.trl.rank, t.trl.hops, t.trl.follow, t.trl.good, t.trl.lostAt), t.trl.addr, (t.wdg.expiries, t.wdg.lastCount, t.wdg.lastResult), (t.wdg.q, t.wdg.opensAt, t.wdg.frac), (t.lcs.state, t.spi.privEn), t.lcs.arm, t.fls.op, t.cry.rng, (t.adc.diagChan, t.adc.diagConv), m, t.eis.btn, (t.eis.entries, t.eis.mask, t.eis.gateIn, t.eis.wakeGate, t.eis.wakeV), (t.pwr.coCause, t.pwr.coCount, t.pwr.coEntry, t.pwr.coStart), (t.upd.gid, t.upd.release), t.spi.irqEn, (t.flt.last, t.flt.lastAddr)⟩ :=
  { h.1 with failed := fun k => absurd g k }
/-- A write to the group button. -/
theorem Good.fold_button {W : Group → Prop} {r t : State} {m} (h : Good W r t) (g : W .button) :
    Keeps W (store r) ⟨t.pending, t.hw, t.lcs.otp, t.lcs.held, t.clr.mem, t.fls.bank0, t.fls.bank1, t.stg.buf, t.spi.sess.buf, t.trl.sess.buf, t.fls.buf, t.cry.buf, t.sram, t.powered, t.orIn, t.wake, (t.sys.coldCause, t.adc.irqEn, t.adc.routes, t.adc.timers, t.eis.deepF0, t.eis.deepF1, t.eis.deepPpd, t.eis.deepAmpl, t.eis.deepPair, t.flt.c2win, t.lcs.data, t.lcs.weak, t.spi.privIgn, t.trl.endA, t.trl.endB, t.trl.tmRank, t.upd.atLo, t.upd.atHi, t.clr.notes, t.clr.uncorr, t.clr.incomplete, t.clr.fallback, t.fls.previous), (t.now, t.bk.drawCount, t.bk.drawE, t.bk.drawLongest, t.bk.load, t.bk.short, t.bk.surgeCount, t.bk.surgeLongest, t.bk.trnCount, t.bk.vCask, t.bk.violD, t.bk.violS), (t.clr.errors, t.clr.errAddr), (t.crystal, t.xtalLost), (t.stg.digest, t.stg.reason, t.stg.rCordon, t.stg.rTrim, t.stg.rOffset), (t.stg.foreign, t.stg.imgPtr, t.stg.tLo, t.stg.tHi), (t.stg.applied, t.stg.trimsIn, t.sys.warmCount, t.sys.warmDuration), (t.trl.locked, t.trl.master, t.trl.rank, t.trl.hops, t.trl.follow, t.trl.good, t.trl.lostAt), t.trl.addr, (t.wdg.expiries, t.wdg.lastCount, t.wdg.lastResult), (t.wdg.q, t.wdg.opensAt, t.wdg.frac), (t.lcs.state, t.spi.privEn), t.lcs.arm, t.fls.op, t.cry.rng, (t.adc.diagChan, t.adc.diagConv), t.adc.failed, m, (t.eis.entries, t.eis.mask, t.eis.gateIn, t.eis.wakeGate, t.eis.wakeV), (t.pwr.coCause, t.pwr.coCount, t.pwr.coEntry, t.pwr.coStart), (t.upd.gid, t.upd.release), t.spi.irqEn, (t.flt.last, t.flt.lastAddr)⟩ :=
  { h.1 with button := fun k => absurd g k }
/-- A write to the group ship. -/
theorem Good.fold_ship {W : Group → Prop} {r t : State} {m} (h : Good W r t) (g : W .ship) :
    Keeps W (store r) ⟨t.pending, t.hw, t.lcs.otp, t.lcs.held, t.clr.mem, t.fls.bank0, t.fls.bank1, t.stg.buf, t.spi.sess.buf, t.trl.sess.buf, t.fls.buf, t.cry.buf, t.sram, t.powered, t.orIn, t.wake, (t.sys.coldCause, t.adc.irqEn, t.adc.routes, t.adc.timers, t.eis.deepF0, t.eis.deepF1, t.eis.deepPpd, t.eis.deepAmpl, t.eis.deepPair, t.flt.c2win, t.lcs.data, t.lcs.weak, t.spi.privIgn, t.trl.endA, t.trl.endB, t.trl.tmRank, t.upd.atLo, t.upd.atHi, t.clr.notes, t.clr.uncorr, t.clr.incomplete, t.clr.fallback, t.fls.previous), (t.now, t.bk.drawCount, t.bk.drawE, t.bk.drawLongest, t.bk.load, t.bk.short, t.bk.surgeCount, t.bk.surgeLongest, t.bk.trnCount, t.bk.vCask, t.bk.violD, t.bk.violS), (t.clr.errors, t.clr.errAddr), (t.crystal, t.xtalLost), (t.stg.digest, t.stg.reason, t.stg.rCordon, t.stg.rTrim, t.stg.rOffset), (t.stg.foreign, t.stg.imgPtr, t.stg.tLo, t.stg.tHi), (t.stg.applied, t.stg.trimsIn, t.sys.warmCount, t.sys.warmDuration), (t.trl.locked, t.trl.master, t.trl.rank, t.trl.hops, t.trl.follow, t.trl.good, t.trl.lostAt), t.trl.addr, (t.wdg.expiries, t.wdg.lastCount, t.wdg.lastResult), (t.wdg.q, t.wdg.opensAt, t.wdg.frac), (t.lcs.state, t.spi.privEn), t.lcs.arm, t.fls.op, t.cry.rng, (t.adc.diagChan, t.adc.diagConv), t.adc.failed, t.eis.btn, m, (t.pwr.coCause, t.pwr.coCount, t.pwr.coEntry, t.pwr.coStart), (t.upd.gid, t.upd.release), t.spi.irqEn, (t.flt.last, t.flt.lastAddr)⟩ :=
  { h.1 with ship := fun k => absurd g k }
/-- A write to the group changeover. -/
theorem Good.fold_changeover {W : Group → Prop} {r t : State} {m} (h : Good W r t) (g : W .changeover) :
    Keeps W (store r) ⟨t.pending, t.hw, t.lcs.otp, t.lcs.held, t.clr.mem, t.fls.bank0, t.fls.bank1, t.stg.buf, t.spi.sess.buf, t.trl.sess.buf, t.fls.buf, t.cry.buf, t.sram, t.powered, t.orIn, t.wake, (t.sys.coldCause, t.adc.irqEn, t.adc.routes, t.adc.timers, t.eis.deepF0, t.eis.deepF1, t.eis.deepPpd, t.eis.deepAmpl, t.eis.deepPair, t.flt.c2win, t.lcs.data, t.lcs.weak, t.spi.privIgn, t.trl.endA, t.trl.endB, t.trl.tmRank, t.upd.atLo, t.upd.atHi, t.clr.notes, t.clr.uncorr, t.clr.incomplete, t.clr.fallback, t.fls.previous), (t.now, t.bk.drawCount, t.bk.drawE, t.bk.drawLongest, t.bk.load, t.bk.short, t.bk.surgeCount, t.bk.surgeLongest, t.bk.trnCount, t.bk.vCask, t.bk.violD, t.bk.violS), (t.clr.errors, t.clr.errAddr), (t.crystal, t.xtalLost), (t.stg.digest, t.stg.reason, t.stg.rCordon, t.stg.rTrim, t.stg.rOffset), (t.stg.foreign, t.stg.imgPtr, t.stg.tLo, t.stg.tHi), (t.stg.applied, t.stg.trimsIn, t.sys.warmCount, t.sys.warmDuration), (t.trl.locked, t.trl.master, t.trl.rank, t.trl.hops, t.trl.follow, t.trl.good, t.trl.lostAt), t.trl.addr, (t.wdg.expiries, t.wdg.lastCount, t.wdg.lastResult), (t.wdg.q, t.wdg.opensAt, t.wdg.frac), (t.lcs.state, t.spi.privEn), t.lcs.arm, t.fls.op, t.cry.rng, (t.adc.diagChan, t.adc.diagConv), t.adc.failed, t.eis.btn, (t.eis.entries, t.eis.mask, t.eis.gateIn, t.eis.wakeGate, t.eis.wakeV), m, (t.upd.gid, t.upd.release), t.spi.irqEn, (t.flt.last, t.flt.lastAddr)⟩ :=
  { h.1 with changeover := fun k => absurd g k }
/-- A write to the group graft. -/
theorem Good.fold_graft {W : Group → Prop} {r t : State} {m} (h : Good W r t) (g : W .graft) :
    Keeps W (store r) ⟨t.pending, t.hw, t.lcs.otp, t.lcs.held, t.clr.mem, t.fls.bank0, t.fls.bank1, t.stg.buf, t.spi.sess.buf, t.trl.sess.buf, t.fls.buf, t.cry.buf, t.sram, t.powered, t.orIn, t.wake, (t.sys.coldCause, t.adc.irqEn, t.adc.routes, t.adc.timers, t.eis.deepF0, t.eis.deepF1, t.eis.deepPpd, t.eis.deepAmpl, t.eis.deepPair, t.flt.c2win, t.lcs.data, t.lcs.weak, t.spi.privIgn, t.trl.endA, t.trl.endB, t.trl.tmRank, t.upd.atLo, t.upd.atHi, t.clr.notes, t.clr.uncorr, t.clr.incomplete, t.clr.fallback, t.fls.previous), (t.now, t.bk.drawCount, t.bk.drawE, t.bk.drawLongest, t.bk.load, t.bk.short, t.bk.surgeCount, t.bk.surgeLongest, t.bk.trnCount, t.bk.vCask, t.bk.violD, t.bk.violS), (t.clr.errors, t.clr.errAddr), (t.crystal, t.xtalLost), (t.stg.digest, t.stg.reason, t.stg.rCordon, t.stg.rTrim, t.stg.rOffset), (t.stg.foreign, t.stg.imgPtr, t.stg.tLo, t.stg.tHi), (t.stg.applied, t.stg.trimsIn, t.sys.warmCount, t.sys.warmDuration), (t.trl.locked, t.trl.master, t.trl.rank, t.trl.hops, t.trl.follow, t.trl.good, t.trl.lostAt), t.trl.addr, (t.wdg.expiries, t.wdg.lastCount, t.wdg.lastResult), (t.wdg.q, t.wdg.opensAt, t.wdg.frac), (t.lcs.state, t.spi.privEn), t.lcs.arm, t.fls.op, t.cry.rng, (t.adc.diagChan, t.adc.diagConv), t.adc.failed, t.eis.btn, (t.eis.entries, t.eis.mask, t.eis.gateIn, t.eis.wakeGate, t.eis.wakeV), (t.pwr.coCause, t.pwr.coCount, t.pwr.coEntry, t.pwr.coStart), m, t.spi.irqEn, (t.flt.last, t.flt.lastAddr)⟩ :=
  { h.1 with graft := fun k => absurd g k }
/-- A write to the group irq. -/
theorem Good.fold_irq {W : Group → Prop} {r t : State} {m} (h : Good W r t) (g : W .irq) :
    Keeps W (store r) ⟨t.pending, t.hw, t.lcs.otp, t.lcs.held, t.clr.mem, t.fls.bank0, t.fls.bank1, t.stg.buf, t.spi.sess.buf, t.trl.sess.buf, t.fls.buf, t.cry.buf, t.sram, t.powered, t.orIn, t.wake, (t.sys.coldCause, t.adc.irqEn, t.adc.routes, t.adc.timers, t.eis.deepF0, t.eis.deepF1, t.eis.deepPpd, t.eis.deepAmpl, t.eis.deepPair, t.flt.c2win, t.lcs.data, t.lcs.weak, t.spi.privIgn, t.trl.endA, t.trl.endB, t.trl.tmRank, t.upd.atLo, t.upd.atHi, t.clr.notes, t.clr.uncorr, t.clr.incomplete, t.clr.fallback, t.fls.previous), (t.now, t.bk.drawCount, t.bk.drawE, t.bk.drawLongest, t.bk.load, t.bk.short, t.bk.surgeCount, t.bk.surgeLongest, t.bk.trnCount, t.bk.vCask, t.bk.violD, t.bk.violS), (t.clr.errors, t.clr.errAddr), (t.crystal, t.xtalLost), (t.stg.digest, t.stg.reason, t.stg.rCordon, t.stg.rTrim, t.stg.rOffset), (t.stg.foreign, t.stg.imgPtr, t.stg.tLo, t.stg.tHi), (t.stg.applied, t.stg.trimsIn, t.sys.warmCount, t.sys.warmDuration), (t.trl.locked, t.trl.master, t.trl.rank, t.trl.hops, t.trl.follow, t.trl.good, t.trl.lostAt), t.trl.addr, (t.wdg.expiries, t.wdg.lastCount, t.wdg.lastResult), (t.wdg.q, t.wdg.opensAt, t.wdg.frac), (t.lcs.state, t.spi.privEn), t.lcs.arm, t.fls.op, t.cry.rng, (t.adc.diagChan, t.adc.diagConv), t.adc.failed, t.eis.btn, (t.eis.entries, t.eis.mask, t.eis.gateIn, t.eis.wakeGate, t.eis.wakeV), (t.pwr.coCause, t.pwr.coCount, t.pwr.coEntry, t.pwr.coStart), (t.upd.gid, t.upd.release), m, (t.flt.last, t.flt.lastAddr)⟩ :=
  { h.1 with irq := fun k => absurd g k }
/-- A write to the group lastEvent. -/
theorem Good.fold_lastEvent {W : Group → Prop} {r t : State} {m} (h : Good W r t) (g : W .lastEvent) :
    Keeps W (store r) ⟨t.pending, t.hw, t.lcs.otp, t.lcs.held, t.clr.mem, t.fls.bank0, t.fls.bank1, t.stg.buf, t.spi.sess.buf, t.trl.sess.buf, t.fls.buf, t.cry.buf, t.sram, t.powered, t.orIn, t.wake, (t.sys.coldCause, t.adc.irqEn, t.adc.routes, t.adc.timers, t.eis.deepF0, t.eis.deepF1, t.eis.deepPpd, t.eis.deepAmpl, t.eis.deepPair, t.flt.c2win, t.lcs.data, t.lcs.weak, t.spi.privIgn, t.trl.endA, t.trl.endB, t.trl.tmRank, t.upd.atLo, t.upd.atHi, t.clr.notes, t.clr.uncorr, t.clr.incomplete, t.clr.fallback, t.fls.previous), (t.now, t.bk.drawCount, t.bk.drawE, t.bk.drawLongest, t.bk.load, t.bk.short, t.bk.surgeCount, t.bk.surgeLongest, t.bk.trnCount, t.bk.vCask, t.bk.violD, t.bk.violS), (t.clr.errors, t.clr.errAddr), (t.crystal, t.xtalLost), (t.stg.digest, t.stg.reason, t.stg.rCordon, t.stg.rTrim, t.stg.rOffset), (t.stg.foreign, t.stg.imgPtr, t.stg.tLo, t.stg.tHi), (t.stg.applied, t.stg.trimsIn, t.sys.warmCount, t.sys.warmDuration), (t.trl.locked, t.trl.master, t.trl.rank, t.trl.hops, t.trl.follow, t.trl.good, t.trl.lostAt), t.trl.addr, (t.wdg.expiries, t.wdg.lastCount, t.wdg.lastResult), (t.wdg.q, t.wdg.opensAt, t.wdg.frac), (t.lcs.state, t.spi.privEn), t.lcs.arm, t.fls.op, t.cry.rng, (t.adc.diagChan, t.adc.diagConv), t.adc.failed, t.eis.btn, (t.eis.entries, t.eis.mask, t.eis.gateIn, t.eis.wakeGate, t.eis.wakeV), (t.pwr.coCause, t.pwr.coCount, t.pwr.coEntry, t.pwr.coStart), (t.upd.gid, t.upd.release), t.spi.irqEn, m⟩ :=
  { h.1 with lastEvent := fun k => absurd g k }
/-- A write to the one-time programmable array that clears no bit. -/
theorem Good.fold_otp {W : Group → Prop} {r t : State} {m n : Mem} (h : Good W r t) (g : W .otp) (b : BitsKept t.lcs.otp m)
    (w : memWf 0 t.lcs.otp = true → memWf 0 m = true) (v : memWf 0 t.lcs.otp = true → memWf 0 t.lcs.held = true → memWf 0 n = true) :
    Keeps W (store r) ⟨t.pending, t.hw, m, n, t.clr.mem, t.fls.bank0, t.fls.bank1, t.stg.buf, t.spi.sess.buf, t.trl.sess.buf, t.fls.buf, t.cry.buf, t.sram, t.powered, t.orIn, t.wake, (t.sys.coldCause, t.adc.irqEn, t.adc.routes, t.adc.timers, t.eis.deepF0, t.eis.deepF1, t.eis.deepPpd, t.eis.deepAmpl, t.eis.deepPair, t.flt.c2win, t.lcs.data, t.lcs.weak, t.spi.privIgn, t.trl.endA, t.trl.endB, t.trl.tmRank, t.upd.atLo, t.upd.atHi, t.clr.notes, t.clr.uncorr, t.clr.incomplete, t.clr.fallback, t.fls.previous), (t.now, t.bk.drawCount, t.bk.drawE, t.bk.drawLongest, t.bk.load, t.bk.short, t.bk.surgeCount, t.bk.surgeLongest, t.bk.trnCount, t.bk.vCask, t.bk.violD, t.bk.violS), (t.clr.errors, t.clr.errAddr), (t.crystal, t.xtalLost), (t.stg.digest, t.stg.reason, t.stg.rCordon, t.stg.rTrim, t.stg.rOffset), (t.stg.foreign, t.stg.imgPtr, t.stg.tLo, t.stg.tHi), (t.stg.applied, t.stg.trimsIn, t.sys.warmCount, t.sys.warmDuration), (t.trl.locked, t.trl.master, t.trl.rank, t.trl.hops, t.trl.follow, t.trl.good, t.trl.lostAt), t.trl.addr, (t.wdg.expiries, t.wdg.lastCount, t.wdg.lastResult), (t.wdg.q, t.wdg.opensAt, t.wdg.frac), (t.lcs.state, t.spi.privEn), t.lcs.arm, t.fls.op, t.cry.rng, (t.adc.diagChan, t.adc.diagConv), t.adc.failed, t.eis.btn, (t.eis.entries, t.eis.mask, t.eis.gateIn, t.eis.wakeGate, t.eis.wakeV), (t.pwr.coCause, t.pwr.coCount, t.pwr.coEntry, t.pwr.coStart), (t.upd.gid, t.upd.release), t.spi.irqEn, (t.flt.last, t.flt.lastAddr)⟩ :=
  { h.1 with
    bits := bitsKept_trans h.1.bits b
    otp := fun k => absurd g k
    ok := fun k => (by have := h.1.ok k; simp only [Store.Ok, store] at this ⊢; simp_all) }
/-- Any change, part by part: each part is the same or its group is allowed. -/
theorem Good.gen {W : Group → Prop} {r t : State} {v : Store} (h : Good W r t) (h1 : v.pending = t.pending) (h2 : v.hw = t.hw)
    (h3 : v.otp = t.lcs.otp) (h4 : (store t).Ok → v.Ok) (a1 : W .cellar ∨ v.mem = t.clr.mem)
    (a2 : W .flash ∨ v.bank0 = t.fls.bank0 ∧ v.bank1 = t.fls.bank1) (a4 : W .image ∨ v.stg = t.stg.buf) (a5 : W .page ∨ v.fls = t.fls.buf)
    (b0 : W .powered ∨ v.powered = t.powered)
    (b1 : W .inputs ∨ v.inputs = t.orIn)
    (b2 : W .wakeCause ∨ v.wakeCause = t.wake)
    (b3 : W .settings ∨ v.settings = (t.sys.coldCause, t.adc.irqEn, t.adc.routes, t.adc.timers, t.eis.deepF0, t.eis.deepF1, t.eis.deepPpd, t.eis.deepAmpl, t.eis.deepPair, t.flt.c2win, t.lcs.data, t.lcs.weak, t.spi.privIgn, t.trl.endA, t.trl.endB, t.trl.tmRank, t.upd.atLo, t.upd.atHi, t.clr.notes, t.clr.uncorr, t.clr.incomplete, t.clr.fallback, t.fls.previous))
    (b4 : W .clock ∨ v.clock = (t.now, t.bk.drawCount, t.bk.drawE, t.bk.drawLongest, t.bk.load, t.bk.short, t.bk.surgeCount, t.bk.surgeLongest, t.bk.trnCount, t.bk.vCask, t.bk.violD, t.bk.violS))
    (b5 : W .badWords ∨ v.badWords = (t.clr.errors, t.clr.errAddr))
    (b6 : W .crystal ∨ v.crystal = (t.crystal, t.xtalLost))
    (b7 : W .verdict ∨ v.verdict = (t.stg.digest, t.stg.reason, t.stg.rCordon, t.stg.rTrim, t.stg.rOffset))
    (b8 : W .staged ∨ v.staged = (t.stg.foreign, t.stg.imgPtr, t.stg.tLo, t.stg.tHi))
    (b9 : W .applied ∨ v.applied = (t.stg.applied, t.stg.trimsIn, t.sys.warmCount, t.sys.warmDuration))
    (b10 : W .timing ∨ v.timing = (t.trl.locked, t.trl.master, t.trl.rank, t.trl.hops, t.trl.follow, t.trl.good, t.trl.lostAt))
    (b11 : W .address ∨ v.address = t.trl.addr)
    (b12 : W .expiry ∨ v.expiry = (t.wdg.expiries, t.wdg.lastCount, t.wdg.lastResult))
    (b13 : W .question ∨ v.question = (t.wdg.q, t.wdg.opensAt, t.wdg.frac))
    (b14 : W .life ∨ v.life = (t.lcs.state, t.spi.privEn))
    (b15 : W .arming ∨ v.arming = t.lcs.arm)
    (b16 : W .flashOp ∨ v.flashOp = t.fls.op)
    (b17 : W .rng ∨ v.rng = t.cry.rng)
    (b18 : W .diag ∨ v.diag = (t.adc.diagChan, t.adc.diagConv))
    (b19 : W .failed ∨ v.failed = t.adc.failed)
    (b20 : W .button ∨ v.button = t.eis.btn)
    (b21 : W .ship ∨ v.ship = (t.eis.entries, t.eis.mask, t.eis.gateIn, t.eis.wakeGate, t.eis.wakeV))
    (b22 : W .changeover ∨ v.changeover = (t.pwr.coCause, t.pwr.coCount, t.pwr.coEntry, t.pwr.coStart))
    (b23 : W .graft ∨ v.graft = (t.upd.gid, t.upd.release))
    (b24 : W .irq ∨ v.irq = t.spi.irqEn)
    (b25 : W .lastEvent ∨ v.lastEvent = (t.flt.last, t.flt.lastAddr))
    : Keeps W (store r) v :=
  { pending := h1.trans h.1.pending, hw := h2.trans h.1.hw, bits := by rw [h3]; exact h.1.bits, ok := h4 ∘ h.1.ok
    cellar := fun k => (a1.resolve_left k).trans (h.1.cellar k)
    flash := fun k => ⟨(a2.resolve_left k).1.trans (h.1.flash k).1, (a2.resolve_left k).2.trans (h.1.flash k).2⟩
    otp := fun k => by rw [h3]; exact h.1.otp k
    image := fun k => (a4.resolve_left k).trans (h.1.image k)
    page := fun k => (a5.resolve_left k).trans (h.1.page k)
    powered := fun k => (b0.resolve_left k).trans (h.1.powered k)
    inputs := fun k => (b1.resolve_left k).trans (h.1.inputs k)
    wakeCause := fun k => (b2.resolve_left k).trans (h.1.wakeCause k)
    settings := fun k => (b3.resolve_left k).trans (h.1.settings k)
    clock := fun k => (b4.resolve_left k).trans (h.1.clock k)
    badWords := fun k => (b5.resolve_left k).trans (h.1.badWords k)
    crystal := fun k => (b6.resolve_left k).trans (h.1.crystal k)
    verdict := fun k => (b7.resolve_left k).trans (h.1.verdict k)
    staged := fun k => (b8.resolve_left k).trans (h.1.staged k)
    applied := fun k => (b9.resolve_left k).trans (h.1.applied k)
    timing := fun k => (b10.resolve_left k).trans (h.1.timing k)
    address := fun k => (b11.resolve_left k).trans (h.1.address k)
    expiry := fun k => (b12.resolve_left k).trans (h.1.expiry k)
    question := fun k => (b13.resolve_left k).trans (h.1.question k)
    life := fun k => (b14.resolve_left k).trans (h.1.life k)
    arming := fun k => (b15.resolve_left k).trans (h.1.arming k)
    flashOp := fun k => (b16.resolve_left k).trans (h.1.flashOp k)
    rng := fun k => (b17.resolve_left k).trans (h.1.rng k)
    diag := fun k => (b18.resolve_left k).trans (h.1.diag k)
    failed := fun k => (b19.resolve_left k).trans (h.1.failed k)
    button := fun k => (b20.resolve_left k).trans (h.1.button k)
    ship := fun k => (b21.resolve_left k).trans (h.1.ship k)
    changeover := fun k => (b22.resolve_left k).trans (h.1.changeover k)
    graft := fun k => (b23.resolve_left k).trans (h.1.graft k)
    irq := fun k => (b24.resolve_left k).trans (h.1.irq k)
    lastEvent := fun k => (b25.resolve_left k).trans (h.1.lastEvent k) }
/-- What two steps keep. -/
theorem Good.trans {W : Group → Prop} {r s t : State} (h : Good W r s) (k : Good W s t) : Good W r t :=
  ⟨{ pending := k.1.pending.trans h.1.pending, hw := k.1.hw.trans h.1.hw, bits := bitsKept_trans h.1.bits k.1.bits, ok := k.1.ok ∘ h.1.ok
     flash := fun w => ⟨(k.1.flash w).1.trans (h.1.flash w).1, (k.1.flash w).2.trans (h.1.flash w).2⟩
     cellar := fun w => (k.1.cellar w).trans (h.1.cellar w)
     otp := fun w => (k.1.otp w).trans (h.1.otp w)
     image := fun w => (k.1.image w).trans (h.1.image w)
     page := fun w => (k.1.page w).trans (h.1.page w)
     powered := fun w => (k.1.powered w).trans (h.1.powered w)
     inputs := fun w => (k.1.inputs w).trans (h.1.inputs w)
     wakeCause := fun w => (k.1.wakeCause w).trans (h.1.wakeCause w)
     settings := fun w => (k.1.settings w).trans (h.1.settings w)
     clock := fun w => (k.1.clock w).trans (h.1.clock w)
     badWords := fun w => (k.1.badWords w).trans (h.1.badWords w)
     crystal := fun w => (k.1.crystal w).trans (h.1.crystal w)
     verdict := fun w => (k.1.verdict w).trans (h.1.verdict w)
     staged := fun w => (k.1.staged w).trans (h.1.staged w)
     applied := fun w => (k.1.applied w).trans (h.1.applied w)
     timing := fun w => (k.1.timing w).trans (h.1.timing w)
     address := fun w => (k.1.address w).trans (h.1.address w)
     expiry := fun w => (k.1.expiry w).trans (h.1.expiry w)
     question := fun w => (k.1.question w).trans (h.1.question w)
     life := fun w => (k.1.life w).trans (h.1.life w)
     arming := fun w => (k.1.arming w).trans (h.1.arming w)
     flashOp := fun w => (k.1.flashOp w).trans (h.1.flashOp w)
     rng := fun w => (k.1.rng w).trans (h.1.rng w)
     diag := fun w => (k.1.diag w).trans (h.1.diag w)
     failed := fun w => (k.1.failed w).trans (h.1.failed w)
     button := fun w => (k.1.button w).trans (h.1.button w)
     ship := fun w => (k.1.ship w).trans (h.1.ship w)
     changeover := fun w => (k.1.changeover w).trans (h.1.changeover w)
     graft := fun w => (k.1.graft w).trans (h.1.graft w)
     irq := fun w => (k.1.irq w).trans (h.1.irq w)
     lastEvent := fun w => (k.1.lastEvent w).trans (h.1.lastEvent w) }⟩
/-- A fold keeps what every step keeps. -/
theorem Good.foldl {W : Group → Prop} {α : Type} {r : State} {f : State → α → State} (l : List α) {s : State} (hf : ∀ t a, Good W r t → Good W r (f t a))
    (h : Good W r s) : Good W r (l.foldl f s) := by
  induction l generalizing s with
  | nil => exact h
  | cons a l ih => exact ih (hf _ _ h)

theorem rngLost_buf (x : Session) : (rngLost x).buf = x.buf := by unfold rngLost; split <;> rfl
theorem endSession9_buf (x : Session) : (endSession9 x).buf = x.buf := by unfold endSession9; split <;> rfl
theorem stgLimp_buf (x : Stg) : (stgLimp x).buf = x.buf := by unfold stgLimp; split <;> rfl
theorem stgEmpty_buf (x : Stg) : (stgEmpty x).buf = x.buf := rfl
theorem trlOff_buf (n : Nat) (t : Trl) : (trlOff n t).sess.buf = t.sess.buf := endSession9_buf _
theorem trlOn_buf (n : Nat) (t : Trl) : (trlOn n t).sess.buf = t.sess.buf := by unfold trlOn; split <;> rfl
theorem Good.fold_stg2 {W : Group → Prop} {r t u : State} {c} (h : Good W r t) (k : Good W r u) (g : W .applied) : Keeps W (store r)
    ⟨t.pending, t.hw, t.lcs.otp, t.lcs.held, t.clr.mem, t.fls.bank0, t.fls.bank1, u.stg.buf, t.spi.sess.buf, t.trl.sess.buf, t.fls.buf, t.cry.buf, t.sram, t.powered, t.orIn, t.wake, (t.sys.coldCause, t.adc.irqEn, t.adc.routes, t.adc.timers, t.eis.deepF0, t.eis.deepF1, t.eis.deepPpd, t.eis.deepAmpl, t.eis.deepPair, t.flt.c2win, t.lcs.data, t.lcs.weak, t.spi.privIgn, t.trl.endA, t.trl.endB, t.trl.tmRank, t.upd.atLo, t.upd.atHi, t.clr.notes, t.clr.uncorr, t.clr.incomplete, t.clr.fallback, t.fls.previous), (t.now, t.bk.drawCount, t.bk.drawE, t.bk.drawLongest, t.bk.load, t.bk.short, t.bk.surgeCount, t.bk.surgeLongest, t.bk.trnCount, t.bk.vCask, t.bk.violD, t.bk.violS), (t.clr.errors, t.clr.errAddr), (t.crystal, t.xtalLost), (u.stg.digest, u.stg.reason, u.stg.rCordon, u.stg.rTrim, u.stg.rOffset), (u.stg.foreign, u.stg.imgPtr, u.stg.tLo, u.stg.tHi), c, (t.trl.locked, t.trl.master, t.trl.rank, t.trl.hops, t.trl.follow, t.trl.good, t.trl.lostAt), t.trl.addr, (t.wdg.expiries, t.wdg.lastCount, t.wdg.lastResult), (t.wdg.q, t.wdg.opensAt, t.wdg.frac), (t.lcs.state, t.spi.privEn), t.lcs.arm, t.fls.op, t.cry.rng, (t.adc.diagChan, t.adc.diagConv), t.adc.failed, t.eis.btn, (t.eis.entries, t.eis.mask, t.eis.gateIn, t.eis.wakeGate, t.eis.wakeV), (t.pwr.coCause, t.pwr.coCount, t.pwr.coEntry, t.pwr.coStart), (t.upd.gid, t.upd.release), t.spi.irqEn, (t.flt.last, t.flt.lastAddr)⟩ :=
  { h.1 with
    ok := fun w => (by have := h.1.ok w; have := k.1.ok w; simp only [Store.Ok, store] at *; simp_all)
    image := k.1.image
    verdict := k.1.verdict
    staged := k.1.staged
    applied := fun w => absurd g w }
/-- A pair fold keeps what every step keeps. -/
theorem Good.foldl_fst {W : Group → Prop} {α β : Type} {r : State} {f : State × β → α → State × β} (l : List α) {p : State × β}
    (hf : ∀ t a, Good W r t.1 → Good W r (f t a).1) (h : Good W r p.1) : Good W r (l.foldl f p).1 := by
  induction l generalizing p with
  | nil => exact h
  | cons a l ih => exact ih (hf _ _ h)
theorem stgRegs_wf (o : Nat) (d : Word) (x : Stg) (w : memWf 0 x.buf = true) : memWf 0 (stgRegs o d x).buf = true := by
  unfold stgRegs; split
  · exact w
  · split <;> first | exact w | (split <;> first | exact memPutWord_wf w | exact w)
theorem Good.ite {W : Group → Prop} {r s t : State} {c : Prop} [Decidable c] (h : Good W r s) (k : Good W r t) : Good W r (if c then s else t) := by
  split
  · exact h
  · exact k
theorem Good.ite_fst {W : Group → Prop} {β : Type} {r : State} {p q : State × β} {c : Prop} [Decidable c] (h : Good W r p.1) (k : Good W r q.1) :
    Good W r (if c then p else q).1 := by
  split
  · exact h
  · exact k
/-- What `trlOff` leaves of the registers the frames name. -/
theorem trlOff_same (n : Nat) (t : Trl) : (trlOff n t).endA = t.endA ∧ (trlOff n t).endB = t.endB ∧ (trlOff n t).tmRank = t.tmRank ∧ (trlOff n t).locked = t.locked ∧ (trlOff n t).master = t.master ∧ (trlOff n t).rank = t.rank ∧ (trlOff n t).hops = t.hops ∧ (trlOff n t).follow = t.follow ∧ (trlOff n t).good = t.good ∧ (trlOff n t).lostAt = t.lostAt ∧ (trlOff n t).addr = t.addr := by
  unfold trlOff; simp
/-- What `trlOn` leaves of the registers the frames name. -/
theorem trlOn_same (n : Nat) (t : Trl) : (trlOn n t).endA = t.endA ∧ (trlOn n t).endB = t.endB ∧ (trlOn n t).tmRank = t.tmRank ∧ (trlOn n t).locked = t.locked ∧ (trlOn n t).master = t.master ∧ (trlOn n t).rank = t.rank ∧ (trlOn n t).hops = t.hops ∧ (trlOn n t).follow = t.follow ∧ (trlOn n t).good = t.good ∧ (trlOn n t).lostAt = t.lostAt ∧ (trlOn n t).addr = t.addr := by
  unfold trlOn; split <;> simp
/-- What `adcStop` leaves of the registers the frames name. -/
theorem adcStop_same (a : AdcBlock) : (adcStop a).irqEn = a.irqEn ∧ (adcStop a).routes = a.routes ∧ (adcStop a).timers = a.timers ∧ (adcStop a).diagChan = a.diagChan ∧ (adcStop a).diagConv = a.diagConv ∧ (adcStop a).failed = a.failed := by
  unfold adcStop; simp
/-- What `stgLimp` leaves of the registers the frames name. -/
theorem stgLimp_same (x : Stg) : (stgLimp x).buf = x.buf ∧ (stgLimp x).digest = x.digest ∧ (stgLimp x).reason = x.reason ∧ (stgLimp x).rCordon = x.rCordon ∧ (stgLimp x).rTrim = x.rTrim ∧ (stgLimp x).rOffset = x.rOffset ∧ (stgLimp x).foreign = x.foreign ∧ (stgLimp x).imgPtr = x.imgPtr ∧ (stgLimp x).tLo = x.tLo ∧ (stgLimp x).tHi = x.tHi ∧ (stgLimp x).applied = x.applied ∧ (stgLimp x).trimsIn = x.trimsIn := by
  unfold stgLimp; split <;> simp
/-- What `addUp` leaves of the registers the frames name. -/
theorem addUp_same (b : Books) : (addUp b).drawCount = b.drawCount ∧ (addUp b).drawE = b.drawE ∧ (addUp b).drawLongest = b.drawLongest ∧ (addUp b).load = b.load ∧ (addUp b).short = b.short ∧ (addUp b).surgeCount = b.surgeCount ∧ (addUp b).surgeLongest = b.surgeLongest ∧ (addUp b).trnCount = b.trnCount ∧ (addUp b).vCask = b.vCask ∧ (addUp b).violD = b.violD ∧ (addUp b).violS = b.violS := by
  unfold addUp; simp
/-- What `periodStart` leaves of the registers the frames name. -/
theorem periodStart_same (n : Nat) (a : AdcBlock) : (periodStart n a).irqEn = a.irqEn ∧ (periodStart n a).routes = a.routes ∧ (periodStart n a).timers = a.timers ∧ (periodStart n a).diagChan = a.diagChan ∧ (periodStart n a).diagConv = a.diagConv := by
  unfold periodStart; simp
/-- What `handover` leaves of the registers the frames name. -/
theorem handover_same (b : Bool) (a : AdcBlock) : (handover b a).irqEn = a.irqEn ∧ (handover b a).routes = a.routes ∧ (handover b a).timers = a.timers ∧ (handover b a).diagChan = a.diagChan ∧ (handover b a).diagConv = a.diagConv := by
  unfold handover; simp
/-- What `sliceFail` leaves of the registers the frames name. -/
theorem sliceFail_same (n : Nat) (a : AdcBlock) : (sliceFail n a).irqEn = a.irqEn ∧ (sliceFail n a).routes = a.routes ∧ (sliceFail n a).timers = a.timers ∧ (sliceFail n a).diagChan = a.diagChan ∧ (sliceFail n a).diagConv = a.diagConv := by
  unfold sliceFail; (repeat' split) <;> simp [periodStart_same]
/-- What `rotate` leaves of the registers the frames name. -/
theorem rotate_same (n d : Nat) (p : Bool) (a : AdcBlock) : ((rotate n d p a).1).irqEn = a.irqEn ∧ ((rotate n d p a).1).routes = a.routes ∧ ((rotate n d p a).1).timers = a.timers ∧ ((rotate n d p a).1).diagChan = a.diagChan ∧ ((rotate n d p a).1).diagConv = a.diagConv := by
  unfold rotate; dsimp only; (repeat' split) <;> simp [periodStart_same, handover_same, sliceFail_same, calibrated]
/-- What `stgRegs` leaves of the registers the frames name. -/
theorem stgRegs_same (n : Nat) (d : Word) (x : Stg) : (stgRegs n d x).digest = x.digest ∧ (stgRegs n d x).reason = x.reason ∧ (stgRegs n d x).rCordon = x.rCordon ∧ (stgRegs n d x).rTrim = x.rTrim ∧ (stgRegs n d x).rOffset = x.rOffset ∧ (stgRegs n d x).applied = x.applied ∧ (stgRegs n d x).trimsIn = x.trimsIn := by
  unfold stgRegs; (repeat' split) <;> simp
/-- A failed slice is noted slice by slice. -/
theorem foldSlices_same (l : List Nat) (p : Nat → Bool) (a : AdcBlock) :
    (l.foldl (fun a k => if p k then a else sliceFail k a) a).irqEn = a.irqEn ∧ (l.foldl (fun a k => if p k then a else sliceFail k a) a).routes = a.routes ∧ (l.foldl (fun a k => if p k then a else sliceFail k a) a).timers = a.timers ∧ (l.foldl (fun a k => if p k then a else sliceFail k a) a).diagChan = a.diagChan ∧ (l.foldl (fun a k => if p k then a else sliceFail k a) a).diagConv = a.diagConv := by
  induction l generalizing a with
  | nil => simp
  | cons k l ih =>
    simp only [List.foldl_cons]
    have := ih (if p k then a else sliceFail k a)
    simp only [this]
    split <;> simp [sliceFail_same]

end Sys2Proof.Laws
end

