-- ==== Sys2Proof/Laws/KeepsBase.lean ====
section
/-! SUPPORT. What the shared operations of Base, Ops and Flags keep: `Good W r` of a state passes to the state
the operation makes, for every `W` that allows the groups the operation writes. -/

open Sys2Proof.Machine

namespace Sys2Proof.Laws
set_option Elab.async false
set_option linter.all false

theorem modCell_good {W : Group → Prop} (a0 : State) (a1 : Nat) (a2 : Cell → Cell) (r : State) (h : Good W r a0) : Good W r (State.modCell a0 a1 a2)
    := by
  unfold State.modCell
  exact Good.ite ⟨h.1⟩ h

theorem modCells_good {W : Group → Prop} (a0 : State) (a1 : List Nat) (a2 : Nat → Cell → Cell) (r : State) (h : Good W r a0) : Good W r
    (State.modCells a0 a1 a2) := by
  unfold State.modCells
  repeat' first
    | with_reducible assumption | with_reducible apply modCell_good
    | (with_reducible apply Good.foldl; intro _ _ _) | intro _
    | with_reducible apply Good.ite | split
    | with_reducible apply Good.fold | (with_reducible apply Good.mk'; try dsimp only)

theorem modCordon_good {W : Group → Prop} (a0 : State) (a1 : Nat) (a2 : Cordon → Cordon) (r : State) (h : Good W r a0) : Good W r (State.modCordon a0
    a1 a2) := ⟨h.1⟩

theorem modSrc_good {W : Group → Prop} (a0 : State) (a1 : Nat) (a2 : Source → Source) (r : State) (h : Good W r a0) : Good W r (State.modSrc a0 a1 a2)
    := ⟨h.1⟩

theorem modChg_good {W : Group → Prop} (a0 : State) (a1 : Nat) (a2 : Chg → Chg) (r : State) (h : Good W r a0) : Good W r (State.modChg a0 a1 a2) :=
    ⟨h.1⟩

theorem modBat_good {W : Group → Prop} (a0 : State) (a1 : Nat) (a2 : Bat → Bat) (r : State) (h : Good W r a0) : Good W r (State.modBat a0 a1 a2) :=
    ⟨h.1⟩

theorem modRun_good {W : Group → Prop} (a0 : State) (a1 : Nat) (a2 : EisRun → EisRun) (r : State) (h : Good W r a0) : Good W r (State.modRun a0 a1 a2)
    := ⟨h.1⟩

theorem modBook_good {W : Group → Prop} (a0 : State) (a1 : Nat) (a2 : Book → Book) (r : State) (h : Good W r a0) : Good W r (State.modBook a0 a1 a2)
    := ⟨h.1⟩

theorem modPeer_good {W : Group → Prop} (a0 : State) (a1 : Nat) (a2 : Peer → Peer) (r : State) (h : Good W r a0) : Good W r (State.modPeer a0 a1 a2)
    := ⟨h.1⟩

theorem modConv_good {W : Group → Prop} (a0 : State) (a1 : Nat) (a2 : Conv → Conv) (r : State) (h : Good W r a0) : Good W r (State.modConv a0 a1 a2)
    := ⟨h.1⟩

theorem modPort_good {W : Group → Prop} (a0 : State) (a1 : TrlPort) (a2 : Port → Port) (r : State) (h : Good W r a0) : Good W r (State.modPort a0 a1
    a2) := by
  unfold State.modPort
  dsimp only
  repeat' first
    | with_reducible assumption
    | intro _ | with_reducible apply Good.ite | split | with_reducible apply Good.fold | with_reducible apply Good.mk'

theorem modAgent_good {W : Group → Prop} (a0 : State) (a1 : Agent) (a2 : AgentRegs → AgentRegs) (r : State) (h : Good W r a0) : Good W r
    (State.modAgent a0 a1 a2) := ⟨h.1⟩

theorem modFsrc_good {W : Group → Prop} (a0 : State) (a1 : Nat) (a2 : FltSrc → FltSrc) (r : State) (h : Good W r a0) : Good W r (State.modFsrc a0 a1
    a2) := ⟨h.1⟩

theorem setBank_good {W : Group → Prop} (s : State) (b : Nat) (m : Mem) (r : State) (h : Good W r s)
    (hm : memWf ff (s.bank b) = true → memWf ff m = true)
    (g : W .flash := by assumption) : Good W r (s.setBank b m) := by
  unfold State.setBank
  unfold State.bank at hm
  split
  · rw [if_pos (by assumption)] at hm; exact Good.mk' (Good.fold_bank0 h g hm)
  · rw [if_neg (by assumption)] at hm; exact Good.mk' (Good.fold_bank1 h g hm)

theorem freeNat_good {W : Group → Prop} (a0 : Nat) (a1 : State) (r : State) (h : Good W r a1) : Good W r (freeNat a0 a1).2 := ⟨h.1⟩

theorem freeWord_good {W : Group → Prop} (a0 : State) (r : State) (h : Good W r a0) : Good W r (freeWord a0).2 := ⟨h.1⟩

theorem queueRecord_good {W : Group → Prop} (a0 : Nat) (a1 : Nat) (a2 : Nat) (a3 : Word) (a4 : Word) (a5 : Bool) (a6 : Bool) (a7 : State) (r : State)
    (h : Good W r a7) : Good W r (queueRecord a0 a1 a2 a3 a4 a5 a6 a7) := by
  unfold queueRecord
  repeat' first
    | with_reducible assumption
    | with_reducible apply Good.ite | exact ⟨h.1⟩

theorem record_good {W : Group → Prop} (a0 : Nat) (a1 : Word) (a2 : State) (r : State) (h : Good W r a2) : Good W r (record a0 a1 a2) := by
  unfold record
  repeat' first
    | with_reducible assumption | with_reducible apply queueRecord_good
    | with_reducible apply Good.ite | exact ⟨h.1⟩

theorem clrPut_good {W : Group → Prop} (a0 : Nat) (a1 : List Byte) (a2 : State) (r : State) (h : Good W r a2) (_ : W .cellar := by assumption) : Good
    W r (clrPut a0 a1 a2) := by
  unfold clrPut
  repeat' first
    | with_reducible assumption
    | (extract_lets +onlyGivenNames z; first
        | (refine (fun (hz : Good W r z) => ?_) ?_; (on_goal 1 => clear_value z); (on_goal 2 => (dsimp -zeta only [z]; clear z)))
        | (refine (fun (hz : Good W r z.1) => ?_) ?_; (on_goal 1 => clear_value z); (on_goal 2 => (dsimp -zeta only [z]; clear z)))
        | (refine (fun (hz : Good W r z.2) => ?_) ?_; (on_goal 1 => clear_value z); (on_goal 2 => (dsimp -zeta only [z]; clear z)))
        | (have _q : Nat := z; clear _q; clear_value z) | (have _q : Bool := z; clear _q; clear_value z)
        | (have _q : Word := z; clear _q; clear_value z) | (have _q : Record := z; clear _q; clear_value z)
        | (try dsimp -zeta only [z]; clear z))
    | with_reducible exact id
    | with_reducible exact fun _ w => w
    | with_reducible exact fun _ _ => memWf_nil _
    | with_reducible exact memPutWord_wf
    | with_reducible exact memWriteList_wf
    | with_reducible exact memErase_wf
    | with_reducible exact memWriteList_wf (memWf_nil _)
    | with_reducible exact stgRegs_wf _ _ _
    | with_reducible exact fun _ => memWf_nil _
    | (with_reducible apply Good.foldl; intro _ _ _)
    | (with_reducible apply Good.foldl_fst; intro _ _ _)
    | intro _
    | with_reducible apply Good.ite
    | with_reducible apply Good.ite_fst
    | split
    | with_reducible apply Good.fold
    | (with_reducible apply Good.mk'; try dsimp only)
    | dsimp only
    | simp only [rngLost_buf, stgLimp_buf, endSession9_buf, trlOff_buf, trlOn_buf, stgEmpty_buf, trlOff_same, trlOn_same, adcStop_same, stgLimp_same]
    | with_reducible apply Good.fold_cry
    | with_reducible apply Good.fold_spi
    | with_reducible apply Good.fold_trl
    | with_reducible apply Good.fold_stg
    | with_reducible apply Good.fold_mem
    | with_reducible apply Good.fold_held
    | with_reducible apply Good.fold_fls
    | with_reducible apply Good.fold_bank0
    | with_reducible apply Good.fold_bank1
    | (with_reducible apply Good.fold_clock)
    | (with_reducible apply Good.fold_badWords)
    | (with_reducible apply Good.fold_crystal)
    | (with_reducible apply Good.fold_verdict)
    | (with_reducible apply Good.fold_staged)
    | (with_reducible apply Good.fold_applied)
    | (with_reducible apply Good.fold_timing)
    | (with_reducible apply Good.fold_address)
    | (with_reducible apply Good.fold_expiry)
    | (with_reducible apply Good.fold_question)
    | (with_reducible apply Good.fold_life)
    | (with_reducible apply Good.fold_arming)
    | (with_reducible apply Good.fold_flashOp)
    | (with_reducible apply Good.fold_rng)
    | (with_reducible apply Good.fold_diag)
    | (with_reducible apply Good.fold_failed)
    | (with_reducible apply Good.fold_button)
    | (with_reducible apply Good.fold_ship)
    | (with_reducible apply Good.fold_changeover)
    | (with_reducible apply Good.fold_graft)
    | (with_reducible apply Good.fold_irq)
    | (with_reducible apply Good.fold_lastEvent)
    | (with_reducible apply Good.fold_powered)
    | (with_reducible apply Good.fold_inputs)
    | (with_reducible apply Good.fold_wakeCause)
    | (with_reducible apply Good.fold_settings)
    | (refine Good.gen (by with_reducible assumption) rfl rfl rfl ?_ ?_ ?_ ?_ ?_ ?_ ?_ ?_ ?_ ?_ ?_ ?_ ?_ ?_ ?_ ?_ ?_ ?_ ?_ ?_ ?_ ?_ ?_ ?_ ?_ ?_ ?_ ?_ ?_ ?_ ?_ <;> first | exact .inl (by assumption) | exact .inr rfl | exact .inr ⟨rfl, rfl⟩ | exact id | skip)


theorem countBad_good {W : Group → Prop} (a0 : List Nat) (a1 : State) (r : State) (h : Good W r a1) (_ : W .badWords := by assumption) : Good W r
    (countBad a0 a1) := by
  unfold countBad
  repeat' first
    | with_reducible assumption
    | (with_reducible apply Good.foldl; intro _ _ _) | intro _
    | with_reducible apply Good.ite | split
    | with_reducible apply Good.fold | (with_reducible apply Good.mk'; try dsimp only) | with_reducible apply Good.fold_badWords

theorem unwrite_good {W : Group → Prop} (a0 : Nat) (a1 : State) (r : State) (h : Good W r a1) (_ : W .cellar := by assumption) : Good W r (unwrite a0
    a1) := by
  induction a0 generalizing a1 with
  | zero => exact h
  | succ n ih =>
    unfold unwrite
    split
    · exact h
    · exact ih _ (Good.mk' (Good.fold_mem h (by assumption) memWriteList_wf))

theorem cutWord_good {W : Group → Prop} (a0 : Nat) (a1 : State) (r : State) (h : Good W r a1) (_ : W .cellar := by assumption) : Good W r (cutWord a0
    a1) := by
  unfold cutWord
  repeat' first
    | with_reducible assumption
    | (extract_lets +onlyGivenNames z; first
        | (refine (fun (hz : Good W r z) => ?_) ?_; (on_goal 1 => clear_value z); (on_goal 2 => (dsimp -zeta only [z]; clear z)))
        | (refine (fun (hz : Good W r z.1) => ?_) ?_; (on_goal 1 => clear_value z); (on_goal 2 => (dsimp -zeta only [z]; clear z)))
        | (refine (fun (hz : Good W r z.2) => ?_) ?_; (on_goal 1 => clear_value z); (on_goal 2 => (dsimp -zeta only [z]; clear z)))
        | (have _q : Nat := z; clear _q; clear_value z) | (have _q : Bool := z; clear _q; clear_value z)
        | (have _q : Word := z; clear _q; clear_value z) | (have _q : Record := z; clear _q; clear_value z)
        | (try dsimp -zeta only [z]; clear z))
    | with_reducible exact id
    | with_reducible exact fun _ w => w
    | with_reducible exact fun _ _ => memWf_nil _
    | with_reducible exact memPutWord_wf
    | with_reducible exact memWriteList_wf
    | with_reducible exact memErase_wf
    | with_reducible exact memWriteList_wf (memWf_nil _)
    | with_reducible exact stgRegs_wf _ _ _
    | with_reducible exact fun _ => memWf_nil _
    | (with_reducible apply Good.foldl; intro _ _ _)
    | (with_reducible apply Good.foldl_fst; intro _ _ _)
    | intro _
    | with_reducible apply Good.ite
    | with_reducible apply Good.ite_fst
    | split
    | with_reducible apply Good.fold
    | (with_reducible apply Good.mk'; try dsimp only)
    | dsimp only
    | simp only [rngLost_buf, stgLimp_buf, endSession9_buf, trlOff_buf, trlOn_buf, stgEmpty_buf, trlOff_same, trlOn_same, adcStop_same, stgLimp_same]
    | with_reducible apply Good.fold_cry
    | with_reducible apply Good.fold_spi
    | with_reducible apply Good.fold_trl
    | with_reducible apply Good.fold_stg
    | with_reducible apply Good.fold_mem
    | with_reducible apply Good.fold_held
    | with_reducible apply Good.fold_fls
    | with_reducible apply Good.fold_bank0
    | with_reducible apply Good.fold_bank1
    | (with_reducible apply Good.fold_clock)
    | (with_reducible apply Good.fold_badWords)
    | (with_reducible apply Good.fold_crystal)
    | (with_reducible apply Good.fold_verdict)
    | (with_reducible apply Good.fold_staged)
    | (with_reducible apply Good.fold_applied)
    | (with_reducible apply Good.fold_timing)
    | (with_reducible apply Good.fold_address)
    | (with_reducible apply Good.fold_expiry)
    | (with_reducible apply Good.fold_question)
    | (with_reducible apply Good.fold_life)
    | (with_reducible apply Good.fold_arming)
    | (with_reducible apply Good.fold_flashOp)
    | (with_reducible apply Good.fold_rng)
    | (with_reducible apply Good.fold_diag)
    | (with_reducible apply Good.fold_failed)
    | (with_reducible apply Good.fold_button)
    | (with_reducible apply Good.fold_ship)
    | (with_reducible apply Good.fold_changeover)
    | (with_reducible apply Good.fold_graft)
    | (with_reducible apply Good.fold_irq)
    | (with_reducible apply Good.fold_lastEvent)
    | (with_reducible apply Good.fold_powered)
    | (with_reducible apply Good.fold_inputs)
    | (with_reducible apply Good.fold_wakeCause)
    | (with_reducible apply Good.fold_settings)


theorem flashCut_good {W : Group → Prop} (a0 : State) (r : State) (h : Good W r a0) (_ : W .flash := by assumption) (_ : W .flashOp := by assumption)
    : Good W r (flashCut a0) := by
  unfold flashCut
  split
  · exact h
  · extract_lets n a t
    have ht : Good W r t := setBank_good _ _ _ _ h memWriteList_wf
    clear_value t
    exact Good.mk' (Good.fold_flashOp ht (by assumption))

theorem blockWrite_good {W : Group → Prop} (a0 : Nat) (a1 : Nat) (a2 : List Byte) (a3 : State) (r : State) (h : Good W r a3) (_ : W .cellar := by
    assumption) : Good W r (blockWrite a0 a1 a2 a3) := by
  unfold blockWrite
  repeat' first
    | with_reducible assumption | with_reducible apply clrPut_good
    | with_reducible apply Good.ite | exact ⟨h.1⟩

theorem lgcWrite_good {W : Group → Prop} (a0 : Image) (a1 : State) (r : State) (h : Good W r a1) (_ : W .cellar := by assumption) : Good W r (lgcWrite
    a0 a1) := by
  unfold lgcWrite
  repeat' first
    | with_reducible assumption | with_reducible apply clrPut_good
    | with_reducible apply Good.ite | exact ⟨h.1⟩

theorem setMode_good {W : Group → Prop} (a0 : Mode) (a1 : State) (r : State) (h : Good W r a1) : Good W r (setMode a0 a1) := by
  unfold setMode
  repeat' first
    | with_reducible assumption | with_reducible apply record_good
    | with_reducible apply Good.ite | exact ⟨h.1⟩

theorem startRise_good {W : Group → Prop} (a0 : State) (r : State) (h : Good W r a0) : Good W r (startRise a0) := by
  unfold startRise
  exact Good.ite h ⟨h.1⟩

theorem gateFollows_good {W : Group → Prop} (a0 : State) (r : State) (h : Good W r a0) : Good W r (gateFollows a0) := by
  unfold gateFollows
  exact Good.ite h ⟨h.1⟩

theorem gateOpens_good {W : Group → Prop} (a0 : State) (r : State) (h : Good W r a0) : Good W r (gateOpens a0) := ⟨h.1⟩

theorem rephase_good {W : Group → Prop} (a0 : Nat) (a1 : State) (r : State) (h : Good W r a1) : Good W r (rephase a0 a1) := by
  unfold rephase
  repeat' first
    | with_reducible assumption | with_reducible apply modCell_good | with_reducible apply modCells_good | with_reducible apply modCordon_good
    | (with_reducible apply Good.foldl; intro _ _ _) | intro _
    | with_reducible apply Good.ite | split
    | with_reducible apply Good.fold | (with_reducible apply Good.mk'; try dsimp only)

theorem takeover_good {W : Group → Prop} (a0 : Nat) (a1 : Nat) (a2 : Nat) (a3 : State) (r : State) (h : Good W r a3) : Good W r (takeover a0 a1 a2 a3)
    := by
  unfold takeover
  repeat' first
    | with_reducible assumption | with_reducible apply modCell_good | with_reducible apply modCordon_good | with_reducible apply freeNat_good
    | (with_reducible apply Good.foldl; intro _ _ _) | intro _
    | with_reducible apply Good.ite | split
    | with_reducible apply Good.fold | (with_reducible apply Good.mk'; try dsimp only)

theorem coverLost_good {W : Group → Prop} (a0 : Nat) (a1 : State) (r : State) (h : Good W r a1) : Good W r (coverLost a0 a1) := by
  unfold coverLost
  repeat' first
    | with_reducible assumption | with_reducible apply takeover_good
    | (with_reducible apply Good.foldl; intro _ _ _) | intro _
    | with_reducible apply Good.ite | split
    | with_reducible apply Good.fold | (with_reducible apply Good.mk'; try dsimp only)

theorem driveCordon_good {W : Group → Prop} (a0 : Nat) (a1 : CellMode) (a2 : ℤ) (a3 : Nat) (a4 : Nat) (a5 : State) (r : State) (h : Good W r a5) :
    Good W r (driveCordon a0 a1 a2 a3 a4 a5) := by
  unfold driveCordon
  repeat' first
    | with_reducible assumption | with_reducible apply modCells_good | with_reducible apply modCordon_good | with_reducible apply rephase_good
    | with_reducible apply coverLost_good
    | with_reducible apply Good.ite | exact ⟨h.1⟩

theorem settleStart_good {W : Group → Prop} (a0 : Nat) (a1 : State) (r : State) (h : Good W r a1) : Good W r (settleStart a0 a1) := by
  unfold settleStart
  repeat' first
    | with_reducible assumption | with_reducible apply modBat_good | with_reducible apply driveCordon_good
    | with_reducible apply Good.ite | exact ⟨h.1⟩

theorem stopCordon_good {W : Group → Prop} (a0 : Nat) (a1 : Nat) (a2 : State) (r : State) (h : Good W r a2) : Good W r (stopCordon a0 a1 a2) := by
  unfold stopCordon
  repeat' first
    | with_reducible assumption | with_reducible apply modCells_good | with_reducible apply modCordon_good | with_reducible apply modSrc_good
    | with_reducible apply modBat_good
    | with_reducible apply Good.ite | exact ⟨h.1⟩

theorem loseCell_good {W : Group → Prop} (a0 : Nat) (a1 : State) (r : State) (h : Good W r a1) : Good W r (loseCell a0 a1) := by
  unfold loseCell
  repeat' first
    | with_reducible assumption | with_reducible apply modCell_good | with_reducible apply modCordon_good | with_reducible apply takeover_good
    | with_reducible apply stopCordon_good
    | with_reducible apply Good.ite | exact ⟨h.1⟩

theorem returnToCordon_good {W : Group → Prop} (a0 : Nat) (a1 : State) (r : State) (h : Good W r a1) : Good W r (returnToCordon a0 a1) := by
  unfold returnToCordon
  repeat' first
    | with_reducible assumption | with_reducible apply modCell_good | with_reducible apply modCells_good | with_reducible apply modCordon_good
    | with_reducible apply coverLost_good
    | with_reducible apply Good.ite | exact ⟨h.1⟩

theorem aliveStop_good {W : Group → Prop} (a0 : Nat) (a1 : State) (r : State) (h : Good W r a1) : Good W r (aliveStop a0 a1) := by
  unfold aliveStop
  exact Good.ite ⟨h.1⟩ h

theorem pushEvent_good {W : Group → Prop} (a0 : Word) (a1 : Word) (a2 : Word) (a3 : State) (r : State) (h : Good W r a3) : Good W r (pushEvent a0 a1
    a2 a3) := ⟨h.1⟩

theorem collect_good {W : Group → Prop} (a0 : Nat) (a1 : Nat) (a2 : Word) (a3 : State) (r : State) (h : Good W r a3) : Good W r (collect a0 a1 a2 a3)
    := by
  unfold collect
  repeat' first
    | with_reducible assumption | with_reducible apply modFsrc_good | with_reducible apply queueRecord_good | with_reducible apply pushEvent_good
    | (extract_lets +onlyGivenNames z; first
        | (refine (fun (hz : Good W r z) => ?_) ?_; (on_goal 1 => clear_value z); (on_goal 2 => (dsimp -zeta only [z]; clear z)))
        | (refine (fun (hz : Good W r z.1) => ?_) ?_; (on_goal 1 => clear_value z); (on_goal 2 => (dsimp -zeta only [z]; clear z)))
        | (have _q : Nat := z; clear _q; clear_value z) | (try dsimp -zeta only [z]; clear z))
    | (with_reducible apply Good.foldl; intro _ _ _) | intro _
    | with_reducible apply Good.ite | split
    | with_reducible apply Good.fold | (with_reducible apply Good.mk'; try dsimp only)

theorem lower_good {W : Group → Prop} (a0 : Nat) (a1 : State) (r : State) (h : Good W r a1) : Good W r (lower a0 a1) := ⟨h.1⟩

theorem coreHold_good {W : Group → Prop} (a0 : State) (r : State) (h : Good W r a0) : Good W r (coreHold a0) := by
  unfold coreHold
  repeat' first
    | with_reducible assumption
    | with_reducible apply modAgent_good
    | (extract_lets +onlyGivenNames z; first
        | (refine (fun (hz : Good W r z) => ?_) ?_; (on_goal 1 => clear_value z); (on_goal 2 => (dsimp -zeta only [z]; clear z)))
        | (refine (fun (hz : Good W r z.1) => ?_) ?_; (on_goal 1 => clear_value z); (on_goal 2 => (dsimp -zeta only [z]; clear z)))
        | (refine (fun (hz : Good W r z.2) => ?_) ?_; (on_goal 1 => clear_value z); (on_goal 2 => (dsimp -zeta only [z]; clear z)))
        | (have _q : Nat := z; clear _q; clear_value z) | (have _q : Bool := z; clear _q; clear_value z)
        | (have _q : Word := z; clear _q; clear_value z) | (have _q : Record := z; clear _q; clear_value z)
        | (try dsimp -zeta only [z]; clear z))
    | with_reducible exact id
    | with_reducible exact fun _ w => w
    | with_reducible exact fun _ _ => memWf_nil _
    | with_reducible exact memPutWord_wf
    | with_reducible exact memWriteList_wf
    | with_reducible exact memErase_wf
    | with_reducible exact memWriteList_wf (memWf_nil _)
    | with_reducible exact stgRegs_wf _ _ _
    | with_reducible exact fun _ => memWf_nil _
    | (with_reducible apply Good.foldl; intro _ _ _)
    | (with_reducible apply Good.foldl_fst; intro _ _ _)
    | intro _
    | with_reducible apply Good.ite
    | with_reducible apply Good.ite_fst
    | split
    | with_reducible apply Good.fold
    | (with_reducible apply Good.mk'; try dsimp only)
    | dsimp only
    | simp only [rngLost_buf, stgLimp_buf, endSession9_buf, trlOff_buf, trlOn_buf, stgEmpty_buf, trlOff_same, trlOn_same, adcStop_same, stgLimp_same]
    | with_reducible apply Good.fold_cry
    | with_reducible apply Good.fold_spi
    | with_reducible apply Good.fold_trl
    | with_reducible apply Good.fold_stg
    | with_reducible apply Good.fold_mem
    | with_reducible apply Good.fold_held
    | with_reducible apply Good.fold_fls
    | with_reducible apply Good.fold_bank0
    | with_reducible apply Good.fold_bank1
    | (with_reducible apply Good.fold_clock)
    | (with_reducible apply Good.fold_badWords)
    | (with_reducible apply Good.fold_crystal)
    | (with_reducible apply Good.fold_verdict)
    | (with_reducible apply Good.fold_staged)
    | (with_reducible apply Good.fold_applied)
    | (with_reducible apply Good.fold_timing)
    | (with_reducible apply Good.fold_address)
    | (with_reducible apply Good.fold_expiry)
    | (with_reducible apply Good.fold_question)
    | (with_reducible apply Good.fold_life)
    | (with_reducible apply Good.fold_arming)
    | (with_reducible apply Good.fold_flashOp)
    | (with_reducible apply Good.fold_rng)
    | (with_reducible apply Good.fold_diag)
    | (with_reducible apply Good.fold_failed)
    | (with_reducible apply Good.fold_button)
    | (with_reducible apply Good.fold_ship)
    | (with_reducible apply Good.fold_changeover)
    | (with_reducible apply Good.fold_graft)
    | (with_reducible apply Good.fold_irq)
    | (with_reducible apply Good.fold_lastEvent)
    | (with_reducible apply Good.fold_powered)
    | (with_reducible apply Good.fold_inputs)
    | (with_reducible apply Good.fold_wakeCause)
    | (with_reducible apply Good.fold_settings)


theorem coreReset_good {W : Group → Prop} (a0 : Nat) (a1 : Word) (a2 : State) (r : State) (h : Good W r a2) : Good W r (coreReset a0 a1 a2) := by
  unfold coreReset
  repeat' first
    | with_reducible assumption
    | with_reducible apply queueRecord_good
    | with_reducible apply coreHold_good
    | (extract_lets +onlyGivenNames z; first
        | (refine (fun (hz : Good W r z) => ?_) ?_; (on_goal 1 => clear_value z); (on_goal 2 => (dsimp -zeta only [z]; clear z)))
        | (refine (fun (hz : Good W r z.1) => ?_) ?_; (on_goal 1 => clear_value z); (on_goal 2 => (dsimp -zeta only [z]; clear z)))
        | (refine (fun (hz : Good W r z.2) => ?_) ?_; (on_goal 1 => clear_value z); (on_goal 2 => (dsimp -zeta only [z]; clear z)))
        | (have _q : Nat := z; clear _q; clear_value z) | (have _q : Bool := z; clear _q; clear_value z)
        | (have _q : Word := z; clear _q; clear_value z) | (have _q : Record := z; clear _q; clear_value z)
        | (try dsimp -zeta only [z]; clear z))
    | with_reducible exact id
    | with_reducible exact fun _ w => w
    | with_reducible exact fun _ _ => memWf_nil _
    | with_reducible exact memPutWord_wf
    | with_reducible exact memWriteList_wf
    | with_reducible exact memErase_wf
    | with_reducible exact memWriteList_wf (memWf_nil _)
    | with_reducible exact stgRegs_wf _ _ _
    | with_reducible exact fun _ => memWf_nil _
    | (with_reducible apply Good.foldl; intro _ _ _)
    | (with_reducible apply Good.foldl_fst; intro _ _ _)
    | intro _
    | with_reducible apply Good.ite
    | with_reducible apply Good.ite_fst
    | split
    | with_reducible apply Good.fold
    | (with_reducible apply Good.mk'; try dsimp only)
    | dsimp only
    | simp only [rngLost_buf, stgLimp_buf, endSession9_buf, trlOff_buf, trlOn_buf, stgEmpty_buf, trlOff_same, trlOn_same, adcStop_same, stgLimp_same]
    | with_reducible apply Good.fold_cry
    | with_reducible apply Good.fold_spi
    | with_reducible apply Good.fold_trl
    | with_reducible apply Good.fold_stg
    | with_reducible apply Good.fold_mem
    | with_reducible apply Good.fold_held
    | with_reducible apply Good.fold_fls
    | with_reducible apply Good.fold_bank0
    | with_reducible apply Good.fold_bank1
    | (with_reducible apply Good.fold_clock)
    | (with_reducible apply Good.fold_badWords)
    | (with_reducible apply Good.fold_crystal)
    | (with_reducible apply Good.fold_verdict)
    | (with_reducible apply Good.fold_staged)
    | (with_reducible apply Good.fold_applied)
    | (with_reducible apply Good.fold_timing)
    | (with_reducible apply Good.fold_address)
    | (with_reducible apply Good.fold_expiry)
    | (with_reducible apply Good.fold_question)
    | (with_reducible apply Good.fold_life)
    | (with_reducible apply Good.fold_arming)
    | (with_reducible apply Good.fold_flashOp)
    | (with_reducible apply Good.fold_rng)
    | (with_reducible apply Good.fold_diag)
    | (with_reducible apply Good.fold_failed)
    | (with_reducible apply Good.fold_button)
    | (with_reducible apply Good.fold_ship)
    | (with_reducible apply Good.fold_changeover)
    | (with_reducible apply Good.fold_graft)
    | (with_reducible apply Good.fold_irq)
    | (with_reducible apply Good.fold_lastEvent)
    | (with_reducible apply Good.fold_powered)
    | (with_reducible apply Good.fold_inputs)
    | (with_reducible apply Good.fold_wakeCause)
    | (with_reducible apply Good.fold_settings)
    | (refine Good.gen (by with_reducible assumption) rfl rfl rfl ?_ ?_ ?_ ?_ ?_ ?_ ?_ ?_ ?_ ?_ ?_ ?_ ?_ ?_ ?_ ?_ ?_ ?_ ?_ ?_ ?_ ?_ ?_ ?_ ?_ ?_ ?_ ?_ ?_ ?_ ?_ <;> first | exact .inl (by assumption) | exact .inr rfl | exact .inr ⟨rfl, rfl⟩ | exact id | skip)


theorem serviceEnds_good {W : Group → Prop} (a0 : State) (r : State) (h : Good W r a0) : Good W r (serviceEnds a0) := ⟨h.1⟩

theorem limpCordon_good {W : Group → Prop} (a0 : Image) (a1 : Nat) (a2 : State) (r : State) (h : Good W r a2) : Good W r (limpCordon a0 a1 a2) := by
  unfold limpCordon
  dsimp only
  repeat' first
    | with_reducible assumption | with_reducible apply modCells_good | with_reducible apply modCordon_good | with_reducible apply driveCordon_good
    | intro _ | with_reducible apply Good.ite | split | with_reducible apply Good.fold | with_reducible apply Good.mk'

theorem limpSet_good {W : Group → Prop} (a0 : State) (r : State) (h : Good W r a0) : Good W r (limpSet a0) := by
  unfold limpSet
  repeat' first
    | with_reducible assumption | with_reducible apply modCells_good | with_reducible apply gateFollows_good | with_reducible apply gateOpens_good
    | with_reducible apply limpCordon_good
    | (with_reducible apply Good.foldl; intro _ _ _) | intro _
    | with_reducible apply Good.ite | split
    | with_reducible apply Good.fold | (with_reducible apply Good.mk'; try dsimp only)

theorem limpAdmit_good {W : Group → Prop} (a0 : State) (r : State) (h : Good W r a0) : Good W r (limpAdmit a0) := ⟨h.1⟩

theorem applyChecks_good {W : Group → Prop} (a0 : Image) (a1 : State) (r : State) (h : Good W r a1) : Good W r (applyChecks a0 a1) := by
  unfold applyChecks
  repeat' first
    | with_reducible assumption
    | (with_reducible apply Good.foldl; intro _ _ _) | intro _
    | with_reducible apply Good.ite | split
    | with_reducible apply Good.fold | (with_reducible apply Good.mk'; try dsimp only)

theorem applyClasses_good {W : Group → Prop} (a0 : State) (r : State) (h : Good W r a0) : Good W r (applyClasses a0) := by
  unfold applyClasses
  repeat' first
    | with_reducible assumption
    | (with_reducible apply Good.foldl; intro _ _ _) | intro _
    | with_reducible apply Good.ite | split
    | with_reducible apply Good.fold | (with_reducible apply Good.mk'; try dsimp only)

theorem applySources_good {W : Group → Prop} (a0 : Bool) (a1 : State) (r : State) (h : Good W r a1) : Good W r (applySources a0 a1) := ⟨h.1⟩

theorem applyEntries_good {W : Group → Prop} (a0 : Image) (a1 : State) (r : State) (h : Good W r a1) : Good W r (applyEntries a0 a1) := by
  unfold applyEntries
  repeat' first
    | with_reducible assumption | with_reducible apply modCells_good
    | with_reducible apply Good.ite | exact ⟨h.1⟩

theorem installImage_good {W : Group → Prop} (a0 : Image) (a1 : State) (r : State) (h : Good W r a1) : Good W r (installImage a0 a1) := by
  unfold installImage
  repeat' first
    | with_reducible assumption | with_reducible apply modCells_good | with_reducible apply rephase_good | with_reducible apply applySources_good
    | with_reducible apply applyEntries_good
    | (with_reducible apply Good.foldl; intro _ _ _) | intro _
    | with_reducible apply Good.ite | split
    | with_reducible apply Good.fold | (with_reducible apply Good.mk'; try dsimp only)

theorem refuseCopy_good {W : Group → Prop} (a0 : Verdict) (a1 : State) (r : State) (h : Good W r a1) : Good W r (refuseCopy a0 a1) := by
  unfold refuseCopy
  repeat' first
    | with_reducible assumption | with_reducible apply collect_good
    | with_reducible apply Good.ite | exact ⟨h.1⟩

theorem putLoad_good {W : Group → Prop} (a0 : Verdict) (a1 : Nat) (a2 : ProbeResult) (a3 : State) (r : State) (h : Good W r a3) : Good W r (putLoad a0
    a1 a2 a3) := ⟨h.1⟩

theorem loadCopy_good {W : Group → Prop} (a0 : Option Verdict) (a1 : State) (r : State) (h : Good W r a1) : Good W r (loadCopy a0 a1) := by
  unfold loadCopy
  dsimp only
  repeat' first
    | with_reducible assumption | with_reducible apply installImage_good | with_reducible apply refuseCopy_good | with_reducible apply putLoad_good
    | intro _ | with_reducible apply Good.ite | split | with_reducible apply Good.fold | with_reducible apply Good.mk'

theorem loadForLimp_good {W : Group → Prop} (a0 : State) (r : State) (h : Good W r a0) : Good W r (loadForLimp a0) := by
  unfold loadForLimp
  dsimp only
  repeat' first
    | with_reducible assumption | with_reducible apply applyChecks_good | with_reducible apply applyClasses_good | with_reducible apply loadCopy_good
    | intro _ | with_reducible apply Good.ite | split | with_reducible apply Good.fold | with_reducible apply Good.mk'

theorem releaseStaging_good {W : Group → Prop} (a0 : State) (r : State) (h : Good W r a0) : Good W r (releaseStaging a0) := by
  unfold releaseStaging
  repeat' first
    | with_reducible assumption | with_reducible apply settleStart_good
    | (with_reducible apply Good.foldl; intro _ _ _) | intro _
    | with_reducible apply Good.ite | split
    | with_reducible apply Good.fold | (with_reducible apply Good.mk'; try dsimp only)

theorem limpFromStaging_good {W : Group → Prop} (a0 : State) (r : State) (h : Good W r a0) : Good W r (limpFromStaging a0) := by
  unfold limpFromStaging
  repeat' first
    | with_reducible assumption | with_reducible apply record_good | with_reducible apply startRise_good | with_reducible apply releaseStaging_good
    | with_reducible apply Good.ite | exact ⟨h.1⟩

theorem limpEntry_good {W : Group → Prop} (a0 : Nat) (a1 : Nat) (a2 : Word) (a3 : State) (r : State) (h : Good W r a3) : Good W r (limpEntry a0 a1 a2
    a3) := by
  unfold limpEntry
  repeat' first
    | with_reducible assumption | with_reducible apply modCells_good | with_reducible apply setMode_good | with_reducible apply aliveStop_good
    | with_reducible apply coreReset_good | with_reducible apply serviceEnds_good | with_reducible apply limpSet_good
    | with_reducible apply limpAdmit_good | with_reducible apply loadForLimp_good | with_reducible apply limpFromStaging_good
    | (extract_lets +onlyGivenNames z; first
        | (refine (fun (hz : Good W r z) => ?_) ?_; (on_goal 1 => clear_value z); (on_goal 2 => (dsimp -zeta only [z]; clear z)))
        | (refine (fun (hz : Good W r z.1) => ?_) ?_; (on_goal 1 => clear_value z); (on_goal 2 => (dsimp -zeta only [z]; clear z)))
        | (have _q : Nat := z; clear _q; clear_value z) | (try dsimp -zeta only [z]; clear z))
    | (with_reducible apply Good.foldl; intro _ _ _) | (with_reducible apply Good.foldl_fst; intro _ _ _) | intro _
    | with_reducible apply Good.ite | with_reducible apply Good.ite_fst | split | with_reducible exact id | with_reducible exact fun _ w => w
    | with_reducible exact fun _ _ => memWf_nil _ | with_reducible exact memPutWord_wf | with_reducible exact memWriteList_wf
    | with_reducible exact memErase_wf | with_reducible exact memWriteList_wf (memWf_nil _) | with_reducible exact stgRegs_wf _ _ _
    | with_reducible exact fun _ => memWf_nil _
    | with_reducible apply Good.fold | (with_reducible apply Good.mk'; try dsimp only) | dsimp only
    | simp only [rngLost_buf, stgLimp_buf, endSession9_buf, trlOff_buf, trlOn_buf, stgEmpty_buf, trlOff_same, trlOn_same, adcStop_same, stgLimp_same]
    | with_reducible apply Good.fold_cry | with_reducible apply Good.fold_spi | with_reducible apply Good.fold_trl

theorem react_good {W : Group → Prop} (a0 : Nat) (a1 : Nat) (a2 : Word) (a3 : State) (r : State) (h : Good W r a3) : Good W r (react a0 a1 a2 a3) :=
    by
  unfold react
  dsimp only
  repeat' first
    | with_reducible assumption | with_reducible apply stopCordon_good | with_reducible apply aliveStop_good | with_reducible apply limpEntry_good
    | intro _ | with_reducible apply Good.ite | split | with_reducible apply Good.fold | with_reducible apply Good.mk'

theorem raiseSrc_good {W : Group → Prop} (a0 : Nat) (a1 : Nat) (a2 : Word) (a3 : State) (r : State) (h : Good W r a3) : Good W r (raiseSrc a0 a1 a2
    a3) := by
  unfold raiseSrc
  repeat' first
    | with_reducible assumption | with_reducible apply collect_good | with_reducible apply react_good
    | with_reducible apply Good.ite | exact ⟨h.1⟩

theorem raise_good {W : Group → Prop} (a0 : Nat) (a1 : Nat) (a2 : State) (r : State) (h : Good W r a2) : Good W r (raise a0 a1 a2) := by
  unfold raise
  repeat' first
    | with_reducible assumption | with_reducible apply raiseSrc_good
    | with_reducible apply Good.ite | exact ⟨h.1⟩

theorem edges_good {W : Group → Prop} (a0 : State) (a1 : State) (r : State) (h : Good W r a1) : Good W r (edges a0 a1) := by
  unfold edges
  repeat' first
    | with_reducible assumption | with_reducible apply lower_good | with_reducible apply raiseSrc_good
    | (with_reducible apply Good.foldl; intro _ _ _) | intro _
    | with_reducible apply Good.ite | split
    | with_reducible apply Good.fold | (with_reducible apply Good.mk'; try dsimp only)

theorem seenAll_good {W : Group → Prop} (a0 : State) (r : State) (h : Good W r a0) : Good W r (seenAll a0) := ⟨h.1⟩

theorem latchIrq_good {W : Group → Prop} (a0 : State) (a1 : State) (r : State) (h : Good W r a1) : Good W r (latchIrq a0 a1) := ⟨h.1⟩

theorem tidyPath_good {W : Group → Prop} (a0 : State) (r : State) (h : Good W r a0) : Good W r (tidyPath a0) := by
  unfold tidyPath
  exact Good.ite ⟨h.1⟩ h

theorem tidyCrypto_good {W : Group → Prop} (a0 : State) (r : State) (h : Good W r a0) : Good W r (tidyCrypto a0) := ⟨h.1⟩

theorem settle_good {W : Group → Prop} (a0 : State) (a1 : State) (r : State) (h : Good W r a1) : Good W r (settle a0 a1) := by
  unfold settle
  repeat' first
    | with_reducible assumption | with_reducible apply edges_good | with_reducible apply latchIrq_good | with_reducible apply tidyPath_good
    | with_reducible apply tidyCrypto_good
    | with_reducible apply Good.ite | exact ⟨h.1⟩

theorem act_good {W : Group → Prop} (s : State) (f : State → State) (r t : State) (h : Good W r s) (hf : ∀ t, Good W r t → Good W r (f t))
    (e : act s f = .next t) : Good W r t := by
  unfold act at e
  split at e
  · cases e; exact settle_good _ _ _ (hf _ h)
  · cases e; exact h

end Sys2Proof.Laws
end

