-- ==== Sys2Proof/Laws/KeepsStore.lean ====
section
/-! SUPPORT. What the Cellar, the flash, the cells and the path rows keep: `Good W r` of a state passes to the state
the operation makes, for every `W` that allows the groups the operation writes. -/

open Sys2Proof.Machine

namespace Sys2Proof.Laws
set_option Elab.async false
set_option linter.all false

theorem unitWrite_good {W : Group → Prop} (a0 : Nat) (a1 : List Byte) (a2 : State) (r : State) (h : Good W r a2) (_ : W .cellar := by assumption) :
    Good W r (unitWrite a0 a1 a2) := by
  unfold unitWrite
  repeat' first
    | with_reducible assumption | with_reducible apply clrPut_good
    | with_reducible apply Good.ite | exact ⟨h.1⟩

theorem writeRecord_good {W : Group → Prop} (a0 : Record) (a1 : State) (r : State) (h : Good W r a1) (_ : W .cellar := by assumption) : Good W r
    (writeRecord a0 a1) := by
  unfold writeRecord
  dsimp only
  repeat' first
    | with_reducible assumption | with_reducible apply unitWrite_good
    | intro _ | with_reducible apply Good.ite | split | with_reducible apply Good.fold | with_reducible apply Good.mk'

theorem serveQueue_good {W : Group → Prop} (a0 : State) (r : State) (h : Good W r a0) (_ : W .cellar := by assumption) : Good W r (serveQueue a0) :=
    by
  unfold serveQueue
  dsimp only
  repeat' first
    | with_reducible assumption | with_reducible apply writeRecord_good
    | intro _ | with_reducible apply Good.ite | split | with_reducible apply Good.fold | with_reducible apply Good.mk'

theorem serveMany_good {W : Group → Prop} (n : Nat) (s : State) (r : State) (h : Good W r s) (_ : W .cellar := by assumption) : Good W r (serveMany n
    s) := by
  induction n generalizing s with
  | zero => exact h
  | succ n ih => exact ih _ (serveQueue_good _ _ h)

theorem flushQueue_good {W : Group → Prop} (a0 : State) (r : State) (h : Good W r a0) (_ : W .cellar := by assumption) : Good W r (flushQueue a0) :=
    by
  unfold flushQueue
  repeat' first
    | with_reducible assumption | with_reducible apply serveMany_good
    | with_reducible apply Good.ite | exact ⟨h.1⟩

theorem execCellarRecordWrite_good {W : Group → Prop} (a0 : State) (r t : State) (h : Good W r a0) (e : execCellarRecordWrite a0 = .next t) (_ : W
    .cellar := by assumption) : Good W r t := by
  unfold execCellarRecordWrite at e
  refine act_good _ _ _ _ h (fun s h => ?_) e
  repeat' first
    | with_reducible assumption | with_reducible apply serveQueue_good
    | with_reducible apply Good.ite | exact ⟨h.1⟩

theorem clrNote_good {W : Group → Prop} (a0 : State) (r : State) (h : Good W r a0) : Good W r (clrNote a0) := by
  unfold clrNote
  repeat' first
    | with_reducible assumption
    | with_reducible apply Good.ite | exact ⟨h.1⟩

theorem execNote_good {W : Group → Prop} (a0 : State) (r t : State) (h : Good W r a0) (e : execNote a0 = .next t) : Good W r t := by
  unfold execNote at e
  refine act_good _ _ _ _ h (fun s h => ?_) e
  repeat' first
    | with_reducible assumption | with_reducible apply clrNote_good
    | with_reducible apply Good.ite | exact ⟨h.1⟩

theorem clrUnknown_good {W : Group → Prop} (a0 : Nat) (a1 : State) (r : State) (h : Good W r a1) : Good W r (clrUnknown a0 a1) := ⟨h.1⟩

theorem clrSelect_good {W : Group → Prop} (a0 : Agent) (a1 : Nat) (a2 : State) (r : State) (h : Good W r a2) (_ : W .badWords := by assumption) : Good
    W r (clrSelect a0 a1 a2) := by
  unfold clrSelect
  repeat' first
    | with_reducible assumption | with_reducible apply modAgent_good | with_reducible apply countBad_good
    | with_reducible apply Good.ite | exact ⟨h.1⟩

theorem execClrSelWrite_good {W : Group → Prop} (a0 : Agent) (a1 : Word) (a2 : State) (r t : State) (h : Good W r a2) (e : execClrSelWrite a0 a1 a2 =
    .next t) (_ : W .badWords := by assumption) : Good W r t := by
  unfold execClrSelWrite at e
  refine act_good _ _ _ _ h (fun s h => ?_) e
  repeat' first
    | with_reducible assumption | with_reducible apply clrSelect_good
    | with_reducible apply Good.ite | exact ⟨h.1⟩

theorem clrAdvance_good {W : Group → Prop} (a0 : Agent) (a1 : State) (r : State) (h : Good W r a1) (_ : W .badWords := by assumption) : Good W r
    (clrAdvance a0 a1) := by
  unfold clrAdvance
  repeat' first
    | with_reducible assumption | with_reducible apply clrSelect_good
    | with_reducible apply Good.ite | exact ⟨h.1⟩

theorem execClrData15Read_good {W : Group → Prop} (a0 : Agent) (a1 : State) (r t : State) (h : Good W r a1) (e : execClrData15Read a0 a1 = .next t) (_
    : W .badWords := by assumption) : Good W r t := by
  unfold execClrData15Read at e
  refine act_good _ _ _ _ h (fun s h => ?_) e
  repeat' first
    | with_reducible assumption | with_reducible apply clrAdvance_good
    | with_reducible apply Good.ite | exact ⟨h.1⟩

theorem scanCellar_good {W : Group → Prop} (a0 : State) (r : State) (h : Good W r a0) (_ : W .settings := by assumption) (_ : W .badWords := by
    assumption) : Good W r (scanCellar a0) := by
  unfold scanCellar
  repeat' first
    | with_reducible assumption | with_reducible apply countBad_good
    | (with_reducible apply Good.foldl; intro _ _ _) | intro _
    | with_reducible apply Good.ite | split
    | with_reducible apply Good.fold | (with_reducible apply Good.mk'; try dsimp only) | with_reducible apply Good.fold_settings
    | with_reducible apply Good.fold_badWords

theorem cellarCut_good {W : Group → Prop} (a0 : State) (r : State) (h : Good W r a0) (_ : W .cellar := by assumption) : Good W r (cellarCut a0) := by
  unfold cellarCut
  dsimp only
  repeat' first
    | with_reducible assumption | with_reducible apply freeNat_good | with_reducible apply unwrite_good | with_reducible apply cutWord_good
    | with_reducible apply serveQueue_good
    | intro _ | with_reducible apply Good.ite | split | with_reducible apply Good.fold | with_reducible apply Good.mk'

theorem flashPut_good {W : Group → Prop} (a0 : Nat) (a1 : Nat) (a2 : List Byte) (a3 : State) (r : State) (h : Good W r a3) (_ : W .flash := by
    assumption) : Good W r (flashPut a0 a1 a2 a3) := by
  unfold flashPut
  repeat' first
    | with_reducible assumption
    | with_reducible apply setBank_good
    | (extract_lets +onlyGivenNames z; first
        | (refine (fun (hz : Good W r z) => ?_) ?_; (on_goal 1 => clear_value z); (on_goal 2 => (dsimp -zeta only [z]; clear z)))
        | (refine (fun (hz : Good W r z.1) => ?_) ?_; (on_goal 1 => clear_value z); (on_goal 2 => (dsimp -zeta only [z]; clear z)))
        | (refine (fun (hz : Good W r z.2) => ?_) ?_; (on_goal 1 => clear_value z); (on_goal 2 => (dsimp -zeta only [z]; clear z)))
        | (have _q : Nat := z; clear _q; clear_value z) | (have _q : Bool := z; clear _q; clear_value z)
        | (have _q : Word := z; clear _q; clear_value z) | (have _q : Record := z; clear _q; clear_value z)
        | (try dsimp -zeta only [z]; clear z))
    | with_reducible exact id
    | with_reducible exact fun _ w => w
    | with_reducible exact fun _ _ => memWf_nil _
    | with_reducible exact memPutWord_wf
    | with_reducible exact memWriteList_wf
    | with_reducible exact memErase_wf
    | with_reducible exact memWriteList_wf (memWf_nil _)
    | with_reducible exact stgRegs_wf _ _ _
    | with_reducible exact fun _ => memWf_nil _
    | (with_reducible apply Good.foldl; intro _ _ _)
    | (with_reducible apply Good.foldl_fst; intro _ _ _)
    | intro _
    | with_reducible apply Good.ite
    | with_reducible apply Good.ite_fst
    | split
    | with_reducible apply Good.fold
    | (with_reducible apply Good.mk'; try dsimp only)
    | dsimp only
    | simp only [rngLost_buf, stgLimp_buf, endSession9_buf, trlOff_buf, trlOn_buf, stgEmpty_buf, trlOff_same, trlOn_same, adcStop_same, stgLimp_same]
    | with_reducible apply Good.fold_cry
    | with_reducible apply Good.fold_spi
    | with_reducible apply Good.fold_trl
    | with_reducible apply Good.fold_stg
    | with_reducible apply Good.fold_mem
    | with_reducible apply Good.fold_held
    | with_reducible apply Good.fold_fls
    | with_reducible apply Good.fold_bank0
    | with_reducible apply Good.fold_bank1
    | (with_reducible apply Good.fold_clock)
    | (with_reducible apply Good.fold_badWords)
    | (with_reducible apply Good.fold_crystal)
    | (with_reducible apply Good.fold_verdict)
    | (with_reducible apply Good.fold_staged)
    | (with_reducible apply Good.fold_applied)
    | (with_reducible apply Good.fold_timing)
    | (with_reducible apply Good.fold_address)
    | (with_reducible apply Good.fold_expiry)
    | (with_reducible apply Good.fold_question)
    | (with_reducible apply Good.fold_life)
    | (with_reducible apply Good.fold_arming)
    | (with_reducible apply Good.fold_flashOp)
    | (with_reducible apply Good.fold_rng)
    | (with_reducible apply Good.fold_diag)
    | (with_reducible apply Good.fold_failed)
    | (with_reducible apply Good.fold_button)
    | (with_reducible apply Good.fold_ship)
    | (with_reducible apply Good.fold_changeover)
    | (with_reducible apply Good.fold_graft)
    | (with_reducible apply Good.fold_irq)
    | (with_reducible apply Good.fold_lastEvent)
    | (with_reducible apply Good.fold_powered)
    | (with_reducible apply Good.fold_inputs)
    | (with_reducible apply Good.fold_wakeCause)
    | (with_reducible apply Good.fold_settings)
    | (refine Good.gen (by with_reducible assumption) rfl rfl rfl ?_ ?_ ?_ ?_ ?_ ?_ ?_ ?_ ?_ ?_ ?_ ?_ ?_ ?_ ?_ ?_ ?_ ?_ ?_ ?_ ?_ ?_ ?_ ?_ ?_ ?_ ?_ ?_ ?_ ?_ ?_ <;> first | exact .inl (by assumption) | exact .inr rfl | exact .inr ⟨rfl, rfl⟩ | exact id | skip)


theorem sectorErase_good {W : Group → Prop} (a0 : Nat) (a1 : Nat) (a2 : State) (r : State) (h : Good W r a2) (_ : W .flash := by assumption) : Good W
    r (sectorErase a0 a1 a2) := by
  unfold sectorErase
  repeat' first
    | with_reducible assumption
    | with_reducible apply setBank_good
    | (extract_lets +onlyGivenNames z; first
        | (refine (fun (hz : Good W r z) => ?_) ?_; (on_goal 1 => clear_value z); (on_goal 2 => (dsimp -zeta only [z]; clear z)))
        | (refine (fun (hz : Good W r z.1) => ?_) ?_; (on_goal 1 => clear_value z); (on_goal 2 => (dsimp -zeta only [z]; clear z)))
        | (refine (fun (hz : Good W r z.2) => ?_) ?_; (on_goal 1 => clear_value z); (on_goal 2 => (dsimp -zeta only [z]; clear z)))
        | (have _q : Nat := z; clear _q; clear_value z) | (have _q : Bool := z; clear _q; clear_value z)
        | (have _q : Word := z; clear _q; clear_value z) | (have _q : Record := z; clear _q; clear_value z)
        | (try dsimp -zeta only [z]; clear z))
    | with_reducible exact id
    | with_reducible exact fun _ w => w
    | with_reducible exact fun _ _ => memWf_nil _
    | with_reducible exact memPutWord_wf
    | with_reducible exact memWriteList_wf
    | with_reducible exact memErase_wf
    | with_reducible exact memWriteList_wf (memWf_nil _)
    | with_reducible exact stgRegs_wf _ _ _
    | with_reducible exact fun _ => memWf_nil _
    | (with_reducible apply Good.foldl; intro _ _ _)
    | (with_reducible apply Good.foldl_fst; intro _ _ _)
    | intro _
    | with_reducible apply Good.ite
    | with_reducible apply Good.ite_fst
    | split
    | with_reducible apply Good.fold
    | (with_reducible apply Good.mk'; try dsimp only)
    | dsimp only
    | simp only [rngLost_buf, stgLimp_buf, endSession9_buf, trlOff_buf, trlOn_buf, stgEmpty_buf, trlOff_same, trlOn_same, adcStop_same, stgLimp_same]
    | with_reducible apply Good.fold_cry
    | with_reducible apply Good.fold_spi
    | with_reducible apply Good.fold_trl
    | with_reducible apply Good.fold_stg
    | with_reducible apply Good.fold_mem
    | with_reducible apply Good.fold_held
    | with_reducible apply Good.fold_fls
    | with_reducible apply Good.fold_bank0
    | with_reducible apply Good.fold_bank1
    | (with_reducible apply Good.fold_clock)
    | (with_reducible apply Good.fold_badWords)
    | (with_reducible apply Good.fold_crystal)
    | (with_reducible apply Good.fold_verdict)
    | (with_reducible apply Good.fold_staged)
    | (with_reducible apply Good.fold_applied)
    | (with_reducible apply Good.fold_timing)
    | (with_reducible apply Good.fold_address)
    | (with_reducible apply Good.fold_expiry)
    | (with_reducible apply Good.fold_question)
    | (with_reducible apply Good.fold_life)
    | (with_reducible apply Good.fold_arming)
    | (with_reducible apply Good.fold_flashOp)
    | (with_reducible apply Good.fold_rng)
    | (with_reducible apply Good.fold_diag)
    | (with_reducible apply Good.fold_failed)
    | (with_reducible apply Good.fold_button)
    | (with_reducible apply Good.fold_ship)
    | (with_reducible apply Good.fold_changeover)
    | (with_reducible apply Good.fold_graft)
    | (with_reducible apply Good.fold_irq)
    | (with_reducible apply Good.fold_lastEvent)
    | (with_reducible apply Good.fold_powered)
    | (with_reducible apply Good.fold_inputs)
    | (with_reducible apply Good.fold_wakeCause)
    | (with_reducible apply Good.fold_settings)
    | (refine Good.gen (by with_reducible assumption) rfl rfl rfl ?_ ?_ ?_ ?_ ?_ ?_ ?_ ?_ ?_ ?_ ?_ ?_ ?_ ?_ ?_ ?_ ?_ ?_ ?_ ?_ ?_ ?_ ?_ ?_ ?_ ?_ ?_ ?_ ?_ ?_ ?_ <;> first | exact .inl (by assumption) | exact .inr rfl | exact .inr ⟨rfl, rfl⟩ | exact id | skip)


theorem sectorsErase_good {W : Group → Prop} (a0 : Nat) (a1 : Nat) (a2 : Nat) (a3 : State) (r : State) (h : Good W r a3) (_ : W .flash := by
    assumption) : Good W r (sectorsErase a0 a1 a2 a3) := by
  unfold sectorsErase
  repeat' first
    | with_reducible assumption
    | with_reducible apply setBank_good
    | (extract_lets +onlyGivenNames z; first
        | (refine (fun (hz : Good W r z) => ?_) ?_; (on_goal 1 => clear_value z); (on_goal 2 => (dsimp -zeta only [z]; clear z)))
        | (refine (fun (hz : Good W r z.1) => ?_) ?_; (on_goal 1 => clear_value z); (on_goal 2 => (dsimp -zeta only [z]; clear z)))
        | (refine (fun (hz : Good W r z.2) => ?_) ?_; (on_goal 1 => clear_value z); (on_goal 2 => (dsimp -zeta only [z]; clear z)))
        | (have _q : Nat := z; clear _q; clear_value z) | (have _q : Bool := z; clear _q; clear_value z)
        | (have _q : Word := z; clear _q; clear_value z) | (have _q : Record := z; clear _q; clear_value z)
        | (try dsimp -zeta only [z]; clear z))
    | with_reducible exact id
    | with_reducible exact fun _ w => w
    | with_reducible exact fun _ _ => memWf_nil _
    | with_reducible exact memPutWord_wf
    | with_reducible exact memWriteList_wf
    | with_reducible exact memErase_wf
    | with_reducible exact memWriteList_wf (memWf_nil _)
    | with_reducible exact stgRegs_wf _ _ _
    | with_reducible exact fun _ => memWf_nil _
    | (with_reducible apply Good.foldl; intro _ _ _)
    | (with_reducible apply Good.foldl_fst; intro _ _ _)
    | intro _
    | with_reducible apply Good.ite
    | with_reducible apply Good.ite_fst
    | split
    | with_reducible apply Good.fold
    | (with_reducible apply Good.mk'; try dsimp only)
    | dsimp only
    | simp only [rngLost_buf, stgLimp_buf, endSession9_buf, trlOff_buf, trlOn_buf, stgEmpty_buf, trlOff_same, trlOn_same, adcStop_same, stgLimp_same]
    | with_reducible apply Good.fold_cry
    | with_reducible apply Good.fold_spi
    | with_reducible apply Good.fold_trl
    | with_reducible apply Good.fold_stg
    | with_reducible apply Good.fold_mem
    | with_reducible apply Good.fold_held
    | with_reducible apply Good.fold_fls
    | with_reducible apply Good.fold_bank0
    | with_reducible apply Good.fold_bank1
    | (with_reducible apply Good.fold_clock)
    | (with_reducible apply Good.fold_badWords)
    | (with_reducible apply Good.fold_crystal)
    | (with_reducible apply Good.fold_verdict)
    | (with_reducible apply Good.fold_staged)
    | (with_reducible apply Good.fold_applied)
    | (with_reducible apply Good.fold_timing)
    | (with_reducible apply Good.fold_address)
    | (with_reducible apply Good.fold_expiry)
    | (with_reducible apply Good.fold_question)
    | (with_reducible apply Good.fold_life)
    | (with_reducible apply Good.fold_arming)
    | (with_reducible apply Good.fold_flashOp)
    | (with_reducible apply Good.fold_rng)
    | (with_reducible apply Good.fold_diag)
    | (with_reducible apply Good.fold_failed)
    | (with_reducible apply Good.fold_button)
    | (with_reducible apply Good.fold_ship)
    | (with_reducible apply Good.fold_changeover)
    | (with_reducible apply Good.fold_graft)
    | (with_reducible apply Good.fold_irq)
    | (with_reducible apply Good.fold_lastEvent)
    | (with_reducible apply Good.fold_powered)
    | (with_reducible apply Good.fold_inputs)
    | (with_reducible apply Good.fold_wakeCause)
    | (with_reducible apply Good.fold_settings)
    | (refine Good.gen (by with_reducible assumption) rfl rfl rfl ?_ ?_ ?_ ?_ ?_ ?_ ?_ ?_ ?_ ?_ ?_ ?_ ?_ ?_ ?_ ?_ ?_ ?_ ?_ ?_ ?_ ?_ ?_ ?_ ?_ ?_ ?_ ?_ ?_ ?_ ?_ <;> first | exact .inl (by assumption) | exact .inr rfl | exact .inr ⟨rfl, rfl⟩ | exact id | skip)


theorem storeWrite_good {W : Group → Prop} (a0 : Nat × Nat) (a1 : Image) (a2 : State) (r : State) (h : Good W r a2) (_ : W .flash := by assumption) :
    Good W r (storeWrite a0 a1 a2) := by
  unfold storeWrite
  repeat' first
    | with_reducible assumption | with_reducible apply flashPut_good | with_reducible apply sectorsErase_good
    | with_reducible apply Good.ite | exact ⟨h.1⟩

theorem storeVoid_good {W : Group → Prop} (a0 : Nat × Nat) (a1 : State) (r : State) (h : Good W r a1) (_ : W .flash := by assumption) : Good W r
    (storeVoid a0 a1) := by
  unfold storeVoid
  repeat' first
    | with_reducible assumption | with_reducible apply flashPut_good
    | with_reducible apply Good.ite | exact ⟨h.1⟩

theorem execCrystalQualified_good {W : Group → Prop} (a0 : State) (r t : State) (h : Good W r a0) (e : execCrystalQualified a0 = .next t) (_ : W
    .crystal := by assumption) : Good W r t := by
  unfold execCrystalQualified at e
  refine act_good _ _ _ _ h (fun s h => ?_) e
  clear e
  repeat' first
    | with_reducible assumption
    | (with_reducible apply Good.foldl; intro _ _ _) | intro _
    | with_reducible apply Good.ite | split
    | with_reducible apply Good.fold | (with_reducible apply Good.mk'; try dsimp only) | with_reducible apply Good.fold_crystal

theorem execCrystalLost_good {W : Group → Prop} (a0 : State) (r t : State) (h : Good W r a0) (e : execCrystalLost a0 = .next t) (_ : W .crystal := by
    assumption) : Good W r t := by
  unfold execCrystalLost at e
  refine act_good _ _ _ _ h (fun s h => ?_) e
  clear e
  repeat' first
    | with_reducible assumption
    | (with_reducible apply Good.foldl; intro _ _ _) | intro _
    | with_reducible apply Good.ite | split
    | with_reducible apply Good.fold | (with_reducible apply Good.mk'; try dsimp only) | with_reducible apply Good.fold_crystal

theorem bindCells_good {W : Group → Prop} (a0 : State) (r : State) (h : Good W r a0) : Good W r (bindCells a0) := by
  unfold bindCells
  repeat' first
    | with_reducible assumption | with_reducible apply modCells_good
    | with_reducible apply Good.ite | exact ⟨h.1⟩

theorem execOverloadAccountEmpty_good {W : Group → Prop} (a0 : Nat) (a1 : State) (r t : State) (h : Good W r a1) (e : execOverloadAccountEmpty a0 a1 =
    .next t) : Good W r t := by
  unfold execOverloadAccountEmpty at e
  refine act_good _ _ _ _ h (fun s h => ?_) e
  exact Good.ite ⟨h.1⟩ h

theorem clearSkipped_good {W : Group → Prop} (a0 : State) (a1 : Nat) (r : State) (h : Good W r a0) : Good W r (State.clearSkipped a0 a1) := ⟨h.1⟩

theorem execLinkTrainingComplete_good {W : Group → Prop} (a0 : Nat) (a1 : Nat) (a2 : State) (r t : State) (h : Good W r a2) (e :
    execLinkTrainingComplete a0 a1 a2 = .next t) : Good W r t := by
  unfold execLinkTrainingComplete at e
  refine act_good _ _ _ _ h (fun s h => ?_) e
  dsimp only
  repeat' first
    | with_reducible assumption | with_reducible apply modCell_good | with_reducible apply modRun_good | with_reducible apply returnToCordon_good
    | with_reducible apply clearSkipped_good
    | intro _ | with_reducible apply Good.ite | split | with_reducible apply Good.fold | with_reducible apply Good.mk'

theorem execLinkTrainingFail_good {W : Group → Prop} (a0 : Nat) (a1 : State) (r t : State) (h : Good W r a1) (e : execLinkTrainingFail a0 a1 = .next
    t) : Good W r t := by
  unfold execLinkTrainingFail at e
  refine act_good _ _ _ _ h (fun s h => ?_) e
  repeat' first
    | with_reducible assumption | with_reducible apply modCell_good | with_reducible apply loseCell_good
    | with_reducible apply Good.ite | exact ⟨h.1⟩

theorem abortRecord_good {W : Group → Prop} (a0 : Nat) (a1 : State) (r : State) (h : Good W r a1) : Good W r (abortRecord a0 a1) := by
  unfold abortRecord
  repeat' first
    | with_reducible assumption | with_reducible apply modCell_good | with_reducible apply raiseSrc_good
    | with_reducible apply Good.ite | exact ⟨h.1⟩

theorem abortTest_good {W : Group → Prop} (a0 : Nat) (a1 : State) (r : State) (h : Good W r a1) : Good W r (abortTest a0 a1) := by
  unfold abortTest
  repeat' first
    | with_reducible assumption | with_reducible apply returnToCordon_good | with_reducible apply abortRecord_good
    | with_reducible apply Good.ite | exact ⟨h.1⟩

theorem abortTestsOf_good {W : Group → Prop} (a0 : Nat) (a1 : State) (r : State) (h : Good W r a1) : Good W r (abortTestsOf a0 a1) := by
  unfold abortTestsOf
  repeat' first
    | with_reducible assumption | with_reducible apply abortTest_good
    | (with_reducible apply Good.foldl; intro _ _ _) | intro _
    | with_reducible apply Good.ite | split
    | with_reducible apply Good.fold | (with_reducible apply Good.mk'; try dsimp only)

theorem leaveTest_good {W : Group → Prop} (a0 : Nat) (a1 : State) (r : State) (h : Good W r a1) : Good W r (leaveTest a0 a1) := by
  unfold leaveTest
  repeat' first
    | with_reducible assumption | with_reducible apply abortRecord_good
    | with_reducible apply Good.ite | exact ⟨h.1⟩

theorem execLinkDown_good {W : Group → Prop} (a0 : Nat) (a1 : Bool) (a2 : State) (r t : State) (h : Good W r a2) (e : execLinkDown a0 a1 a2 = .next t)
    : Good W r t := by
  unfold execLinkDown at e
  refine act_good _ _ _ _ h (fun s h => ?_) e
  repeat' first
    | with_reducible assumption | with_reducible apply modCell_good | with_reducible apply loseCell_good | with_reducible apply leaveTest_good
    | with_reducible apply Good.ite | exact ⟨h.1⟩

theorem execLinkHoldExpiry_good {W : Group → Prop} (a0 : Nat) (a1 : State) (r t : State) (h : Good W r a1) (e : execLinkHoldExpiry a0 a1 = .next t) :
    Good W r t := by
  unfold execLinkHoldExpiry at e
  refine act_good _ _ _ _ h (fun s h => ?_) e
  exact Good.ite ⟨h.1⟩ h

theorem execSync_good {W : Group → Prop} (a0 : Nat) (a1 : State) (r t : State) (h : Good W r a1) (e : execSync a0 a1 = .next t) : Good W r t := by
  unfold execSync at e
  refine act_good _ _ _ _ h (fun s h => ?_) e
  exact Good.ite ⟨h.1⟩ h

theorem execSet_good {W : Group → Prop} (a0 : Nat) (a1 : SetPoints) (a2 : State) (r t : State) (h : Good W r a2) (e : execSet a0 a1 a2 = .next t) :
    Good W r t := by
  unfold execSet at e
  refine act_good _ _ _ _ h (fun s h => ?_) e
  repeat' first
    | with_reducible assumption | with_reducible apply modCell_good
    | with_reducible apply Good.ite | exact ⟨h.1⟩

theorem execArm_good {W : Group → Prop} (a0 : Nat) (a1 : Nat) (a2 : SetPoints) (a3 : State) (r t : State) (h : Good W r a3) (e : execArm a0 a1 a2 a3 =
    .next t) : Good W r t := by
  unfold execArm at e
  refine act_good _ _ _ _ h (fun s h => ?_) e
  repeat' first
    | with_reducible assumption | with_reducible apply modCell_good
    | with_reducible apply Good.ite | exact ⟨h.1⟩

theorem execApplyArmedSet_good {W : Group → Prop} (a0 : Nat) (a1 : State) (r t : State) (h : Good W r a1) (e : execApplyArmedSet a0 a1 = .next t) :
    Good W r t := by
  unfold execApplyArmedSet at e
  refine act_good _ _ _ _ h (fun s h => ?_) e
  exact Good.ite ⟨h.1⟩ h

theorem execCmd_good {W : Group → Prop} (a0 : Nat) (a1 : CellCmd) (a2 : State) (r t : State) (h : Good W r a2) (e : execCmd a0 a1 a2 = .next t) : Good
    W r t := by
  unfold execCmd at e
  refine act_good _ _ _ _ h (fun s h => ?_) e
  dsimp only
  repeat' first
    | with_reducible assumption | with_reducible apply modCell_good
    | intro _ | with_reducible apply Good.ite | split | with_reducible apply Good.fold | with_reducible apply Good.mk'

theorem execRsp_good {W : Group → Prop} (a0 : Nat) (a1 : Nat) (a2 : Word) (a3 : State) (r t : State) (h : Good W r a3) (e : execRsp a0 a1 a2 a3 =
    .next t) : Good W r t := by
  unfold execRsp at e
  refine act_good _ _ _ _ h (fun s h => ?_) e
  exact Good.ite ⟨h.1⟩ h

theorem execAck_good {W : Group → Prop} (a0 : Nat) (a1 : Nat) (a2 : Bool) (a3 : Bool) (a4 : State) (r t : State) (h : Good W r a4) (e : execAck a0 a1
    a2 a3 a4 = .next t) : Good W r t := by
  unfold execAck at e
  refine act_good _ _ _ _ h (fun s h => ?_) e
  dsimp only
  repeat' first
    | with_reducible assumption | with_reducible apply modCell_good
    | intro _ | with_reducible apply Good.ite | split | with_reducible apply Good.fold | with_reducible apply Good.mk'

theorem leaveFor_good {W : Group → Prop} (a0 : Nat) (a1 : CellState) (a2 : State) (r : State) (h : Good W r a2) : Good W r (leaveFor a0 a1 a2) := by
  unfold leaveFor
  repeat' first
    | with_reducible assumption | with_reducible apply modCell_good | with_reducible apply modCordon_good | with_reducible apply takeover_good
    | with_reducible apply Good.ite | exact ⟨h.1⟩

theorem beginTest_good {W : Group → Prop} (a0 : Nat) (a1 : Bool) (a2 : State) (r : State) (h : Good W r a2) : Good W r (beginTest a0 a1 a2) := by
  unfold beginTest
  repeat' first
    | with_reducible assumption | with_reducible apply modCell_good | with_reducible apply leaveFor_good
    | with_reducible apply Good.ite | exact ⟨h.1⟩

theorem execAbort_good {W : Group → Prop} (a0 : Nat) (a1 : State) (r t : State) (h : Good W r a1) (e : execAbort a0 a1 = .next t) : Good W r t := by
  unfold execAbort at e
  refine act_good _ _ _ _ h (fun s h => ?_) e
  repeat' first
    | with_reducible assumption | with_reducible apply abortTest_good
    | with_reducible apply Good.ite | exact ⟨h.1⟩

theorem celCmd_good {W : Group → Prop} (a0 : Nat) (a1 : Nat) (a2 : State → State × Nat) (a3 : State) (r : State) (h : Good W r a3) (ha2 : ∀ t, Good W
    r t → Good W r (a2 t).1) : Good W r (celCmd a0 a1 a2 a3) := by
  unfold celCmd
  dsimp only
  repeat' first
    | with_reducible assumption | with_reducible apply ha2
    | intro _ | with_reducible apply Good.ite | split | with_reducible apply Good.fold | with_reducible apply Good.mk'

theorem celStartSelftest_good {W : Group → Prop} (a0 : Nat) (a1 : State) (r : State) (h : Good W r a1) : Good W r (celStartSelftest a0 a1) := by
  unfold celStartSelftest
  dsimp only
  repeat' first
    | with_reducible assumption | with_reducible apply modCell_good | with_reducible apply beginTest_good | with_reducible apply celCmd_good
    | intro _ | with_reducible apply Good.ite | split | with_reducible apply Good.fold | with_reducible apply Good.mk'

theorem execStartSelftest_good {W : Group → Prop} (a0 : Nat) (a1 : State) (r t : State) (h : Good W r a1) (e : execStartSelftest a0 a1 = .next t) :
    Good W r t := by
  unfold execStartSelftest at e
  refine act_good _ _ _ _ h (fun s h => ?_) e
  repeat' first
    | with_reducible assumption | with_reducible apply celStartSelftest_good
    | with_reducible apply Good.ite | exact ⟨h.1⟩

theorem scheduledTest_good {W : Group → Prop} (a0 : Nat) (a1 : State) (r : State) (h : Good W r a1) : Good W r (scheduledTest a0 a1) := by
  unfold scheduledTest
  repeat' first
    | with_reducible assumption | with_reducible apply modCell_good | with_reducible apply beginTest_good
    | with_reducible apply Good.ite | exact ⟨h.1⟩

theorem waitingTests_good {W : Group → Prop} (a0 : State) (r : State) (h : Good W r a0) : Good W r (waitingTests a0) := by
  unfold waitingTests
  repeat' first
    | with_reducible assumption | with_reducible apply modCells_good | with_reducible apply scheduledTest_good
    | (with_reducible apply Good.foldl; intro _ _ _) | intro _
    | with_reducible apply Good.ite | split
    | with_reducible apply Good.fold | (with_reducible apply Good.mk'; try dsimp only)

theorem neededTests_good {W : Group → Prop} (a0 : State) (r : State) (h : Good W r a0) : Good W r (neededTests a0) := by
  unfold neededTests
  repeat' first
    | with_reducible assumption | with_reducible apply abortTest_good
    | (with_reducible apply Good.foldl; intro _ _ _) | intro _
    | with_reducible apply Good.ite | split
    | with_reducible apply Good.fold | (with_reducible apply Good.mk'; try dsimp only)

theorem execSelftestDue_good {W : Group → Prop} (a0 : Nat) (a1 : State) (r t : State) (h : Good W r a1) (e : execSelftestDue a0 a1 = .next t) : Good W
    r t := by
  unfold execSelftestDue at e
  refine act_good _ _ _ _ h (fun s h => ?_) e
  repeat' first
    | with_reducible assumption | with_reducible apply scheduledTest_good
    | with_reducible apply Good.ite | exact ⟨h.1⟩

theorem execSelftestReschedule_good {W : Group → Prop} (a0 : Nat) (a1 : State) (r t : State) (h : Good W r a1) (e : execSelftestReschedule a0 a1 =
    .next t) : Good W r t := by
  unfold execSelftestReschedule at e
  refine act_good _ _ _ _ h (fun s h => ?_) e
  repeat' first
    | with_reducible assumption | with_reducible apply scheduledTest_good
    | with_reducible apply Good.ite | exact ⟨h.1⟩

theorem execSelftestComplete_good {W : Group → Prop} (a0 : Nat) (a1 : Bool) (a2 : Word) (a3 : State) (r t : State) (h : Good W r a3) (e :
    execSelftestComplete a0 a1 a2 a3 = .next t) : Good W r t := by
  unfold execSelftestComplete at e
  refine act_good _ _ _ _ h (fun s h => ?_) e
  repeat' first
    | with_reducible assumption | with_reducible apply modCell_good | with_reducible apply loseCell_good
    | with_reducible apply returnToCordon_good | with_reducible apply raiseSrc_good
    | with_reducible apply Good.ite | exact ⟨h.1⟩

theorem rephaseDue_good {W : Group → Prop} (a0 : Nat) (a1 : State) (r : State) (h : Good W r a1) : Good W r (rephaseDue a0 a1) := ⟨h.1⟩

theorem gateUvlo_good {W : Group → Prop} (a0 : Nat) (a1 : State) (r : State) (h : Good W r a1) : Good W r (gateUvlo a0 a1) := by
  unfold gateUvlo
  repeat' first
    | with_reducible assumption | with_reducible apply modCell_good | with_reducible apply loseCell_good | with_reducible apply abortTestsOf_good
    | with_reducible apply leaveTest_good
    | with_reducible apply Good.ite | exact ⟨h.1⟩

theorem execGateDriveUvlo_good {W : Group → Prop} (a0 : Nat) (a1 : State) (r t : State) (h : Good W r a1) (e : execGateDriveUvlo a0 a1 = .next t) :
    Good W r t := by
  unfold execGateDriveUvlo at e
  refine act_good _ _ _ _ h (fun s h => ?_) e
  repeat' first
    | with_reducible assumption | with_reducible apply gateUvlo_good
    | with_reducible apply Good.ite | exact ⟨h.1⟩

theorem commitMiss_good {W : Group → Prop} (a0 : Nat) (a1 : State) (r : State) (h : Good W r a1) : Good W r (commitMiss a0 a1) := by
  unfold commitMiss
  repeat' first
    | with_reducible assumption | with_reducible apply modCell_good
    | (with_reducible apply Good.foldl; intro _ _ _) | intro _
    | with_reducible apply Good.ite | split
    | with_reducible apply Good.fold | (with_reducible apply Good.mk'; try dsimp only)

theorem execCommitMissed_good {W : Group → Prop} (a0 : Nat) (a1 : State) (r t : State) (h : Good W r a1) (e : execCommitMissed a0 a1 = .next t) : Good
    W r t := by
  unfold execCommitMissed at e
  refine act_good _ _ _ _ h (fun s h => ?_) e
  repeat' first
    | with_reducible assumption | with_reducible apply commitMiss_good
    | with_reducible apply Good.ite | exact ⟨h.1⟩

theorem execProtectionTrip_good {W : Group → Prop} (a0 : Nat) (a1 : Trip) (a2 : State) (r t : State) (h : Good W r a2) (e : execProtectionTrip a0 a1
    a2 = .next t) : Good W r t := by
  unfold execProtectionTrip at e
  refine act_good _ _ _ _ h (fun s h => ?_) e
  repeat' first
    | with_reducible assumption | with_reducible apply modCell_good | with_reducible apply abortTest_good | with_reducible apply rephaseDue_good
    | with_reducible apply gateUvlo_good
    | with_reducible apply Good.ite | exact ⟨h.1⟩

theorem execTripCleared_good {W : Group → Prop} (a0 : Nat) (a1 : Trip) (a2 : State) (r t : State) (h : Good W r a2) (e : execTripCleared a0 a1 a2 =
    .next t) : Good W r t := by
  unfold execTripCleared at e
  refine act_good _ _ _ _ h (fun s h => ?_) e
  repeat' first
    | with_reducible assumption | with_reducible apply modCell_good | with_reducible apply rephaseDue_good
    | with_reducible apply Good.ite | exact ⟨h.1⟩

theorem restartCell_good {W : Group → Prop} (a0 : Nat) (a1 : State) (r : State) (h : Good W r a1) : Good W r (restartCell a0 a1) := by
  unfold restartCell
  repeat' first
    | with_reducible assumption | with_reducible apply modCell_good | with_reducible apply returnToCordon_good
    | with_reducible apply Good.ite | exact ⟨h.1⟩

theorem execOcRestart_good {W : Group → Prop} (a0 : Nat) (a1 : State) (r t : State) (h : Good W r a1) (e : execOcRestart a0 a1 = .next t) : Good W r t
    := by
  unfold execOcRestart at e
  refine act_good _ _ _ _ h (fun s h => ?_) e
  clear e
  repeat' first
    | with_reducible assumption | with_reducible apply modCell_good | with_reducible apply loseCell_good | with_reducible apply restartCell_good
    | (with_reducible apply Good.foldl; intro _ _ _) | intro _
    | with_reducible apply Good.ite | split
    | with_reducible apply Good.fold | (with_reducible apply Good.mk'; try dsimp only)

theorem celRestart_good {W : Group → Prop} (a0 : Nat) (a1 : State) (r : State) (h : Good W r a1) : Good W r (celRestart a0 a1) := by
  unfold celRestart
  repeat' first
    | with_reducible assumption | with_reducible apply modCell_good | with_reducible apply loseCell_good | with_reducible apply celCmd_good
    | with_reducible apply restartCell_good
    | (with_reducible apply Good.foldl; intro _ _ _) | intro _
    | with_reducible apply Good.ite | split
    | with_reducible apply Good.fold | (with_reducible apply Good.mk'; try dsimp only)

theorem execRestart_good {W : Group → Prop} (a0 : Nat) (a1 : State) (r t : State) (h : Good W r a1) (e : execRestart a0 a1 = .next t) : Good W r t :=
    by
  unfold execRestart at e
  refine act_good _ _ _ _ h (fun s h => ?_) e
  repeat' first
    | with_reducible assumption | with_reducible apply celRestart_good
    | with_reducible apply Good.ite | exact ⟨h.1⟩

theorem celWithdraw_good {W : Group → Prop} (a0 : Nat) (a1 : State) (r : State) (h : Good W r a1) : Good W r (celWithdraw a0 a1) := by
  unfold celWithdraw
  dsimp only
  repeat' first
    | with_reducible assumption | with_reducible apply modCell_good | with_reducible apply leaveFor_good | with_reducible apply celCmd_good
    | intro _ | with_reducible apply Good.ite | split | with_reducible apply Good.fold | with_reducible apply Good.mk'

theorem execWithdraw_good {W : Group → Prop} (a0 : Nat) (a1 : State) (r t : State) (h : Good W r a1) (e : execWithdraw a0 a1 = .next t) : Good W r t
    := by
  unfold execWithdraw at e
  refine act_good _ _ _ _ h (fun s h => ?_) e
  repeat' first
    | with_reducible assumption | with_reducible apply celWithdraw_good
    | with_reducible apply Good.ite | exact ⟨h.1⟩

theorem celReturn_good {W : Group → Prop} (a0 : Nat) (a1 : State) (r : State) (h : Good W r a1) : Good W r (celReturn a0 a1) := by
  unfold celReturn
  dsimp only
  repeat' first
    | with_reducible assumption | with_reducible apply modCell_good | with_reducible apply returnToCordon_good | with_reducible apply celCmd_good
    | intro _ | with_reducible apply Good.ite | split | with_reducible apply Good.fold | with_reducible apply Good.mk'

theorem execReturnCell_good {W : Group → Prop} (a0 : Nat) (a1 : State) (r t : State) (h : Good W r a1) (e : execReturnCell a0 a1 = .next t) : Good W r
    t := by
  unfold execReturnCell at e
  refine act_good _ _ _ _ h (fun s h => ?_) e
  repeat' first
    | with_reducible assumption | with_reducible apply celReturn_good
    | with_reducible apply Good.ite | exact ⟨h.1⟩

theorem celClearFailed_good {W : Group → Prop} (a0 : Nat) (a1 : State) (r : State) (h : Good W r a1) : Good W r (celClearFailed a0 a1) := by
  unfold celClearFailed
  dsimp only
  repeat' first
    | with_reducible assumption | with_reducible apply modCell_good | with_reducible apply celCmd_good
    | intro _ | with_reducible apply Good.ite | split | with_reducible apply Good.fold | with_reducible apply Good.mk'

theorem execClearFailed_good {W : Group → Prop} (a0 : Nat) (a1 : State) (r t : State) (h : Good W r a1) (e : execClearFailed a0 a1 = .next t) : Good W
    r t := by
  unfold execClearFailed at e
  refine act_good _ _ _ _ h (fun s h => ?_) e
  repeat' first
    | with_reducible assumption | with_reducible apply celClearFailed_good
    | with_reducible apply Good.ite | exact ⟨h.1⟩

theorem celUnknown_good {W : Group → Prop} (a0 : Nat) (a1 : State) (r : State) (h : Good W r a1) : Good W r (celUnknown a0 a1) := ⟨h.1⟩

theorem execMicrocodeTransferEnd_good {W : Group → Prop} (a0 : Nat) (a1 : Bool) (a2 : State) (r t : State) (h : Good W r a2) (e :
    execMicrocodeTransferEnd a0 a1 a2 = .next t) : Good W r t := by
  unfold execMicrocodeTransferEnd at e
  refine act_good _ _ _ _ h (fun s h => ?_) e
  exact Good.ite ⟨h.1⟩ h

theorem settleAll_good {W : Group → Prop} (a0 : State) (r : State) (h : Good W r a0) : Good W r (settleAll a0) := by
  unfold settleAll
  repeat' first
    | with_reducible assumption | with_reducible apply settleStart_good
    | (with_reducible apply Good.foldl; intro _ _ _) | intro _
    | with_reducible apply Good.ite | split
    | with_reducible apply Good.fold | (with_reducible apply Good.mk'; try dsimp only)

theorem crdRestart_good {W : Group → Prop} (a0 : Nat) (a1 : State) (r : State) (h : Good W r a1) : Good W r (crdRestart a0 a1) := by
  unfold crdRestart
  dsimp only
  repeat' first
    | with_reducible assumption | with_reducible apply modCells_good | with_reducible apply modCordon_good | with_reducible apply modBat_good
    | with_reducible apply settleAll_good
    | intro _ | with_reducible apply Good.ite | split | with_reducible apply Good.fold | with_reducible apply Good.mk'

theorem execRestartCordon_good {W : Group → Prop} (a0 : Nat) (a1 : State) (r t : State) (h : Good W r a1) (e : execRestartCordon a0 a1 = .next t) :
    Good W r t := by
  unfold execRestartCordon at e
  refine act_good _ _ _ _ h (fun s h => ?_) e
  repeat' first
    | with_reducible assumption | with_reducible apply crdRestart_good
    | with_reducible apply Good.ite | exact ⟨h.1⟩

theorem crdUnknown_good {W : Group → Prop} (a0 : Nat) (a1 : State) (r : State) (h : Good W r a1) : Good W r (crdUnknown a0 a1) := ⟨h.1⟩

theorem execLastGoodCopyWrite_good {W : Group → Prop} (a0 : State) (r t : State) (h : Good W r a0) (e : execLastGoodCopyWrite a0 = .next t) (_ : W
    .cellar := by assumption) : Good W r t := by
  unfold execLastGoodCopyWrite at e
  refine act_good _ _ _ _ h (fun s h => ?_) e
  dsimp only
  repeat' first
    | with_reducible assumption | with_reducible apply lgcWrite_good
    | intro _ | with_reducible apply Good.ite | split | with_reducible apply Good.fold | with_reducible apply Good.mk'

theorem markFeeding_good {W : Group → Prop} (a0 : State) (r : State) (h : Good W r a0) : Good W r (markFeeding a0) := ⟨h.1⟩

theorem driveRank_good {W : Group → Prop} (a0 : Nat) (a1 : State) (r : State) (h : Good W r a1) : Good W r (driveRank a0 a1) := by
  unfold driveRank
  repeat' first
    | with_reducible assumption | with_reducible apply driveCordon_good
    | with_reducible apply Good.ite | exact ⟨h.1⟩

theorem applyPriority_good {W : Group → Prop} (a0 : State) (r : State) (h : Good W r a0) : Good W r (applyPriority a0) := by
  unfold applyPriority
  repeat' first
    | with_reducible assumption | with_reducible apply gateFollows_good | with_reducible apply gateOpens_good
    | with_reducible apply markFeeding_good | with_reducible apply driveRank_good
    | (with_reducible apply Good.foldl; intro _ _ _) | intro _
    | with_reducible apply Good.ite | split
    | with_reducible apply Good.fold | (with_reducible apply Good.mk'; try dsimp only)

theorem cordonEngages_good {W : Group → Prop} (a0 : Nat) (a1 : Nat) (a2 : State) (r : State) (h : Good W r a2) : Good W r (cordonEngages a0 a1 a2) :=
    by
  unfold cordonEngages
  repeat' first
    | with_reducible assumption | with_reducible apply modCordon_good | with_reducible apply modChg_good | with_reducible apply modBat_good
    | with_reducible apply modRun_good
    | with_reducible apply Good.ite | exact ⟨h.1⟩

theorem abandonPulses_good {W : Group → Prop} (a0 : State) (r : State) (h : Good W r a0) : Good W r (abandonPulses a0) := by
  unfold abandonPulses
  repeat' first
    | with_reducible assumption | with_reducible apply modBat_good | with_reducible apply driveCordon_good
    | (with_reducible apply Good.foldl; intro _ _ _) | intro _
    | with_reducible apply Good.ite | split
    | with_reducible apply Good.fold | (with_reducible apply Good.mk'; try dsimp only)

theorem engageSets_good {W : Group → Prop} (a0 : State) (r : State) (h : Good W r a0) : Good W r (engageSets a0) := by
  unfold engageSets
  repeat' first
    | with_reducible assumption | with_reducible apply modCell_good | with_reducible apply cordonEngages_good
    | (with_reducible apply Good.foldl; intro _ _ _) | intro _
    | with_reducible apply Good.ite | split
    | with_reducible apply Good.fold | (with_reducible apply Good.mk'; try dsimp only)

theorem engagedSet_good {W : Group → Prop} (a0 : Nat → Nat) (a1 : State) (r : State) (h : Good W r a1) : Good W r (engagedSet a0 a1) := by
  unfold engagedSet
  repeat' first
    | with_reducible assumption | with_reducible apply modCell_good
    | (with_reducible apply Good.foldl; intro _ _ _) | intro _
    | with_reducible apply Good.ite | split
    | with_reducible apply Good.fold | (with_reducible apply Good.mk'; try dsimp only)

theorem startChangeover_good {W : Group → Prop} (a0 : Nat) (a1 : Nat) (a2 : State) (r : State) (h : Good W r a2) (_ : W .changeover := by assumption)
    : Good W r (startChangeover a0 a1 a2) := by
  unfold startChangeover
  repeat' first
    | with_reducible assumption | with_reducible apply abortTest_good | with_reducible apply driveRank_good
    | with_reducible apply abandonPulses_good | with_reducible apply engageSets_good
    | (with_reducible apply Good.foldl; intro _ _ _) | intro _
    | with_reducible apply Good.ite | split
    | with_reducible apply Good.fold | (with_reducible apply Good.mk'; try dsimp only) | with_reducible apply Good.fold_changeover

theorem exportsEnd_good {W : Group → Prop} (a0 : State) (r : State) (h : Good W r a0) : Good W r (exportsEnd a0) := by
  unfold exportsEnd
  repeat' first
    | with_reducible assumption | with_reducible apply modPeer_good | with_reducible apply driveCordon_good
    | (with_reducible apply Good.foldl; intro _ _ _) | intro _
    | with_reducible apply Good.ite | split
    | with_reducible apply Good.fold | (with_reducible apply Good.mk'; try dsimp only)

theorem pathGone_good {W : Group → Prop} (a0 : Nat) (a1 : Nat) (a2 : Source) (a3 : State) (r : State) (h : Good W r a3) (_ : W .changeover := by
    assumption) : Good W r (pathGone a0 a1 a2 a3) := by
  unfold pathGone
  dsimp only
  repeat' first
    | with_reducible assumption | with_reducible apply setMode_good | with_reducible apply gateOpens_good | with_reducible apply driveCordon_good
    | with_reducible apply serviceEnds_good | with_reducible apply markFeeding_good | with_reducible apply applyPriority_good
    | with_reducible apply startChangeover_good | with_reducible apply exportsEnd_good
    | intro _ | with_reducible apply Good.ite | split | with_reducible apply Good.fold | with_reducible apply Good.mk'

theorem dropPath_good {W : Group → Prop} (a0 : Nat) (a1 : Nat) (a2 : Bool) (a3 : State) (r : State) (h : Good W r a3) (_ : W .changeover := by
    assumption) : Good W r (dropPath a0 a1 a2 a3) := by
  unfold dropPath
  repeat' first
    | with_reducible assumption | with_reducible apply modSrc_good | with_reducible apply pathGone_good
    | with_reducible apply Good.ite | exact ⟨h.1⟩

theorem seekFeed_good {W : Group → Prop} (a0 : State) (r : State) (h : Good W r a0) : Good W r (seekFeed a0) := by
  unfold seekFeed
  dsimp only
  repeat' first
    | with_reducible assumption | with_reducible apply startRise_good | with_reducible apply applyPriority_good | with_reducible apply engageSets_good
    | intro _ | with_reducible apply Good.ite | split | with_reducible apply Good.fold | with_reducible apply Good.mk'

theorem reportBand_good {W : Group → Prop} (a0 : Nat) (a1 : Band) (a2 : State) (r : State) (h : Good W r a2) : Good W r (reportBand a0 a1 a2) := by
  unfold reportBand
  dsimp only
  repeat' first
    | with_reducible assumption | with_reducible apply modSrc_good | with_reducible apply limpSet_good
    | intro _ | with_reducible apply Good.ite | split | with_reducible apply Good.fold | with_reducible apply Good.mk'

theorem execSourceCrossingReport_good {W : Group → Prop} (a0 : Nat) (a1 : Band) (a2 : State) (r t : State) (h : Good W r a2) (e :
    execSourceCrossingReport a0 a1 a2 = .next t) : Good W r t := by
  unfold execSourceCrossingReport at e
  refine act_good _ _ _ _ h (fun s h => ?_) e
  repeat' first
    | with_reducible assumption | with_reducible apply reportBand_good
    | with_reducible apply Good.ite | exact ⟨h.1⟩

theorem readSrcId_good {W : Group → Prop} (a0 : Nat) (a1 : Nat) (a2 : State) (r : State) (h : Good W r a2) : Good W r (readSrcId a0 a1 a2) := by
  unfold readSrcId
  repeat' first
    | with_reducible assumption | with_reducible apply modSrc_good | with_reducible apply raise_good
    | with_reducible apply Good.ite | exact ⟨h.1⟩

theorem execSourceQualifyStart_good {W : Group → Prop} (a0 : Nat) (a1 : Nat) (a2 : State) (r t : State) (h : Good W r a2) (e : execSourceQualifyStart
    a0 a1 a2 = .next t) (_ : W .changeover := by assumption) : Good W r t := by
  unfold execSourceQualifyStart at e
  refine act_good _ _ _ _ h (fun s h => ?_) e
  repeat' first
    | with_reducible assumption | with_reducible apply modSrc_good | with_reducible apply raise_good | with_reducible apply dropPath_good
    | with_reducible apply readSrcId_good
    | with_reducible apply Good.ite | exact ⟨h.1⟩

theorem handSet_good {W : Group → Prop} (a0 : Nat) (a1 : State) (r : State) (h : Good W r a1) : Good W r (handSet a0 a1) := by
  unfold handSet
  dsimp only
  repeat' first
    | with_reducible assumption | with_reducible apply applyPriority_good | with_reducible apply engagedSet_good
    | intro _ | with_reducible apply Good.ite | split | with_reducible apply Good.fold | with_reducible apply Good.mk'

theorem execQualificationEnd_good {W : Group → Prop} (a0 : Nat) (a1 : State) (r t : State) (h : Good W r a1) (e : execQualificationEnd a0 a1 = .next
    t) : Good W r t := by
  unfold execQualificationEnd at e
  refine act_good _ _ _ _ h (fun s h => ?_) e
  dsimp only
  repeat' first
    | with_reducible assumption | with_reducible apply modSrc_good | with_reducible apply setMode_good | with_reducible apply applyPriority_good
    | with_reducible apply seekFeed_good | with_reducible apply handSet_good
    | intro _ | with_reducible apply Good.ite | split | with_reducible apply Good.fold | with_reducible apply Good.mk'

theorem execSourceDrop_good {W : Group → Prop} (a0 : Nat) (a1 : State) (r t : State) (h : Good W r a1) (e : execSourceDrop a0 a1 = .next t) (_ : W
    .changeover := by assumption) : Good W r t := by
  unfold execSourceDrop at e
  refine act_good _ _ _ _ h (fun s h => ?_) e
  repeat' first
    | with_reducible assumption | with_reducible apply dropPath_good
    | with_reducible apply Good.ite | exact ⟨h.1⟩

theorem execDropCountAge_good {W : Group → Prop} (a0 : Nat) (a1 : State) (r t : State) (h : Good W r a1) (e : execDropCountAge a0 a1 = .next t) : Good
    W r t := by
  unfold execDropCountAge at e
  refine act_good _ _ _ _ h (fun s h => ?_) e
  exact ⟨h.1⟩

theorem coComplete_good {W : Group → Prop} (a0 : State) (r : State) (h : Good W r a0) : Good W r (coComplete a0) := by
  unfold coComplete
  exact Good.ite ⟨h.1⟩ h

theorem execCoLate_good {W : Group → Prop} (a0 : State) (r t : State) (h : Good W r a0) (e : execCoLate a0 = .next t) : Good W r t := by
  unfold execCoLate at e
  refine act_good _ _ _ _ h (fun s h => ?_) e
  repeat' first
    | with_reducible assumption | with_reducible apply raise_good
    | with_reducible apply Good.ite | exact ⟨h.1⟩

theorem execHandback_good {W : Group → Prop} (a0 : State) (r t : State) (h : Good W r a0) (e : execHandback a0 = .next t) : Good W r t := by
  unfold execHandback at e
  refine act_good _ _ _ _ h (fun s h => ?_) e
  dsimp only
  repeat' first
    | with_reducible assumption | with_reducible apply engagedSet_good | with_reducible apply handSet_good
    | intro _ | with_reducible apply Good.ite | split | with_reducible apply Good.fold | with_reducible apply Good.mk'

theorem releaseEngaged_good {W : Group → Prop} (a0 : State) (r : State) (h : Good W r a0) : Good W r (releaseEngaged a0) := by
  unfold releaseEngaged
  repeat' first
    | with_reducible assumption | with_reducible apply modCells_good | with_reducible apply driveCordon_good
    | (with_reducible apply Good.foldl; intro _ _ _) | intro _
    | with_reducible apply Good.ite | split
    | with_reducible apply Good.fold | (with_reducible apply Good.mk'; try dsimp only)

theorem handbackDone_good {W : Group → Prop} (a0 : State) (r : State) (h : Good W r a0) : Good W r (handbackDone a0) := by
  unfold handbackDone
  have ht : Good W r (releaseEngaged a0) := releaseEngaged_good _ _ h
  generalize releaseEngaged a0 = t at ht
  have hu : Good W r ({ t with pwr := fedAgain t.pwr } : State) := Good.mk' (by simp only [fedAgain]; exact Good.fold ht)
  exact Good.ite (limpSet_good _ _ hu) (applyPriority_good _ _ hu)

theorem execHandbackComplete_good {W : Group → Prop} (a0 : State) (r t : State) (h : Good W r a0) (e : execHandbackComplete a0 = .next t) : Good W r t
    := by
  unfold execHandbackComplete at e
  refine act_good _ _ _ _ h (fun s h => ?_) e
  repeat' first
    | with_reducible assumption | with_reducible apply handbackDone_good
    | with_reducible apply Good.ite | exact ⟨h.1⟩

theorem execHandbackTimeout_good {W : Group → Prop} (a0 : State) (r t : State) (h : Good W r a0) (e : execHandbackTimeout a0 = .next t) (_ : W
    .changeover := by assumption) : Good W r t := by
  unfold execHandbackTimeout at e
  refine act_good _ _ _ _ h (fun s h => ?_) e
  repeat' first
    | with_reducible assumption | with_reducible apply raise_good | with_reducible apply engagedSet_good | with_reducible apply dropPath_good
    | with_reducible apply Good.ite | exact ⟨h.1⟩

theorem execCaskLow_good {W : Group → Prop} (a0 : State) (r t : State) (h : Good W r a0) (e : execCaskLow a0 = .next t) : Good W r t := by
  unfold execCaskLow at e
  refine act_good _ _ _ _ h (fun s h => ?_) e
  exact Good.ite ⟨h.1⟩ h

theorem execCaskLowClear_good {W : Group → Prop} (a0 : State) (r t : State) (h : Good W r a0) (e : execCaskLowClear a0 = .next t) : Good W r t := by
  unfold execCaskLowClear at e
  refine act_good _ _ _ _ h (fun s h => ?_) e
  exact ⟨h.1⟩

theorem execSupplementEnd_good {W : Group → Prop} (a0 : State) (r t : State) (h : Good W r a0) (e : execSupplementEnd a0 = .next t) : Good W r t := by
  unfold execSupplementEnd at e
  refine act_good _ _ _ _ h (fun s h => ?_) e
  clear e
  repeat' first
    | with_reducible assumption | with_reducible apply driveCordon_good | with_reducible apply handSet_good
    | (with_reducible apply Good.foldl; intro _ _ _) | intro _
    | with_reducible apply Good.ite | split
    | with_reducible apply Good.fold | (with_reducible apply Good.mk'; try dsimp only)

theorem pwrTestDrop_good {W : Group → Prop} (a0 : Nat) (a1 : Nat) (a2 : State) (r : State) (h : Good W r a2) (_ : W .changeover := by assumption) :
    Good W r (pwrTestDrop a0 a1 a2) := by
  unfold pwrTestDrop
  dsimp only
  repeat' first
    | with_reducible assumption | with_reducible apply dropPath_good
    | intro _ | with_reducible apply Good.ite | split | with_reducible apply Good.fold | with_reducible apply Good.mk'

theorem execTestDrop_good {W : Group → Prop} (a0 : Nat) (a1 : Nat) (a2 : State) (r t : State) (h : Good W r a2) (e : execTestDrop a0 a1 a2 = .next t)
    (_ : W .changeover := by assumption) : Good W r t := by
  unfold execTestDrop at e
  refine act_good _ _ _ _ h (fun s h => ?_) e
  repeat' first
    | with_reducible assumption | with_reducible apply pwrTestDrop_good
    | with_reducible apply Good.ite | exact ⟨h.1⟩

theorem pwrUnknown_good {W : Group → Prop} (a0 : Nat) (a1 : State) (r : State) (h : Good W r a1) : Good W r (pwrUnknown a0 a1) := ⟨h.1⟩

theorem execTestDropHoldEnd_good {W : Group → Prop} (a0 : Nat) (a1 : State) (r t : State) (h : Good W r a1) (e : execTestDropHoldEnd a0 a1 = .next t)
    : Good W r t := by
  unfold execTestDropHoldEnd at e
  refine act_good _ _ _ _ h (fun s h => ?_) e
  repeat' first
    | with_reducible assumption | with_reducible apply modSrc_good
    | with_reducible apply Good.ite | exact ⟨h.1⟩

theorem execEngage_good {W : Group → Prop} (a0 : Nat) (a1 : State) (r t : State) (h : Good W r a1) (e : execEngage a0 a1 = .next t) : Good W r t := by
  unfold execEngage at e
  refine act_good _ _ _ _ h (fun s h => ?_) e
  dsimp only
  repeat' first
    | with_reducible assumption | with_reducible apply modCell_good | with_reducible apply limpSet_good | with_reducible apply cordonEngages_good
    | with_reducible apply engageSets_good
    | intro _ | with_reducible apply Good.ite | split | with_reducible apply Good.fold | with_reducible apply Good.mk'

end Sys2Proof.Laws
end

