-- ==== Sys2Proof/Laws/KeepsPower.lean ====
section
/-! SUPPORT. What the charge, battery and regeneration rows keep: `Good W r` of a state passes to the state
the operation makes, for every `W` that allows the groups the operation writes. -/

open Sys2Proof.Machine

namespace Sys2Proof.Laws
set_option Elab.async false
set_option linter.all false

theorem terminate_good {W : Group → Prop} (a0 : Nat) (a1 : Nat) (a2 : State) (r : State) (h : Good W r a2) : Good W r (terminate a0 a1 a2) := ⟨h.1⟩

theorem reconcile_good {W : Group → Prop} (a0 : Nat) (a1 : State) (r : State) (h : Good W r a1) : Good W r (reconcile a0 a1) := by
  unfold reconcile
  repeat' first
    | with_reducible assumption | with_reducible apply modRun_good | with_reducible apply modBook_good | with_reducible apply raise_good
    | with_reducible apply Good.ite | exact ⟨h.1⟩

theorem shortMarks_good {W : Group → Prop} (a0 : Nat) (a1 : State) (r : State) (h : Good W r a1) : Good W r (shortMarks a0 a1) := by
  unfold shortMarks
  repeat' first
    | with_reducible assumption | with_reducible apply modBat_good
    | with_reducible apply Good.ite | exact ⟨h.1⟩

theorem transitions_good {W : Group → Prop} (a0 : Nat) (a1 : State) (r : State) (h : Good W r a1) : Good W r (transitions a0 a1) := by
  unfold transitions
  extract_lets g p b n put
  have hp : ∀ f, Good W r (put f) := fun f => modChg_good _ _ _ _ h
  clear_value put
  repeat' first
    | with_reducible exact hp _
    | with_reducible exact terminate_good _ _ _ _ h
    | with_reducible exact h
    | with_reducible apply Good.ite
    | split

theorem suspend_good {W : Group → Prop} (a0 : Nat) (a1 : State) (r : State) (h : Good W r a1) : Good W r (suspend a0 a1) := by
  unfold suspend
  repeat' first
    | with_reducible assumption | with_reducible apply modChg_good
    | with_reducible apply Good.ite | exact ⟨h.1⟩

theorem cutoffs_good {W : Group → Prop} (a0 : Nat) (a1 : State) (r : State) (h : Good W r a1) : Good W r (cutoffs a0 a1) := by
  unfold cutoffs
  repeat' first
    | with_reducible assumption | with_reducible apply modCells_good | with_reducible apply modChg_good | with_reducible apply driveCordon_good
    | with_reducible apply reconcile_good
    | with_reducible apply Good.ite | exact ⟨h.1⟩

theorem startPulse_good {W : Group → Prop} (a0 : Nat) (a1 : State) (r : State) (h : Good W r a1) : Good W r (startPulse a0 a1) := by
  unfold startPulse
  repeat' first
    | with_reducible assumption | with_reducible apply modBat_good | with_reducible apply driveCordon_good
    | with_reducible apply Good.ite | exact ⟨h.1⟩

theorem commandString_good {W : Group → Prop} (a0 : Nat) (a1 : State) (r : State) (h : Good W r a1) : Good W r (commandString a0 a1) := by
  unfold commandString
  repeat' first
    | with_reducible assumption | with_reducible apply modCells_good | with_reducible apply modBat_good | with_reducible apply modRun_good
    | with_reducible apply driveCordon_good | with_reducible apply startPulse_good
    | with_reducible apply Good.ite | exact ⟨h.1⟩

theorem demands_good {W : Group → Prop} (a0 : Nat) (a1 : State) (r : State) (h : Good W r a1) : Good W r (demands a0 a1) := by
  unfold demands
  repeat' first
    | with_reducible assumption | with_reducible apply modChg_good | with_reducible apply raise_good
    | with_reducible apply Good.ite | exact ⟨h.1⟩

theorem restStart_good {W : Group → Prop} (a0 : Nat) (a1 : State) (r : State) (h : Good W r a1) : Good W r (restStart a0 a1) := by
  unfold restStart
  exact Good.ite ⟨h.1⟩ h

theorem evalString_good {W : Group → Prop} (a0 : Bool) (a1 : Nat) (a2 : State) (r : State) (h : Good W r a2) : Good W r (evalString a0 a1 a2) := by
  unfold evalString
  repeat' first
    | with_reducible assumption | with_reducible apply modChg_good | with_reducible apply modRun_good | with_reducible apply shortMarks_good
    | with_reducible apply transitions_good | with_reducible apply suspend_good | with_reducible apply cutoffs_good
    | with_reducible apply commandString_good | with_reducible apply demands_good | with_reducible apply restStart_good
    | with_reducible apply Good.ite | exact ⟨h.1⟩

theorem execChargeEvaluation_good {W : Group → Prop} (a0 : State) (r t : State) (h : Good W r a0) (e : execChargeEvaluation a0 = .next t) : Good W r t
    := by
  unfold execChargeEvaluation at e
  refine act_good _ _ _ _ h (fun s h => ?_) e
  clear e
  repeat' first
    | with_reducible assumption | with_reducible apply evalString_good
    | (with_reducible apply Good.foldl; intro _ _ _) | intro _
    | with_reducible apply Good.ite | split
    | with_reducible apply Good.fold | (with_reducible apply Good.mk'; try dsimp only)

theorem execQualifyRestEnd_good {W : Group → Prop} (a0 : Nat) (a1 : State) (r t : State) (h : Good W r a1) (e : execQualifyRestEnd a0 a1 = .next t) :
    Good W r t := by
  unfold execQualifyRestEnd at e
  refine act_good _ _ _ _ h (fun s h => ?_) e
  repeat' first
    | with_reducible assumption | with_reducible apply modChg_good | with_reducible apply commandString_good | with_reducible apply demands_good
    | with_reducible apply Good.ite | exact ⟨h.1⟩

theorem execSafeTimeout_good {W : Group → Prop} (a0 : Nat) (a1 : State) (r t : State) (h : Good W r a1) (e : execSafeTimeout a0 a1 = .next t) : Good W
    r t := by
  unfold execSafeTimeout at e
  refine act_good _ _ _ _ h (fun s h => ?_) e
  repeat' first
    | with_reducible assumption | with_reducible apply modChg_good | with_reducible apply commandString_good
    | with_reducible apply Good.ite | exact ⟨h.1⟩

theorem execPreTimeout_good {W : Group → Prop} (a0 : Nat) (a1 : State) (r t : State) (h : Good W r a1) (e : execPreTimeout a0 a1 = .next t) : Good W r
    t := by
  unfold execPreTimeout at e
  refine act_good _ _ _ _ h (fun s h => ?_) e
  repeat' first
    | with_reducible assumption | with_reducible apply modChg_good | with_reducible apply commandString_good
    | with_reducible apply Good.ite | exact ⟨h.1⟩

theorem execCvTimerExpiry_good {W : Group → Prop} (a0 : Nat) (a1 : State) (r t : State) (h : Good W r a1) (e : execCvTimerExpiry a0 a1 = .next t) :
    Good W r t := by
  unfold execCvTimerExpiry at e
  refine act_good _ _ _ _ h (fun s h => ?_) e
  repeat' first
    | with_reducible assumption | with_reducible apply modChg_good | with_reducible apply terminate_good | with_reducible apply commandString_good
    | with_reducible apply demands_good
    | with_reducible apply Good.ite | exact ⟨h.1⟩

theorem execNicdPulseEnd_good {W : Group → Prop} (a0 : Nat) (a1 : State) (r t : State) (h : Good W r a1) (e : execNicdPulseEnd a0 a1 = .next t) : Good
    W r t := by
  unfold execNicdPulseEnd at e
  refine act_good _ _ _ _ h (fun s h => ?_) e
  repeat' first
    | with_reducible assumption | with_reducible apply modChg_good | with_reducible apply commandString_good
    | with_reducible apply Good.ite | exact ⟨h.1⟩

theorem chgCmd_good {W : Group → Prop} (a0 : Nat) (a1 : Nat) (a2 : State → State × Nat) (a3 : State) (r : State) (h : Good W r a3) (ha2 : ∀ t, Good W
    r t → Good W r (a2 t).1) : Good W r (chgCmd a0 a1 a2 a3) := by
  unfold chgCmd
  dsimp only
  repeat' first
    | with_reducible assumption | with_reducible apply ha2
    | intro _ | with_reducible apply Good.ite | split | with_reducible apply Good.fold | with_reducible apply Good.mk'

theorem chgRestart_good {W : Group → Prop} (a0 : Nat) (a1 : State) (r : State) (h : Good W r a1) : Good W r (chgRestart a0 a1) := by
  unfold chgRestart
  refine chgCmd_good _ _ _ _ _ h (fun t g => ?_)
  have k : Good W r (commandString a0 (t.modChg a0 (newCycle t a0 false))) := commandString_good _ _ _ (modChg_good _ _ _ _ g)
  have k2 : ∀ f, Good W r (t.modChg a0 f) := fun f => modChg_good _ _ _ _ g
  dsimp only
  split_ifs <;> first | exact k | exact g | exact k2 _

theorem execChgRestart_good {W : Group → Prop} (a0 : Nat) (a1 : State) (r t : State) (h : Good W r a1) (e : execChgRestart a0 a1 = .next t) : Good W r
    t := by
  unfold execChgRestart at e
  refine act_good _ _ _ _ h (fun s h => ?_) e
  repeat' first
    | with_reducible assumption | with_reducible apply chgRestart_good
    | with_reducible apply Good.ite | exact ⟨h.1⟩

theorem chgHold_good {W : Group → Prop} (a0 : Nat) (a1 : State) (r : State) (h : Good W r a1) : Good W r (chgHold a0 a1) := by
  unfold chgHold
  dsimp only
  repeat' first
    | with_reducible assumption | with_reducible apply modChg_good | with_reducible apply modRun_good | with_reducible apply commandString_good
    | with_reducible apply chgCmd_good
    | intro _ | with_reducible apply Good.ite | split | with_reducible apply Good.fold | with_reducible apply Good.mk'

theorem execHold_good {W : Group → Prop} (a0 : Nat) (a1 : State) (r t : State) (h : Good W r a1) (e : execHold a0 a1 = .next t) : Good W r t := by
  unfold execHold at e
  refine act_good _ _ _ _ h (fun s h => ?_) e
  repeat' first
    | with_reducible assumption | with_reducible apply chgHold_good
    | with_reducible apply Good.ite | exact ⟨h.1⟩

theorem chgNewCycle_good {W : Group → Prop} (a0 : Nat) (a1 : State) (r : State) (h : Good W r a1) : Good W r (chgNewCycle a0 a1) := by
  unfold chgNewCycle
  repeat' first
    | with_reducible assumption | with_reducible apply modChg_good | with_reducible apply modRun_good | with_reducible apply modBook_good
    | with_reducible apply chgCmd_good
    | (with_reducible apply Good.foldl; intro _ _ _) | intro _
    | with_reducible apply Good.ite | split
    | with_reducible apply Good.fold | (with_reducible apply Good.mk'; try dsimp only)

theorem execNewCycle_good {W : Group → Prop} (a0 : Nat) (a1 : State) (r t : State) (h : Good W r a1) (e : execNewCycle a0 a1 = .next t) : Good W r t
    := by
  unfold execNewCycle at e
  refine act_good _ _ _ _ h (fun s h => ?_) e
  repeat' first
    | with_reducible assumption | with_reducible apply chgNewCycle_good
    | with_reducible apply Good.ite | exact ⟨h.1⟩

theorem chgUnknown_good {W : Group → Prop} (a0 : Nat) (a1 : State) (r : State) (h : Good W r a1) : Good W r (chgUnknown a0 a1) := ⟨h.1⟩

theorem execBatswSettled_good {W : Group → Prop} (a0 : Nat) (a1 : Nat) (a2 : Nat) (a3 : State) (r t : State) (h : Good W r a3) (e : execBatswSettled
    a0 a1 a2 a3 = .next t) : Good W r t := by
  unfold execBatswSettled at e
  refine act_good _ _ _ _ h (fun s h => ?_) e
  repeat' first
    | with_reducible assumption | with_reducible apply modBat_good | with_reducible apply limpSet_good
    | with_reducible apply Good.ite | exact ⟨h.1⟩

theorem execBatswSettleTimeout_good {W : Group → Prop} (a0 : Nat) (a1 : State) (r t : State) (h : Good W r a1) (e : execBatswSettleTimeout a0 a1 =
    .next t) : Good W r t := by
  unfold execBatswSettleTimeout at e
  refine act_good _ _ _ _ h (fun s h => ?_) e
  repeat' first
    | with_reducible assumption | with_reducible apply modBat_good | with_reducible apply raise_good
    | with_reducible apply Good.ite | exact ⟨h.1⟩

theorem execBatswRetry_good {W : Group → Prop} (a0 : Nat) (a1 : State) (r t : State) (h : Good W r a1) (e : execBatswRetry a0 a1 = .next t) : Good W r
    t := by
  unfold execBatswRetry at e
  refine act_good _ _ _ _ h (fun s h => ?_) e
  repeat' first
    | with_reducible assumption | with_reducible apply modBat_good | with_reducible apply settleStart_good
    | with_reducible apply Good.ite | exact ⟨h.1⟩

theorem confirmMissing_good {W : Group → Prop} (a0 : Nat) (a1 : State) (r : State) (h : Good W r a1) : Good W r (confirmMissing a0 a1) := by
  unfold confirmMissing
  repeat' first
    | with_reducible assumption | with_reducible apply modChg_good | with_reducible apply modBat_good | with_reducible apply modRun_good
    | with_reducible apply driveCordon_good
    | with_reducible apply Good.ite | exact ⟨h.1⟩

theorem suspectMissing_good {W : Group → Prop} (a0 : Nat) (a1 : State) (r : State) (h : Good W r a1) : Good W r (suspectMissing a0 a1) := by
  unfold suspectMissing
  repeat' first
    | with_reducible assumption | with_reducible apply modBat_good | with_reducible apply driveCordon_good | with_reducible apply startPulse_good
    | with_reducible apply confirmMissing_good
    | with_reducible apply Good.ite | exact ⟨h.1⟩

theorem missingMarks_good {W : Group → Prop} (a0 : Nat) (a1 : ℤ) (a2 : State) (r : State) (h : Good W r a2) : Good W r (missingMarks a0 a1 a2) := by
  unfold missingMarks
  repeat' first
    | with_reducible assumption | with_reducible apply modBat_good | with_reducible apply suspectMissing_good
    | with_reducible apply Good.ite | exact ⟨h.1⟩

theorem portMaxSeen_good {W : Group → Prop} (a0 : Nat) (a1 : State) (r : State) (h : Good W r a1) : Good W r (portMaxSeen a0 a1) := by
  unfold portMaxSeen
  exact Good.ite h ⟨h.1⟩

theorem execMissingPulseEnd_good {W : Group → Prop} (a0 : Nat) (a1 : Nat) (a2 : Nat) (a3 : State) (r t : State) (h : Good W r a3) (e :
    execMissingPulseEnd a0 a1 a2 a3 = .next t) : Good W r t := by
  unfold execMissingPulseEnd at e
  refine act_good _ _ _ _ h (fun s h => ?_) e
  repeat' first
    | with_reducible assumption | with_reducible apply modBat_good | with_reducible apply driveCordon_good
    | with_reducible apply commandString_good | with_reducible apply confirmMissing_good
    | with_reducible apply Good.ite | exact ⟨h.1⟩

theorem execPresenceProbe_good {W : Group → Prop} (a0 : Nat) (a1 : State) (r t : State) (h : Good W r a1) (e : execPresenceProbe a0 a1 = .next t) :
    Good W r t := by
  unfold execPresenceProbe at e
  refine act_good _ _ _ _ h (fun s h => ?_) e
  repeat' first
    | with_reducible assumption | with_reducible apply modBat_good | with_reducible apply driveCordon_good
    | with_reducible apply Good.ite | exact ⟨h.1⟩

theorem execPresenceProbeEnd_good {W : Group → Prop} (a0 : Nat) (a1 : Bool) (a2 : State) (r t : State) (h : Good W r a2) (e : execPresenceProbeEnd a0
    a1 a2 = .next t) : Good W r t := by
  unfold execPresenceProbeEnd at e
  refine act_good _ _ _ _ h (fun s h => ?_) e
  repeat' first
    | with_reducible assumption | with_reducible apply modBat_good | with_reducible apply driveCordon_good
    | with_reducible apply Good.ite | exact ⟨h.1⟩

theorem writeBooks_good {W : Group → Prop} (a0 : State) (r : State) (h : Good W r a0) (_ : W .cellar := by assumption) : Good W r (writeBooks a0) :=
    by
  unfold writeBooks
  repeat' first
    | with_reducible assumption | with_reducible apply blockWrite_good
    | with_reducible apply Good.ite | exact ⟨h.1⟩

theorem restoreBooks_good {W : Group → Prop} (a0 : Nat) (a1 : State) (r : State) (h : Good W r a1) : Good W r (restoreBooks a0 a1) := ⟨h.1⟩

theorem execBookCellarWrite_good {W : Group → Prop} (a0 : State) (r t : State) (h : Good W r a0) (e : execBookCellarWrite a0 = .next t) (_ : W .cellar
    := by assumption) : Good W r t := by
  unfold execBookCellarWrite at e
  refine act_good _ _ _ _ h (fun s h => ?_) e
  repeat' first
    | with_reducible assumption | with_reducible apply writeBooks_good
    | with_reducible apply Good.ite | exact ⟨h.1⟩

theorem finishRun_good {W : Group → Prop} (a0 : Nat) (a1 : State) (r : State) (h : Good W r a1) : Good W r (finishRun a0 a1) := by
  unfold finishRun
  dsimp only
  repeat' first
    | with_reducible assumption | with_reducible apply modRun_good | with_reducible apply freeNat_good | with_reducible apply raise_good
    | intro _ | with_reducible apply Good.ite | split | with_reducible apply Good.fold | with_reducible apply Good.mk'

theorem startRun_good {W : Group → Prop} (a0 : Nat) (a1 : Nat) (a2 : Nat) (a3 : Nat) (a4 : Nat) (a5 : Nat) (a6 : Nat) (a7 : State) (r : State) (h :
    Good W r a7) : Good W r (startRun a0 a1 a2 a3 a4 a5 a6 a7) := by
  unfold startRun
  repeat' first
    | with_reducible assumption | with_reducible apply modRun_good | with_reducible apply commandString_good
    | with_reducible apply Good.ite | exact ⟨h.1⟩

theorem startScheduled_good {W : Group → Prop} (a0 : Nat) (a1 : State) (r : State) (h : Good W r a1) : Good W r (startScheduled a0 a1) := by
  unfold startScheduled
  dsimp only
  repeat' first
    | with_reducible assumption | with_reducible apply startRun_good
    | intro _ | with_reducible apply Good.ite | split | with_reducible apply Good.fold | with_reducible apply Good.mk'

theorem execEisScheduledDue_good {W : Group → Prop} (a0 : Nat) (a1 : State) (r t : State) (h : Good W r a1) (e : execEisScheduledDue a0 a1 = .next t)
    : Good W r t := by
  unfold execEisScheduledDue at e
  refine act_good _ _ _ _ h (fun s h => ?_) e
  repeat' first
    | with_reducible assumption | with_reducible apply modRun_good | with_reducible apply startScheduled_good
    | with_reducible apply Good.ite | exact ⟨h.1⟩

theorem execEisScheduledSkip_good {W : Group → Prop} (a0 : Nat) (a1 : State) (r t : State) (h : Good W r a1) (e : execEisScheduledSkip a0 a1 = .next
    t) : Good W r t := by
  unfold execEisScheduledSkip at e
  refine act_good _ _ _ _ h (fun s h => ?_) e
  exact ⟨h.1⟩

theorem execEisPointComplete_good {W : Group → Prop} (a0 : Nat) (a1 : List (ℤ × ℤ)) (a2 : State) (r t : State) (h : Good W r a2) (e :
    execEisPointComplete a0 a1 a2 = .next t) : Good W r t := by
  unfold execEisPointComplete at e
  refine act_good _ _ _ _ h (fun s h => ?_) e
  repeat' first
    | with_reducible assumption | with_reducible apply modRun_good | with_reducible apply freeWord_good | with_reducible apply commandString_good
    | with_reducible apply finishRun_good
    | with_reducible apply Good.ite | exact ⟨h.1⟩

theorem eisCmd_good {W : Group → Prop} (a0 : Nat) (a1 : Nat) (a2 : State → State × Nat) (a3 : State) (r : State) (h : Good W r a3) (ha2 : ∀ t, Good W
    r t → Good W r (a2 t).1) : Good W r (eisCmd a0 a1 a2 a3) := by
  unfold eisCmd
  dsimp only
  repeat' first
    | with_reducible assumption | with_reducible apply ha2
    | intro _ | with_reducible apply Good.ite | split | with_reducible apply Good.fold | with_reducible apply Good.mk'

theorem eisSwitchOpen_good {W : Group → Prop} (a0 : Nat) (a1 : State) (r : State) (h : Good W r a1) : Good W r (eisSwitchOpen a0 a1) := by
  unfold eisSwitchOpen
  refine eisCmd_good _ _ _ _ _ h (fun t g => ?_)
  split
  · exact g
  · exact modBat_good _ _ _ _ (driveCordon_good _ _ _ _ _ _ _ g)

theorem execSwitchOpen_good {W : Group → Prop} (a0 : Nat) (a1 : State) (r t : State) (h : Good W r a1) (e : execSwitchOpen a0 a1 = .next t) : Good W r
    t := by
  unfold execSwitchOpen at e
  refine act_good _ _ _ _ h (fun s h => ?_) e
  repeat' first
    | with_reducible assumption | with_reducible apply eisSwitchOpen_good
    | with_reducible apply Good.ite | exact ⟨h.1⟩

theorem eisSwitchRelease_good {W : Group → Prop} (a0 : Nat) (a1 : State) (r : State) (h : Good W r a1) : Good W r (eisSwitchRelease a0 a1) := by
  unfold eisSwitchRelease
  repeat' first
    | with_reducible assumption | with_reducible apply modBat_good | with_reducible apply settleStart_good | with_reducible apply eisCmd_good
    | (with_reducible apply Good.foldl; intro _ _ _) | intro _
    | with_reducible apply Good.ite | split
    | with_reducible apply Good.fold | (with_reducible apply Good.mk'; try dsimp only)

theorem execSwitchRelease_good {W : Group → Prop} (a0 : Nat) (a1 : State) (r t : State) (h : Good W r a1) (e : execSwitchRelease a0 a1 = .next t) :
    Good W r t := by
  unfold execSwitchRelease at e
  refine act_good _ _ _ _ h (fun s h => ?_) e
  repeat' first
    | with_reducible assumption | with_reducible apply eisSwitchRelease_good
    | with_reducible apply Good.ite | exact ⟨h.1⟩

theorem eisRun_good {W : Group → Prop} (a0 : Nat) (a1 : State) (r : State) (h : Good W r a1) : Good W r (eisRun a0 a1) := by
  unfold eisRun
  repeat' first
    | with_reducible assumption | with_reducible apply startRun_good | with_reducible apply eisCmd_good
    | (with_reducible apply Good.foldl; intro _ _ _) | intro _
    | with_reducible apply Good.ite | split
    | with_reducible apply Good.fold | (with_reducible apply Good.mk'; try dsimp only)

theorem execRun_good {W : Group → Prop} (a0 : Nat) (a1 : State) (r t : State) (h : Good W r a1) (e : execRun a0 a1 = .next t) : Good W r t := by
  unfold execRun at e
  refine act_good _ _ _ _ h (fun s h => ?_) e
  repeat' first
    | with_reducible assumption | with_reducible apply eisRun_good
    | with_reducible apply Good.ite | exact ⟨h.1⟩

theorem eisRunDeep_good {W : Group → Prop} (a0 : Nat) (a1 : State) (r : State) (h : Good W r a1) : Good W r (eisRunDeep a0 a1) := by
  unfold eisRunDeep
  dsimp only
  repeat' first
    | with_reducible assumption | with_reducible apply startRun_good | with_reducible apply eisCmd_good
    | intro _ | with_reducible apply Good.ite | split | with_reducible apply Good.fold | with_reducible apply Good.mk'

theorem execRunDeep_good {W : Group → Prop} (a0 : Nat) (a1 : State) (r t : State) (h : Good W r a1) (e : execRunDeep a0 a1 = .next t) : Good W r t :=
    by
  unfold execRunDeep at e
  refine act_good _ _ _ _ h (fun s h => ?_) e
  repeat' first
    | with_reducible assumption | with_reducible apply eisRunDeep_good
    | with_reducible apply Good.ite | exact ⟨h.1⟩

theorem eisAbortCmd_good {W : Group → Prop} (a0 : Nat) (a1 : State) (r : State) (h : Good W r a1) : Good W r (eisAbortCmd a0 a1) := by
  unfold eisAbortCmd
  repeat' first
    | with_reducible assumption | with_reducible apply modRun_good | with_reducible apply commandString_good | with_reducible apply eisCmd_good
    | (with_reducible apply Good.foldl; intro _ _ _) | intro _
    | with_reducible apply Good.ite | split
    | with_reducible apply Good.fold | (with_reducible apply Good.mk'; try dsimp only)

theorem execEisAbort_good {W : Group → Prop} (a0 : Nat) (a1 : State) (r t : State) (h : Good W r a1) (e : execEisAbort a0 a1 = .next t) : Good W r t
    := by
  unfold execEisAbort at e
  refine act_good _ _ _ _ h (fun s h => ?_) e
  repeat' first
    | with_reducible assumption | with_reducible apply eisAbortCmd_good
    | with_reducible apply Good.ite | exact ⟨h.1⟩

theorem eisSetRef_good {W : Group → Prop} (a0 : Nat) (a1 : State) (r : State) (h : Good W r a1) : Good W r (eisSetRef a0 a1) := by
  unfold eisSetRef
  repeat' first
    | with_reducible assumption | with_reducible apply modRun_good | with_reducible apply eisCmd_good
    | (with_reducible apply Good.foldl; intro _ _ _) | intro _
    | with_reducible apply Good.ite | split
    | with_reducible apply Good.fold | (with_reducible apply Good.mk'; try dsimp only)

theorem execSetRef_good {W : Group → Prop} (a0 : Nat) (a1 : State) (r t : State) (h : Good W r a1) (e : execSetRef a0 a1 = .next t) : Good W r t := by
  unfold execSetRef at e
  refine act_good _ _ _ _ h (fun s h => ?_) e
  repeat' first
    | with_reducible assumption | with_reducible apply eisSetRef_good
    | with_reducible apply Good.ite | exact ⟨h.1⟩

theorem eisBookReset_good {W : Group → Prop} (a0 : Nat) (a1 : State) (r : State) (h : Good W r a1) : Good W r (eisBookReset a0 a1) := by
  unfold eisBookReset
  dsimp only
  repeat' first
    | with_reducible assumption | with_reducible apply modBat_good | with_reducible apply eisCmd_good
    | intro _ | with_reducible apply Good.ite | split | with_reducible apply Good.fold | with_reducible apply Good.mk'

theorem execBookReset_good {W : Group → Prop} (a0 : Nat) (a1 : State) (r t : State) (h : Good W r a1) (e : execBookReset a0 a1 = .next t) : Good W r t
    := by
  unfold execBookReset at e
  refine act_good _ _ _ _ h (fun s h => ?_) e
  repeat' first
    | with_reducible assumption | with_reducible apply eisBookReset_good
    | with_reducible apply Good.ite | exact ⟨h.1⟩

theorem eisUnknown_good {W : Group → Prop} (a0 : Nat) (a1 : State) (r : State) (h : Good W r a1) : Good W r (eisUnknown a0 a1) := ⟨h.1⟩

theorem execBtnPress_good {W : Group → Prop} (a0 : State) (r t : State) (h : Good W r a0) (e : execBtnPress a0 = .next t) (_ : W .button := by
    assumption) : Good W r t := by
  unfold execBtnPress at e
  refine act_good _ _ _ _ h (fun s h => ?_) e
  clear e
  repeat' first
    | with_reducible assumption
    | (with_reducible apply Good.foldl; intro _ _ _) | intro _
    | with_reducible apply Good.ite | split
    | with_reducible apply Good.fold | (with_reducible apply Good.mk'; try dsimp only) | with_reducible apply Good.fold_button

theorem execBtnRelease_good {W : Group → Prop} (a0 : Nat) (a1 : State) (r t : State) (h : Good W r a1) (e : execBtnRelease a0 a1 = .next t) (_ : W
    .button := by assumption) : Good W r t := by
  unfold execBtnRelease at e
  refine act_good _ _ _ _ h (fun s h => ?_) e
  clear e
  repeat' first
    | with_reducible assumption
    | (with_reducible apply Good.foldl; intro _ _ _) | intro _
    | with_reducible apply Good.ite | split
    | with_reducible apply Good.fold | (with_reducible apply Good.mk'; try dsimp only) | with_reducible apply Good.fold_button

theorem regenStart_good {W : Group → Prop} (a0 : State) (r : State) (h : Good W r a0) : Good W r (regenStart a0) := by
  unfold regenStart
  exact Good.ite h ⟨h.1⟩

theorem regenTidy_good {W : Group → Prop} (a0 : State) (r : State) (h : Good W r a0) : Good W r (regenTidy a0) := by
  unfold regenTidy
  dsimp only
  repeat' first
    | with_reducible assumption
    | intro _ | with_reducible apply Good.ite | split | with_reducible apply Good.fold | with_reducible apply Good.mk'

theorem regenOn_good {W : Group → Prop} (a0 : State) (r : State) (h : Good W r a0) : Good W r (regenOn a0) := by
  unfold regenOn
  dsimp only
  repeat' first
    | with_reducible assumption | with_reducible apply regenStart_good
    | intro _ | with_reducible apply Good.ite | split | with_reducible apply Good.fold | with_reducible apply Good.mk'

theorem brkRise_good {W : Group → Prop} (a0 : State) (r : State) (h : Good W r a0) : Good W r (brkRise a0) := by
  unfold brkRise
  dsimp only
  repeat' first
    | with_reducible assumption | with_reducible apply regenStart_good
    | intro _ | with_reducible apply Good.ite | split | with_reducible apply Good.fold | with_reducible apply Good.mk'

theorem execBrkGateRise_good {W : Group → Prop} (a0 : State) (r t : State) (h : Good W r a0) (e : execBrkGateRise a0 = .next t) : Good W r t := by
  unfold execBrkGateRise at e
  refine act_good _ _ _ _ h (fun s h => ?_) e
  repeat' first
    | with_reducible assumption | with_reducible apply brkRise_good
    | with_reducible apply Good.ite | exact ⟨h.1⟩

theorem execBrkGateFall_good {W : Group → Prop} (a0 : State) (r t : State) (h : Good W r a0) (e : execBrkGateFall a0 = .next t) : Good W r t := by
  unfold execBrkGateFall at e
  refine act_good _ _ _ _ h (fun s h => ?_) e
  repeat' first
    | with_reducible assumption | with_reducible apply regenTidy_good
    | with_reducible apply Good.ite | exact ⟨h.1⟩

theorem execRegenOv_good {W : Group → Prop} (a0 : State) (r t : State) (h : Good W r a0) (e : execRegenOv a0 = .next t) : Good W r t := by
  unfold execRegenOv at e
  refine act_good _ _ _ _ h (fun s h => ?_) e
  repeat' first
    | with_reducible assumption | with_reducible apply raise_good
    | with_reducible apply Good.ite | exact ⟨h.1⟩

theorem caskOvEvent_good {W : Group → Prop} (a0 : State) (r : State) (h : Good W r a0) : Good W r (caskOvEvent a0) := by
  unfold caskOvEvent
  dsimp only
  repeat' first
    | with_reducible assumption | with_reducible apply raise_good | with_reducible apply brkRise_good
    | intro _ | with_reducible apply Good.ite | split | with_reducible apply Good.fold | with_reducible apply Good.mk'

theorem regenSample_good {W : Group → Prop} (a0 : Nat) (a1 : State) (r : State) (h : Good W r a1) : Good W r (regenSample a0 a1) := by
  unfold regenSample
  dsimp only
  repeat' first
    | with_reducible assumption | with_reducible apply regenStart_good | with_reducible apply regenTidy_good
    | intro _ | with_reducible apply Good.ite | split | with_reducible apply Good.fold | with_reducible apply Good.mk'

theorem execAbsorbEntry_good {W : Group → Prop} (a0 : Nat) (a1 : State) (r t : State) (h : Good W r a1) (e : execAbsorbEntry a0 a1 = .next t) : Good W
    r t := by
  unfold execAbsorbEntry at e
  refine act_good _ _ _ _ h (fun s h => ?_) e
  repeat' first
    | with_reducible assumption | with_reducible apply modCell_good | with_reducible apply modCells_good | with_reducible apply modChg_good
    | with_reducible apply modRun_good
    | with_reducible apply Good.ite | exact ⟨h.1⟩

theorem execAbsorbRelease_good {W : Group → Prop} (a0 : Nat) (a1 : State) (r t : State) (h : Good W r a1) (e : execAbsorbRelease a0 a1 = .next t) :
    Good W r t := by
  unfold execAbsorbRelease at e
  refine act_good _ _ _ _ h (fun s h => ?_) e
  repeat' first
    | with_reducible assumption | with_reducible apply modCell_good | with_reducible apply regenTidy_good
    | with_reducible apply Good.ite | exact ⟨h.1⟩

theorem execPresentationToggle_good {W : Group → Prop} (a0 : Nat) (a1 : Bool) (a2 : State) (r t : State) (h : Good W r a2) (e : execPresentationToggle
    a0 a1 a2 = .next t) : Good W r t := by
  unfold execPresentationToggle at e
  refine act_good _ _ _ _ h (fun s h => ?_) e
  exact ⟨h.1⟩

theorem execPartnerRecognised_good {W : Group → Prop} (a0 : Nat) (a1 : State) (r t : State) (h : Good W r a1) (e : execPartnerRecognised a0 a1 = .next
    t) : Good W r t := by
  unfold execPartnerRecognised at e
  refine act_good _ _ _ _ h (fun s h => ?_) e
  exact ⟨h.1⟩

theorem supply_good {W : Group → Prop} (a0 : Nat) (a1 : Nat) (a2 : State) (r : State) (h : Good W r a2) : Good W r (supply a0 a1 a2) := by
  unfold supply
  repeat' first
    | with_reducible assumption | with_reducible apply modCells_good | with_reducible apply driveCordon_good
    | with_reducible apply Good.ite | exact ⟨h.1⟩

theorem formContract_good {W : Group → Prop} (a0 : Nat) (a1 : PeerRole) (a2 : Terms) (a3 : State) (r : State) (h : Good W r a3) : Good W r
    (formContract a0 a1 a2 a3) := by
  unfold formContract
  repeat' first
    | with_reducible assumption | with_reducible apply modPeer_good | with_reducible apply supply_good
    | with_reducible apply Good.ite | exact ⟨h.1⟩

theorem negotiate_good {W : Group → Prop} (a0 : Nat) (a1 : State) (r : State) (h : Good W r a1) : Good W r (negotiate a0 a1) := by
  unfold negotiate
  dsimp only
  repeat' first
    | with_reducible assumption | with_reducible apply modPeer_good
    | intro _ | with_reducible apply Good.ite | split | with_reducible apply Good.fold | with_reducible apply Good.mk'

theorem enterNegotiate_good {W : Group → Prop} (a0 : Nat) (a1 : State) (r : State) (h : Good W r a1) : Good W r (enterNegotiate a0 a1) := ⟨h.1⟩

theorem dropPeerPath_good {W : Group → Prop} (a0 : Nat) (a1 : State) (r : State) (h : Good W r a1) (_ : W .changeover := by assumption) : Good W r
    (dropPeerPath a0 a1) := by
  unfold dropPeerPath
  repeat' first
    | with_reducible assumption | with_reducible apply modSrc_good | with_reducible apply dropPath_good
    | with_reducible apply Good.ite | exact ⟨h.1⟩

theorem endSent_good {W : Group → Prop} (a0 : Nat) (a1 : Nat) (a2 : State) (r : State) (h : Good W r a2) (_ : W .changeover := by assumption) : Good W
    r (endSent a0 a1 a2) := by
  unfold endSent
  repeat' first
    | with_reducible assumption | with_reducible apply modPeer_good | with_reducible apply dropPeerPath_good
    | with_reducible apply Good.ite | exact ⟨h.1⟩

theorem peerOff_good {W : Group → Prop} (a0 : Nat) (a1 : State) (r : State) (h : Good W r a1) : Good W r (peerOff a0 a1) := by
  unfold peerOff
  repeat' first
    | with_reducible assumption | with_reducible apply driveCordon_good
    | with_reducible apply Good.ite | exact ⟨h.1⟩

theorem endHeard_good {W : Group → Prop} (a0 : Nat) (a1 : Nat) (a2 : PeerState) (a3 : State) (r : State) (h : Good W r a3) (_ : W .changeover := by
    assumption) : Good W r (endHeard a0 a1 a2 a3) := by
  unfold endHeard
  repeat' first
    | with_reducible assumption | with_reducible apply modPeer_good | with_reducible apply dropPeerPath_good | with_reducible apply peerOff_good
    | with_reducible apply Good.ite | exact ⟨h.1⟩

theorem foundWet_good {W : Group → Prop} (a0 : Nat) (a1 : State) (r : State) (h : Good W r a1) (_ : W .changeover := by assumption) : Good W r
    (foundWet a0 a1) := by
  unfold foundWet
  repeat' first
    | with_reducible assumption | with_reducible apply modPeer_good | with_reducible apply endSent_good
    | with_reducible apply Good.ite | exact ⟨h.1⟩

theorem checkResult_good {W : Group → Prop} (a0 : Nat) (a1 : State) (r : State) (h : Good W r a1) : Good W r (checkResult a0 a1) := by
  unfold checkResult
  repeat' first
    | with_reducible assumption | with_reducible apply modPeer_good | with_reducible apply enterNegotiate_good
    | with_reducible apply Good.ite | exact ⟨h.1⟩

theorem execQuietWindowEnd_good {W : Group → Prop} (a0 : Nat) (a1 : Nat) (a2 : State) (r t : State) (h : Good W r a2) (e : execQuietWindowEnd a0 a1 a2
    = .next t) (_ : W .changeover := by assumption) : Good W r t := by
  unfold execQuietWindowEnd at e
  refine act_good _ _ _ _ h (fun s h => ?_) e
  repeat' first
    | with_reducible assumption | with_reducible apply modPeer_good | with_reducible apply foundWet_good | with_reducible apply checkResult_good
    | with_reducible apply Good.ite | exact ⟨h.1⟩

theorem execMoisturePeriodic_good {W : Group → Prop} (a0 : Nat) (a1 : State) (r t : State) (h : Good W r a1) (e : execMoisturePeriodic a0 a1 = .next
    t) : Good W r t := by
  unfold execMoisturePeriodic at e
  refine act_good _ _ _ _ h (fun s h => ?_) e
  exact ⟨h.1⟩

theorem execWetRetry_good {W : Group → Prop} (a0 : Nat) (a1 : State) (r t : State) (h : Good W r a1) (e : execWetRetry a0 a1 = .next t) : Good W r t
    := by
  unfold execWetRetry at e
  refine act_good _ _ _ _ h (fun s h => ?_) e
  exact ⟨h.1⟩

theorem execQuiet_good {W : Group → Prop} (a0 : Nat) (a1 : Nat) (a2 : State) (r t : State) (h : Good W r a2) (e : execQuiet a0 a1 a2 = .next t) : Good
    W r t := by
  unfold execQuiet at e
  refine act_good _ _ _ _ h (fun s h => ?_) e
  exact ⟨h.1⟩

theorem execCaps_good {W : Group → Prop} (a0 : Nat) (a1 : Nat) (a2 : Caps) (a3 : State) (r t : State) (h : Good W r a3) (e : execCaps a0 a1 a2 a3 =
    .next t) : Good W r t := by
  unfold execCaps at e
  refine act_good _ _ _ _ h (fun s h => ?_) e
  repeat' first
    | with_reducible assumption | with_reducible apply modPeer_good | with_reducible apply negotiate_good
    | with_reducible apply Good.ite | exact ⟨h.1⟩

theorem execOffer_good {W : Group → Prop} (a0 : Nat) (a1 : Nat) (a2 : Terms) (a3 : State) (r t : State) (h : Good W r a3) (e : execOffer a0 a1 a2 a3 =
    .next t) : Good W r t := by
  unfold execOffer at e
  refine act_good _ _ _ _ h (fun s h => ?_) e
  repeat' first
    | with_reducible assumption | with_reducible apply modPeer_good | with_reducible apply formContract_good
    | with_reducible apply Good.ite | exact ⟨h.1⟩

theorem execAccept_good {W : Group → Prop} (a0 : Nat) (a1 : Nat) (a2 : State) (r t : State) (h : Good W r a2) (e : execAccept a0 a1 a2 = .next t) :
    Good W r t := by
  unfold execAccept at e
  refine act_good _ _ _ _ h (fun s h => ?_) e
  dsimp only
  repeat' first
    | with_reducible assumption | with_reducible apply formContract_good
    | intro _ | with_reducible apply Good.ite | split | with_reducible apply Good.fold | with_reducible apply Good.mk'

theorem execReject_good {W : Group → Prop} (a0 : Nat) (a1 : Nat) (a2 : State) (r t : State) (h : Good W r a2) (e : execReject a0 a1 a2 = .next t) :
    Good W r t := by
  unfold execReject at e
  refine act_good _ _ _ _ h (fun s h => ?_) e
  repeat' first
    | with_reducible assumption | with_reducible apply modPeer_good
    | with_reducible apply Good.ite | exact ⟨h.1⟩

theorem balance_good {W : Group → Prop} (a0 : Nat) (a1 : State) (r : State) (h : Good W r a1) (_ : W .changeover := by assumption) : Good W r (balance
    a0 a1) := by
  unfold balance
  repeat' first
    | with_reducible assumption | with_reducible apply modPeer_good | with_reducible apply raise_good | with_reducible apply endSent_good
    | with_reducible apply Good.ite | exact ⟨h.1⟩

theorem execStatus_good {W : Group → Prop} (a0 : Nat) (a1 : Nat) (a2 : PeerStatus) (a3 : State) (r t : State) (h : Good W r a3) (e : execStatus a0 a1
    a2 a3 = .next t) (_ : W .changeover := by assumption) : Good W r t := by
  unfold execStatus at e
  refine act_good _ _ _ _ h (fun s h => ?_) e
  dsimp only
  repeat' first
    | with_reducible assumption | with_reducible apply modPeer_good | with_reducible apply enterNegotiate_good
    | with_reducible apply foundWet_good | with_reducible apply checkResult_good | with_reducible apply balance_good
    | intro _ | with_reducible apply Good.ite | split | with_reducible apply Good.fold | with_reducible apply Good.mk'

theorem execPeerStatusSend_good {W : Group → Prop} (a0 : Nat) (a1 : State) (r t : State) (h : Good W r a1) (e : execPeerStatusSend a0 a1 = .next t) :
    Good W r t := by
  unfold execPeerStatusSend at e
  refine act_good _ _ _ _ h (fun s h => ?_) e
  exact ⟨h.1⟩

theorem execPeerReplyTimeout_good {W : Group → Prop} (a0 : Nat) (a1 : State) (r t : State) (h : Good W r a1) (e : execPeerReplyTimeout a0 a1 = .next
    t) (_ : W .changeover := by assumption) : Good W r t := by
  unfold execPeerReplyTimeout at e
  refine act_good _ _ _ _ h (fun s h => ?_) e
  dsimp only
  repeat' first
    | with_reducible assumption | with_reducible apply modPeer_good | with_reducible apply endSent_good | with_reducible apply peerOff_good
    | intro _ | with_reducible apply Good.ite | split | with_reducible apply Good.fold | with_reducible apply Good.mk'

theorem execPeerEnd_good {W : Group → Prop} (a0 : Nat) (a1 : Nat) (a2 : Nat) (a3 : State) (r t : State) (h : Good W r a3) (e : execPeerEnd a0 a1 a2 a3
    = .next t) (_ : W .changeover := by assumption) : Good W r t := by
  unfold execPeerEnd at e
  refine act_good _ _ _ _ h (fun s h => ?_) e
  repeat' first
    | with_reducible assumption | with_reducible apply modPeer_good | with_reducible apply enterNegotiate_good | with_reducible apply endHeard_good
    | with_reducible apply Good.ite | exact ⟨h.1⟩

theorem execPeerAck_good {W : Group → Prop} (a0 : Nat) (a1 : Nat) (a2 : State) (r t : State) (h : Good W r a2) (e : execPeerAck a0 a1 a2 = .next t) :
    Good W r t := by
  unfold execPeerAck at e
  refine act_good _ _ _ _ h (fun s h => ?_) e
  dsimp only
  repeat' first
    | with_reducible assumption | with_reducible apply modPeer_good | with_reducible apply peerOff_good
    | intro _ | with_reducible apply Good.ite | split | with_reducible apply Good.fold | with_reducible apply Good.mk'

theorem execSwapPulse_good {W : Group → Prop} (a0 : Nat) (a1 : State) (r t : State) (h : Good W r a1) (e : execSwapPulse a0 a1 = .next t) (_ : W
    .changeover := by assumption) : Good W r t := by
  unfold execSwapPulse at e
  refine act_good _ _ _ _ h (fun s h => ?_) e
  repeat' first
    | with_reducible assumption | with_reducible apply modPeer_good | with_reducible apply supply_good | with_reducible apply dropPeerPath_good
    | with_reducible apply Good.ite | exact ⟨h.1⟩

theorem execSwapPulseEnd_good {W : Group → Prop} (a0 : Nat) (a1 : State) (r t : State) (h : Good W r a1) (e : execSwapPulseEnd a0 a1 = .next t) : Good
    W r t := by
  unfold execSwapPulseEnd at e
  refine act_good _ _ _ _ h (fun s h => ?_) e
  exact ⟨h.1⟩

theorem execSwapFail_good {W : Group → Prop} (a0 : Nat) (a1 : State) (r t : State) (h : Good W r a1) (e : execSwapFail a0 a1 = .next t) (_ : W
    .changeover := by assumption) : Good W r t := by
  unfold execSwapFail at e
  refine act_good _ _ _ _ h (fun s h => ?_) e
  repeat' first
    | with_reducible assumption | with_reducible apply modPeer_good | with_reducible apply raise_good | with_reducible apply endSent_good
    | with_reducible apply Good.ite | exact ⟨h.1⟩

theorem execSwapOfferTimeout_good {W : Group → Prop} (a0 : Nat) (a1 : State) (r t : State) (h : Good W r a1) (e : execSwapOfferTimeout a0 a1 = .next
    t) (_ : W .changeover := by assumption) : Good W r t := by
  unfold execSwapOfferTimeout at e
  refine act_good _ _ _ _ h (fun s h => ?_) e
  repeat' first
    | with_reducible assumption | with_reducible apply endSent_good
    | with_reducible apply Good.ite | exact ⟨h.1⟩

theorem execPartnerLost_good {W : Group → Prop} (a0 : Nat) (a1 : State) (r t : State) (h : Good W r a1) (e : execPartnerLost a0 a1 = .next t) (_ : W
    .changeover := by assumption) : Good W r t := by
  unfold execPartnerLost at e
  refine act_good _ _ _ _ h (fun s h => ?_) e
  repeat' first
    | with_reducible assumption | with_reducible apply modPeer_good | with_reducible apply raise_good | with_reducible apply endHeard_good
    | with_reducible apply Good.ite | exact ⟨h.1⟩

theorem execBackoffEnd_good {W : Group → Prop} (a0 : Nat) (a1 : State) (r t : State) (h : Good W r a1) (e : execBackoffEnd a0 a1 = .next t) : Good W r
    t := by
  unfold execBackoffEnd at e
  refine act_good _ _ _ _ h (fun s h => ?_) e
  exact ⟨h.1⟩

theorem execPeerTest_good {W : Group → Prop} (a0 : Nat) (a1 : Nat) (a2 : Nat) (a3 : Nat) (a4 : State) (r t : State) (h : Good W r a4) (e :
    execPeerTest a0 a1 a2 a3 a4 = .next t) : Good W r t := by
  unfold execPeerTest at e
  refine act_good _ _ _ _ h (fun s h => ?_) e
  repeat' first
    | with_reducible assumption | with_reducible apply modPeer_good | with_reducible apply driveCordon_good
    | with_reducible apply Good.ite | exact ⟨h.1⟩

theorem execExportTestEnd_good {W : Group → Prop} (a0 : Nat) (a1 : State) (r t : State) (h : Good W r a1) (e : execExportTestEnd a0 a1 = .next t) :
    Good W r t := by
  unfold execExportTestEnd at e
  refine act_good _ _ _ _ h (fun s h => ?_) e
  repeat' first
    | with_reducible assumption | with_reducible apply modPeer_good | with_reducible apply driveCordon_good | with_reducible apply applyPriority_good
    | with_reducible apply Good.ite | exact ⟨h.1⟩

theorem pptCmd_good {W : Group → Prop} (a0 : Nat) (a1 : Nat) (a2 : State → State × Nat) (a3 : State) (r : State) (h : Good W r a3) (ha2 : ∀ t, Good W
    r t → Good W r (a2 t).1) : Good W r (pptCmd a0 a1 a2 a3) := by
  unfold pptCmd
  dsimp only
  repeat' first
    | with_reducible assumption | with_reducible apply ha2
    | intro _ | with_reducible apply Good.ite | split | with_reducible apply Good.fold | with_reducible apply Good.mk'

theorem pptExportTest_good {W : Group → Prop} (a0 : Nat) (a1 : Nat) (a2 : Nat) (a3 : State) (r : State) (h : Good W r a3) : Good W r (pptExportTest a0
    a1 a2 a3) := by
  unfold pptExportTest
  dsimp only
  repeat' first
    | with_reducible assumption | with_reducible apply modPeer_good | with_reducible apply pptCmd_good
    | intro _ | with_reducible apply Good.ite | split | with_reducible apply Good.fold | with_reducible apply Good.mk'

theorem execExportTest_good {W : Group → Prop} (a0 : Nat) (a1 : Nat) (a2 : Nat) (a3 : State) (r t : State) (h : Good W r a3) (e : execExportTest a0 a1
    a2 a3 = .next t) : Good W r t := by
  unfold execExportTest at e
  refine act_good _ _ _ _ h (fun s h => ?_) e
  repeat' first
    | with_reducible assumption | with_reducible apply pptExportTest_good
    | with_reducible apply Good.ite | exact ⟨h.1⟩

theorem pptEndContract_good {W : Group → Prop} (a0 : Nat) (a1 : State) (r : State) (h : Good W r a1) (_ : W .changeover := by assumption) : Good W r
    (pptEndContract a0 a1) := by
  unfold pptEndContract
  repeat' first
    | with_reducible assumption | with_reducible apply endSent_good | with_reducible apply pptCmd_good
    | (with_reducible apply Good.foldl; intro _ _ _) | intro _
    | with_reducible apply Good.ite | split
    | with_reducible apply Good.fold | (with_reducible apply Good.mk'; try dsimp only) | with_reducible apply Good.fold_changeover

theorem execEndContract_good {W : Group → Prop} (a0 : Nat) (a1 : State) (r t : State) (h : Good W r a1) (e : execEndContract a0 a1 = .next t) (_ : W
    .changeover := by assumption) : Good W r t := by
  unfold execEndContract at e
  refine act_good _ _ _ _ h (fun s h => ?_) e
  repeat' first
    | with_reducible assumption | with_reducible apply pptEndContract_good
    | with_reducible apply Good.ite | exact ⟨h.1⟩

theorem pptRecheck_good {W : Group → Prop} (a0 : Nat) (a1 : State) (r : State) (h : Good W r a1) : Good W r (pptRecheck a0 a1) := by
  unfold pptRecheck
  repeat' first
    | with_reducible assumption | with_reducible apply modPeer_good | with_reducible apply pptCmd_good
    | (with_reducible apply Good.foldl; intro _ _ _) | intro _
    | with_reducible apply Good.ite | split
    | with_reducible apply Good.fold | (with_reducible apply Good.mk'; try dsimp only)

theorem execRecheckMoisture_good {W : Group → Prop} (a0 : Nat) (a1 : State) (r t : State) (h : Good W r a1) (e : execRecheckMoisture a0 a1 = .next t)
    : Good W r t := by
  unfold execRecheckMoisture at e
  refine act_good _ _ _ _ h (fun s h => ?_) e
  repeat' first
    | with_reducible assumption | with_reducible apply pptRecheck_good
    | with_reducible apply Good.ite | exact ⟨h.1⟩

theorem pptUnknown_good {W : Group → Prop} (a0 : Nat) (a1 : State) (r : State) (h : Good W r a1) : Good W r (pptUnknown a0 a1) := ⟨h.1⟩

theorem execPeerMessageCrcFail_good {W : Group → Prop} (a0 : Nat) (a1 : State) (r t : State) (h : Good W r a1) (e : execPeerMessageCrcFail a0 a1 =
    .next t) : Good W r t := by
  unfold execPeerMessageCrcFail at e
  refine act_good _ _ _ _ h (fun s h => ?_) e
  exact ⟨h.1⟩

theorem execPeerTransmitCollision_good {W : Group → Prop} (a0 : Nat) (a1 : State) (r t : State) (h : Good W r a1) (e : execPeerTransmitCollision a0 a1
    = .next t) : Good W r t := by
  unfold execPeerTransmitCollision at e
  refine act_good _ _ _ _ h (fun s h => ?_) e
  exact ⟨h.1⟩

theorem peerResend_good {W : Group → Prop} (a0 : State) (r : State) (h : Good W r a0) : Good W r (peerResend a0) := ⟨h.1⟩

theorem peersApply_good {W : Group → Prop} (a0 : Image) (a1 : State) (r : State) (h : Good W r a1) (_ : W .changeover := by assumption) : Good W r
    (peersApply a0 a1) := by
  unfold peersApply
  repeat' first
    | with_reducible assumption | with_reducible apply modPeer_good | with_reducible apply enterNegotiate_good | with_reducible apply endSent_good
    | with_reducible apply peerOff_good
    | (with_reducible apply Good.foldl; intro _ _ _) | intro _
    | with_reducible apply Good.ite | split
    | with_reducible apply Good.fold | (with_reducible apply Good.mk'; try dsimp only) | with_reducible apply Good.fold_changeover

end Sys2Proof.Laws
end

