-- ==== Sys2Proof/Laws/KeepsSense.lean ====
section
/-! SUPPORT. What the converter, link and staging rows keep: `Good W r` of a state passes to the state
the operation makes, for every `W` that allows the groups the operation writes. -/

open Sys2Proof.Machine

namespace Sys2Proof.Laws
set_option Elab.async false
set_option linter.all false

theorem adcLayouts_good {W : Group → Prop} (a0 : State) (r : State) (h : Good W r a0) : Good W r (adcLayouts a0) := ⟨h.1⟩

theorem adcApply_good {W : Group → Prop} (a0 : State) (r : State) (h : Good W r a0) : Good W r (adcApply a0) := by
  unfold adcApply
  repeat' first
    | with_reducible assumption | with_reducible apply adcLayouts_good
    | with_reducible apply Good.ite | exact ⟨h.1⟩

theorem frameTick_good {W : Group → Prop} (a0 : State) (r : State) (h : Good W r a0) : Good W r (frameTick a0) := by
  unfold frameTick
  exact Good.ite ⟨h.1⟩ h

theorem windowJudge_good {W : Group → Prop} (a0 : Nat) (a1 : BitVec 24) (a2 : State) (r : State) (h : Good W r a2) : Good W r (windowJudge a0 a1 a2)
    := by
  unfold windowJudge
  repeat' first
    | with_reducible assumption | with_reducible apply modConv_good
    | with_reducible apply Good.ite | exact ⟨h.1⟩

theorem strvResult_good {W : Group → Prop} (a0 : Nat) (a1 : ℤ) (a2 : State) (r : State) (h : Good W r a2) : Good W r (strvResult a0 a1 a2) := by
  unfold strvResult
  repeat' first
    | with_reducible assumption | with_reducible apply modChg_good | with_reducible apply modBat_good | with_reducible apply lower_good
    | with_reducible apply raise_good
    | with_reducible apply Good.ite | exact ⟨h.1⟩

theorem striResult_good {W : Group → Prop} (a0 : Nat) (a1 : ℤ) (a2 : State) (r : State) (h : Good W r a2) : Good W r (striResult a0 a1 a2) := by
  unfold striResult
  repeat' first
    | with_reducible assumption | with_reducible apply modChg_good | with_reducible apply modBat_good | with_reducible apply modBook_good
    | with_reducible apply lower_good | with_reducible apply raise_good | with_reducible apply missingMarks_good
    | with_reducible apply Good.ite | exact ⟨h.1⟩

theorem ntcResult_good {W : Group → Prop} (a0 : Nat) (a1 : BitVec 24) (a2 : State) (r : State) (h : Good W r a2) : Good W r (ntcResult a0 a1 a2) := by
  unfold ntcResult
  repeat' first
    | with_reducible assumption | with_reducible apply modChg_good
    | (with_reducible apply Good.foldl; intro _ _ _) | intro _
    | with_reducible apply Good.ite | split
    | with_reducible apply Good.fold | (with_reducible apply Good.mk'; try dsimp only)

theorem slotMiss_good {W : Group → Prop} (a0 : Nat) (a1 : State) (r : State) (h : Good W r a1) : Good W r (slotMiss a0 a1) := by
  unfold slotMiss
  exact Good.ite ⟨h.1⟩ h

theorem slotServe_good {W : Group → Prop} (a0 : Nat) (a1 : Nat) (a2 : BitVec 24) (a3 : State) (r : State) (h : Good W r a3) : Good W r (slotServe a0
    a1 a2 a3) := by
  unfold slotServe
  repeat' first
    | with_reducible assumption | with_reducible apply strvResult_good | with_reducible apply striResult_good | with_reducible apply ntcResult_good
    | with_reducible apply Good.ite | exact ⟨h.1⟩

theorem execSlotConversionDone_good {W : Group → Prop} (a0 : Nat) (a1 : Nat) (a2 : BitVec 24) (a3 : State) (r t : State) (h : Good W r a3) (e :
    execSlotConversionDone a0 a1 a2 a3 = .next t) : Good W r t := by
  unfold execSlotConversionDone at e
  refine act_good _ _ _ _ h (fun s h => ?_) e
  repeat' first
    | with_reducible assumption | with_reducible apply modConv_good | with_reducible apply windowJudge_good | with_reducible apply slotMiss_good
    | with_reducible apply slotServe_good
    | with_reducible apply Good.ite | exact ⟨h.1⟩

theorem holdOn_good {W : Group → Prop} (a0 : Nat) (a1 : Nat) (a2 : State) (r : State) (h : Good W r a2) : Good W r (holdOn a0 a1 a2) := by
  unfold holdOn
  dsimp only
  repeat' first
    | with_reducible assumption | with_reducible apply modConv_good
    | intro _ | with_reducible apply Good.ite | split | with_reducible apply Good.fold | with_reducible apply Good.mk'

theorem fireRoute_good {W : Group → Prop} (a0 : Route) (a1 : State) (r : State) (h : Good W r a1) : Good W r (fireRoute a0 a1) := by
  unfold fireRoute
  repeat' first
    | with_reducible assumption | with_reducible apply holdOn_good
    | (with_reducible apply Good.foldl; intro _ _ _) | intro _
    | with_reducible apply Good.ite | split
    | with_reducible apply Good.fold | (with_reducible apply Good.mk'; try dsimp only)

theorem fireSource_good {W : Group → Prop} (a0 : Nat) (a1 : State) (r : State) (h : Good W r a1) : Good W r (fireSource a0 a1) := by
  unfold fireSource
  repeat' first
    | with_reducible assumption | with_reducible apply fireRoute_good
    | (with_reducible apply Good.foldl; intro _ _ _) | intro _
    | with_reducible apply Good.ite | split
    | with_reducible apply Good.fold | (with_reducible apply Good.mk'; try dsimp only)

theorem execTrigger_good {W : Group → Prop} (a0 : Nat) (a1 : State) (r t : State) (h : Good W r a1) (e : execTrigger a0 a1 = .next t) : Good W r t :=
    by
  unfold execTrigger at e
  refine act_good _ _ _ _ h (fun s h => ?_) e
  repeat' first
    | with_reducible assumption | with_reducible apply fireRoute_good
    | with_reducible apply Good.ite | exact ⟨h.1⟩

theorem swTrigger_good {W : Group → Prop} (a0 : BitVec 8) (a1 : State) (r : State) (h : Good W r a1) : Good W r (swTrigger a0 a1) := by
  unfold swTrigger
  repeat' first
    | with_reducible assumption | with_reducible apply fireRoute_good
    | (with_reducible apply Good.foldl; intro _ _ _) | intro _
    | with_reducible apply Good.ite | split
    | with_reducible apply Good.fold | (with_reducible apply Good.mk'; try dsimp only)

theorem execAdcSwtrgWrite_good {W : Group → Prop} (a0 : BitVec 8) (a1 : State) (r t : State) (h : Good W r a1) (e : execAdcSwtrgWrite a0 a1 = .next t)
    : Good W r t := by
  unfold execAdcSwtrgWrite at e
  refine act_good _ _ _ _ h (fun s h => ?_) e
  repeat' first
    | with_reducible assumption | with_reducible apply swTrigger_good
    | with_reducible apply Good.ite | exact ⟨h.1⟩

theorem execAdcTimerExpiry_good {W : Group → Prop} (a0 : Nat) (a1 : State) (r t : State) (h : Good W r a1) (e : execAdcTimerExpiry a0 a1 = .next t) :
    Good W r t := by
  unfold execAdcTimerExpiry at e
  refine act_good _ _ _ _ h (fun s h => ?_) e
  repeat' first
    | with_reducible assumption | with_reducible apply fireSource_good
    | with_reducible apply Good.ite | exact ⟨h.1⟩

theorem execComparatorTransition_good {W : Group → Prop} (a0 : Nat) (a1 : Bool) (a2 : State) (r t : State) (h : Good W r a2) (e :
    execComparatorTransition a0 a1 a2 = .next t) : Good W r t := by
  unfold execComparatorTransition at e
  refine act_good _ _ _ _ h (fun s h => ?_) e
  repeat' first
    | with_reducible assumption | with_reducible apply fireSource_good
    | with_reducible apply Good.ite | exact ⟨h.1⟩

theorem execTriggeredConversionDone_good {W : Group → Prop} (a0 : Nat) (a1 : BitVec 24) (a2 : State) (r t : State) (h : Good W r a2) (e :
    execTriggeredConversionDone a0 a1 a2 = .next t) : Good W r t := by
  unfold execTriggeredConversionDone at e
  refine act_good _ _ _ _ h (fun s h => ?_) e
  dsimp only
  repeat' first
    | with_reducible assumption | with_reducible apply modConv_good | with_reducible apply windowJudge_good
    | intro _ | with_reducible apply Good.ite | split | with_reducible apply Good.fold | with_reducible apply Good.mk'

theorem execReferenceSettled_good {W : Group → Prop} (a0 : Nat) (a1 : State) (r t : State) (h : Good W r a1) (e : execReferenceSettled a0 a1 = .next
    t) : Good W r t := by
  unfold execReferenceSettled at e
  refine act_good _ _ _ _ h (fun s h => ?_) e
  exact Good.ite h ⟨h.1⟩

theorem refinChange_good {W : Group → Prop} (a0 : Bool) (a1 : State) (r : State) (h : Good W r a1) : Good W r (refinChange a0 a1) := ⟨h.1⟩

theorem execCalibrationFrameBoundary_good {W : Group → Prop} (a0 : Nat) (a1 : Bool) (a2 : State) (r t : State) (h : Good W r a2) (e :
    execCalibrationFrameBoundary a0 a1 a2 = .next t) (_ : W .failed := by assumption) : Good W r t := by
  unfold execCalibrationFrameBoundary at e
  refine act_good _ _ _ _ h (fun s h => ?_) e
  extract_lets q u
  refine Good.ite h ?_
  have h1 : Good W r u := by
    have e := rotate_same s.now a0 a1 s.adc
    simp only [u]
    change (q.1.irqEn = _ ∧ q.1.routes = _ ∧ q.1.timers = _ ∧ q.1.diagChan = _ ∧ q.1.diagConv = _) at e
    clear_value q
    obtain ⟨e1, e2, e3, e4, e5⟩ := e
    refine Good.mk' ?_
    try dsimp only
    rw [e1, e2, e3, e4, e5]
    exact Good.fold_failed h (by assumption)
  clear_value u q
  split
  · exact h1
  · exact raiseSrc_good _ _ _ _ _ h1

theorem adcRes_good {W : Group → Prop} (a0 : Nat) (a1 : Nat) (a2 : State) (r : State) (h : Good W r a2) : Good W r (adcRes a0 a1 a2) := ⟨h.1⟩

theorem adcDiag_good {W : Group → Prop} (a0 : Nat) (a1 : Nat) (a2 : State) (r : State) (h : Good W r a2) (_ : W .diag := by assumption) : Good W r
    (adcDiag a0 a1 a2) := by
  unfold adcDiag
  repeat' first
    | with_reducible assumption | with_reducible apply adcRes_good
    | (with_reducible apply Good.foldl; intro _ _ _) | intro _
    | with_reducible apply Good.ite | split
    | with_reducible apply Good.fold | (with_reducible apply Good.mk'; try dsimp only) | with_reducible apply Good.fold_diag

theorem execDiag_good {W : Group → Prop} (a0 : Nat) (a1 : Nat) (a2 : State) (r t : State) (h : Good W r a2) (e : execDiag a0 a1 a2 = .next t) (_ : W
    .diag := by assumption) : Good W r t := by
  unfold execDiag at e
  refine act_good _ _ _ _ h (fun s h => ?_) e
  repeat' first
    | with_reducible assumption | with_reducible apply adcDiag_good
    | with_reducible apply Good.ite | exact ⟨h.1⟩

theorem execDiagComplete_good {W : Group → Prop} (a0 : Nat) (a1 : Nat) (a2 : State) (r t : State) (h : Good W r a2) (e : execDiagComplete a0 a1 a2 =
    .next t) : Good W r t := by
  unfold execDiagComplete at e
  refine act_good _ _ _ _ h (fun s h => ?_) e
  exact Good.ite h ⟨h.1⟩

theorem adcClearFailed_good {W : Group → Prop} (a0 : Nat) (a1 : Bool) (a2 : State) (r : State) (h : Good W r a2) (_ : W .failed := by assumption) :
    Good W r (adcClearFailed a0 a1 a2) := by
  unfold adcClearFailed
  repeat' first
    | with_reducible assumption
    | with_reducible apply adcRes_good
    | (extract_lets +onlyGivenNames z; first
        | (refine (fun (hz : Good W r z) => ?_) ?_; (on_goal 1 => clear_value z); (on_goal 2 => (dsimp -zeta only [z]; clear z)))
        | (refine (fun (hz : Good W r z.1) => ?_) ?_; (on_goal 1 => clear_value z); (on_goal 2 => (dsimp -zeta only [z]; clear z)))
        | (refine (fun (hz : Good W r z.2) => ?_) ?_; (on_goal 1 => clear_value z); (on_goal 2 => (dsimp -zeta only [z]; clear z)))
        | (have _q : Nat := z; clear _q; clear_value z) | (have _q : Bool := z; clear _q; clear_value z)
        | (have _q : Word := z; clear _q; clear_value z) | (have _q : Record := z; clear _q; clear_value z)
        | (try dsimp -zeta only [z]; clear z))
    | with_reducible exact id
    | with_reducible exact fun _ w => w
    | with_reducible exact fun _ _ => memWf_nil _
    | with_reducible exact memPutWord_wf
    | with_reducible exact memWriteList_wf
    | with_reducible exact memErase_wf
    | with_reducible exact memWriteList_wf (memWf_nil _)
    | with_reducible exact stgRegs_wf _ _ _
    | with_reducible exact fun _ => memWf_nil _
    | (with_reducible apply Good.foldl; intro _ _ _)
    | (with_reducible apply Good.foldl_fst; intro _ _ _)
    | intro _
    | with_reducible apply Good.ite
    | with_reducible apply Good.ite_fst
    | split
    | with_reducible apply Good.fold
    | (with_reducible apply Good.mk'; try dsimp only)
    | dsimp only
    | simp only [rngLost_buf, stgLimp_buf, endSession9_buf, trlOff_buf, trlOn_buf, stgEmpty_buf, trlOff_same, trlOn_same, adcStop_same, stgLimp_same]
    | with_reducible apply Good.fold_cry
    | with_reducible apply Good.fold_spi
    | with_reducible apply Good.fold_trl
    | with_reducible apply Good.fold_stg
    | with_reducible apply Good.fold_mem
    | with_reducible apply Good.fold_held
    | with_reducible apply Good.fold_fls
    | with_reducible apply Good.fold_bank0
    | with_reducible apply Good.fold_bank1
    | (with_reducible apply Good.fold_clock)
    | (with_reducible apply Good.fold_badWords)
    | (with_reducible apply Good.fold_crystal)
    | (with_reducible apply Good.fold_verdict)
    | (with_reducible apply Good.fold_staged)
    | (with_reducible apply Good.fold_applied)
    | (with_reducible apply Good.fold_timing)
    | (with_reducible apply Good.fold_address)
    | (with_reducible apply Good.fold_expiry)
    | (with_reducible apply Good.fold_question)
    | (with_reducible apply Good.fold_life)
    | (with_reducible apply Good.fold_arming)
    | (with_reducible apply Good.fold_flashOp)
    | (with_reducible apply Good.fold_rng)
    | (with_reducible apply Good.fold_diag)
    | (with_reducible apply Good.fold_failed)
    | (with_reducible apply Good.fold_button)
    | (with_reducible apply Good.fold_ship)
    | (with_reducible apply Good.fold_changeover)
    | (with_reducible apply Good.fold_graft)
    | (with_reducible apply Good.fold_irq)
    | (with_reducible apply Good.fold_lastEvent)
    | (with_reducible apply Good.fold_powered)
    | (with_reducible apply Good.fold_inputs)
    | (with_reducible apply Good.fold_wakeCause)
    | (with_reducible apply Good.fold_settings)
    | (refine Good.gen (by with_reducible assumption) rfl rfl rfl ?_ ?_ ?_ ?_ ?_ ?_ ?_ ?_ ?_ ?_ ?_ ?_ ?_ ?_ ?_ ?_ ?_ ?_ ?_ ?_ ?_ ?_ ?_ ?_ ?_ ?_ ?_ ?_ ?_ ?_ ?_ <;> first | exact .inl (by assumption) | exact .inr rfl | exact .inr ⟨rfl, rfl⟩ | exact id | skip)


theorem execAdcClearFailed_good {W : Group → Prop} (a0 : Nat) (a1 : Bool) (a2 : State) (r t : State) (h : Good W r a2) (e : execAdcClearFailed a0 a1
    a2 = .next t) (_ : W .failed := by assumption) : Good W r t := by
  unfold execAdcClearFailed at e
  refine act_good _ _ _ _ h (fun s h => ?_) e
  repeat' first
    | with_reducible assumption | with_reducible apply adcClearFailed_good
    | with_reducible apply Good.ite | exact ⟨h.1⟩

theorem adcUnknown_good {W : Group → Prop} (a0 : Nat) (a1 : State) (r : State) (h : Good W r a1) : Good W r (adcUnknown a0 a1) := ⟨h.1⟩

theorem adcReadRes_good {W : Group → Prop} (a0 : Nat) (a1 : State) (r : State) (h : Good W r a1) : Good W r (adcReadRes a0 a1) := ⟨h.1⟩

theorem putWindow_good {W : Group → Prop} (a0 : Nat) (a1 : Conv → Conv) (a2 : State) (r : State) (h : Good W r a2) : Good W r (putWindow a0 a1 a2) :=
    ⟨h.1⟩

theorem adcWrite_good {W : Group → Prop} (a0 : Nat) (a1 : Word) (a2 : State) (r : State) (h : Good W r a2) (_ : W .settings := by assumption) : Good W
    r (adcWrite a0 a1 a2) := by
  unfold adcWrite
  repeat' first
    | with_reducible assumption | with_reducible apply modConv_good | with_reducible apply putWindow_good
    | (with_reducible apply Good.foldl; intro _ _ _) | intro _
    | with_reducible apply Good.ite | split
    | with_reducible apply Good.fold | (with_reducible apply Good.mk'; try dsimp only) | with_reducible apply Good.fold_settings

theorem cableReading_good {W : Group → Prop} (a0 : Nat) (a1 : State) (r : State) (h : Good W r a1) : Good W r (cableReading a0 a1) := by
  unfold cableReading
  exact Good.ite ⟨h.1⟩ h

theorem execTelem_good {W : Group → Prop} (a0 : Nat) (a1 : Telem) (a2 : State) (r t : State) (h : Good W r a2) (e : execTelem a0 a1 a2 = .next t) (_ :
    W .inputs := by assumption) : Good W r t := by
  unfold execTelem at e
  refine act_good _ _ _ _ h (fun s g => ?_) e
  refine Good.ite g ?_
  have h1 : Good W r (s.modCell a0 (fun c => takeTelem a1 (merjaGot typTelem c))) := modCell_good _ _ _ _ g
  dsimp only
  generalize s.modCell a0 (fun c => takeTelem a1 (merjaGot typTelem c)) = s1 at h1
  have h2 : Good W r { s1 with orIn := { s1.orIn with cask := a1.vCask, ports := bankPut s1.orIn.ports a0 a1.vPort } } :=
    Good.mk' (Good.fold_inputs h1 (by assumption))
  have h3 : ∀ p, Good W r { s1 with orIn := { s1.orIn with cask := a1.vCask, ports := bankPut s1.orIn.ports a0 a1.vPort }, pwr := { s1.pwr with coVMin := p } } :=
    fun p => Good.mk' (Good.fold (t := { s1 with orIn := { s1.orIn with cask := a1.vCask, ports := bankPut s1.orIn.ports a0 a1.vPort } }) h2)
  refine coComplete_good _ _ (regenSample_good _ _ _ (cableReading_good _ _ _ (Good.ite ?_ h2)))
  exact h3 _

theorem portShort_good {W : Group → Prop} (a0 : Nat) (a1 : BitVec 7) (a2 : State) (r : State) (h : Good W r a2) : Good W r (portShort a0 a1 a2) := by
  unfold portShort
  repeat' first
    | with_reducible assumption | with_reducible apply modCells_good | with_reducible apply modCordon_good | with_reducible apply stopCordon_good
    | with_reducible apply Good.ite | exact ⟨h.1⟩

theorem ocReport_good {W : Group → Prop} (a0 : Nat) (a1 : State) (r : State) (h : Good W r a1) : Good W r (ocReport a0 a1) := by
  unfold ocReport
  repeat' first
    | with_reducible assumption | with_reducible apply modCell_good | with_reducible apply modCordon_good | with_reducible apply loseCell_good
    | with_reducible apply portShort_good
    | with_reducible apply Good.ite | exact ⟨h.1⟩

theorem tripReport_good {W : Group → Prop} (a0 : Nat) (a1 : Trip) (a2 : State) (r : State) (h : Good W r a2) : Good W r (tripReport a0 a1 a2) := by
  unfold tripReport
  dsimp only
  repeat' first
    | with_reducible assumption | with_reducible apply modCell_good | with_reducible apply loseCell_good | with_reducible apply caskOvEvent_good
    | with_reducible apply ocReport_good
    | intro _ | with_reducible apply Good.ite | split | with_reducible apply Good.fold | with_reducible apply Good.mk'

theorem tripsReport_good {W : Group → Prop} (a0 : Nat) (a1 : List Trip) (a2 : State) (r : State) (h : Good W r a2) : Good W r (tripsReport a0 a1 a2)
    := by
  unfold tripsReport
  repeat' first
    | with_reducible assumption | with_reducible apply abortTestsOf_good | with_reducible apply fireSource_good | with_reducible apply tripReport_good
    | (with_reducible apply Good.foldl; intro _ _ _) | intro _
    | with_reducible apply Good.ite | split
    | with_reducible apply Good.fold | (with_reducible apply Good.mk'; try dsimp only)

theorem engagedReport_good {W : Group → Prop} (a0 : Nat) (a1 : EngageBy) (a2 : State) (r : State) (h : Good W r a2) : Good W r (engagedReport a0 a1
    a2) := by
  unfold engagedReport
  repeat' first
    | with_reducible assumption | with_reducible apply fireSource_good
    | with_reducible apply Good.ite | exact ⟨h.1⟩

theorem execEvent_good {W : Group → Prop} (a0 : Nat) (a1 : CellEvent) (a2 : State) (r t : State) (h : Good W r a2) (e : execEvent a0 a1 a2 = .next t)
    : Good W r t := by
  unfold execEvent at e
  refine act_good _ _ _ _ h (fun s h => ?_) e
  dsimp only
  repeat' first
    | with_reducible assumption | with_reducible apply modCell_good | with_reducible apply reportBand_good | with_reducible apply portMaxSeen_good
    | with_reducible apply regenTidy_good | with_reducible apply regenOn_good | with_reducible apply tripsReport_good
    | with_reducible apply engagedReport_good
    | intro _ | with_reducible apply Good.ite | split | with_reducible apply Good.fold | with_reducible apply Good.mk'

theorem saveBank_good {W : Group → Prop} (a0 : State) (r : State) (h : Good W r a0) (_ : W .cellar := by assumption) : Good W r (saveBank a0) := by
  unfold saveBank
  repeat' first
    | with_reducible assumption | with_reducible apply blockWrite_good
    | with_reducible apply Good.ite | exact ⟨h.1⟩

theorem saveActivation_good {W : Group → Prop} (a0 : State) (r : State) (h : Good W r a0) (_ : W .cellar := by assumption) : Good W r (saveActivation
    a0) := by
  unfold saveActivation
  repeat' first
    | with_reducible assumption | with_reducible apply blockWrite_good
    | with_reducible apply Good.ite | exact ⟨h.1⟩

theorem saveIdentity_good {W : Group → Prop} (a0 : State) (r : State) (h : Good W r a0) (_ : W .cellar := by assumption) : Good W r (saveIdentity a0)
    := by
  unfold saveIdentity
  repeat' first
    | with_reducible assumption | with_reducible apply blockWrite_good
    | with_reducible apply Good.ite | exact ⟨h.1⟩

theorem saveGraftHeader_good {W : Group → Prop} (a0 : State) (r : State) (h : Good W r a0) (_ : W .cellar := by assumption) : Good W r
    (saveGraftHeader a0) := by
  unfold saveGraftHeader
  repeat' first
    | with_reducible assumption | with_reducible apply blockWrite_good
    | with_reducible apply Good.ite | exact ⟨h.1⟩

theorem saveState_good {W : Group → Prop} (a0 : State) (r : State) (h : Good W r a0) (_ : W .cellar := by assumption) : Good W r (saveState a0) := by
  unfold saveState
  repeat' first
    | with_reducible assumption | with_reducible apply blockWrite_good
    | with_reducible apply Good.ite | exact ⟨h.1⟩

theorem clearBitmap_good {W : Group → Prop} (a0 : State) (r : State) (h : Good W r a0) (_ : W .cellar := by assumption) : Good W r (clearBitmap a0) :=
    by
  unfold clearBitmap
  dsimp only
  repeat' first
    | with_reducible assumption | with_reducible apply clrPut_good
    | intro _ | with_reducible apply Good.ite | split | with_reducible apply Good.fold | with_reducible apply Good.mk'

theorem putChunkBit_good {W : Group → Prop} (a0 : Nat) (a1 : Bool) (a2 : State) (r : State) (h : Good W r a2) (_ : W .cellar := by assumption) : Good
    W r (putChunkBit a0 a1 a2) := by
  unfold putChunkBit
  dsimp only
  repeat' first
    | with_reducible assumption | with_reducible apply clrPut_good
    | intro _ | with_reducible apply Good.ite | split | with_reducible apply Good.fold | with_reducible apply Good.mk'

theorem restoreBank_good {W : Group → Prop} (a0 : State) (r : State) (h : Good W r a0) (_ : W .settings := by assumption) : Good W r (restoreBank a0)
    := by
  unfold restoreBank
  repeat' first
    | with_reducible assumption
    | (with_reducible apply Good.foldl; intro _ _ _) | intro _
    | with_reducible apply Good.ite | split
    | with_reducible apply Good.fold | (with_reducible apply Good.mk'; try dsimp only) | with_reducible apply Good.fold_settings

theorem restoreActivation_good {W : Group → Prop} (a0 : State) (r : State) (h : Good W r a0) : Good W r (restoreActivation a0) := by
  unfold restoreActivation
  dsimp only
  repeat' first
    | with_reducible assumption
    | intro _ | with_reducible apply Good.ite | split | with_reducible apply Good.fold | with_reducible apply Good.mk'

theorem restoreIdentity_good {W : Group → Prop} (a0 : State) (r : State) (h : Good W r a0) (_ : W .settings := by assumption) (_ : W .address := by
    assumption) : Good W r (restoreIdentity a0) := by
  unfold restoreIdentity
  extract_lets own
  have one : ∀ (x : Nat) (y : Nat) (p q : Bool),
      Good W r { a0 with trl := { a0.trl with addr := x, tmRank := y, endA := p, endB := q } } := fun x y p q => by
    have h1 : Good W r { a0 with trl := { a0.trl with addr := x } } := Good.mk' (Good.fold_address h (by assumption))
    generalize hu : ({ a0 with trl := { a0.trl with addr := x } } : State) = u at h1
    have h2 : Good W r { u with trl := { u.trl with tmRank := y, endA := p, endB := q } } := Good.mk' (Good.fold_settings h1 (by assumption))
    rw [← hu] at h2
    exact h2
  split
  · exact one _ _ _ _
  · exact one _ _ _ _

theorem restoreGraft_good {W : Group → Prop} (a0 : State) (r : State) (h : Good W r a0) (_ : W .ship := by assumption) (_ : W .graft := by assumption)
    : Good W r (restoreGraft a0) := by
  unfold restoreGraft
  repeat' first
    | with_reducible assumption
    | (extract_lets +onlyGivenNames z; first
        | (refine (fun (hz : Good W r z) => ?_) ?_; (on_goal 1 => clear_value z); (on_goal 2 => (dsimp -zeta only [z]; clear z)))
        | (refine (fun (hz : Good W r z.1) => ?_) ?_; (on_goal 1 => clear_value z); (on_goal 2 => (dsimp -zeta only [z]; clear z)))
        | (refine (fun (hz : Good W r z.2) => ?_) ?_; (on_goal 1 => clear_value z); (on_goal 2 => (dsimp -zeta only [z]; clear z)))
        | (have _q : Nat := z; clear _q; clear_value z) | (have _q : Bool := z; clear _q; clear_value z)
        | (have _q : Word := z; clear _q; clear_value z) | (have _q : Record := z; clear _q; clear_value z)
        | (try dsimp -zeta only [z]; clear z))
    | with_reducible exact id
    | with_reducible exact fun _ w => w
    | with_reducible exact fun _ _ => memWf_nil _
    | with_reducible exact memPutWord_wf
    | with_reducible exact memWriteList_wf
    | with_reducible exact memErase_wf
    | with_reducible exact memWriteList_wf (memWf_nil _)
    | with_reducible exact stgRegs_wf _ _ _
    | with_reducible exact fun _ => memWf_nil _
    | (with_reducible apply Good.foldl; intro _ _ _)
    | (with_reducible apply Good.foldl_fst; intro _ _ _)
    | intro _
    | with_reducible apply Good.ite
    | with_reducible apply Good.ite_fst
    | split
    | with_reducible apply Good.fold
    | (with_reducible apply Good.mk'; try dsimp only)
    | dsimp only
    | simp only [rngLost_buf, stgLimp_buf, endSession9_buf, trlOff_buf, trlOn_buf, stgEmpty_buf, trlOff_same, trlOn_same, adcStop_same, stgLimp_same]
    | with_reducible apply Good.fold_cry
    | with_reducible apply Good.fold_spi
    | with_reducible apply Good.fold_trl
    | with_reducible apply Good.fold_stg
    | with_reducible apply Good.fold_mem
    | with_reducible apply Good.fold_held
    | with_reducible apply Good.fold_fls
    | with_reducible apply Good.fold_bank0
    | with_reducible apply Good.fold_bank1
    | (with_reducible apply Good.fold_clock)
    | (with_reducible apply Good.fold_badWords)
    | (with_reducible apply Good.fold_crystal)
    | (with_reducible apply Good.fold_verdict)
    | (with_reducible apply Good.fold_staged)
    | (with_reducible apply Good.fold_applied)
    | (with_reducible apply Good.fold_timing)
    | (with_reducible apply Good.fold_address)
    | (with_reducible apply Good.fold_expiry)
    | (with_reducible apply Good.fold_question)
    | (with_reducible apply Good.fold_life)
    | (with_reducible apply Good.fold_arming)
    | (with_reducible apply Good.fold_flashOp)
    | (with_reducible apply Good.fold_rng)
    | (with_reducible apply Good.fold_diag)
    | (with_reducible apply Good.fold_failed)
    | (with_reducible apply Good.fold_button)
    | (with_reducible apply Good.fold_ship)
    | (with_reducible apply Good.fold_changeover)
    | (with_reducible apply Good.fold_graft)
    | (with_reducible apply Good.fold_irq)
    | (with_reducible apply Good.fold_lastEvent)
    | (with_reducible apply Good.fold_powered)
    | (with_reducible apply Good.fold_inputs)
    | (with_reducible apply Good.fold_wakeCause)
    | (with_reducible apply Good.fold_settings)
    | (refine Good.gen (by with_reducible assumption) rfl rfl rfl ?_ ?_ ?_ ?_ ?_ ?_ ?_ ?_ ?_ ?_ ?_ ?_ ?_ ?_ ?_ ?_ ?_ ?_ ?_ ?_ ?_ ?_ ?_ ?_ ?_ ?_ ?_ ?_ ?_ ?_ ?_ <;> first | exact .inl (by assumption) | exact .inr rfl | exact .inr ⟨rfl, rfl⟩ | exact id | skip)


theorem restoreBlocks_good {W : Group → Prop} (a0 : Nat) (a1 : State) (r : State) (h : Good W r a1) (_ : W .settings := by assumption) (_ : W .address
    := by assumption) (_ : W .ship := by assumption) (_ : W .graft := by assumption) : Good W r (restoreBlocks a0 a1) := by
  unfold restoreBlocks
  repeat' first
    | with_reducible assumption | with_reducible apply restoreBooks_good | with_reducible apply restoreBank_good
    | with_reducible apply restoreActivation_good | with_reducible apply restoreIdentity_good | with_reducible apply restoreGraft_good
    | with_reducible apply Good.ite | exact ⟨h.1⟩

theorem stgRefuse_good {W : Group → Prop} (a0 : Nat) (a1 : State) (r : State) (h : Good W r a1) (_ : W .staged := by assumption) : Good W r (stgRefuse
    a0 a1) := by
  unfold stgRefuse
  repeat' first
    | with_reducible assumption
    | (with_reducible apply Good.foldl; intro _ _ _) | intro _
    | with_reducible apply Good.ite | split
    | with_reducible apply Good.fold | (with_reducible apply Good.mk'; try dsimp only) | with_reducible apply Good.fold_staged

theorem stgOpen_good {W : Group → Prop} (a0 : Agent) (a1 : State) (r : State) (h : Good W r a1) (_ : W .staged := by assumption) : Good W r (stgOpen
    a0 a1) := by
  unfold stgOpen
  repeat' first
    | with_reducible assumption
    | (with_reducible apply Good.foldl; intro _ _ _) | intro _
    | with_reducible apply Good.ite | split
    | with_reducible apply Good.fold | (with_reducible apply Good.mk'; try dsimp only) | with_reducible apply Good.fold_staged

theorem stgWrite_good {W : Group → Prop} (a0 : Agent) (a1 : Nat) (a2 : Word) (a3 : State) (r : State) (h : Good W r a3) (_ : W .image := by
    assumption) (_ : W .staged := by assumption) : Good W r (stgWrite a0 a1 a2 a3) := by
  unfold stgWrite
  extract_lets z u
  refine Good.ite (stgRefuse_good _ _ _ h) ?_
  have h1 : Good W r u := stgOpen_good _ _ _ h
  clear_value u
  have e := stgRegs_same a1 a2 u.stg
  have wf := stgRegs_wf a1 a2 u.stg
  generalize stgRegs a1 a2 u.stg = x at e wf
  obtain ⟨e1, e2, e3, e4, e5, e6, e7⟩ := e
  have h2 : Good W r { u with stg := { u.stg with buf := x.buf } } := Good.mk' (Good.fold_stg h1 (by assumption) wf)
  generalize hv : ({ u with stg := { u.stg with buf := x.buf } } : State) = v at h2
  have h3 : Good W r { v with stg := { v.stg with foreign := x.foreign, imgPtr := x.imgPtr, tLo := x.tLo, tHi := x.tHi } } :=
    Good.mk' (Good.fold_staged h2 (by assumption))
  rw [← hv] at h3
  have h4 : Good W r { u with stg := { x with digest := u.stg.digest, reason := u.stg.reason, rCordon := u.stg.rCordon, rTrim := u.stg.rTrim, rOffset := u.stg.rOffset, applied := u.stg.applied, trimsIn := u.stg.trimsIn } } :=
    ⟨h3.1⟩
  rw [← e1, ← e2, ← e3, ← e4, ← e5, ← e6, ← e7] at h4
  exact h4

theorem execStgWrite_good {W : Group → Prop} (a0 : Agent) (a1 : Nat) (a2 : Word) (a3 : State) (r t : State) (h : Good W r a3) (e : execStgWrite a0 a1
    a2 a3 = .next t) (_ : W .image := by assumption) (_ : W .staged := by assumption) : Good W r t := by
  unfold execStgWrite at e
  refine act_good _ _ _ _ h (fun s h => ?_) e
  repeat' first
    | with_reducible assumption | with_reducible apply stgWrite_good
    | with_reducible apply Good.ite | exact ⟨h.1⟩

theorem execStgImgDataWrite_good {W : Group → Prop} (a0 : Agent) (a1 : Word) (a2 : State) (r t : State) (h : Good W r a2) (e : execStgImgDataWrite a0
    a1 a2 = .next t) (_ : W .image := by assumption) (_ : W .staged := by assumption) : Good W r t := by
  unfold execStgImgDataWrite at e
  refine act_good _ _ _ _ h (fun s h => ?_) e
  repeat' first
    | with_reducible assumption | with_reducible apply stgWrite_good
    | with_reducible apply Good.ite | exact ⟨h.1⟩

theorem stgRes_good {W : Group → Prop} (a0 : Nat) (a1 : Nat) (a2 : State) (r : State) (h : Good W r a2) : Good W r (stgRes a0 a1 a2) := ⟨h.1⟩

theorem startCheck_good {W : Group → Prop} (a0 : Nat) (a1 : AfterCheck) (a2 : State) (r : State) (h : Good W r a2) : Good W r (startCheck a0 a1 a2) :=
    ⟨h.1⟩

theorem stgCheck_good {W : Group → Prop} (a0 : Agent) (a1 : State) (r : State) (h : Good W r a1) : Good W r (stgCheck a0 a1) := by
  unfold stgCheck
  repeat' first
    | with_reducible assumption | with_reducible apply stgRes_good | with_reducible apply startCheck_good
    | with_reducible apply Good.ite | exact ⟨h.1⟩

theorem execCheck_good {W : Group → Prop} (a0 : Agent) (a1 : State) (r t : State) (h : Good W r a1) (e : execCheck a0 a1 = .next t) : Good W r t := by
  unfold execCheck at e
  refine act_good _ _ _ _ h (fun s h => ?_) e
  repeat' first
    | with_reducible assumption | with_reducible apply stgCheck_good
    | with_reducible apply Good.ite | exact ⟨h.1⟩

theorem sendArms_good {W : Group → Prop} (a0 : BitVec 7) (a1 : State) (r : State) (h : Good W r a1) : Good W r (sendArms a0 a1) := by
  unfold sendArms
  repeat' first
    | with_reducible assumption | with_reducible apply modCells_good
    | with_reducible apply Good.ite | exact ⟨h.1⟩

theorem armFor_good {W : Group → Prop} (a0 : Nat) (a1 : State) (r : State) (h : Good W r a1) : Good W r (armFor a0 a1) := by
  unfold armFor
  repeat' first
    | with_reducible assumption | with_reducible apply sendArms_good
    | with_reducible apply Good.ite | exact ⟨h.1⟩

theorem armCommit_good {W : Group → Prop} (a0 : State) (r : State) (h : Good W r a0) : Good W r (armCommit a0) := by
  unfold armCommit
  repeat' first
    | with_reducible assumption | with_reducible apply stgRes_good | with_reducible apply armFor_good
    | with_reducible apply Good.ite | exact ⟨h.1⟩

theorem stgCommit_good {W : Group → Prop} (a0 : Agent) (a1 : State) (r : State) (h : Good W r a1) : Good W r (stgCommit a0 a1) := by
  unfold stgCommit
  dsimp only
  repeat' first
    | with_reducible assumption | with_reducible apply stgRes_good | with_reducible apply startCheck_good | with_reducible apply armCommit_good
    | intro _ | with_reducible apply Good.ite | split | with_reducible apply Good.fold | with_reducible apply Good.mk'

theorem execCommit_good {W : Group → Prop} (a0 : Agent) (a1 : State) (r t : State) (h : Good W r a1) (e : execCommit a0 a1 = .next t) : Good W r t :=
    by
  unfold execCommit at e
  refine act_good _ _ _ _ h (fun s h => ?_) e
  repeat' first
    | with_reducible assumption | with_reducible apply stgCommit_good
    | with_reducible apply Good.ite | exact ⟨h.1⟩

theorem schedule_good {W : Group → Prop} (a0 : State) (r : State) (h : Good W r a0) : Good W r (schedule a0) := by
  unfold schedule
  repeat' first
    | with_reducible assumption | with_reducible apply stgRes_good
    | with_reducible apply Good.ite | exact ⟨h.1⟩

theorem stgCommitAt_good {W : Group → Prop} (a0 : Agent) (a1 : State) (r : State) (h : Good W r a1) : Good W r (stgCommitAt a0 a1) := by
  unfold stgCommitAt
  dsimp only
  repeat' first
    | with_reducible assumption | with_reducible apply stgRes_good | with_reducible apply startCheck_good | with_reducible apply schedule_good
    | intro _ | with_reducible apply Good.ite | split | with_reducible apply Good.fold | with_reducible apply Good.mk'

theorem execCommitAt_good {W : Group → Prop} (a0 : Agent) (a1 : State) (r t : State) (h : Good W r a1) (e : execCommitAt a0 a1 = .next t) : Good W r t
    := by
  unfold execCommitAt at e
  refine act_good _ _ _ _ h (fun s h => ?_) e
  repeat' first
    | with_reducible assumption | with_reducible apply stgCommitAt_good
    | with_reducible apply Good.ite | exact ⟨h.1⟩

theorem stgCancel_good {W : Group → Prop} (a0 : Agent) (a1 : State) (r : State) (h : Good W r a1) : Good W r (stgCancel a0 a1) := by
  unfold stgCancel
  repeat' first
    | with_reducible assumption | with_reducible apply stgRes_good
    | with_reducible apply Good.ite | exact ⟨h.1⟩

theorem execCancel_good {W : Group → Prop} (a0 : Agent) (a1 : State) (r t : State) (h : Good W r a1) (e : execCancel a0 a1 = .next t) : Good W r t :=
    by
  unfold execCancel at e
  refine act_good _ _ _ _ h (fun s h => ?_) e
  repeat' first
    | with_reducible assumption | with_reducible apply stgCancel_good
    | with_reducible apply Good.ite | exact ⟨h.1⟩

theorem stgClear_good {W : Group → Prop} (a0 : Agent) (a1 : State) (r : State) (h : Good W r a1) : Good W r (stgClear a0 a1) := by
  unfold stgClear
  repeat' first
    | with_reducible assumption | with_reducible apply stgRes_good
    | with_reducible apply Good.ite | exact ⟨h.1⟩

theorem execClear_good {W : Group → Prop} (a0 : Agent) (a1 : State) (r t : State) (h : Good W r a1) (e : execClear a0 a1 = .next t) : Good W r t := by
  unfold execClear at e
  refine act_good _ _ _ _ h (fun s h => ?_) e
  repeat' first
    | with_reducible assumption | with_reducible apply stgClear_good
    | with_reducible apply Good.ite | exact ⟨h.1⟩

theorem stgUnknown_good {W : Group → Prop} (a0 : Nat) (a1 : State) (r : State) (h : Good W r a1) : Good W r (stgUnknown a0 a1) := ⟨h.1⟩

theorem putVerdict_good {W : Group → Prop} (a0 : Verdict) (a1 : Bool) (a2 : State) (r : State) (h : Good W r a2) (_ : W .verdict := by assumption) :
    Good W r (putVerdict a0 a1 a2) := by
  unfold putVerdict
  repeat' first
    | with_reducible assumption
    | (with_reducible apply Good.foldl; intro _ _ _) | intro _
    | with_reducible apply Good.ite | split
    | with_reducible apply Good.fold | (with_reducible apply Good.mk'; try dsimp only) | with_reducible apply Good.fold_verdict

theorem endActivation_good {W : Group → Prop} (a0 : GraftState) (a1 : ActPhase) (a2 : Nat) (a3 : State) (r : State) (h : Good W r a3) (_ : W .cellar
    := by assumption) : Good W r (endActivation a0 a1 a2 a3) := by
  unfold endActivation
  repeat' first
    | with_reducible assumption | with_reducible apply saveActivation_good | with_reducible apply saveState_good
    | with_reducible apply Good.ite | exact ⟨h.1⟩

theorem structureRefused_good {W : Group → Prop} (a0 : Nat) (a1 : State) (r : State) (h : Good W r a1) (_ : W .cellar := by assumption) (_ : W .flash
    := by assumption) : Good W r (structureRefused a0 a1) := by
  unfold structureRefused
  repeat' first
    | with_reducible assumption
    | with_reducible apply storeVoid_good
    | with_reducible apply endActivation_good
    | (extract_lets +onlyGivenNames z; first
        | (refine (fun (hz : Good W r z) => ?_) ?_; (on_goal 1 => clear_value z); (on_goal 2 => (dsimp -zeta only [z]; clear z)))
        | (refine (fun (hz : Good W r z.1) => ?_) ?_; (on_goal 1 => clear_value z); (on_goal 2 => (dsimp -zeta only [z]; clear z)))
        | (refine (fun (hz : Good W r z.2) => ?_) ?_; (on_goal 1 => clear_value z); (on_goal 2 => (dsimp -zeta only [z]; clear z)))
        | (have _q : Nat := z; clear _q; clear_value z) | (have _q : Bool := z; clear _q; clear_value z)
        | (have _q : Word := z; clear _q; clear_value z) | (have _q : Record := z; clear _q; clear_value z)
        | (try dsimp -zeta only [z]; clear z))
    | with_reducible exact id
    | with_reducible exact fun _ w => w
    | with_reducible exact fun _ _ => memWf_nil _
    | with_reducible exact memPutWord_wf
    | with_reducible exact memWriteList_wf
    | with_reducible exact memErase_wf
    | with_reducible exact memWriteList_wf (memWf_nil _)
    | with_reducible exact stgRegs_wf _ _ _
    | with_reducible exact fun _ => memWf_nil _
    | (with_reducible apply Good.foldl; intro _ _ _)
    | (with_reducible apply Good.foldl_fst; intro _ _ _)
    | intro _
    | with_reducible apply Good.ite
    | with_reducible apply Good.ite_fst
    | split
    | with_reducible apply Good.fold
    | (with_reducible apply Good.mk'; try dsimp only)
    | dsimp only
    | simp only [rngLost_buf, stgLimp_buf, endSession9_buf, trlOff_buf, trlOn_buf, stgEmpty_buf, trlOff_same, trlOn_same, adcStop_same, stgLimp_same]
    | with_reducible apply Good.fold_cry
    | with_reducible apply Good.fold_spi
    | with_reducible apply Good.fold_trl
    | with_reducible apply Good.fold_stg
    | with_reducible apply Good.fold_mem
    | with_reducible apply Good.fold_held
    | with_reducible apply Good.fold_fls
    | with_reducible apply Good.fold_bank0
    | with_reducible apply Good.fold_bank1
    | (with_reducible apply Good.fold_clock)
    | (with_reducible apply Good.fold_badWords)
    | (with_reducible apply Good.fold_crystal)
    | (with_reducible apply Good.fold_verdict)
    | (with_reducible apply Good.fold_staged)
    | (with_reducible apply Good.fold_applied)
    | (with_reducible apply Good.fold_timing)
    | (with_reducible apply Good.fold_address)
    | (with_reducible apply Good.fold_expiry)
    | (with_reducible apply Good.fold_question)
    | (with_reducible apply Good.fold_life)
    | (with_reducible apply Good.fold_arming)
    | (with_reducible apply Good.fold_flashOp)
    | (with_reducible apply Good.fold_rng)
    | (with_reducible apply Good.fold_diag)
    | (with_reducible apply Good.fold_failed)
    | (with_reducible apply Good.fold_button)
    | (with_reducible apply Good.fold_ship)
    | (with_reducible apply Good.fold_changeover)
    | (with_reducible apply Good.fold_graft)
    | (with_reducible apply Good.fold_irq)
    | (with_reducible apply Good.fold_lastEvent)
    | (with_reducible apply Good.fold_powered)
    | (with_reducible apply Good.fold_inputs)
    | (with_reducible apply Good.fold_wakeCause)
    | (with_reducible apply Good.fold_settings)
    | (refine Good.gen (by with_reducible assumption) rfl rfl rfl ?_ ?_ ?_ ?_ ?_ ?_ ?_ ?_ ?_ ?_ ?_ ?_ ?_ ?_ ?_ ?_ ?_ ?_ ?_ ?_ ?_ ?_ ?_ ?_ ?_ ?_ ?_ ?_ ?_ ?_ ?_ <;> first | exact .inl (by assumption) | exact .inr rfl | exact .inr ⟨rfl, rfl⟩ | exact id | skip)


theorem checkFails_good {W : Group → Prop} (a0 : Verdict) (a1 : State) (r : State) (h : Good W r a1) (_ : W .cellar := by assumption) (_ : W .flash :=
    by assumption) (_ : W .image := by assumption) : Good W r (checkFails a0 a1) := by
  unfold checkFails
  repeat' first
    | with_reducible assumption
    | with_reducible apply structureRefused_good
    | (extract_lets +onlyGivenNames z; first
        | (refine (fun (hz : Good W r z) => ?_) ?_; (on_goal 1 => clear_value z); (on_goal 2 => (dsimp -zeta only [z]; clear z)))
        | (refine (fun (hz : Good W r z.1) => ?_) ?_; (on_goal 1 => clear_value z); (on_goal 2 => (dsimp -zeta only [z]; clear z)))
        | (refine (fun (hz : Good W r z.2) => ?_) ?_; (on_goal 1 => clear_value z); (on_goal 2 => (dsimp -zeta only [z]; clear z)))
        | (have _q : Nat := z; clear _q; clear_value z) | (have _q : Bool := z; clear _q; clear_value z)
        | (have _q : Word := z; clear _q; clear_value z) | (have _q : Record := z; clear _q; clear_value z)
        | (try dsimp -zeta only [z]; clear z))
    | with_reducible exact id
    | with_reducible exact fun _ w => w
    | with_reducible exact fun _ _ => memWf_nil _
    | with_reducible exact memPutWord_wf
    | with_reducible exact memWriteList_wf
    | with_reducible exact memErase_wf
    | with_reducible exact memWriteList_wf (memWf_nil _)
    | with_reducible exact stgRegs_wf _ _ _
    | with_reducible exact fun _ => memWf_nil _
    | (with_reducible apply Good.foldl; intro _ _ _)
    | (with_reducible apply Good.foldl_fst; intro _ _ _)
    | intro _
    | with_reducible apply Good.ite
    | with_reducible apply Good.ite_fst
    | split
    | with_reducible apply Good.fold
    | (with_reducible apply Good.mk'; try dsimp only)
    | dsimp only
    | simp only [rngLost_buf, stgLimp_buf, endSession9_buf, trlOff_buf, trlOn_buf, stgEmpty_buf, trlOff_same, trlOn_same, adcStop_same, stgLimp_same]
    | with_reducible apply Good.fold_cry
    | with_reducible apply Good.fold_spi
    | with_reducible apply Good.fold_trl
    | with_reducible apply Good.fold_stg
    | with_reducible apply Good.fold_mem
    | with_reducible apply Good.fold_held
    | with_reducible apply Good.fold_fls
    | with_reducible apply Good.fold_bank0
    | with_reducible apply Good.fold_bank1
    | (with_reducible apply Good.fold_clock)
    | (with_reducible apply Good.fold_badWords)
    | (with_reducible apply Good.fold_crystal)
    | (with_reducible apply Good.fold_verdict)
    | (with_reducible apply Good.fold_staged)
    | (with_reducible apply Good.fold_applied)
    | (with_reducible apply Good.fold_timing)
    | (with_reducible apply Good.fold_address)
    | (with_reducible apply Good.fold_expiry)
    | (with_reducible apply Good.fold_question)
    | (with_reducible apply Good.fold_life)
    | (with_reducible apply Good.fold_arming)
    | (with_reducible apply Good.fold_flashOp)
    | (with_reducible apply Good.fold_rng)
    | (with_reducible apply Good.fold_diag)
    | (with_reducible apply Good.fold_failed)
    | (with_reducible apply Good.fold_button)
    | (with_reducible apply Good.fold_ship)
    | (with_reducible apply Good.fold_changeover)
    | (with_reducible apply Good.fold_graft)
    | (with_reducible apply Good.fold_irq)
    | (with_reducible apply Good.fold_lastEvent)
    | (with_reducible apply Good.fold_powered)
    | (with_reducible apply Good.fold_inputs)
    | (with_reducible apply Good.fold_wakeCause)
    | (with_reducible apply Good.fold_settings)
    | (refine Good.gen (by with_reducible assumption) rfl rfl rfl ?_ ?_ ?_ ?_ ?_ ?_ ?_ ?_ ?_ ?_ ?_ ?_ ?_ ?_ ?_ ?_ ?_ ?_ ?_ ?_ ?_ ?_ ?_ ?_ ?_ ?_ ?_ ?_ ?_ ?_ ?_ <;> first | exact .inl (by assumption) | exact .inr rfl | exact .inr ⟨rfl, rfl⟩ | exact id | skip)


theorem execCheckComplete_good {W : Group → Prop} (a0 : State) (r t : State) (h : Good W r a0) (e : execCheckComplete a0 = .next t) (_ : W .cellar :=
    by assumption) (_ : W .flash := by assumption) (_ : W .image := by assumption) (_ : W .verdict := by assumption) : Good W r t := by
  unfold execCheckComplete at e
  refine act_good _ _ _ _ h (fun s h => ?_) e
  clear e
  repeat' first
    | with_reducible assumption | with_reducible apply limpEntry_good | with_reducible apply armCommit_good | with_reducible apply schedule_good
    | with_reducible apply putVerdict_good | with_reducible apply checkFails_good
    | (extract_lets +onlyGivenNames z; first
        | (refine (fun (hz : Good W r z) => ?_) ?_; (on_goal 1 => clear_value z); (on_goal 2 => (dsimp -zeta only [z]; clear z)))
        | (refine (fun (hz : Good W r z.1) => ?_) ?_; (on_goal 1 => clear_value z); (on_goal 2 => (dsimp -zeta only [z]; clear z)))
        | (have _q : Nat := z; clear _q; clear_value z) | (try dsimp -zeta only [z]; clear z))
    | (with_reducible apply Good.foldl; intro _ _ _) | intro _
    | with_reducible apply Good.ite | split
    | with_reducible apply Good.fold | (with_reducible apply Good.mk'; try dsimp only) | with_reducible apply Good.fold_mem
    | with_reducible apply Good.fold_bank0 | with_reducible apply Good.fold_bank1 | with_reducible apply Good.fold_stg
    | with_reducible apply Good.fold_verdict

theorem execCommitAtArm_good {W : Group → Prop} (a0 : State) (r t : State) (h : Good W r a0) (e : execCommitAtArm a0 = .next t) : Good W r t := by
  unfold execCommitAtArm at e
  refine act_good _ _ _ _ h (fun s h => ?_) e
  repeat' first
    | with_reducible assumption | with_reducible apply armFor_good
    | with_reducible apply Good.ite | exact ⟨h.1⟩

theorem execScheduledTimeLost_good {W : Group → Prop} (a0 : State) (r t : State) (h : Good W r a0) (e : execScheduledTimeLost a0 = .next t) : Good W r
    t := by
  unfold execScheduledTimeLost at e
  refine act_good _ _ _ _ h (fun s h => ?_) e
  exact Good.ite ⟨h.1⟩ h

theorem execBankOwnerIdle_good {W : Group → Prop} (a0 : State) (r t : State) (h : Good W r a0) (e : execBankOwnerIdle a0 = .next t) : Good W r t := by
  unfold execBankOwnerIdle at e
  refine act_good _ _ _ _ h (fun s h => ?_) e
  exact Good.ite ⟨h.1⟩ h

theorem dropArms_good {W : Group → Prop} (a0 : State) (r : State) (h : Good W r a0) : Good W r (dropArms a0) := by
  unfold dropArms
  repeat' first
    | with_reducible assumption | with_reducible apply modCells_good
    | with_reducible apply Good.ite | exact ⟨h.1⟩

theorem removeSilent_good {W : Group → Prop} (a0 : Nat) (a1 : State) (r : State) (h : Good W r a1) : Good W r (removeSilent a0 a1) := by
  unfold removeSilent
  repeat' first
    | with_reducible assumption | with_reducible apply modCell_good | with_reducible apply loseCell_good
    | with_reducible apply Good.ite | exact ⟨h.1⟩

theorem execArmAckMissing_good {W : Group → Prop} (a0 : State) (r t : State) (h : Good W r a0) (e : execArmAckMissing a0 = .next t) : Good W r t := by
  unfold execArmAckMissing at e
  refine act_good _ _ _ _ h (fun s h => ?_) e
  clear e
  repeat' first
    | with_reducible assumption | with_reducible apply raise_good | with_reducible apply armFor_good | with_reducible apply dropArms_good
    | with_reducible apply removeSilent_good
    | (with_reducible apply Good.foldl; intro _ _ _) | intro _
    | with_reducible apply Good.ite | split
    | with_reducible apply Good.fold | (with_reducible apply Good.mk'; try dsimp only)

theorem dropVanished_good {W : Group → Prop} (a0 : Image) (a1 : State) (r : State) (h : Good W r a1) (_ : W .changeover := by assumption) : Good W r
    (dropVanished a0 a1) := by
  unfold dropVanished
  repeat' first
    | with_reducible assumption | with_reducible apply modSrc_good | with_reducible apply pathGone_good
    | (with_reducible apply Good.foldl; intro _ _ _) | intro _
    | with_reducible apply Good.ite | split
    | with_reducible apply Good.fold | (with_reducible apply Good.mk'; try dsimp only) | with_reducible apply Good.fold_changeover

theorem redrive_good {W : Group → Prop} (a0 : Nat) (a1 : State) (r : State) (h : Good W r a1) : Good W r (redrive a0 a1) := by
  unfold redrive
  repeat' first
    | with_reducible assumption | with_reducible apply driveCordon_good
    | with_reducible apply Good.ite | exact ⟨h.1⟩

theorem applyCells_good {W : Group → Prop} (a0 : List Nat) (a1 : BitVec 7) (a2 : Nat) (a3 : State) (r : State) (h : Good W r a3) : Good W r
    (applyCells a0 a1 a2 a3) := by
  unfold applyCells
  repeat' first
    | with_reducible assumption | with_reducible apply modCell_good | with_reducible apply modCells_good | with_reducible apply redrive_good
    | (with_reducible apply Good.foldl; intro _ _ _) | intro _
    | with_reducible apply Good.ite | split
    | with_reducible apply Good.fold | (with_reducible apply Good.mk'; try dsimp only)

theorem applySet_good {W : Group → Prop} (a0 : State) (r : State) (h : Good W r a0) (_ : W .cellar := by assumption) (_ : W .applied := by assumption)
    (_ : W .changeover := by assumption) : Good W r (applySet a0) := by
  unfold applySet
  extract_lets x im cs old same trimmed s1 q1 q2 s2 s3 s4 s5 s6 s7
  have h1 : Good W r s1 := by
    simp only [s1]; split
    · exact h
    · exact dropVanished_good _ _ _ h
  have h2 : Good W r s2 := Good.mk' (Good.fold_stg2 h1 h (by assumption))
  have h3 : Good W r s3 := applyChecks_good _ _ _ (applyEntries_good _ _ _ h2)
  have h4 : Good W r s4 := by
    simp only [s4]; split
    · exact h3
    · exact peersApply_good _ _ _ (adcApply_good _ _ (applyClasses_good _ _ (applySources_good _ _ _ h3)))
  have h5 : Good W r s5 := applyCells_good _ _ _ _ _ h4
  have h6 : Good W r s6 := by
    simp only [s6]; split
    · exact applyPriority_good _ _ h5
    · exact h5
  have h7 : Good W r s7 := Good.foldl _ (fun t c g => fireSource_good _ _ _ g) h6
  split
  · exact endActivation_good _ _ _ _ _ h7
  · exact h7

end Sys2Proof.Laws
end

