-- ==== Sys2Proof/Laws/KeepsLife.lean ====
section
/-! SUPPORT. What the commit tick, the life cycle and the modes keep: `Good W r` of a state passes to the state
the operation makes, for every `W` that allows the groups the operation writes. -/

open Sys2Proof.Machine

namespace Sys2Proof.Laws
set_option Elab.async false
set_option linter.all false

theorem inregLoop_good {W : Group → Prop} (a0 : State) (r : State) (h : Good W r a0) : Good W r (inregLoop a0) := ⟨h.1⟩

theorem refreshSources_good {W : Group → Prop} (a0 : State) (r : State) (h : Good W r a0) : Good W r (refreshSources a0) := ⟨h.1⟩

theorem bookMeasured_good {W : Group → Prop} (a0 : State) (r : State) (h : Good W r a0) (_ : W .clock := by assumption) : Good W r (bookMeasured a0)
    := by
  unfold bookMeasured
  repeat' first
    | with_reducible assumption
    | (with_reducible apply Good.foldl; intro _ _ _) | intro _
    | with_reducible apply Good.ite | split
    | with_reducible apply Good.fold | (with_reducible apply Good.mk'; try dsimp only) | with_reducible apply Good.fold_clock

theorem bookCharge_good {W : Group → Prop} (a0 : State) (r : State) (h : Good W r a0) : Good W r (bookCharge a0) := ⟨h.1⟩

theorem setGrant_good {W : Group → Prop} (a0 : Nat) (a1 : Nat) (a2 : State) (r : State) (h : Good W r a2) : Good W r (setGrant a0 a1 a2) := by
  unfold setGrant
  repeat' first
    | with_reducible assumption | with_reducible apply modChg_good | with_reducible apply commandString_good
    | with_reducible apply Good.ite | exact ⟨h.1⟩

theorem allocate_good {W : Group → Prop} (a0 : State) (r : State) (h : Good W r a0) (_ : W .clock := by assumption) : Good W r (allocate a0) := by
  unfold allocate
  repeat' first
    | with_reducible assumption | with_reducible apply modCordon_good | with_reducible apply modChg_good | with_reducible apply setGrant_good
    | (with_reducible apply Good.foldl; intro _ _ _) | intro _
    | with_reducible apply Good.ite | split
    | with_reducible apply Good.fold | (with_reducible apply Good.mk'; try dsimp only) | with_reducible apply Good.fold_clock

theorem allocExports_good {W : Group → Prop} (a0 : State) (r : State) (h : Good W r a0) : Good W r (allocExports a0) := by
  unfold allocExports
  refine Good.foldl _ (fun t i k => ?_) h
  extract_lets p c limit n was q0 u
  have ku : Good W r u := by
    have e := addUp_same { t.bk with crd := bankPut t.bk.crd c { kind := 2, credits := n } }
    dsimp only at e
    simp only [u]
    generalize addUp { t.bk with crd := bankPut t.bk.crd c { kind := 2, credits := n } } = x at e
    obtain ⟨e1, e2, e3, e4, e5, e6, e7, e8, e9, e10, e11⟩ := e
    refine Good.mk' ?_
    try dsimp only
    rw [e1, e2, e3, e4, e5, e6, e7, e8, e9, e10, e11]
    exact k.1
  clear_value u n was
  split
  · exact Good.ite ku (supply_good _ _ _ _ ku)
  · exact k

theorem transitEnds_good {W : Group → Prop} (a0 : Nat) (a1 : State) (r : State) (h : Good W r a1) : Good W r (transitEnds a0 a1) := by
  unfold transitEnds
  repeat' first
    | with_reducible assumption | with_reducible apply raise_good
    | with_reducible apply Good.ite | exact ⟨h.1⟩

theorem execGiveApplied_good {W : Group → Prop} (a0 : Nat) (a1 : State) (r t : State) (h : Good W r a1) (e : execGiveApplied a0 a1 = .next t) : Good W
    r t := by
  unfold execGiveApplied at e
  refine act_good _ _ _ _ h (fun s h => ?_) e
  repeat' first
    | with_reducible assumption | with_reducible apply modCordon_good | with_reducible apply modChg_good | with_reducible apply bookCharge_good
    | with_reducible apply setGrant_good | with_reducible apply transitEnds_good
    | with_reducible apply Good.ite | exact ⟨h.1⟩

theorem orderDischarge_good {W : Group → Prop} (a0 : Nat) (a1 : State) (r : State) (h : Good W r a1) : Good W r (orderDischarge a0 a1) := by
  unfold orderDischarge
  refine Good.foldl_fst _ (fun p i g => ?_) h
  dsimp only
  split
  · exact g
  · exact driveCordon_good _ _ _ _ _ _ _ (modRun_good _ _ _ _ g)

theorem supplementTick_good {W : Group → Prop} (a0 : State) (r : State) (h : Good W r a0) : Good W r (supplementTick a0) := by
  unfold supplementTick
  dsimp only
  repeat' first
    | with_reducible assumption | with_reducible apply orderDischarge_good
    | intro _ | with_reducible apply Good.ite | split | with_reducible apply Good.fold | with_reducible apply Good.mk'

theorem drawEnds_good {W : Group → Prop} (a0 : Nat) (a1 : Nat) (a2 : State) (r : State) (h : Good W r a2) (_ : W .clock := by assumption) : Good W r
    (drawEnds a0 a1 a2) := by
  unfold drawEnds
  repeat' first
    | with_reducible assumption | with_reducible apply raise_good
    | (with_reducible apply Good.foldl; intro _ _ _) | intro _
    | with_reducible apply Good.ite | split
    | with_reducible apply Good.fold | (with_reducible apply Good.mk'; try dsimp only) | with_reducible apply Good.fold_clock

theorem drawTick_good {W : Group → Prop} (a0 : State) (r : State) (h : Good W r a0) (_ : W .clock := by assumption) : Good W r (drawTick a0) := by
  unfold drawTick
  dsimp only
  repeat' first
    | with_reducible assumption | with_reducible apply drawEnds_good
    | intro _ | with_reducible apply Good.ite | split | with_reducible apply Good.fold | with_reducible apply Good.mk'

theorem surgeEnds_good {W : Group → Prop} (a0 : Nat) (a1 : State) (r : State) (h : Good W r a1) (_ : W .clock := by assumption) : Good W r (surgeEnds
    a0 a1) := by
  unfold surgeEnds
  repeat' first
    | with_reducible assumption | with_reducible apply raise_good
    | (with_reducible apply Good.foldl; intro _ _ _) | intro _
    | with_reducible apply Good.ite | split
    | with_reducible apply Good.fold | (with_reducible apply Good.mk'; try dsimp only) | with_reducible apply Good.fold_clock

theorem surgeTick_good {W : Group → Prop} (a0 : State) (r : State) (h : Good W r a0) (_ : W .clock := by assumption) : Good W r (surgeTick a0) := by
  unfold surgeTick
  dsimp only
  repeat' first
    | with_reducible assumption | with_reducible apply surgeEnds_good
    | intro _ | with_reducible apply Good.ite | split | with_reducible apply Good.fold | with_reducible apply Good.mk'

theorem bookState_good {W : Group → Prop} (a0 : State) (r : State) (h : Good W r a0) (_ : W .clock := by assumption) : Good W r (bookState a0) := by
  unfold bookState
  repeat' first
    | with_reducible assumption
    | (with_reducible apply Good.foldl; intro _ _ _) | intro _
    | with_reducible apply Good.ite | split
    | with_reducible apply Good.fold | (with_reducible apply Good.mk'; try dsimp only) | with_reducible apply Good.fold_clock

theorem armShares_good {W : Group → Prop} (a0 : State) (r : State) (h : Good W r a0) : Good W r (armShares a0) := by
  unfold armShares
  repeat' first
    | with_reducible assumption | with_reducible apply modCells_good
    | (with_reducible apply Good.foldl; intro _ _ _) | intro _
    | with_reducible apply Good.ite | split
    | with_reducible apply Good.fold | (with_reducible apply Good.mk'; try dsimp only)

theorem recloseGate_good {W : Group → Prop} (a0 : State) (r : State) (h : Good W r a0) : Good W r (recloseGate a0) := by
  unfold recloseGate
  exact Good.ite ⟨h.1⟩ h

theorem goTick_good {W : Group → Prop} (a0 : State) (r : State) (h : Good W r a0) : Good W r (goTick a0) := by
  unfold goTick
  exact Good.ite ⟨h.1⟩ h

theorem syncTick_good {W : Group → Prop} (a0 : State) (r : State) (h : Good W r a0) : Good W r (syncTick a0) := by
  unfold syncTick
  repeat' first
    | with_reducible assumption | with_reducible apply modCells_good
    | with_reducible apply Good.ite | exact ⟨h.1⟩

theorem rephaseTick_good {W : Group → Prop} (a0 : State) (r : State) (h : Good W r a0) : Good W r (rephaseTick a0) := by
  unfold rephaseTick
  repeat' first
    | with_reducible assumption | with_reducible apply rephase_good | with_reducible apply limpCordon_good | with_reducible apply redrive_good
    | (with_reducible apply Good.foldl; intro _ _ _) | intro _
    | with_reducible apply Good.ite | split
    | with_reducible apply Good.fold | (with_reducible apply Good.mk'; try dsimp only)

theorem peerTick_good {W : Group → Prop} (a0 : State) (r : State) (h : Good W r a0) : Good W r (peerTick a0) := by
  unfold peerTick
  repeat' first
    | with_reducible assumption | with_reducible apply modPeer_good
    | (with_reducible apply Good.foldl; intro _ _ _) | intro _
    | with_reducible apply Good.ite | split
    | with_reducible apply Good.fold | (with_reducible apply Good.mk'; try dsimp only)

theorem bookTick_good {W : Group → Prop} (a0 : State) (r : State) (h : Good W r a0) (_ : W .clock := by assumption) : Good W r (bookTick a0) := by
  unfold bookTick
  repeat' first
    | with_reducible assumption | with_reducible apply inregLoop_good | with_reducible apply refreshSources_good
    | with_reducible apply bookMeasured_good | with_reducible apply bookCharge_good | with_reducible apply allocate_good
    | with_reducible apply allocExports_good | with_reducible apply supplementTick_good | with_reducible apply drawTick_good
    | with_reducible apply surgeTick_good | with_reducible apply bookState_good
    | with_reducible apply Good.ite | exact ⟨h.1⟩

theorem startSystems_good {W : Group → Prop} (a0 : State) (r : State) (h : Good W r a0) : Good W r (startSystems a0) := by
  unfold startSystems
  repeat' first
    | with_reducible assumption | with_reducible apply driveCordon_good
    | (with_reducible apply Good.foldl; intro _ _ _) | intro _
    | with_reducible apply Good.ite | split
    | with_reducible apply Good.fold | (with_reducible apply Good.mk'; try dsimp only)

theorem workTick_good {W : Group → Prop} (a0 : State) (r : State) (h : Good W r a0) (_ : W .clock := by assumption) : Good W r (workTick a0) := by
  unfold workTick
  repeat' first
    | with_reducible assumption | with_reducible apply waitingTests_good | with_reducible apply neededTests_good
    | with_reducible apply settleAll_good | with_reducible apply markFeeding_good | with_reducible apply seekFeed_good
    | with_reducible apply startScheduled_good | with_reducible apply peerTick_good | with_reducible apply bookTick_good
    | with_reducible apply startSystems_good
    | (with_reducible apply Good.foldl; intro _ _ _) | intro _
    | with_reducible apply Good.ite | split
    | with_reducible apply Good.fold | (with_reducible apply Good.mk'; try dsimp only) | with_reducible apply Good.fold_clock

theorem rampTick_good {W : Group → Prop} (a0 : State) (r : State) (h : Good W r a0) : Good W r (rampTick a0) := by
  unfold rampTick
  dsimp only
  repeat' first
    | with_reducible assumption
    | intro _ | with_reducible apply Good.ite | split | with_reducible apply Good.fold | with_reducible apply Good.mk'

theorem riseCells_good {W : Group → Prop} (a0 : State) (r : State) (h : Good W r a0) : Good W r (riseCells a0) := by
  unfold riseCells
  repeat' first
    | with_reducible assumption | with_reducible apply modCells_good
    | with_reducible apply Good.ite | exact ⟨h.1⟩

theorem riseTick_good {W : Group → Prop} (a0 : State) (r : State) (h : Good W r a0) : Good W r (riseTick a0) := by
  unfold riseTick
  dsimp only
  repeat' first
    | with_reducible assumption | with_reducible apply riseCells_good
    | intro _ | with_reducible apply Good.ite | split | with_reducible apply Good.fold | with_reducible apply Good.mk'

theorem aliveTick_good {W : Group → Prop} (a0 : State) (r : State) (h : Good W r a0) : Good W r (aliveTick a0) := by
  unfold aliveTick
  exact Good.ite ⟨h.1⟩ h

theorem execCommitTick_good {W : Group → Prop} (a0 : GateReading) (a1 : State) (r t : State) (h : Good W r a1) (e : execCommitTick a0 a1 = .next t) (_
    : W .clock := by assumption) : Good W r t := by
  unfold execCommitTick at e
  refine act_good _ _ _ _ h (fun s h => ?_) e
  clear e
  repeat' first
    | with_reducible assumption | with_reducible apply bindCells_good | with_reducible apply regenTidy_good | with_reducible apply peerResend_good
    | with_reducible apply frameTick_good | with_reducible apply armShares_good | with_reducible apply recloseGate_good
    | with_reducible apply goTick_good | with_reducible apply syncTick_good | with_reducible apply rephaseTick_good
    | with_reducible apply workTick_good | with_reducible apply rampTick_good | with_reducible apply riseTick_good
    | with_reducible apply aliveTick_good
    | (with_reducible apply Good.foldl; intro _ _ _) | intro _
    | with_reducible apply Good.ite | split
    | with_reducible apply Good.fold | (with_reducible apply Good.mk'; try dsimp only) | with_reducible apply Good.fold_clock

theorem otpPut_good {W : Group → Prop} (a0 : Bool) (a1 : Nat) (a2 : Word) (a3 : State) (r : State) (h : Good W r a3) (_ : W .otp := by assumption) :
    Good W r (otpPut a0 a1 a2 a3) := by
  unfold otpPut
  refine Good.mk' (Good.fold_otp h (by assumption) (memPutWord_or_bitsKept _ _ _) memPutWord_wf ?_)
  intro _ w
  split
  · exact memPutWord_wf w
  · exact w

theorem burn_good {W : Group → Prop} (a0 : List Nat) (a1 : State) (r : State) (h : Good W r a1) (_ : W .otp := by assumption) : Good W r (burn a0
    a1).1 := by
  unfold burn
  refine Good.foldl_fst _ (fun p w g => ?_) h
  split
  · exact g
  · exact otpPut_good _ _ _ _ _ g

theorem resolvePair_good {W : Group → Prop} (a0 : Nat × Nat) (a1 : State) (r : State) (h : Good W r a1) (_ : W .otp := by assumption) (_ : W .life :=
    by assumption) : Good W r (resolvePair a0 a1) := by
  unfold resolvePair
  extract_lets n back from_ q u q0 v
  refine Good.ite h ?_
  have h1 : Good W r q.1 := by
    simp only [q]; split
    · exact burn_good _ _ _ h
    · exact burn_good _ _ _ h
  have h2 : Good W r v := by
    have : Good W r u := h1
    clear_value u
    exact Good.mk' (Good.fold_life this (by assumption))
  exact queueRecord_good _ _ _ _ _ _ _ _ _ h2

theorem readOtp_good {W : Group → Prop} (a0 : State) (r : State) (h : Good W r a0) (_ : W .otp := by assumption) (_ : W .settings := by assumption) (_
    : W .life := by assumption) : Good W r (readOtp a0) := by
  unfold readOtp
  extract_lets weak u
  refine Good.foldl _ (fun t p g => resolvePair_good _ _ _ g) ?_
  have h1 : Good W r { a0 with lcs := { a0.lcs with held := a0.lcs.otp } } :=
    Good.mk' (Good.fold_otp h (by assumption) (fun _ => BitVec.and_self) id (fun w _ => w))
  generalize hv : ({ a0 with lcs := { a0.lcs with held := a0.lcs.otp } } : State) = v at h1
  have h2 : Good W r { v with lcs := { v.lcs with weak := weak } } := Good.mk' (Good.fold_settings h1 (by assumption))
  generalize hx : ({ v with lcs := { v.lcs with weak := weak } } : State) = x at h2
  have h3 : Good W r { x with lcs := { x.lcs with state := lifeFrom a0, resolved := false, resT := 0, rolledBack := false } } :=
    Good.mk' (Good.fold_life h2 (by assumption))
  rw [← hx, ← hv] at h3
  exact h3

theorem lcsRes_good {W : Group → Prop} (a0 : Nat) (a1 : Nat) (a2 : State) (r : State) (h : Good W r a2) : Good W r (lcsRes a0 a1 a2) := ⟨h.1⟩

theorem lcsProgram_good {W : Group → Prop} (a0 : Nat) (a1 : State) (r : State) (h : Good W r a1) (_ : W .otp := by assumption) : Good W r (lcsProgram
    a0 a1) := by
  unfold lcsProgram
  repeat' first
    | with_reducible assumption | with_reducible apply freeWord_good | with_reducible apply otpPut_good | with_reducible apply lcsRes_good
    | with_reducible apply Good.ite | exact ⟨h.1⟩

theorem execProgramWord_good {W : Group → Prop} (a0 : Agent) (a1 : Nat) (a2 : State) (r t : State) (h : Good W r a2) (e : execProgramWord a0 a1 a2 =
    .next t) (_ : W .otp := by assumption) : Good W r t := by
  unfold execProgramWord at e
  refine act_good _ _ _ _ h (fun s h => ?_) e
  repeat' first
    | with_reducible assumption | with_reducible apply lcsProgram_good
    | with_reducible apply Good.ite | exact ⟨h.1⟩

theorem lcsArm_good {W : Group → Prop} (a0 : Nat) (a1 : Nat) (a2 : State) (r : State) (h : Good W r a2) (_ : W .arming := by assumption) : Good W r
    (lcsArm a0 a1 a2) := by
  unfold lcsArm
  repeat' first
    | with_reducible assumption | with_reducible apply lcsRes_good
    | (with_reducible apply Good.foldl; intro _ _ _) | intro _
    | with_reducible apply Good.ite | split
    | with_reducible apply Good.fold | (with_reducible apply Good.mk'; try dsimp only) | with_reducible apply Good.fold_arming

theorem execArmTransition_good {W : Group → Prop} (a0 : Agent) (a1 : Nat) (a2 : Nat) (a3 : State) (r t : State) (h : Good W r a3) (e :
    execArmTransition a0 a1 a2 a3 = .next t) (_ : W .arming := by assumption) : Good W r t := by
  unfold execArmTransition at e
  refine act_good _ _ _ _ h (fun s h => ?_) e
  repeat' first
    | with_reducible assumption | with_reducible apply lcsArm_good
    | with_reducible apply Good.ite | exact ⟨h.1⟩

theorem transition_good {W : Group → Prop} (a0 : Nat) (a1 : Nat) (a2 : State) (r : State) (h : Good W r a2) (_ : W .otp := by assumption) (_ : W .life
    := by assumption) (_ : W .arming := by assumption) : Good W r (transition a0 a1 a2) := by
  unfold transition
  extract_lets n from_ q u l shut q0 q1 q2 v
  have h1 : Good W r u := burn_good _ _ _ h
  clear_value u
  have h2 : Good W r { u with lcs := { u.lcs with state := l } , spi := { u.spi with privEn := u.spi.privEn && !shut } } :=
    Good.mk' (Good.fold_life h1 (by assumption))
  generalize hx : ({ u with lcs := { u.lcs with state := l } , spi := { u.spi with privEn := u.spi.privEn && !shut } } : State) = x at h2
  have h3 : Good W r { x with lcs := { x.lcs with arm := none } } := Good.mk' (Good.fold_arming h2 (by assumption))
  rw [← hx] at h3
  have h4 : Good W r v := by
    simp only [v]
    refine Good.mk' ?_
    simp only [endSession9_buf]
    exact h3.1
  exact queueRecord_good _ _ _ _ _ _ _ _ _ h4

theorem lcsTransition_good {W : Group → Prop} (a0 : Agent) (a1 : Nat) (a2 : Nat) (a3 : State) (r : State) (h : Good W r a3) (_ : W .otp := by
    assumption) (_ : W .life := by assumption) (_ : W .arming := by assumption) : Good W r (lcsTransition a0 a1 a2 a3) := by
  unfold lcsTransition
  repeat' first
    | with_reducible assumption | with_reducible apply lcsRes_good | with_reducible apply transition_good
    | (with_reducible apply Good.foldl; intro _ _ _) | intro _
    | with_reducible apply Good.ite | split
    | with_reducible apply Good.fold | (with_reducible apply Good.mk'; try dsimp only) | with_reducible apply Good.fold_life
    | with_reducible apply Good.fold_arming

theorem execTransition_good {W : Group → Prop} (a0 : Agent) (a1 : Nat) (a2 : Nat) (a3 : State) (r t : State) (h : Good W r a3) (e : execTransition a0
    a1 a2 a3 = .next t) (_ : W .otp := by assumption) (_ : W .life := by assumption) (_ : W .arming := by assumption) : Good W r t := by
  unfold execTransition at e
  refine act_good _ _ _ _ h (fun s h => ?_) e
  repeat' first
    | with_reducible assumption | with_reducible apply lcsTransition_good
    | with_reducible apply Good.ite | exact ⟨h.1⟩

theorem execArmTransitionExpiry_good {W : Group → Prop} (a0 : State) (r t : State) (h : Good W r a0) (e : execArmTransitionExpiry a0 = .next t) (_ : W
    .arming := by assumption) : Good W r t := by
  unfold execArmTransitionExpiry at e
  refine act_good _ _ _ _ h (fun s h => ?_) e
  clear e
  repeat' first
    | with_reducible assumption
    | (with_reducible apply Good.foldl; intro _ _ _) | intro _
    | with_reducible apply Good.ite | split
    | with_reducible apply Good.fold | (with_reducible apply Good.mk'; try dsimp only) | with_reducible apply Good.fold_arming

theorem lcsUnknown_good {W : Group → Prop} (a0 : Nat) (a1 : State) (r : State) (h : Good W r a1) : Good W r (lcsUnknown a0 a1) := ⟨h.1⟩

theorem rngStart_good {W : Group → Prop} (a0 : State) (r : State) (h : Good W r a0) (_ : W .rng := by assumption) : Good W r (rngStart a0) := by
  unfold rngStart
  repeat' first
    | with_reducible assumption
    | (with_reducible apply Good.foldl; intro _ _ _) | intro _
    | with_reducible apply Good.ite | split
    | with_reducible apply Good.fold | (with_reducible apply Good.mk'; try dsimp only) | with_reducible apply Good.fold_rng

theorem execRngReady_good {W : Group → Prop} (a0 : State) (r t : State) (h : Good W r a0) (e : execRngReady a0 = .next t) (_ : W .rng := by
    assumption) : Good W r t := by
  unfold execRngReady at e
  refine act_good _ _ _ _ h (fun s h => ?_) e
  clear e
  repeat' first
    | with_reducible assumption
    | (with_reducible apply Good.foldl; intro _ _ _) | intro _
    | with_reducible apply Good.ite | split
    | with_reducible apply Good.fold | (with_reducible apply Good.mk'; try dsimp only) | with_reducible apply Good.fold_rng

theorem rngFailed_good {W : Group → Prop} (a0 : State) (r : State) (h : Good W r a0) (_ : W .rng := by assumption) : Good W r (rngFailed a0) := by
  unfold rngFailed
  repeat' first
    | with_reducible assumption | with_reducible apply record_good
    | (extract_lets +onlyGivenNames z; first
        | (refine (fun (hz : Good W r z) => ?_) ?_; (on_goal 1 => clear_value z); (on_goal 2 => (dsimp -zeta only [z]; clear z)))
        | (refine (fun (hz : Good W r z.1) => ?_) ?_; (on_goal 1 => clear_value z); (on_goal 2 => (dsimp -zeta only [z]; clear z)))
        | (have _q : Nat := z; clear _q; clear_value z) | (try dsimp -zeta only [z]; clear z))
    | (with_reducible apply Good.foldl; intro _ _ _) | (with_reducible apply Good.foldl_fst; intro _ _ _) | intro _
    | with_reducible apply Good.ite | with_reducible apply Good.ite_fst | split | with_reducible exact id | with_reducible exact fun _ w => w
    | with_reducible exact fun _ _ => memWf_nil _ | with_reducible exact memPutWord_wf | with_reducible exact memWriteList_wf
    | with_reducible exact memErase_wf | with_reducible exact memWriteList_wf (memWf_nil _) | with_reducible exact stgRegs_wf _ _ _
    | with_reducible exact fun _ => memWf_nil _
    | with_reducible apply Good.fold | (with_reducible apply Good.mk'; try dsimp only) | dsimp only
    | simp only [rngLost_buf, stgLimp_buf, endSession9_buf, trlOff_buf, trlOn_buf, stgEmpty_buf, trlOff_same, trlOn_same, adcStop_same, stgLimp_same]
    | with_reducible apply Good.fold_cry | with_reducible apply Good.fold_spi | with_reducible apply Good.fold_trl
    | with_reducible apply Good.fold_rng

theorem execRngWindowFail_good {W : Group → Prop} (a0 : RngTest) (a1 : State) (r t : State) (h : Good W r a1) (e : execRngWindowFail a0 a1 = .next t)
    (_ : W .rng := by assumption) : Good W r t := by
  unfold execRngWindowFail at e
  refine act_good _ _ _ _ h (fun s h => ?_) e
  repeat' first
    | with_reducible assumption | with_reducible apply rngFailed_good
    | with_reducible apply Good.ite | exact ⟨h.1⟩

theorem periodCrossed_good {W : Group → Prop} (a0 : State) (r : State) (h : Good W r a0) : Good W r (periodCrossed a0).2 := by
  unfold periodCrossed
  dsimp only
  repeat' first
    | with_reducible assumption | with_reducible apply freeNat_good
    | intro _ | with_reducible apply Good.ite | split | with_reducible apply Good.fold | with_reducible apply Good.mk'

theorem wdgPeriod_good {W : Group → Prop} (a0 : BitVec 16) (a1 : State) (r : State) (h : Good W r a1) (_ : W .question := by assumption) : Good W r
    (wdgPeriod a0 a1) := by
  unfold wdgPeriod
  repeat' first
    | with_reducible assumption | with_reducible apply periodCrossed_good
    | (with_reducible apply Good.foldl; intro _ _ _) | intro _
    | with_reducible apply Good.ite | split
    | with_reducible apply Good.fold | (with_reducible apply Good.mk'; try dsimp only) | with_reducible apply Good.fold_question

theorem wdgStart_good {W : Group → Prop} (a0 : State) (r : State) (h : Good W r a0) (_ : W .question := by assumption) : Good W r (wdgStart a0) := by
  unfold wdgStart
  repeat' first
    | with_reducible assumption | with_reducible apply wdgPeriod_good
    | with_reducible apply Good.ite | exact ⟨h.1⟩

theorem coldState_good {W : Group → Prop} (a0 : State) (r : State) (h : Good W r a0) (_ : W .flash := by assumption) (_ : W .image := by assumption)
    (_ : W .page := by assumption) (_ : W .powered := by assumption) (_ : W .settings := by assumption) (_ : W .clock := by assumption) (_ : W
    .badWords := by assumption) (_ : W .crystal := by assumption) (_ : W .verdict := by assumption) (_ : W .staged := by assumption) (_ : W .applied
    := by assumption) (_ : W .timing := by assumption) (_ : W .address := by assumption) (_ : W .expiry := by assumption) (_ : W .question := by
    assumption) (_ : W .life := by assumption) (_ : W .arming := by assumption) (_ : W .flashOp := by assumption) (_ : W .rng := by assumption) (_ : W
    .diag := by assumption) (_ : W .failed := by assumption) (_ : W .button := by assumption) (_ : W .ship := by assumption) (_ : W .changeover := by
    assumption) (_ : W .graft := by assumption) (_ : W .irq := by assumption) (_ : W .lastEvent := by assumption) : Good W r (coldState a0) := by
  have hf : Good W r (flashCut a0) := flashCut_good _ _ h
  unfold coldState
  generalize flashCut a0 = s at hf
  refine ⟨Good.gen (v := store _) hf rfl rfl rfl (fun k => ?_) (.inr rfl) (.inr ⟨rfl, rfl⟩) ?_ ?_ ?_ ?_ ?_ ?_ ?_ ?_ ?_ ?_ ?_ ?_ ?_ ?_ ?_ ?_ ?_ ?_ ?_ ?_ ?_ ?_ ?_ ?_ ?_ ?_ ?_ ?_⟩
  · simp only [Store.Ok, store] at k ⊢; simp_all [memWf_nil]
  all_goals first | exact .inl (by assumption) | exact .inr rfl

theorem stepDone_good {W : Group → Prop} (a0 : Nat) (a1 : State) (r : State) (h : Good W r a1) : Good W r (stepDone a0 a1) := ⟨h.1⟩

theorem startDomain_good {W : Group → Prop} (a0 : ColdEnv) (a1 : State) (r : State) (h : Good W r a1) (_ : W .question := by assumption) (_ : W .rng
    := by assumption) (_ : W .button := by assumption) : Good W r (startDomain a0 a1) := by
  unfold startDomain
  repeat' first
    | with_reducible assumption | with_reducible apply rngStart_good | with_reducible apply wdgStart_good | with_reducible apply stepDone_good
    | (extract_lets +onlyGivenNames z; first
        | (refine (fun (hz : Good W r z) => ?_) ?_; (on_goal 1 => clear_value z); (on_goal 2 => (dsimp -zeta only [z]; clear z)))
        | (refine (fun (hz : Good W r z.1) => ?_) ?_; (on_goal 1 => clear_value z); (on_goal 2 => (dsimp -zeta only [z]; clear z)))
        | (have _q : Nat := z; clear _q; clear_value z) | (try dsimp -zeta only [z]; clear z))
    | (with_reducible apply Good.foldl; intro _ _ _) | intro _
    | with_reducible apply Good.ite | split
    | with_reducible apply Good.fold | (with_reducible apply Good.mk'; try dsimp only) | with_reducible apply Good.fold_question
    | with_reducible apply Good.fold_rng | with_reducible apply Good.fold_button

theorem startMemories_good {W : Group → Prop} (a0 : Option Mode) (a1 : ColdEnv) (a2 : State) (r : State) (h : Good W r a2) (_ : W .otp := by
    assumption) (_ : W .wakeCause := by assumption) (_ : W .settings := by assumption) (_ : W .badWords := by assumption) (_ : W .address := by
    assumption) (_ : W .life := by assumption) (_ : W .ship := by assumption) (_ : W .graft := by assumption) : Good W r (startMemories a0 a1 a2) :=
    by
  unfold startMemories
  extract_lets u c v q0 q1 x y
  have h1 : Good W r v := restoreBlocks_good _ _ _ (scanCellar_good _ _ (readOtp_good _ _ h))
  clear_value v
  have h2 : Good W r { v with spi := { v.spi with privEn := a1.privEn && lifeOpen v } } := Good.mk' (Good.fold_life h1 (by assumption))
  generalize hy : ({ v with spi := { v.spi with privEn := a1.privEn && lifeOpen v } } : State) = z at h2
  have h2' : Good W r { z with wake := .none } := Good.mk' (Good.fold_wakeCause h2 (by assumption))
  have h3 : Good W r { z with wake := .none, sys := { z.sys with coldCause := c }, spi := { z.spi with serving := true, privIgn := a1.privEn && !lifeOpen v } } :=
    Good.mk' (Good.fold_settings h2' (by assumption))
  rw [← hy] at h3
  have h4 : Good W r y := by
    simp only [y]; split
    · exact h3
    · exact record_good _ _ _ _ h3
  exact stepDone_good _ _ _ (record_good _ _ _ _ h4)

theorem startLinks_good {W : Group → Prop} (a0 : ColdEnv) (a1 : State) (r : State) (h : Good W r a1) : Good W r (startLinks a0 a1) := by
  unfold startLinks
  repeat' first
    | with_reducible assumption | with_reducible apply modCells_good | with_reducible apply stepDone_good
    | with_reducible apply Good.ite | exact ⟨h.1⟩

theorem putVcheck_good {W : Group → Prop} (a0 : Nat) (a1 : BitVec 7) (a2 : Nat) (a3 : State) (r : State) (h : Good W r a3) : Good W r (putVcheck a0 a1
    a2 a3) := ⟨h.1⟩

theorem checkImages_good {W : Group → Prop} (a0 : State) (r : State) (h : Good W r a0) : Good W r (checkImages a0).1 := by
  unfold checkImages
  extract_lets m bad
  clear_value m bad
  split
  · exact putVcheck_good _ _ _ _ _ h
  · split
    · exact collect_good _ _ _ _ _ (putVcheck_good _ _ _ _ _ h)
    · split
      · exact raise_good _ _ _ _ (putVcheck_good _ _ _ _ _ h)
      · exact putVcheck_good _ _ _ _ _ h

theorem startMicrocode_good {W : Group → Prop} (a0 : State) (r : State) (h : Good W r a0) : Good W r (startMicrocode a0) := by
  unfold startMicrocode
  repeat' first
    | with_reducible assumption | with_reducible apply modCells_good | with_reducible apply stepDone_good
    | with_reducible apply Good.ite | exact ⟨h.1⟩

theorem startMain_good {W : Group → Prop} (a0 : State) (r : State) (h : Good W r a0) : Good W r (startMain a0) := ⟨h.1⟩

theorem loadStructure_good {W : Group → Prop} (a0 : State) (r : State) (h : Good W r a0) (_ : W .cellar := by assumption) : Good W r (loadStructure
    a0) := by
  unfold loadStructure
  dsimp only
  repeat' first
    | with_reducible assumption | with_reducible apply lgcWrite_good | with_reducible apply installImage_good | with_reducible apply putLoad_good
    | with_reducible apply loadCopy_good | with_reducible apply raise_good | with_reducible apply stepDone_good
    | intro _ | with_reducible apply Good.ite | split | with_reducible apply Good.fold | with_reducible apply Good.mk'

theorem startBlocks_good {W : Group → Prop} (a0 : State) (r : State) (h : Good W r a0) (_ : W .changeover := by assumption) : Good W r (startBlocks
    a0) := by
  unfold startBlocks
  repeat' first
    | with_reducible assumption | with_reducible apply applyChecks_good | with_reducible apply applyClasses_good
    | with_reducible apply peersApply_good | with_reducible apply adcApply_good
    | with_reducible apply Good.ite | exact ⟨h.1⟩

theorem testCell_good {W : Group → Prop} (a0 : ColdEnv) (a1 : State) (a2 : Nat) (r : State) (h : Good W r a1) : Good W r (testCell a0 a1 a2) := by
  unfold testCell
  repeat' first
    | with_reducible assumption | with_reducible apply modCell_good | with_reducible apply raiseSrc_good
    | with_reducible apply Good.ite | exact ⟨h.1⟩

theorem testSlices_good {W : Group → Prop} (a0 : ColdEnv) (a1 : State) (r : State) (h : Good W r a1) (_ : W .failed := by assumption) : Good W r
    (testSlices a0 a1) := by
  unfold testSlices
  extract_lets q0 u
  have h1 : Good W r u := ⟨h.1⟩
  clear_value u
  refine Good.ite (raise_good _ _ _ _ h1) ?_
  have e := foldSlices_same [0, 1, 2, 3, 4] (fun k => a0.adcPass.getLsbD k) u.adc
  generalize ([0, 1, 2, 3, 4] : List Nat).foldl (fun a k => if a0.adcPass.getLsbD k then a else sliceFail k a) u.adc = x at e
  obtain ⟨e1, e2, e3, e4, e5⟩ := e
  refine Good.mk' ?_
  try dsimp only
  rw [e1, e2, e3, e4, e5]
  exact Good.fold_failed h1 (by assumption)

theorem selfTests_good {W : Group → Prop} (a0 : ColdEnv) (a1 : State) (r : State) (h : Good W r a1) (_ : W .failed := by assumption) : Good W r
    (selfTests a0 a1).1 := by
  unfold selfTests
  repeat' first
    | with_reducible assumption | with_reducible apply collect_good | with_reducible apply stepDone_good | with_reducible apply testCell_good
    | with_reducible apply testSlices_good
    | (extract_lets +onlyGivenNames z; first
        | (refine (fun (hz : Good W r z) => ?_) ?_; (on_goal 1 => clear_value z); (on_goal 2 => (dsimp -zeta only [z]; clear z)))
        | (refine (fun (hz : Good W r z.1) => ?_) ?_; (on_goal 1 => clear_value z); (on_goal 2 => (dsimp -zeta only [z]; clear z)))
        | (have _q : Nat := z; clear _q; clear_value z) | (try dsimp -zeta only [z]; clear z))
    | (with_reducible apply Good.foldl; intro _ _ _) | intro _
    | with_reducible apply Good.ite | split
    | with_reducible apply Good.fold | (with_reducible apply Good.mk'; try dsimp only) | with_reducible apply Good.fold_failed

theorem startPath_good {W : Group → Prop} (a0 : ColdEnv) (a1 : State) (a2 : Nat) (r : State) (h : Good W r a1) : Good W r (startPath a0 a1 a2) := by
  unfold startPath
  repeat' first
    | with_reducible assumption | with_reducible apply modSrc_good | with_reducible apply raise_good | with_reducible apply readSrcId_good
    | with_reducible apply Good.ite | exact ⟨h.1⟩

theorem stagingEnds_good {W : Group → Prop} (a0 : ColdEnv) (a1 : Nat) (a2 : State) (r : State) (h : Good W r a2) : Good W r (stagingEnds a0 a1 a2) :=
    by
  unfold stagingEnds
  repeat' first
    | with_reducible assumption | with_reducible apply record_good
    | with_reducible apply Good.ite | exact ⟨h.1⟩

theorem enterService11_good {W : Group → Prop} (a0 : ColdEnv) (a1 : State) (r : State) (h : Good W r a1) (_ : W .cellar := by assumption) : Good W r
    (enterService11 a0 a1) := by
  unfold enterService11
  dsimp only
  repeat' first
    | with_reducible assumption | with_reducible apply setMode_good | with_reducible apply releaseStaging_good
    | with_reducible apply seekFeed_good | with_reducible apply saveActivation_good | with_reducible apply startSystems_good
    | with_reducible apply stagingEnds_good
    | intro _ | with_reducible apply Good.ite | split | with_reducible apply Good.fold | with_reducible apply Good.mk'

theorem releaseCores_good {W : Group → Prop} (a0 : State) (r : State) (h : Good W r a0) (_ : W .question := by assumption) (_ : W .rng := by
    assumption) : Good W r (releaseCores a0) := by
  unfold releaseCores
  dsimp only
  repeat' first
    | with_reducible assumption | with_reducible apply rngStart_good | with_reducible apply wdgStart_good
    | intro _ | with_reducible apply Good.ite | split | with_reducible apply Good.fold | with_reducible apply Good.mk'

theorem warmChecks_good {W : Group → Prop} (a0 : State) (r : State) (h : Good W r a0) : Good W r (warmChecks a0).1 := by
  unfold warmChecks
  dsimp only
  repeat' first
    | with_reducible assumption | with_reducible apply putVcheck_good
    | intro _ | with_reducible apply Good.ite | split | with_reducible apply Good.fold | with_reducible apply Good.mk'

theorem warmBegin_good {W : Group → Prop} (a0 : State) (r : State) (h : Good W r a0) : Good W r (warmBegin a0) := ⟨h.1⟩

theorem warmAtOnce_good {W : Group → Prop} (a0 : State) (r : State) (h : Good W r a0) (_ : W .question := by assumption) (_ : W .rng := by assumption)
    : Good W r (warmAtOnce a0) := by
  unfold warmAtOnce
  dsimp only
  repeat' first
    | with_reducible assumption | with_reducible apply releaseCores_good | with_reducible apply warmChecks_good | with_reducible apply warmBegin_good
    | intro _ | with_reducible apply Good.ite | split | with_reducible apply Good.fold | with_reducible apply Good.mk'

theorem warmAtOnceFrom_good {W : Group → Prop} (a0 : State) (a1 : State) (r : State) (h : Good W r a1) (_ : W .question := by assumption) (_ : W .rng
    := by assumption) : Good W r (warmAtOnceFrom a0 a1) := by
  unfold warmAtOnceFrom
  repeat' first
    | with_reducible assumption | with_reducible apply warmAtOnce_good
    | with_reducible apply Good.ite | exact ⟨h.1⟩

theorem finishStart_good {W : Group → Prop} (a0 : ColdEnv) (a1 : Nat) (a2 : Nat) (a3 : State) (r : State) (h : Good W r a3) (_ : W .cellar := by
    assumption) (_ : W .question := by assumption) (_ : W .rng := by assumption) (_ : W .failed := by assumption) (_ : W .changeover := by assumption)
    : Good W r (finishStart a0 a1 a2 a3) := by
  unfold finishStart
  have h0 : Good W r ({ a3 with str := { a3.str with probe := a0.probe } } : State) := Good.mk' (Good.fold h)
  generalize ({ a3 with str := { a3.str with probe := a0.probe } } : State) = s at h0
  have h1 : Good W r (selfTests a0 (startBlocks (loadStructure s))).1 := selfTests_good _ _ _ (startBlocks_good _ _ (loadStructure_good _ _ h0))
  dsimp only
  generalize selfTests a0 (startBlocks (loadStructure s)) = v at h1
  have h2 : Good W r (eight.foldl (startPath a0) v.1) := Good.foldl _ (fun t i k => startPath_good _ _ _ _ k) h1
  generalize eight.foldl (startPath a0) v.1 = x at h2
  generalize (if x.str.image = [] then 5 else v.2) = n
  have h3 : Good W r ({ x with sys := { x.sys with awaitReady := false } } : State) := Good.mk' (Good.fold h2)
  refine Good.ite (enterService11_good _ _ _ h3) ?_
  have h4 : Good W r ({ x with sys := { x.sys with awaitReady := false, lastStep := 11, duration := sat 16 a0.duration } } : State) :=
    Good.mk' (Good.fold h2)
  exact warmAtOnce_good _ _ (Good.ite (limpEntry_good _ _ _ _ _ h4) (limpEntry_good _ _ _ _ _ h4))

theorem coldStart_good {W : Group → Prop} (a0 : Option Mode) (a1 : ColdEnv) (a2 : State) (r : State) (h : Good W r a2) (_ : W .cellar := by
    assumption) (_ : W .otp := by assumption) (_ : W .inputs := by assumption) (_ : W .wakeCause := by assumption) (_ : W .settings := by assumption)
    (_ : W .badWords := by assumption) (_ : W .crystal := by assumption) (_ : W .address := by assumption) (_ : W .question := by assumption) (_ : W
    .life := by assumption) (_ : W .rng := by assumption) (_ : W .failed := by assumption) (_ : W .button := by assumption) (_ : W .ship := by
    assumption) (_ : W .changeover := by assumption) (_ : W .graft := by assumption) : Good W r (coldStart a0 a1 a2) := by
  unfold coldStart
  extract_lets t q0 v q1 q2 c u
  have ht : Good W r t := startLinks_good _ _ _ (startMemories_good _ _ _ _ (startDomain_good _ _ _ h))
  clear_value t
  have hw : Good W r v := by
    simp only [v]
    have h1 : Good W r { t with crystal := a1.crystal } := Good.mk' (Good.fold_crystal ht (by assumption))
    generalize hy : ({ t with crystal := a1.crystal } : State) = z at h1
    have h2 : Good W r { z with orIn := a1.inputs, str := { z.str with probe := a1.probe } } := Good.mk' (Good.fold_inputs h1 (by assumption))
    rw [← hy] at h2
    exact h2
  clear_value v
  have hu : Good W r u := startMicrocode_good _ _ (checkImages_good _ _ hw)
  clear_value u c
  have hv : Good W r { v with str := { v.str with copyBad := true }, sys := { v.sys with lastStep := 11, duration := sat 16 a1.duration } } :=
    Good.mk' (Good.fold hw)
  refine Good.ite (limpEntry_good _ _ _ _ _ hv) ?_
  exact Good.ite (finishStart_good _ _ _ _ _ hu) (startMain_good _ _ hu)

theorem coldReset_good {W : Group → Prop} (a0 : Option Mode) (a1 : ColdEnv) (a2 : State) (r : State) (h : Good W r a2) (_ : W .cellar := by
    assumption) (_ : W .flash := by assumption) (_ : W .otp := by assumption) (_ : W .image := by assumption) (_ : W .page := by assumption) (_ : W
    .powered := by assumption) (_ : W .inputs := by assumption) (_ : W .wakeCause := by assumption) (_ : W .settings := by assumption) (_ : W .clock
    := by assumption) (_ : W .badWords := by assumption) (_ : W .crystal := by assumption) (_ : W .verdict := by assumption) (_ : W .staged := by
    assumption) (_ : W .applied := by assumption) (_ : W .timing := by assumption) (_ : W .address := by assumption) (_ : W .expiry := by assumption)
    (_ : W .question := by assumption) (_ : W .life := by assumption) (_ : W .arming := by assumption) (_ : W .flashOp := by assumption) (_ : W .rng
    := by assumption) (_ : W .diag := by assumption) (_ : W .failed := by assumption) (_ : W .button := by assumption) (_ : W .ship := by assumption)
    (_ : W .changeover := by assumption) (_ : W .graft := by assumption) (_ : W .irq := by assumption) (_ : W .lastEvent := by assumption) : Good W r
    (coldReset a0 a1 a2) := by
  unfold coldReset
  exact settle_good _ _ _ (coldStart_good _ _ _ _ (coldState_good _ _ h))

theorem execPowerOnReset_good {W : Group → Prop} (a0 : ColdEnv) (a1 : State) (r t : State) (h : Good W r a1) (e : execPowerOnReset a0 a1 = .next t) (_
    : W .cellar := by assumption) (_ : W .flash := by assumption) (_ : W .otp := by assumption) (_ : W .image := by assumption) (_ : W .page := by
    assumption) (_ : W .powered := by assumption) (_ : W .inputs := by assumption) (_ : W .wakeCause := by assumption) (_ : W .settings := by
    assumption) (_ : W .clock := by assumption) (_ : W .badWords := by assumption) (_ : W .crystal := by assumption) (_ : W .verdict := by assumption)
    (_ : W .staged := by assumption) (_ : W .applied := by assumption) (_ : W .timing := by assumption) (_ : W .address := by assumption) (_ : W
    .expiry := by assumption) (_ : W .question := by assumption) (_ : W .life := by assumption) (_ : W .arming := by assumption) (_ : W .flashOp := by
    assumption) (_ : W .rng := by assumption) (_ : W .diag := by assumption) (_ : W .failed := by assumption) (_ : W .button := by assumption) (_ : W
    .ship := by assumption) (_ : W .changeover := by assumption) (_ : W .graft := by assumption) (_ : W .irq := by assumption) (_ : W .lastEvent := by
    assumption) : Good W r t := by
  unfold execPowerOnReset at e
  rw [Host.Outcome.next.injEq] at e
  rw [← e]
  exact Good.ite (coldReset_good _ _ _ _ h) (coldReset_good _ _ _ _ (cellarCut_good _ _ h))

theorem sysRes_good {W : Group → Prop} (a0 : Nat) (a1 : Nat) (a2 : State) (r : State) (h : Good W r a2) : Good W r (sysRes a0 a1 a2) := ⟨h.1⟩

theorem warmReady_good {W : Group → Prop} (a0 : State) (r : State) (h : Good W r a0) : Good W r (warmReady a0) := by
  unfold warmReady
  repeat' first
    | with_reducible assumption | with_reducible apply collect_good | with_reducible apply limpEntry_good
    | with_reducible apply Good.ite | exact ⟨h.1⟩

theorem sysReady_good {W : Group → Prop} (a0 : Agent) (a1 : ColdEnv) (a2 : State) (r : State) (h : Good W r a2) (_ : W .cellar := by assumption) (_ :
    W .question := by assumption) (_ : W .rng := by assumption) (_ : W .failed := by assumption) (_ : W .changeover := by assumption) : Good W r
    (sysReady a0 a1 a2) := by
  unfold sysReady
  repeat' first
    | with_reducible assumption | with_reducible apply stepDone_good | with_reducible apply finishStart_good | with_reducible apply sysRes_good
    | with_reducible apply warmReady_good
    | with_reducible apply Good.ite | exact ⟨h.1⟩

theorem execReady_good {W : Group → Prop} (a0 : Agent) (a1 : ColdEnv) (a2 : State) (r t : State) (h : Good W r a2) (e : execReady a0 a1 a2 = .next t)
    (_ : W .cellar := by assumption) (_ : W .question := by assumption) (_ : W .rng := by assumption) (_ : W .failed := by assumption) (_ : W
    .changeover := by assumption) : Good W r t := by
  unfold execReady at e
  refine act_good _ _ _ _ h (fun s h => ?_) e
  repeat' first
    | with_reducible assumption | with_reducible apply sysReady_good
    | with_reducible apply Good.ite | exact ⟨h.1⟩

theorem execReadyTimeout_good {W : Group → Prop} (a0 : ColdEnv) (a1 : State) (r t : State) (h : Good W r a1) (e : execReadyTimeout a0 a1 = .next t) (_
    : W .cellar := by assumption) (_ : W .question := by assumption) (_ : W .rng := by assumption) (_ : W .failed := by assumption) (_ : W .changeover
    := by assumption) : Good W r t := by
  unfold execReadyTimeout at e
  refine act_good _ _ _ _ h (fun s h => ?_) e
  repeat' first
    | with_reducible assumption | with_reducible apply limpEntry_good | with_reducible apply finishStart_good
    | with_reducible apply Good.ite | exact ⟨h.1⟩

theorem revertTrial_good {W : Group → Prop} (a0 : State) (r : State) (h : Good W r a0) (_ : W .cellar := by assumption) : Good W r (revertTrial a0) :=
    by
  unfold revertTrial
  repeat' first
    | with_reducible assumption | with_reducible apply raise_good | with_reducible apply saveBank_good | with_reducible apply saveActivation_good
    | with_reducible apply saveState_good
    | with_reducible apply Good.ite | exact ⟨h.1⟩

theorem execHeldExpiry_good {W : Group → Prop} (a0 : State) (r t : State) (h : Good W r a0) (e : execHeldExpiry a0 = .next t) (_ : W .cellar := by
    assumption) (_ : W .question := by assumption) (_ : W .rng := by assumption) : Good W r t := by
  unfold execHeldExpiry at e
  refine act_good _ _ _ _ h (fun s h => ?_) e
  dsimp only
  repeat' first
    | with_reducible assumption | with_reducible apply releaseCores_good | with_reducible apply revertTrial_good
    | intro _ | with_reducible apply Good.ite | split | with_reducible apply Good.fold | with_reducible apply Good.mk'

theorem execWarmRestart_good {W : Group → Prop} (a0 : State) (r t : State) (h : Good W r a0) (e : execWarmRestart a0 = .next t) (_ : W .cellar := by
    assumption) : Good W r t := by
  unfold execWarmRestart at e
  refine act_good _ _ _ _ h (fun s h => ?_) e
  dsimp only
  repeat' first
    | with_reducible assumption | with_reducible apply warmChecks_good | with_reducible apply warmBegin_good | with_reducible apply revertTrial_good
    | intro _ | with_reducible apply Good.ite | split | with_reducible apply Good.fold | with_reducible apply Good.mk'

theorem execLimpCause_good {W : Group → Prop} (a0 : Nat) (a1 : State) (r t : State) (h : Good W r a1) (e : execLimpCause a0 a1 = .next t) (_ : W
    .question := by assumption) (_ : W .rng := by assumption) : Good W r t := by
  unfold execLimpCause at e
  refine act_good _ _ _ _ h (fun s h => ?_) e
  repeat' first
    | with_reducible assumption | with_reducible apply limpEntry_good | with_reducible apply warmAtOnceFrom_good
    | with_reducible apply Good.ite | exact ⟨h.1⟩

theorem execLimpCountAge_good {W : Group → Prop} (a0 : State) (r t : State) (h : Good W r a0) (e : execLimpCountAge a0 = .next t) : Good W r t := by
  unfold execLimpCountAge at e
  refine act_good _ _ _ _ h (fun s h => ?_) e
  exact ⟨h.1⟩

theorem execLimpSourceReadmit_good {W : Group → Prop} (a0 : Nat) (a1 : State) (r t : State) (h : Good W r a1) (e : execLimpSourceReadmit a0 a1 = .next
    t) : Good W r t := by
  unfold execLimpSourceReadmit at e
  refine act_good _ _ _ _ h (fun s h => ?_) e
  repeat' first
    | with_reducible assumption | with_reducible apply limpSet_good
    | with_reducible apply Good.ite | exact ⟨h.1⟩

theorem execCaskHeld_good {W : Group → Prop} (a0 : State) (r t : State) (h : Good W r a0) (e : execCaskHeld a0 = .next t) : Good W r t := by
  unfold execCaskHeld at e
  refine act_good _ _ _ _ h (fun s h => ?_) e
  exact Good.ite ⟨h.1⟩ h

theorem sysEnterService_good {W : Group → Prop} (a0 : Nat) (a1 : State) (r : State) (h : Good W r a1) : Good W r (sysEnterService a0 a1) := by
  unfold sysEnterService
  dsimp only
  repeat' first
    | with_reducible assumption | with_reducible apply setMode_good | with_reducible apply sysRes_good
    | intro _ | with_reducible apply Good.ite | split | with_reducible apply Good.fold | with_reducible apply Good.mk'

theorem execEnterService_good {W : Group → Prop} (a0 : Nat) (a1 : State) (r t : State) (h : Good W r a1) (e : execEnterService a0 a1 = .next t) : Good
    W r t := by
  unfold execEnterService at e
  refine act_good _ _ _ _ h (fun s h => ?_) e
  repeat' first
    | with_reducible assumption | with_reducible apply sysEnterService_good
    | with_reducible apply Good.ite | exact ⟨h.1⟩

theorem leaveServiceNow_good {W : Group → Prop} (a0 : State) (r : State) (h : Good W r a0) : Good W r (leaveServiceNow a0) := by
  unfold leaveServiceNow
  repeat' first
    | with_reducible assumption | with_reducible apply setMode_good | with_reducible apply serviceEnds_good
    | with_reducible apply Good.ite | exact ⟨h.1⟩

theorem sysLeaveService_good {W : Group → Prop} (a0 : State) (r : State) (h : Good W r a0) : Good W r (sysLeaveService a0) := by
  unfold sysLeaveService
  repeat' first
    | with_reducible assumption | with_reducible apply sysRes_good | with_reducible apply leaveServiceNow_good
    | with_reducible apply Good.ite | exact ⟨h.1⟩

theorem execLeaveService_good {W : Group → Prop} (a0 : State) (r t : State) (h : Good W r a0) (e : execLeaveService a0 = .next t) : Good W r t := by
  unfold execLeaveService at e
  refine act_good _ _ _ _ h (fun s h => ?_) e
  repeat' first
    | with_reducible assumption | with_reducible apply sysLeaveService_good
    | with_reducible apply Good.ite | exact ⟨h.1⟩

theorem execServiceLeaseExpiry_good {W : Group → Prop} (a0 : State) (r t : State) (h : Good W r a0) (e : execServiceLeaseExpiry a0 = .next t) : Good W
    r t := by
  unfold execServiceLeaseExpiry at e
  refine act_good _ _ _ _ h (fun s h => ?_) e
  repeat' first
    | with_reducible assumption | with_reducible apply leaveServiceNow_good
    | with_reducible apply Good.ite | exact ⟨h.1⟩

theorem sysCoreReset_good {W : Group → Prop} (a0 : Nat) (a1 : State) (r : State) (h : Good W r a1) : Good W r (sysCoreReset a0 a1) := by
  unfold sysCoreReset
  repeat' first
    | with_reducible assumption | with_reducible apply limpEntry_good | with_reducible apply sysRes_good
    | with_reducible apply Good.ite | exact ⟨h.1⟩

theorem execCoreReset_good {W : Group → Prop} (a0 : Nat) (a1 : State) (r t : State) (h : Good W r a1) (e : execCoreReset a0 a1 = .next t) : Good W r t
    := by
  unfold execCoreReset at e
  refine act_good _ _ _ _ h (fun s h => ?_) e
  repeat' first
    | with_reducible assumption | with_reducible apply sysCoreReset_good
    | with_reducible apply Good.ite | exact ⟨h.1⟩

theorem sysClearLock_good {W : Group → Prop} (a0 : State) (r : State) (h : Good W r a0) : Good W r (sysClearLock a0) := by
  unfold sysClearLock
  repeat' first
    | with_reducible assumption | with_reducible apply sysRes_good
    | with_reducible apply Good.ite | exact ⟨h.1⟩

theorem execClearLimpLock_good {W : Group → Prop} (a0 : State) (r t : State) (h : Good W r a0) (e : execClearLimpLock a0 = .next t) : Good W r t := by
  unfold execClearLimpLock at e
  refine act_good _ _ _ _ h (fun s h => ?_) e
  repeat' first
    | with_reducible assumption | with_reducible apply sysClearLock_good
    | with_reducible apply Good.ite | exact ⟨h.1⟩

theorem sysUnknown_good {W : Group → Prop} (a0 : Nat) (a1 : State) (r : State) (h : Good W r a1) : Good W r (sysUnknown a0 a1) := ⟨h.1⟩

theorem allOff_good {W : Group → Prop} (a0 : State) (r : State) (h : Good W r a0) : Good W r (allOff a0) := by
  unfold allOff
  dsimp only
  repeat' first
    | with_reducible assumption | with_reducible apply modCells_good
    | intro _ | with_reducible apply Good.ite | split | with_reducible apply Good.fold | with_reducible apply Good.mk'

theorem endServices_good {W : Group → Prop} (a0 : Nat) (a1 : State) (r : State) (h : Good W r a1) : Good W r (endServices a0 a1) := ⟨h.1⟩

theorem shipBegins_good {W : Group → Prop} (a0 : State) (r : State) (h : Good W r a0) : Good W r (shipBegins a0) := by
  unfold shipBegins
  dsimp only
  repeat' first
    | with_reducible assumption | with_reducible apply aliveStop_good | with_reducible apply serviceEnds_good | with_reducible apply allOff_good
    | with_reducible apply endServices_good
    | intro _ | with_reducible apply Good.ite | split | with_reducible apply Good.fold | with_reducible apply Good.mk'

theorem sysEnterShip_good {W : Group → Prop} (a0 : Nat) (a1 : Bool) (a2 : State) (r : State) (h : Good W r a2) : Good W r (sysEnterShip a0 a1 a2) :=
    by
  unfold sysEnterShip
  repeat' first
    | with_reducible assumption | with_reducible apply sysRes_good | with_reducible apply shipBegins_good
    | with_reducible apply Good.ite | exact ⟨h.1⟩

theorem execEnterShip_good {W : Group → Prop} (a0 : Nat) (a1 : WakeLevels) (a2 : State) (r t : State) (h : Good W r a2) (e : execEnterShip a0 a1 a2 =
    .next t) : Good W r t := by
  unfold execEnterShip at e
  refine act_good _ _ _ _ h (fun s h => ?_) e
  repeat' first
    | with_reducible assumption | with_reducible apply sysEnterShip_good
    | with_reducible apply Good.ite | exact ⟨h.1⟩

theorem openSwitches_good {W : Group → Prop} (a0 : State) (r : State) (h : Good W r a0) : Good W r (openSwitches a0) := ⟨h.1⟩

theorem latchWake_good {W : Group → Prop} (a0 : State) (r : State) (h : Good W r a0) (_ : W .ship := by assumption) : Good W r (latchWake a0) := by
  unfold latchWake
  repeat' first
    | with_reducible assumption
    | (with_reducible apply Good.foldl; intro _ _ _) | intro _
    | with_reducible apply Good.ite | split
    | with_reducible apply Good.fold | (with_reducible apply Good.mk'; try dsimp only) | with_reducible apply Good.fold_ship

theorem limpGaps_good {W : Group → Prop} (a0 : State) (r : State) (h : Good W r a0) : Good W r (limpGaps a0) := by
  unfold limpGaps
  repeat' first
    | with_reducible assumption | with_reducible apply modBook_good
    | (with_reducible apply Good.foldl; intro _ _ _) | intro _
    | with_reducible apply Good.ite | split
    | with_reducible apply Good.fold | (with_reducible apply Good.mk'; try dsimp only)

theorem shipDone_good {W : Group → Prop} (a0 : State) (r : State) (h : Good W r a0) (_ : W .cellar := by assumption) (_ : W .ship := by assumption) :
    Good W r (shipDone a0) := by
  unfold shipDone
  repeat' first
    | with_reducible assumption | with_reducible apply queueRecord_good | with_reducible apply setMode_good | with_reducible apply flushQueue_good
    | with_reducible apply writeBooks_good | with_reducible apply saveState_good | with_reducible apply sysRes_good
    | with_reducible apply openSwitches_good | with_reducible apply latchWake_good | with_reducible apply limpGaps_good
    | (extract_lets +onlyGivenNames z; first
        | (refine (fun (hz : Good W r z) => ?_) ?_; (on_goal 1 => clear_value z); (on_goal 2 => (dsimp -zeta only [z]; clear z)))
        | (refine (fun (hz : Good W r z.1) => ?_) ?_; (on_goal 1 => clear_value z); (on_goal 2 => (dsimp -zeta only [z]; clear z)))
        | (have _q : Nat := z; clear _q; clear_value z) | (try dsimp -zeta only [z]; clear z))
    | (with_reducible apply Good.foldl; intro _ _ _) | (with_reducible apply Good.foldl_fst; intro _ _ _) | intro _
    | with_reducible apply Good.ite | with_reducible apply Good.ite_fst | split | with_reducible exact id | with_reducible exact fun _ w => w
    | with_reducible exact fun _ _ => memWf_nil _ | with_reducible exact memPutWord_wf | with_reducible exact memWriteList_wf
    | with_reducible exact memErase_wf | with_reducible exact memWriteList_wf (memWf_nil _) | with_reducible exact stgRegs_wf _ _ _
    | with_reducible exact fun _ => memWf_nil _
    | with_reducible apply Good.fold | (with_reducible apply Good.mk'; try dsimp only) | dsimp only
    | simp only [rngLost_buf, stgLimp_buf, endSession9_buf, trlOff_buf, trlOn_buf, stgEmpty_buf, trlOff_same, trlOn_same, adcStop_same, stgLimp_same]
    | with_reducible apply Good.fold_cry | with_reducible apply Good.fold_spi | with_reducible apply Good.fold_trl
    | with_reducible apply Good.fold_mem | with_reducible apply Good.fold_ship

theorem execShipEntryDone_good {W : Group → Prop} (a0 : State) (r t : State) (h : Good W r a0) (e : execShipEntryDone a0 = .next t) (_ : W .cellar :=
    by assumption) (_ : W .ship := by assumption) : Good W r t := by
  unfold execShipEntryDone at e
  refine act_good _ _ _ _ h (fun s h => ?_) e
  repeat' first
    | with_reducible assumption | with_reducible apply shipDone_good
    | with_reducible apply Good.ite | exact ⟨h.1⟩

theorem execShipWake_good {W : Group → Prop} (a0 : WakeReport) (a1 : State) (r t : State) (h : Good W r a1) (e : execShipWake a0 a1 = .next t) (_ : W
    .flash := by assumption) (_ : W .image := by assumption) (_ : W .page := by assumption) (_ : W .powered := by assumption) (_ : W .inputs := by
    assumption) (_ : W .wakeCause := by assumption) (_ : W .settings := by assumption) (_ : W .clock := by assumption) (_ : W .badWords := by
    assumption) (_ : W .crystal := by assumption) (_ : W .verdict := by assumption) (_ : W .staged := by assumption) (_ : W .applied := by assumption)
    (_ : W .timing := by assumption) (_ : W .address := by assumption) (_ : W .expiry := by assumption) (_ : W .question := by assumption) (_ : W
    .life := by assumption) (_ : W .arming := by assumption) (_ : W .flashOp := by assumption) (_ : W .rng := by assumption) (_ : W .diag := by
    assumption) (_ : W .failed := by assumption) (_ : W .button := by assumption) (_ : W .ship := by assumption) (_ : W .changeover := by assumption)
    (_ : W .graft := by assumption) (_ : W .irq := by assumption) (_ : W .lastEvent := by assumption) : Good W r t := by
  unfold execShipWake at e
  rw [Host.Outcome.next.injEq] at e
  rw [← e]
  have hf : Good W r (freeNat 2 a1).2 := freeNat_good _ _ _ h
  refine Good.ite ?_ h
  extract_lets f button source z
  clear_value button source
  refine Good.ite ?_ hf
  have hc : Good W r z := coldState_good _ _ hf
  clear_value z
  have hw : Good W r { z with orIn := a0.inputs } := Good.mk' (Good.fold_inputs hc (by assumption))
  generalize hy : ({ z with orIn := a0.inputs } : State) = y at hw
  have h3 : ∀ k, Good W r { y with wake := k } := fun k => Good.mk' (Good.fold_wakeCause hw (by assumption))
  subst hy
  refine stepDone_good _ _ _ ?_
  exact h3 _

theorem sagTurnsBack_good {W : Group → Prop} (a0 : State) (r : State) (h : Good W r a0) (_ : W .cellar := by assumption) (_ : W .flash := by
    assumption) (_ : W .flashOp := by assumption) : Good W r (sagTurnsBack a0) := by
  unfold sagTurnsBack
  repeat' first
    | with_reducible assumption | with_reducible apply flashCut_good | with_reducible apply cellarCut_good | with_reducible apply gateUvlo_good
    | (with_reducible apply Good.foldl; intro _ _ _) | intro _
    | with_reducible apply Good.ite | split
    | with_reducible apply Good.fold | (with_reducible apply Good.mk'; try dsimp only) | with_reducible apply Good.fold_mem
    | with_reducible apply Good.fold_bank0 | with_reducible apply Good.fold_bank1 | with_reducible apply Good.fold_flashOp

theorem execLogicRailFail_good {W : Group → Prop} (a0 : OrInputs) (a1 : Bool) (a2 : State) (r t : State) (h : Good W r a2) (e : execLogicRailFail a0
    a1 a2 = .next t) (_ : W .cellar := by assumption) (_ : W .flash := by assumption) (_ : W .image := by assumption) (_ : W .page := by assumption)
    (_ : W .powered := by assumption) (_ : W .inputs := by assumption) (_ : W .settings := by assumption) (_ : W .clock := by assumption) (_ : W
    .badWords := by assumption) (_ : W .crystal := by assumption) (_ : W .verdict := by assumption) (_ : W .staged := by assumption) (_ : W .applied
    := by assumption) (_ : W .timing := by assumption) (_ : W .address := by assumption) (_ : W .expiry := by assumption) (_ : W .question := by
    assumption) (_ : W .life := by assumption) (_ : W .arming := by assumption) (_ : W .flashOp := by assumption) (_ : W .rng := by assumption) (_ : W
    .diag := by assumption) (_ : W .failed := by assumption) (_ : W .button := by assumption) (_ : W .ship := by assumption) (_ : W .changeover := by
    assumption) (_ : W .graft := by assumption) (_ : W .irq := by assumption) (_ : W .lastEvent := by assumption) : Good W r t := by
  unfold execLogicRailFail at e
  rw [Host.Outcome.next.injEq] at e
  rw [← e]
  have h1 : Good W r { a2 with orIn := a0 } := Good.mk' (Good.fold_inputs h (by assumption))
  generalize ({ a2 with orIn := a0 } : State) = s at h1
  refine Good.ite h1 (Good.ite ?_ (Good.ite h1 (settle_good _ _ _ (sagTurnsBack_good _ _ h1))))
  have k := coldState_good _ _ (cellarCut_good _ _ h1)
  generalize coldState (cellarCut s) = u at k
  exact Good.mk' (Good.fold_powered k (by assumption))

theorem longPress_good {W : Group → Prop} (a0 : State) (r : State) (h : Good W r a0) (_ : W .cellar := by assumption) (_ : W .button := by assumption)
    : Good W r (longPress a0) := by
  unfold longPress
  repeat' first
    | with_reducible assumption | with_reducible apply record_good | with_reducible apply aliveStop_good | with_reducible apply serviceEnds_good
    | with_reducible apply flushQueue_good | with_reducible apply writeBooks_good | with_reducible apply allOff_good
    | with_reducible apply endServices_good | with_reducible apply openSwitches_good | with_reducible apply limpGaps_good
    | (with_reducible apply Good.foldl; intro _ _ _) | intro _
    | with_reducible apply Good.ite | split
    | with_reducible apply Good.fold | (with_reducible apply Good.mk'; try dsimp only) | with_reducible apply Good.fold_mem
    | with_reducible apply Good.fold_button

theorem execLongPressReset_good {W : Group → Prop} (a0 : State) (r t : State) (h : Good W r a0) (e : execLongPressReset a0 = .next t) (_ : W .cellar
    := by assumption) (_ : W .button := by assumption) : Good W r t := by
  unfold execLongPressReset at e
  refine act_good _ _ _ _ h (fun s h => ?_) e
  repeat' first
    | with_reducible assumption | with_reducible apply longPress_good
    | with_reducible apply Good.ite | exact ⟨h.1⟩

theorem execLongPressHoldEnd_good {W : Group → Prop} (a0 : ColdEnv) (a1 : State) (r t : State) (h : Good W r a1) (e : execLongPressHoldEnd a0 a1 =
    .next t) (_ : W .cellar := by assumption) (_ : W .flash := by assumption) (_ : W .otp := by assumption) (_ : W .image := by assumption) (_ : W
    .page := by assumption) (_ : W .powered := by assumption) (_ : W .inputs := by assumption) (_ : W .wakeCause := by assumption) (_ : W .settings :=
    by assumption) (_ : W .clock := by assumption) (_ : W .badWords := by assumption) (_ : W .crystal := by assumption) (_ : W .verdict := by
    assumption) (_ : W .staged := by assumption) (_ : W .applied := by assumption) (_ : W .timing := by assumption) (_ : W .address := by assumption)
    (_ : W .expiry := by assumption) (_ : W .question := by assumption) (_ : W .life := by assumption) (_ : W .arming := by assumption) (_ : W
    .flashOp := by assumption) (_ : W .rng := by assumption) (_ : W .diag := by assumption) (_ : W .failed := by assumption) (_ : W .button := by
    assumption) (_ : W .ship := by assumption) (_ : W .changeover := by assumption) (_ : W .graft := by assumption) (_ : W .irq := by assumption) (_ :
    W .lastEvent := by assumption) : Good W r t := by
  unfold execLongPressHoldEnd at e
  rw [Host.Outcome.next.injEq] at e
  rw [← e]
  exact Good.ite (coldReset_good _ _ _ _ (cellarCut_good _ _ h)) h

theorem takeoverSources_good {W : Group → Prop} (a0 : State) (r : State) (h : Good W r a0) : Good W r (takeoverSources a0) := ⟨h.1⟩

theorem takeoverStrings_good {W : Group → Prop} (a0 : State) (r : State) (h : Good W r a0) : Good W r (takeoverStrings a0) := by
  unfold takeoverStrings
  repeat' first
    | with_reducible assumption | with_reducible apply modBook_good
    | (with_reducible apply Good.foldl; intro _ _ _) | intro _
    | with_reducible apply Good.ite | split
    | with_reducible apply Good.fold | (with_reducible apply Good.mk'; try dsimp only)

theorem takeover114_good {W : Group → Prop} (a0 : State) (r : State) (h : Good W r a0) (_ : W .cellar := by assumption) (_ : W .applied := by
    assumption) (_ : W .changeover := by assumption) : Good W r (takeover114 a0) := by
  unfold takeover114
  repeat' first
    | with_reducible assumption
    | with_reducible apply setMode_good
    | with_reducible apply applyChecks_good
    | with_reducible apply applyClasses_good
    | with_reducible apply applySources_good
    | with_reducible apply applyEntries_good
    | with_reducible apply bindCells_good
    | with_reducible apply seekFeed_good
    | with_reducible apply peersApply_good
    | with_reducible apply adcApply_good
    | with_reducible apply saveActivation_good
    | with_reducible apply startSystems_good
    | with_reducible apply takeoverSources_good
    | with_reducible apply takeoverStrings_good
    | (extract_lets +onlyGivenNames z; first
        | (refine (fun (hz : Good W r z) => ?_) ?_; (on_goal 1 => clear_value z); (on_goal 2 => (dsimp -zeta only [z]; clear z)))
        | (refine (fun (hz : Good W r z.1) => ?_) ?_; (on_goal 1 => clear_value z); (on_goal 2 => (dsimp -zeta only [z]; clear z)))
        | (refine (fun (hz : Good W r z.2) => ?_) ?_; (on_goal 1 => clear_value z); (on_goal 2 => (dsimp -zeta only [z]; clear z)))
        | (have _q : Nat := z; clear _q; clear_value z) | (have _q : Bool := z; clear _q; clear_value z)
        | (have _q : Word := z; clear _q; clear_value z) | (have _q : Record := z; clear _q; clear_value z)
        | (try dsimp -zeta only [z]; clear z))
    | with_reducible exact id
    | with_reducible exact fun _ w => w
    | with_reducible exact fun _ _ => memWf_nil _
    | with_reducible exact memPutWord_wf
    | with_reducible exact memWriteList_wf
    | with_reducible exact memErase_wf
    | with_reducible exact memWriteList_wf (memWf_nil _)
    | with_reducible exact stgRegs_wf _ _ _
    | with_reducible exact fun _ => memWf_nil _
    | (with_reducible apply Good.foldl; intro _ _ _)
    | (with_reducible apply Good.foldl_fst; intro _ _ _)
    | intro _
    | with_reducible apply Good.ite
    | with_reducible apply Good.ite_fst
    | split
    | with_reducible apply Good.fold
    | (with_reducible apply Good.mk'; try dsimp only)
    | dsimp only
    | simp only [rngLost_buf, stgLimp_buf, endSession9_buf, trlOff_buf, trlOn_buf, stgEmpty_buf, trlOff_same, trlOn_same, adcStop_same, stgLimp_same]
    | with_reducible apply Good.fold_cry
    | with_reducible apply Good.fold_spi
    | with_reducible apply Good.fold_trl
    | with_reducible apply Good.fold_stg
    | with_reducible apply Good.fold_mem
    | with_reducible apply Good.fold_held
    | with_reducible apply Good.fold_fls
    | with_reducible apply Good.fold_bank0
    | with_reducible apply Good.fold_bank1
    | (with_reducible apply Good.fold_clock)
    | (with_reducible apply Good.fold_badWords)
    | (with_reducible apply Good.fold_crystal)
    | (with_reducible apply Good.fold_verdict)
    | (with_reducible apply Good.fold_staged)
    | (with_reducible apply Good.fold_applied)
    | (with_reducible apply Good.fold_timing)
    | (with_reducible apply Good.fold_address)
    | (with_reducible apply Good.fold_expiry)
    | (with_reducible apply Good.fold_question)
    | (with_reducible apply Good.fold_life)
    | (with_reducible apply Good.fold_arming)
    | (with_reducible apply Good.fold_flashOp)
    | (with_reducible apply Good.fold_rng)
    | (with_reducible apply Good.fold_diag)
    | (with_reducible apply Good.fold_failed)
    | (with_reducible apply Good.fold_button)
    | (with_reducible apply Good.fold_ship)
    | (with_reducible apply Good.fold_changeover)
    | (with_reducible apply Good.fold_graft)
    | (with_reducible apply Good.fold_irq)
    | (with_reducible apply Good.fold_lastEvent)
    | (with_reducible apply Good.fold_powered)
    | (with_reducible apply Good.fold_inputs)
    | (with_reducible apply Good.fold_wakeCause)
    | (with_reducible apply Good.fold_settings)
    | (refine Good.gen (by with_reducible assumption) rfl rfl rfl ?_ ?_ ?_ ?_ ?_ ?_ ?_ ?_ ?_ ?_ ?_ ?_ ?_ ?_ ?_ ?_ ?_ ?_ ?_ ?_ ?_ ?_ ?_ ?_ ?_ ?_ ?_ ?_ ?_ ?_ ?_ <;> first | exact .inl (by assumption) | exact .inr rfl | exact .inr ⟨rfl, rfl⟩ | exact id | skip)


theorem execStagedSetApply_good {W : Group → Prop} (a0 : State) (r t : State) (h : Good W r a0) (e : execStagedSetApply a0 = .next t) (_ : W .cellar
    := by assumption) (_ : W .applied := by assumption) (_ : W .changeover := by assumption) : Good W r t := by
  unfold execStagedSetApply at e
  refine act_good _ _ _ _ h (fun s h => ?_) e
  repeat' first
    | with_reducible assumption | with_reducible apply limpSet_good | with_reducible apply applySet_good | with_reducible apply takeover114_good
    | with_reducible apply Good.ite | exact ⟨h.1⟩

end Sys2Proof.Laws
end

