-- ==== Sys2Proof/Laws/KeepsSecure.lean ====
section
/-! SUPPORT. What the cryptography, Trellis and session rows keep: `Good W r` of a state passes to the state
the operation makes, for every `W` that allows the groups the operation writes. -/

open Sys2Proof.Machine

namespace Sys2Proof.Laws
set_option Elab.async false
set_option linter.all false

theorem acquire_good {W : Group → Prop} (a0 : Nat) (a1 : State) (r : State) (h : Good W r a1) : Good W r (acquire a0 a1).2 := by
  unfold acquire
  dsimp only
  repeat' first
    | with_reducible assumption
    | intro _ | with_reducible apply Good.ite | split | with_reducible apply Good.fold | with_reducible apply Good.mk'

theorem releaseSlot_good {W : Group → Prop} (a0 : Nat) (a1 : State) (r : State) (h : Good W r a1) : Good W r (releaseSlot a0 a1) := ⟨h.1⟩

theorem cryRes_good {W : Group → Prop} (a0 : Nat) (a1 : Nat) (a2 : State) (r : State) (h : Good W r a2) : Good W r (cryRes a0 a1 a2) := ⟨h.1⟩

theorem bufPut_good {W : Group → Prop} (a0 : Nat) (a1 : List Word) (a2 : State) (r : State) (h : Good W r a2) : Good W r (bufPut a0 a1 a2) := by
  unfold bufPut
  repeat' first
    | with_reducible assumption
    | (extract_lets +onlyGivenNames z; first
        | (refine (fun (hz : Good W r z) => ?_) ?_; (on_goal 1 => clear_value z); (on_goal 2 => (dsimp -zeta only [z]; clear z)))
        | (refine (fun (hz : Good W r z.1) => ?_) ?_; (on_goal 1 => clear_value z); (on_goal 2 => (dsimp -zeta only [z]; clear z)))
        | (refine (fun (hz : Good W r z.2) => ?_) ?_; (on_goal 1 => clear_value z); (on_goal 2 => (dsimp -zeta only [z]; clear z)))
        | (have _q : Nat := z; clear _q; clear_value z) | (have _q : Bool := z; clear _q; clear_value z)
        | (have _q : Word := z; clear _q; clear_value z) | (have _q : Record := z; clear _q; clear_value z)
        | (try dsimp -zeta only [z]; clear z))
    | with_reducible exact id
    | with_reducible exact fun _ w => w
    | with_reducible exact fun _ _ => memWf_nil _
    | with_reducible exact memPutWord_wf
    | with_reducible exact memWriteList_wf
    | with_reducible exact memErase_wf
    | with_reducible exact memWriteList_wf (memWf_nil _)
    | with_reducible exact stgRegs_wf _ _ _
    | with_reducible exact fun _ => memWf_nil _
    | (with_reducible apply Good.foldl; intro _ _ _)
    | (with_reducible apply Good.foldl_fst; intro _ _ _)
    | intro _
    | with_reducible apply Good.ite
    | with_reducible apply Good.ite_fst
    | split
    | with_reducible apply Good.fold
    | (with_reducible apply Good.mk'; try dsimp only)
    | dsimp only
    | simp only [rngLost_buf, stgLimp_buf, endSession9_buf, trlOff_buf, trlOn_buf, stgEmpty_buf, trlOff_same, trlOn_same, adcStop_same, stgLimp_same]
    | with_reducible apply Good.fold_cry
    | with_reducible apply Good.fold_spi
    | with_reducible apply Good.fold_trl
    | with_reducible apply Good.fold_stg
    | with_reducible apply Good.fold_mem
    | with_reducible apply Good.fold_held
    | with_reducible apply Good.fold_fls
    | with_reducible apply Good.fold_bank0
    | with_reducible apply Good.fold_bank1
    | (with_reducible apply Good.fold_clock)
    | (with_reducible apply Good.fold_badWords)
    | (with_reducible apply Good.fold_crystal)
    | (with_reducible apply Good.fold_verdict)
    | (with_reducible apply Good.fold_staged)
    | (with_reducible apply Good.fold_applied)
    | (with_reducible apply Good.fold_timing)
    | (with_reducible apply Good.fold_address)
    | (with_reducible apply Good.fold_expiry)
    | (with_reducible apply Good.fold_question)
    | (with_reducible apply Good.fold_life)
    | (with_reducible apply Good.fold_arming)
    | (with_reducible apply Good.fold_flashOp)
    | (with_reducible apply Good.fold_rng)
    | (with_reducible apply Good.fold_diag)
    | (with_reducible apply Good.fold_failed)
    | (with_reducible apply Good.fold_button)
    | (with_reducible apply Good.fold_ship)
    | (with_reducible apply Good.fold_changeover)
    | (with_reducible apply Good.fold_graft)
    | (with_reducible apply Good.fold_irq)
    | (with_reducible apply Good.fold_lastEvent)
    | (with_reducible apply Good.fold_powered)
    | (with_reducible apply Good.fold_inputs)
    | (with_reducible apply Good.fold_wakeCause)
    | (with_reducible apply Good.fold_settings)
    | (refine Good.gen (by with_reducible assumption) rfl rfl rfl ?_ ?_ ?_ ?_ ?_ ?_ ?_ ?_ ?_ ?_ ?_ ?_ ?_ ?_ ?_ ?_ ?_ ?_ ?_ ?_ ?_ ?_ ?_ ?_ ?_ ?_ ?_ ?_ ?_ ?_ ?_ <;> first | exact .inl (by assumption) | exact .inr rfl | exact .inr ⟨rfl, rfl⟩ | exact id | skip)


theorem cryStart_good {W : Group → Prop} (a0 : Nat) (a1 : State → State) (a2 : State) (r : State) (h : Good W r a2) (ha1 : ∀ t, Good W r t → Good W r
    (a1 t)) : Good W r (cryStart a0 a1 a2) := by
  unfold cryStart
  repeat' first
    | with_reducible assumption | with_reducible apply ha1 | with_reducible apply acquire_good | with_reducible apply cryRes_good
    | with_reducible apply Good.ite | exact ⟨h.1⟩

theorem cryShaStart_good {W : Group → Prop} (a0 : State) (r : State) (h : Good W r a0) : Good W r (cryShaStart a0) := by
  unfold cryShaStart
  dsimp only
  repeat' first
    | with_reducible assumption | with_reducible apply cryRes_good | with_reducible apply cryStart_good
    | intro _ | with_reducible apply Good.ite | split | with_reducible apply Good.fold | with_reducible apply Good.mk'

theorem execShaStart_good {W : Group → Prop} (a0 : State) (r t : State) (h : Good W r a0) (e : execShaStart a0 = .next t) : Good W r t := by
  unfold execShaStart at e
  refine act_good _ _ _ _ h (fun s h => ?_) e
  repeat' first
    | with_reducible assumption | with_reducible apply cryShaStart_good
    | with_reducible apply Good.ite | exact ⟨h.1⟩

theorem cryShaFinal_good {W : Group → Prop} (a0 : Nat) (a1 : State) (r : State) (h : Good W r a1) : Good W r (cryShaFinal a0 a1) := by
  unfold cryShaFinal
  repeat' first
    | with_reducible assumption | with_reducible apply cryRes_good
    | with_reducible apply Good.ite | exact ⟨h.1⟩

theorem execShaFinal_good {W : Group → Prop} (a0 : Nat) (a1 : State) (r t : State) (h : Good W r a1) (e : execShaFinal a0 a1 = .next t) : Good W r t
    := by
  unfold execShaFinal at e
  refine act_good _ _ _ _ h (fun s h => ?_) e
  repeat' first
    | with_reducible assumption | with_reducible apply cryShaFinal_good
    | with_reducible apply Good.ite | exact ⟨h.1⟩

theorem cryEcdsa_good {W : Group → Prop} (a0 : State) (r : State) (h : Good W r a0) : Good W r (cryEcdsa a0) := by
  unfold cryEcdsa
  dsimp only
  repeat' first
    | with_reducible assumption | with_reducible apply cryRes_good | with_reducible apply cryStart_good
    | intro _ | with_reducible apply Good.ite | split | with_reducible apply Good.fold | with_reducible apply Good.mk'

theorem execEcdsaVerify_good {W : Group → Prop} (a0 : State) (r t : State) (h : Good W r a0) (e : execEcdsaVerify a0 = .next t) : Good W r t := by
  unfold execEcdsaVerify at e
  refine act_good _ _ _ _ h (fun s h => ?_) e
  repeat' first
    | with_reducible assumption | with_reducible apply cryEcdsa_good
    | with_reducible apply Good.ite | exact ⟨h.1⟩

theorem cryGcmStart_good {W : Group → Prop} (a0 : Bool) (a1 : Nat) (a2 : State) (r : State) (h : Good W r a2) : Good W r (cryGcmStart a0 a1 a2) := by
  unfold cryGcmStart
  dsimp only
  repeat' first
    | with_reducible assumption | with_reducible apply cryRes_good | with_reducible apply cryStart_good
    | intro _ | with_reducible apply Good.ite | split | with_reducible apply Good.fold | with_reducible apply Good.mk'

theorem execGcmEncStart_good {W : Group → Prop} (a0 : Nat) (a1 : State) (r t : State) (h : Good W r a1) (e : execGcmEncStart a0 a1 = .next t) : Good W
    r t := by
  unfold execGcmEncStart at e
  refine act_good _ _ _ _ h (fun s h => ?_) e
  repeat' first
    | with_reducible assumption | with_reducible apply cryGcmStart_good
    | with_reducible apply Good.ite | exact ⟨h.1⟩

theorem execGcmDecStart_good {W : Group → Prop} (a0 : Nat) (a1 : State) (r t : State) (h : Good W r a1) (e : execGcmDecStart a0 a1 = .next t) : Good W
    r t := by
  unfold execGcmDecStart at e
  refine act_good _ _ _ _ h (fun s h => ?_) e
  repeat' first
    | with_reducible assumption | with_reducible apply cryGcmStart_good
    | with_reducible apply Good.ite | exact ⟨h.1⟩

theorem cryGcmFinal_good {W : Group → Prop} (a0 : State) (r : State) (h : Good W r a0) : Good W r (cryGcmFinal a0) := by
  unfold cryGcmFinal
  repeat' first
    | with_reducible assumption | with_reducible apply cryRes_good
    | with_reducible apply Good.ite | exact ⟨h.1⟩

theorem execGcmFinal_good {W : Group → Prop} (a0 : State) (r t : State) (h : Good W r a0) (e : execGcmFinal a0 = .next t) : Good W r t := by
  unfold execGcmFinal at e
  refine act_good _ _ _ _ h (fun s h => ?_) e
  repeat' first
    | with_reducible assumption | with_reducible apply cryGcmFinal_good
    | with_reducible apply Good.ite | exact ⟨h.1⟩

theorem cryReleaseCmd_good {W : Group → Prop} (a0 : State) (r : State) (h : Good W r a0) : Good W r (cryReleaseCmd a0) := by
  unfold cryReleaseCmd
  repeat' first
    | with_reducible assumption
    | with_reducible apply releaseSlot_good
    | with_reducible apply cryRes_good
    | (extract_lets +onlyGivenNames z; first
        | (refine (fun (hz : Good W r z) => ?_) ?_; (on_goal 1 => clear_value z); (on_goal 2 => (dsimp -zeta only [z]; clear z)))
        | (refine (fun (hz : Good W r z.1) => ?_) ?_; (on_goal 1 => clear_value z); (on_goal 2 => (dsimp -zeta only [z]; clear z)))
        | (refine (fun (hz : Good W r z.2) => ?_) ?_; (on_goal 1 => clear_value z); (on_goal 2 => (dsimp -zeta only [z]; clear z)))
        | (have _q : Nat := z; clear _q; clear_value z) | (have _q : Bool := z; clear _q; clear_value z)
        | (have _q : Word := z; clear _q; clear_value z) | (have _q : Record := z; clear _q; clear_value z)
        | (try dsimp -zeta only [z]; clear z))
    | with_reducible exact id
    | with_reducible exact fun _ w => w
    | with_reducible exact fun _ _ => memWf_nil _
    | with_reducible exact memPutWord_wf
    | with_reducible exact memWriteList_wf
    | with_reducible exact memErase_wf
    | with_reducible exact memWriteList_wf (memWf_nil _)
    | with_reducible exact stgRegs_wf _ _ _
    | with_reducible exact fun _ => memWf_nil _
    | (with_reducible apply Good.foldl; intro _ _ _)
    | (with_reducible apply Good.foldl_fst; intro _ _ _)
    | intro _
    | with_reducible apply Good.ite
    | with_reducible apply Good.ite_fst
    | split
    | with_reducible apply Good.fold
    | (with_reducible apply Good.mk'; try dsimp only)
    | dsimp only
    | simp only [rngLost_buf, stgLimp_buf, endSession9_buf, trlOff_buf, trlOn_buf, stgEmpty_buf, trlOff_same, trlOn_same, adcStop_same, stgLimp_same]
    | with_reducible apply Good.fold_cry
    | with_reducible apply Good.fold_spi
    | with_reducible apply Good.fold_trl
    | with_reducible apply Good.fold_stg
    | with_reducible apply Good.fold_mem
    | with_reducible apply Good.fold_held
    | with_reducible apply Good.fold_fls
    | with_reducible apply Good.fold_bank0
    | with_reducible apply Good.fold_bank1
    | (with_reducible apply Good.fold_clock)
    | (with_reducible apply Good.fold_badWords)
    | (with_reducible apply Good.fold_crystal)
    | (with_reducible apply Good.fold_verdict)
    | (with_reducible apply Good.fold_staged)
    | (with_reducible apply Good.fold_applied)
    | (with_reducible apply Good.fold_timing)
    | (with_reducible apply Good.fold_address)
    | (with_reducible apply Good.fold_expiry)
    | (with_reducible apply Good.fold_question)
    | (with_reducible apply Good.fold_life)
    | (with_reducible apply Good.fold_arming)
    | (with_reducible apply Good.fold_flashOp)
    | (with_reducible apply Good.fold_rng)
    | (with_reducible apply Good.fold_diag)
    | (with_reducible apply Good.fold_failed)
    | (with_reducible apply Good.fold_button)
    | (with_reducible apply Good.fold_ship)
    | (with_reducible apply Good.fold_changeover)
    | (with_reducible apply Good.fold_graft)
    | (with_reducible apply Good.fold_irq)
    | (with_reducible apply Good.fold_lastEvent)
    | (with_reducible apply Good.fold_powered)
    | (with_reducible apply Good.fold_inputs)
    | (with_reducible apply Good.fold_wakeCause)
    | (with_reducible apply Good.fold_settings)
    | (refine Good.gen (by with_reducible assumption) rfl rfl rfl ?_ ?_ ?_ ?_ ?_ ?_ ?_ ?_ ?_ ?_ ?_ ?_ ?_ ?_ ?_ ?_ ?_ ?_ ?_ ?_ ?_ ?_ ?_ ?_ ?_ ?_ ?_ ?_ ?_ ?_ ?_ <;> first | exact .inl (by assumption) | exact .inr rfl | exact .inr ⟨rfl, rfl⟩ | exact id | skip)


theorem execCryRelease_good {W : Group → Prop} (a0 : State) (r t : State) (h : Good W r a0) (e : execCryRelease a0 = .next t) : Good W r t := by
  unfold execCryRelease at e
  refine act_good _ _ _ _ h (fun s h => ?_) e
  repeat' first
    | with_reducible assumption | with_reducible apply cryReleaseCmd_good
    | with_reducible apply Good.ite | exact ⟨h.1⟩

theorem cryUnknown_good {W : Group → Prop} (a0 : Nat) (a1 : State) (r : State) (h : Good W r a1) : Good W r (cryUnknown a0 a1) := ⟨h.1⟩

theorem cryFeed_good {W : Group → Prop} (a0 : Word) (a1 : State) (r : State) (h : Good W r a1) : Good W r (cryFeed a0 a1) := by
  unfold cryFeed
  dsimp only
  repeat' first
    | with_reducible assumption
    | intro _ | with_reducible apply Good.ite | split | with_reducible apply Good.fold | with_reducible apply Good.mk'

theorem cryTake_good {W : Group → Prop} (a0 : State) (r : State) (h : Good W r a0) : Good W r (cryTake a0) := ⟨h.1⟩

theorem execCryDataAccess_good {W : Group → Prop} (a0 : Option Word) (a1 : State) (r t : State) (h : Good W r a1) (e : execCryDataAccess a0 a1 = .next
    t) : Good W r t := by
  unfold execCryDataAccess at e
  refine act_good _ _ _ _ h (fun s h => ?_) e
  clear e
  repeat' first
    | with_reducible assumption | with_reducible apply cryFeed_good | with_reducible apply cryTake_good
    | (with_reducible apply Good.foldl; intro _ _ _) | intro _
    | with_reducible apply Good.ite | split
    | with_reducible apply Good.fold | (with_reducible apply Good.mk'; try dsimp only)

theorem cryStep_good {W : Group → Prop} (a0 : State) (r : State) (h : Good W r a0) : Good W r (cryStep a0) := ⟨h.1⟩

theorem cryBufWrite_good {W : Group → Prop} (a0 : Word) (a1 : State) (r : State) (h : Good W r a1) : Good W r (cryBufWrite a0 a1) := by
  unfold cryBufWrite
  repeat' first
    | with_reducible assumption | with_reducible apply bufPut_good | with_reducible apply cryStep_good
    | with_reducible apply Good.ite | exact ⟨h.1⟩

theorem execCryBufAccess_good {W : Group → Prop} (a0 : Option Word) (a1 : State) (r t : State) (h : Good W r a1) (e : execCryBufAccess a0 a1 = .next
    t) : Good W r t := by
  unfold execCryBufAccess at e
  refine act_good _ _ _ _ h (fun s h => ?_) e
  clear e
  repeat' first
    | with_reducible assumption | with_reducible apply cryStep_good | with_reducible apply cryBufWrite_good
    | (with_reducible apply Good.foldl; intro _ _ _) | intro _
    | with_reducible apply Good.ite | split
    | with_reducible apply Good.fold | (with_reducible apply Good.mk'; try dsimp only)

theorem cryFinish_good {W : Group → Prop} (a0 : State) (r : State) (h : Good W r a0) : Good W r (cryFinish a0) := by
  unfold cryFinish
  dsimp only
  repeat' first
    | with_reducible assumption | with_reducible apply cryRes_good | with_reducible apply bufPut_good
    | intro _ | with_reducible apply Good.ite | split | with_reducible apply Good.fold | with_reducible apply Good.mk'

theorem execCryptoOpComplete_good {W : Group → Prop} (a0 : State) (r t : State) (h : Good W r a0) (e : execCryptoOpComplete a0 = .next t) : Good W r t
    := by
  unfold execCryptoOpComplete at e
  refine act_good _ _ _ _ h (fun s h => ?_) e
  repeat' first
    | with_reducible assumption | with_reducible apply cryFinish_good
    | with_reducible apply Good.ite | exact ⟨h.1⟩

theorem randomWord_good {W : Group → Prop} (a0 : State) (r : State) (h : Good W r a0) : Good W r (randomWord a0).2 := by
  unfold randomWord
  repeat' first
    | with_reducible assumption
    | (with_reducible apply Good.foldl; intro _ _ _) | intro _
    | with_reducible apply Good.ite | split
    | with_reducible apply Good.fold | (with_reducible apply Good.mk'; try dsimp only)

theorem execRngDataRead_good {W : Group → Prop} (a0 : State) (r t : State) (h : Good W r a0) (e : execRngDataRead a0 = .next t) : Good W r t := by
  unfold execRngDataRead at e
  refine act_good _ _ _ _ h (fun s h => ?_) e
  repeat' first
    | with_reducible assumption | with_reducible apply randomWord_good
    | with_reducible apply Good.ite | exact ⟨h.1⟩

theorem cryCtl_good {W : Group → Prop} (a0 : Word) (a1 : State) (r : State) (h : Good W r a1) : Good W r (cryCtl a0 a1) := by
  unfold cryCtl
  repeat' first
    | with_reducible assumption | with_reducible apply cryShaStart_good | with_reducible apply cryShaFinal_good
    | with_reducible apply cryEcdsa_good | with_reducible apply cryGcmStart_good | with_reducible apply cryGcmFinal_good
    | with_reducible apply cryReleaseCmd_good | with_reducible apply cryUnknown_good
    | (with_reducible apply Good.foldl; intro _ _ _) | intro _
    | with_reducible apply Good.ite | split
    | with_reducible apply Good.fold | (with_reducible apply Good.mk'; try dsimp only)

theorem trlFlt_good {W : Group → Prop} (a0 : Nat) (a1 : State) (r : State) (h : Good W r a1) : Good W r (trlFlt a0 a1) := ⟨h.1⟩

theorem flushPort_good {W : Group → Prop} (a0 : TrlPort) (a1 : State) (r : State) (h : Good W r a1) : Good W r (flushPort a0 a1) := ⟨h.1⟩

theorem enqueue_good {W : Group → Prop} (a0 : TrlPort) (a1 : TrlFrame) (a2 : Option (TrlPort × Buf)) (a3 : State) (r : State) (h : Good W r a3) : Good
    W r (enqueue a0 a1 a2 a3) := by
  unfold enqueue
  repeat' first
    | with_reducible assumption | with_reducible apply modPort_good
    | with_reducible apply Good.ite | exact ⟨h.1⟩

theorem sendTo_good {W : Group → Prop} (a0 : Nat) (a1 : Nat) (a2 : Nat) (a3 : List Byte) (a4 : State) (r : State) (h : Good W r a4) : Good W r (sendTo
    a0 a1 a2 a3 a4) := by
  unfold sendTo
  dsimp only
  repeat' first
    | with_reducible assumption | with_reducible apply enqueue_good
    | intro _ | with_reducible apply Good.ite | split | with_reducible apply Good.fold | with_reducible apply Good.mk'

theorem learnSrc_good {W : Group → Prop} (a0 : TrlPort) (a1 : Nat) (a2 : State) (r : State) (h : Good W r a2) : Good W r (learnSrc a0 a1 a2) := ⟨h.1⟩

theorem hearLocal_good {W : Group → Prop} (p : TrlPort) (n : Nat) (m : Bool) (c : Nat) (s u : State) (r : State) (h : Good W r s)
    (e : hearLocal p n m c s = some u) : Good W r u := by
  unfold hearLocal at e
  split at e
  · cases e
  · rw [Option.some.injEq] at e; rw [← e]; exact modPort_good _ _ _ _ h

theorem hear_good {W : Group → Prop} (v : Via) (n : Nat) (s u : State) (r : State) (h : Good W r s) (e : hear v n s = some u) : Good W r u := by
  unfold hear at e
  split at e
  · cases e
  · rw [Option.some.injEq] at e; rw [← e]; exact learnSrc_good _ _ _ _ (modPort_good _ _ _ _ h)

theorem consume_good {W : Group → Prop} (v : Via) (n : Nat) (f : State → State) (s : State) (r : State) (h : Good W r s)
    (hf : ∀ t, Good W r t → Good W r (f t)) : Good W r (consume v n f s) := by
  unfold consume
  split
  · exact h
  · rename_i u hu
    have k := hear_good _ _ _ _ _ h hu
    extract_lets t q
    have ht : Good W r t := Good.ite (modPort_good _ _ _ _ k) k
    clear_value t
    exact Good.ite (Good.mk' (Good.fold ht)) (hf _ ht)

theorem askDelay_good {W : Group → Prop} (a0 : TrlPort) (a1 : State) (r : State) (h : Good W r a1) : Good W r (askDelay a0 a1) := by
  unfold askDelay
  repeat' first
    | with_reducible assumption | with_reducible apply enqueue_good
    | with_reducible apply Good.ite | exact ⟨h.1⟩

theorem newCredits_good {W : Group → Prop} (a0 : TrlPort) (a1 : Nat) (a2 : State) (r : State) (h : Good W r a2) : Good W r (newCredits a0 a1 a2) := by
  unfold newCredits
  repeat' first
    | with_reducible assumption | with_reducible apply modPort_good
    | with_reducible apply Good.ite | exact ⟨h.1⟩

theorem adopt_good {W : Group → Prop} (a0 : TrlPort) (a1 : Hb) (a2 : State) (r : State) (h : Good W r a2) : Good W r (adopt a0 a1 a2) := by
  unfold adopt
  repeat' first
    | with_reducible assumption | with_reducible apply modPort_good | with_reducible apply flushPort_good | with_reducible apply askDelay_good
    | with_reducible apply newCredits_good
    | with_reducible apply Good.ite | exact ⟨h.1⟩

theorem takePartner_good {W : Group → Prop} (a0 : TrlPort) (a1 : Hb) (a2 : State) (r : State) (h : Good W r a2) : Good W r (takePartner a0 a1 a2) :=
    by
  unfold takePartner
  repeat' first
    | with_reducible assumption | with_reducible apply modPort_good | with_reducible apply raiseSrc_good | with_reducible apply trlFlt_good
    | with_reducible apply askDelay_good | with_reducible apply newCredits_good
    | with_reducible apply Good.ite | exact ⟨h.1⟩

theorem heardModule_good {W : Group → Prop} (a0 : TrlPort) (a1 : Hb) (a2 : State) (r : State) (h : Good W r a2) : Good W r (heardModule a0 a1 a2) :=
    by
  unfold heardModule
  dsimp only
  repeat' first
    | with_reducible assumption | with_reducible apply modPort_good | with_reducible apply adopt_good | with_reducible apply takePartner_good
    | intro _ | with_reducible apply Good.ite | split | with_reducible apply Good.fold | with_reducible apply Good.mk'

theorem execHeartbeat_good {W : Group → Prop} (a0 : TrlPort) (a1 : Hb) (a2 : State) (r t : State) (h : Good W r a2) (e : execHeartbeat a0 a1 a2 =
    .next t) :
    Good W r t := by
  unfold execHeartbeat at e
  refine act_good _ _ _ _ h (fun s h => ?_) e
  split
  · exact h
  · rename_i u hu
    have k := hearLocal_good _ _ _ _ _ _ _ h hu
    refine Good.ite (Good.ite (raiseSrc_good _ _ _ _ _ (trlFlt_good _ _ _ k)) (Good.mk' (Good.fold k))) ?_
    extract_lets x
    have hx : Good W r x := Good.ite (modPort_good _ _ _ _ k) k
    clear_value x
    exact Good.ite (heardModule_good _ _ _ _ hx) hx

theorem execLongReqExpiry_good {W : Group → Prop} (a0 : TrlPort) (a1 : State) (r t : State) (h : Good W r a1) (e : execLongReqExpiry a0 a1 = .next t)
    : Good W r t := by
  unfold execLongReqExpiry at e
  refine act_good _ _ _ _ h (fun s h => ?_) e
  repeat' first
    | with_reducible assumption | with_reducible apply modPort_good
    | with_reducible apply Good.ite | exact ⟨h.1⟩

theorem execNeighbourLost_good {W : Group → Prop} (a0 : TrlPort) (a1 : State) (r t : State) (h : Good W r a1) (e : execNeighbourLost a0 a1 = .next t)
    : Good W r t := by
  unfold execNeighbourLost at e
  refine act_good _ _ _ _ h (fun s h => ?_) e
  dsimp only
  repeat' first
    | with_reducible assumption | with_reducible apply modPort_good | with_reducible apply raiseSrc_good | with_reducible apply trlFlt_good
    | with_reducible apply flushPort_good | with_reducible apply newCredits_good
    | intro _ | with_reducible apply Good.ite | split | with_reducible apply Good.fold | with_reducible apply Good.mk'

theorem execCensusAge_good {W : Group → Prop} (a0 : TrlPort) (a1 : Nat) (a2 : State) (r t : State) (h : Good W r a2) (e : execCensusAge a0 a1 a2 =
    .next t) : Good W r t := by
  unfold execCensusAge at e
  refine act_good _ _ _ _ h (fun s h => ?_) e
  repeat' first
    | with_reducible assumption | with_reducible apply modPort_good
    | with_reducible apply Good.ite | exact ⟨h.1⟩

theorem execHeartbeatSend_good {W : Group → Prop} (a0 : TrlPort) (a1 : State) (r t : State) (h : Good W r a1) (e : execHeartbeatSend a0 a1 = .next t)
    : Good W r t := by
  unfold execHeartbeatSend at e
  refine act_good _ _ _ _ h (fun s h => ?_) e
  repeat' first
    | with_reducible assumption | with_reducible apply enqueue_good
    | with_reducible apply Good.ite | exact ⟨h.1⟩

theorem execPassThroughOpen_good {W : Group → Prop} (a0 : State) (r t : State) (h : Good W r a0) (e : execPassThroughOpen a0 = .next t) : Good W r t
    := by
  unfold execPassThroughOpen at e
  refine act_good _ _ _ _ h (fun s h => ?_) e
  clear e
  repeat' first
    | with_reducible assumption
    | (extract_lets +onlyGivenNames z; first
        | (refine (fun (hz : Good W r z) => ?_) ?_; (on_goal 1 => clear_value z); (on_goal 2 => (dsimp -zeta only [z]; clear z)))
        | (refine (fun (hz : Good W r z.1) => ?_) ?_; (on_goal 1 => clear_value z); (on_goal 2 => (dsimp -zeta only [z]; clear z)))
        | (have _q : Nat := z; clear _q; clear_value z) | (try dsimp -zeta only [z]; clear z))
    | (with_reducible apply Good.foldl; intro _ _ _) | (with_reducible apply Good.foldl_fst; intro _ _ _) | intro _
    | with_reducible apply Good.ite | with_reducible apply Good.ite_fst | split | with_reducible exact id | with_reducible exact fun _ w => w
    | with_reducible exact fun _ _ => memWf_nil _ | with_reducible exact memPutWord_wf | with_reducible exact memWriteList_wf
    | with_reducible exact memErase_wf | with_reducible exact memWriteList_wf (memWf_nil _) | with_reducible exact stgRegs_wf _ _ _
    | with_reducible exact fun _ => memWf_nil _
    | with_reducible apply Good.fold | (with_reducible apply Good.mk'; try dsimp only) | dsimp only
    | simp only [rngLost_buf, stgLimp_buf, endSession9_buf, trlOff_buf, trlOn_buf, stgEmpty_buf, trlOff_same, trlOn_same, adcStop_same, stgLimp_same]
    | with_reducible apply Good.fold_cry | with_reducible apply Good.fold_spi | with_reducible apply Good.fold_trl

theorem execCredit_good {W : Group → Prop} (p : TrlPort) (n : Nat) (s : State) (r t : State) (h : Good W r s) (e : execCredit p n s = .next t) : Good
    W r t := by
  unfold execCredit at e
  refine act_good _ _ _ _ h (fun s h => ?_) e
  cases hu : hearLocal p (s.port p).peer true n s with
  | none => exact h
  | some u => exact hearLocal_good _ _ _ _ _ _ _ h hu

theorem execCreditOwedSend_good {W : Group → Prop} (a0 : TrlPort) (a1 : State) (r t : State) (h : Good W r a1) (e : execCreditOwedSend a0 a1 = .next
    t) : Good W r t := by
  unfold execCreditOwedSend at e
  refine act_good _ _ _ _ h (fun s h => ?_) e
  repeat' first
    | with_reducible assumption | with_reducible apply enqueue_good
    | with_reducible apply Good.ite | exact ⟨h.1⟩

theorem forwardFrame_good {W : Group → Prop} (a0 : TrlPort) (a1 : TrlFrame) (a2 : State) (r : State) (h : Good W r a2) : Good W r (forwardFrame a0 a1
    a2) := by
  unfold forwardFrame
  repeat' first
    | with_reducible assumption | with_reducible apply modPort_good | with_reducible apply enqueue_good
    | with_reducible apply Good.ite | exact ⟨h.1⟩

theorem freeAtOnce_good {W : Group → Prop} (a0 : TrlPort) (a1 : Bool) (a2 : State) (r : State) (h : Good W r a2) : Good W r (freeAtOnce a0 a1 a2) :=
    by
  unfold freeAtOnce
  repeat' first
    | with_reducible assumption | with_reducible apply modPort_good
    | with_reducible apply Good.ite | exact ⟨h.1⟩

theorem execTrellisForward_good {W : Group → Prop} (a0 : TrlPort) (a1 : TrlFrame) (a2 : State) (r t : State) (h : Good W r a2) (e : execTrellisForward
    a0 a1 a2 = .next t) : Good W r t := by
  unfold execTrellisForward at e
  refine act_good _ _ _ _ h (fun s h => ?_) e
  dsimp only
  repeat' first
    | with_reducible assumption | with_reducible apply modPort_good | with_reducible apply raiseSrc_good | with_reducible apply trlFlt_good
    | with_reducible apply learnSrc_good | with_reducible apply forwardFrame_good | with_reducible apply freeAtOnce_good
    | intro _ | with_reducible apply Good.ite | split | with_reducible apply Good.fold | with_reducible apply Good.mk'

theorem execLearnAge_good {W : Group → Prop} (a0 : Nat) (a1 : State) (r t : State) (h : Good W r a1) (e : execLearnAge a0 a1 = .next t) : Good W r t
    := by
  unfold execLearnAge at e
  refine act_good _ _ _ _ h (fun s h => ?_) e
  exact ⟨h.1⟩

theorem execTrellisFrameError_good {W : Group → Prop} (a0 : TrlPort) (a1 : TrlErr) (a2 : State) (r t : State) (h : Good W r a2) (e :
    execTrellisFrameError a0 a1 a2 = .next t) : Good W r t := by
  unfold execTrellisFrameError at e
  refine act_good _ _ _ _ h (fun s h => ?_) e
  clear e
  repeat' first
    | with_reducible assumption | with_reducible apply modPort_good | with_reducible apply trlFlt_good
    | (with_reducible apply Good.foldl; intro _ _ _) | intro _
    | with_reducible apply Good.ite | split
    | with_reducible apply Good.fold | (with_reducible apply Good.mk'; try dsimp only)

theorem execTrellisFcrcFail_good {W : Group → Prop} (a0 : TrlPort) (a1 : State) (r t : State) (h : Good W r a1) (e : execTrellisFcrcFail a0 a1 = .next
    t) : Good W r t := by
  unfold execTrellisFcrcFail at e
  refine act_good _ _ _ _ h (fun s h => ?_) e
  repeat' first
    | with_reducible assumption | with_reducible apply modPort_good
    | with_reducible apply Good.ite | exact ⟨h.1⟩

theorem execClashBackoffEnd_good {W : Group → Prop} (a0 : TrlPort) (a1 : State) (r t : State) (h : Good W r a1) (e : execClashBackoffEnd a0 a1 = .next
    t) : Good W r t := by
  unfold execClashBackoffEnd at e
  refine act_good _ _ _ _ h (fun s h => ?_) e
  repeat' first
    | with_reducible assumption | with_reducible apply modPort_good
    | with_reducible apply Good.ite | exact ⟨h.1⟩

theorem freeBuf_good {W : Group → Prop} (a0 : Queued) (a1 : State) (r : State) (h : Good W r a1) : Good W r (freeBuf a0 a1) := by
  unfold freeBuf
  repeat' first
    | with_reducible assumption | with_reducible apply modPort_good
    | (with_reducible apply Good.foldl; intro _ _ _) | intro _
    | with_reducible apply Good.ite | split
    | with_reducible apply Good.fold | (with_reducible apply Good.mk'; try dsimp only)

theorem frameTaken_good {W : Group → Prop} (a0 : TrlPort) (a1 : Nat) (a2 : Queued) (a3 : State) (r : State) (h : Good W r a3) : Good W r (frameTaken
    a0 a1 a2 a3) := by
  unfold frameTaken
  dsimp only
  repeat' first
    | with_reducible assumption | with_reducible apply modPort_good | with_reducible apply freeBuf_good
    | intro _ | with_reducible apply Good.ite | split | with_reducible apply Good.fold | with_reducible apply Good.mk'

theorem frameFailed_good {W : Group → Prop} (a0 : TrlPort) (a1 : Nat) (a2 : Queued) (a3 : State) (r : State) (h : Good W r a3) : Good W r (frameFailed
    a0 a1 a2 a3) := by
  unfold frameFailed
  repeat' first
    | with_reducible assumption | with_reducible apply modPort_good | with_reducible apply raiseSrc_good | with_reducible apply trlFlt_good
    | with_reducible apply freeBuf_good
    | with_reducible apply Good.ite | exact ⟨h.1⟩

theorem execTrellisSendResult_good {W : Group → Prop} (a0 : TrlPort) (a1 : SendResult) (a2 : State) (r t : State) (h : Good W r a2) (e :
    execTrellisSendResult a0 a1 a2 = .next t) : Good W r t := by
  unfold execTrellisSendResult at e
  refine act_good _ _ _ _ h (fun s h => ?_) e
  clear e
  repeat' first
    | with_reducible assumption | with_reducible apply modPort_good | with_reducible apply frameTaken_good | with_reducible apply frameFailed_good
    | (with_reducible apply Good.foldl; intro _ _ _) | intro _
    | with_reducible apply Good.ite | split
    | with_reducible apply Good.fold | (with_reducible apply Good.mk'; try dsimp only)

theorem endLock_good {W : Group → Prop} (a0 : State) (r : State) (h : Good W r a0) (_ : W .timing := by assumption) : Good W r (endLock a0) := by
  unfold endLock
  repeat' first
    | with_reducible assumption | with_reducible apply trlFlt_good
    | (with_reducible apply Good.foldl; intro _ _ _) | intro _
    | with_reducible apply Good.ite | split
    | with_reducible apply Good.fold | (with_reducible apply Good.mk'; try dsimp only) | with_reducible apply Good.fold_timing

theorem electSelf_good {W : Group → Prop} (a0 : State) (r : State) (h : Good W r a0) (_ : W .timing := by assumption) : Good W r (electSelf a0) := by
  unfold electSelf
  repeat' first
    | with_reducible assumption | with_reducible apply endLock_good
    | (with_reducible apply Good.foldl; intro _ _ _) | intro _
    | with_reducible apply Good.ite | split
    | with_reducible apply Good.fold | (with_reducible apply Good.mk'; try dsimp only) | with_reducible apply Good.fold_timing

theorem setTime_good {W : Group → Prop} (a0 : TimeFrame) (a1 : Nat) (a2 : State) (r : State) (h : Good W r a2) : Good W r (setTime a0 a1 a2) := ⟨h.1⟩

theorem trackRate_good {W : Group → Prop} (a0 : Trl) (a1 : State) (r : State) (h : Good W r a1) : Good W r (trackRate a0 a1) := by
  unfold trackRate
  dsimp only
  repeat' first
    | with_reducible assumption
    | intro _ | with_reducible apply Good.ite | split | with_reducible apply Good.fold | with_reducible apply Good.mk'

theorem hearTime_good {W : Group → Prop} (a0 : TrlPort) (a1 : TimeFrame) (a2 : State) (r : State) (h : Good W r a2) (_ : W .timing := by assumption) :
    Good W r (hearTime a0 a1 a2) := by
  unfold hearTime
  repeat' first
    | with_reducible assumption | with_reducible apply endLock_good | with_reducible apply electSelf_good | with_reducible apply setTime_good
    | with_reducible apply trackRate_good
    | (extract_lets +onlyGivenNames z; first
        | (refine (fun (hz : Good W r z) => ?_) ?_; (on_goal 1 => clear_value z); (on_goal 2 => (dsimp -zeta only [z]; clear z)))
        | (refine (fun (hz : Good W r z.1) => ?_) ?_; (on_goal 1 => clear_value z); (on_goal 2 => (dsimp -zeta only [z]; clear z)))
        | (have _q : Nat := z; clear _q; clear_value z) | (try dsimp -zeta only [z]; clear z))
    | (with_reducible apply Good.foldl; intro _ _ _) | intro _
    | with_reducible apply Good.ite | split
    | with_reducible apply Good.fold | (with_reducible apply Good.mk'; try dsimp only) | with_reducible apply Good.fold_timing

theorem execTime_good {W : Group → Prop} (a0 : TrlPort) (a1 : TimeFrame) (a2 : State) (r t : State) (h : Good W r a2) (e : execTime a0 a1 a2 = .next
    t) (_ : W .timing := by assumption) : Good W r t := by
  unfold execTime at e
  refine act_good _ _ _ _ h (fun s h => ?_) e
  repeat' first
    | with_reducible assumption | with_reducible apply modPort_good | with_reducible apply hearTime_good
    | with_reducible apply Good.ite | exact ⟨h.1⟩

theorem execTimeLockLost_good {W : Group → Prop} (a0 : State) (r t : State) (h : Good W r a0) (e : execTimeLockLost a0 = .next t) (_ : W .timing := by
    assumption) : Good W r t := by
  unfold execTimeLockLost at e
  refine act_good _ _ _ _ h (fun s h => ?_) e
  clear e
  repeat' first
    | with_reducible assumption | with_reducible apply endLock_good | with_reducible apply electSelf_good
    | (with_reducible apply Good.foldl; intro _ _ _) | intro _
    | with_reducible apply Good.ite | split
    | with_reducible apply Good.fold | (with_reducible apply Good.mk'; try dsimp only) | with_reducible apply Good.fold_timing

theorem execTimeSend_good {W : Group → Prop} (a0 : State) (r t : State) (h : Good W r a0) (e : execTimeSend a0 = .next t) (_ : W .timing := by
    assumption) : Good W r t := by
  unfold execTimeSend at e
  refine act_good _ _ _ _ h (fun s h => ?_) e
  repeat' first
    | with_reducible assumption | with_reducible apply enqueue_good | with_reducible apply electSelf_good
    | with_reducible apply Good.ite | exact ⟨h.1⟩

theorem execDelayReq_good {W : Group → Prop} (a0 : Via) (a1 : Nat) (a2 : Nat) (a3 : Nat) (a4 : Nat) (a5 : State) (r t : State) (h : Good W r a5)
    (e : execDelayReq a0 a1 a2 a3 a4 a5 = .next t) : Good W r t := by
  unfold execDelayReq at e
  refine act_good _ _ _ _ h (fun s h => ?_) e
  split
  · exact h
  · exact enqueue_good _ _ _ _ _ (hearLocal_good _ _ _ _ _ _ _ h (by assumption))

theorem execDelayRsp_good {W : Group → Prop} (a0 : Via) (a1 : Nat) (a2 : Nat) (a3 : Nat) (a4 : Nat) (a5 : Nat) (a6 : State) (r t : State) (h : Good W
    r a6)
    (e : execDelayRsp a0 a1 a2 a3 a4 a5 a6 = .next t) : Good W r t := by
  unfold execDelayRsp at e
  refine act_good _ _ _ _ h (fun s h => ?_) e
  split
  · exact h
  · exact modPort_good _ _ _ _ (hearLocal_good _ _ _ _ _ _ _ h (by assumption))

theorem execDelayMeasure_good {W : Group → Prop} (a0 : State) (r t : State) (h : Good W r a0) (e : execDelayMeasure a0 = .next t) : Good W r t := by
  unfold execDelayMeasure at e
  refine act_good _ _ _ _ h (fun s h => ?_) e
  repeat' first
    | with_reducible assumption | with_reducible apply askDelay_good
    | with_reducible apply Good.ite | exact ⟨h.1⟩

theorem trlRes_good {W : Group → Prop} (a0 : Nat) (a1 : Nat) (a2 : State) (r : State) (h : Good W r a2) : Good W r (trlRes a0 a1 a2) := ⟨h.1⟩

theorem trlSetAddr_good {W : Group → Prop} (a0 : Nat) (a1 : State) (r : State) (h : Good W r a1) (_ : W .cellar := by assumption) (_ : W .timing := by
    assumption) (_ : W .address := by assumption) : Good W r (trlSetAddr a0 a1) := by
  unfold trlSetAddr
  repeat' first
    | with_reducible assumption | with_reducible apply saveIdentity_good | with_reducible apply electSelf_good | with_reducible apply trlRes_good
    | (with_reducible apply Good.foldl; intro _ _ _) | intro _
    | with_reducible apply Good.ite | split
    | with_reducible apply Good.fold | (with_reducible apply Good.mk'; try dsimp only) | with_reducible apply Good.fold_mem
    | with_reducible apply Good.fold_timing | with_reducible apply Good.fold_address

theorem execSetAddr_good {W : Group → Prop} (a0 : Nat) (a1 : State) (r t : State) (h : Good W r a1) (e : execSetAddr a0 a1 = .next t) (_ : W .cellar
    := by assumption) (_ : W .timing := by assumption) (_ : W .address := by assumption) : Good W r t := by
  unfold execSetAddr at e
  refine act_good _ _ _ _ h (fun s h => ?_) e
  repeat' first
    | with_reducible assumption | with_reducible apply trlSetAddr_good
    | with_reducible apply Good.ite | exact ⟨h.1⟩

theorem trlFlush_good {W : Group → Prop} (a0 : State) (r : State) (h : Good W r a0) : Good W r (trlFlush a0) := by
  unfold trlFlush
  repeat' first
    | with_reducible assumption | with_reducible apply trlRes_good
    | with_reducible apply Good.ite | exact ⟨h.1⟩

theorem execFlushLearn_good {W : Group → Prop} (a0 : State) (r t : State) (h : Good W r a0) (e : execFlushLearn a0 = .next t) : Good W r t := by
  unfold execFlushLearn at e
  refine act_good _ _ _ _ h (fun s h => ?_) e
  repeat' first
    | with_reducible assumption | with_reducible apply trlFlush_good
    | with_reducible apply Good.ite | exact ⟨h.1⟩

theorem trlMeasure_good {W : Group → Prop} (a0 : State) (r : State) (h : Good W r a0) : Good W r (trlMeasure a0) := by
  unfold trlMeasure
  repeat' first
    | with_reducible assumption | with_reducible apply askDelay_good | with_reducible apply trlRes_good
    | with_reducible apply Good.ite | exact ⟨h.1⟩

theorem execMeasureDelay_good {W : Group → Prop} (a0 : State) (r t : State) (h : Good W r a0) (e : execMeasureDelay a0 = .next t) : Good W r t := by
  unfold execMeasureDelay at e
  refine act_good _ _ _ _ h (fun s h => ?_) e
  repeat' first
    | with_reducible assumption | with_reducible apply trlMeasure_good
    | with_reducible apply Good.ite | exact ⟨h.1⟩

theorem trlEndSession_good {W : Group → Prop} (a0 : State) (r : State) (h : Good W r a0) : Good W r (trlEndSession a0) := by
  unfold trlEndSession
  repeat' first
    | with_reducible assumption | with_reducible apply trlRes_good
    | (extract_lets +onlyGivenNames z; first
        | (refine (fun (hz : Good W r z) => ?_) ?_; (on_goal 1 => clear_value z); (on_goal 2 => (dsimp -zeta only [z]; clear z)))
        | (refine (fun (hz : Good W r z.1) => ?_) ?_; (on_goal 1 => clear_value z); (on_goal 2 => (dsimp -zeta only [z]; clear z)))
        | (have _q : Nat := z; clear _q; clear_value z) | (try dsimp -zeta only [z]; clear z))
    | (with_reducible apply Good.foldl; intro _ _ _) | (with_reducible apply Good.foldl_fst; intro _ _ _) | intro _
    | with_reducible apply Good.ite | with_reducible apply Good.ite_fst | split | with_reducible exact id | with_reducible exact fun _ w => w
    | with_reducible exact fun _ _ => memWf_nil _ | with_reducible exact memPutWord_wf | with_reducible exact memWriteList_wf
    | with_reducible exact memErase_wf | with_reducible exact memWriteList_wf (memWf_nil _) | with_reducible exact stgRegs_wf _ _ _
    | with_reducible exact fun _ => memWf_nil _
    | with_reducible apply Good.fold | (with_reducible apply Good.mk'; try dsimp only) | dsimp only
    | simp only [rngLost_buf, stgLimp_buf, endSession9_buf, trlOff_buf, trlOn_buf, stgEmpty_buf, trlOff_same, trlOn_same, adcStop_same, stgLimp_same]
    | with_reducible apply Good.fold_cry | with_reducible apply Good.fold_spi | with_reducible apply Good.fold_trl

theorem execEndSession_good {W : Group → Prop} (a0 : State) (r t : State) (h : Good W r a0) (e : execEndSession a0 = .next t) : Good W r t := by
  unfold execEndSession at e
  refine act_good _ _ _ _ h (fun s h => ?_) e
  repeat' first
    | with_reducible assumption | with_reducible apply trlEndSession_good
    | with_reducible apply Good.ite | exact ⟨h.1⟩

theorem trlCmd_good {W : Group → Prop} (a0 : Word) (a1 : State) (r : State) (h : Good W r a1) (_ : W .cellar := by assumption) (_ : W .timing := by
    assumption) (_ : W .address := by assumption) : Good W r (trlCmd a0 a1) := by
  unfold trlCmd
  repeat' first
    | with_reducible assumption | with_reducible apply trlRes_good | with_reducible apply trlSetAddr_good | with_reducible apply trlFlush_good
    | with_reducible apply trlMeasure_good | with_reducible apply trlEndSession_good
    | with_reducible apply Good.ite | exact ⟨h.1⟩

theorem trlCfgWrite_good {W : Group → Prop} (a0 : Word) (a1 : State) (r : State) (h : Good W r a1) (_ : W .cellar := by assumption) (_ : W .settings
    := by assumption) (_ : W .timing := by assumption) : Good W r (trlCfgWrite a0 a1) := by
  unfold trlCfgWrite
  repeat' first
    | with_reducible assumption | with_reducible apply saveIdentity_good | with_reducible apply electSelf_good
    | (with_reducible apply Good.foldl; intro _ _ _) | intro _
    | with_reducible apply Good.ite | split
    | with_reducible apply Good.fold | (with_reducible apply Good.mk'; try dsimp only) | with_reducible apply Good.fold_mem
    | with_reducible apply Good.fold_settings | with_reducible apply Good.fold_timing

theorem timeLatch_good {W : Group → Prop} (a0 : Agent) (a1 : State) (r : State) (h : Good W r a1) : Good W r (timeLatch a0 a1) := ⟨h.1⟩

theorem execTrlTimeLoRead_good {W : Group → Prop} (a0 : Agent) (a1 : State) (r t : State) (h : Good W r a1) (e : execTrlTimeLoRead a0 a1 = .next t) :
    Good W r t := by
  unfold execTrlTimeLoRead at e
  refine act_good _ _ _ _ h (fun s h => ?_) e
  exact ⟨h.1⟩

theorem modSess_good {W : Group → Prop} (i : SessIface) (f : Session → Session) (s : State) (r : State) (h : Good W r s)
    (hf : ∀ x, memWf 0 x.buf = true → memWf 0 (f x).buf = true) : Good W r (modSess i f s) := by
  unfold modSess
  split
  · exact Good.mk' (Good.fold_spi h (hf _))
  · exact Good.mk' (Good.fold_trl h (hf _))

theorem sessRes_good {W : Group → Prop} (a0 : SessIface) (a1 : Nat) (a2 : State) (r : State) (h : Good W r a2) : Good W r (sessRes a0 a1 a2) := by
  unfold sessRes
  repeat' first
    | with_reducible assumption | with_reducible apply modSess_good
    | (with_reducible apply Good.foldl; intro _ _ _) | intro _
    | with_reducible apply Good.ite | split
    | with_reducible apply Good.fold | (with_reducible apply Good.mk'; try dsimp only)

theorem sessNone_good {W : Group → Prop} (a0 : SessIface) (a1 : Nat) (a2 : State) (r : State) (h : Good W r a2) : Good W r (sessNone a0 a1 a2) := by
  unfold sessNone
  repeat' first
    | with_reducible assumption | with_reducible apply modSess_good
    | (with_reducible apply Good.foldl; intro _ _ _) | intro _
    | with_reducible apply Good.ite | split
    | with_reducible apply Good.fold | (with_reducible apply Good.mk'; try dsimp only)

theorem authSend_good {W : Group → Prop} (a0 : List Byte) (a1 : State) (r : State) (h : Good W r a1) : Good W r (authSend a0 a1) := by
  unfold authSend
  repeat' first
    | with_reducible assumption | with_reducible apply sendTo_good
    | with_reducible apply Good.ite | exact ⟨h.1⟩

theorem authResult_good {W : Group → Prop} (a0 : Nat) (a1 : Nat) (a2 : State) (r : State) (h : Good W r a2) : Good W r (authResult a0 a1 a2) := by
  unfold authResult
  repeat' first
    | with_reducible assumption | with_reducible apply sendTo_good
    | with_reducible apply Good.ite | exact ⟨h.1⟩

theorem tellResult_good {W : Group → Prop} (a0 : SessIface) (a1 : State) (r : State) (h : Good W r a1) : Good W r (tellResult a0 a1) := by
  unfold tellResult
  repeat' first
    | with_reducible assumption | with_reducible apply authResult_good
    | (with_reducible apply Good.foldl; intro _ _ _) | intro _
    | with_reducible apply Good.ite | split
    | with_reducible apply Good.fold | (with_reducible apply Good.mk'; try dsimp only)

theorem sessRequest_good {W : Group → Prop} (a0 : SessIface) (a1 : Nat) (a2 : State) (r : State) (h : Good W r a2) : Good W r (sessRequest a0 a1 a2)
    := by
  unfold sessRequest
  repeat' first
    | with_reducible assumption
    | with_reducible apply modSess_good
    | with_reducible apply sessRes_good
    | (extract_lets +onlyGivenNames z; first
        | (refine (fun (hz : Good W r z) => ?_) ?_; (on_goal 1 => clear_value z); (on_goal 2 => (dsimp -zeta only [z]; clear z)))
        | (refine (fun (hz : Good W r z.1) => ?_) ?_; (on_goal 1 => clear_value z); (on_goal 2 => (dsimp -zeta only [z]; clear z)))
        | (refine (fun (hz : Good W r z.2) => ?_) ?_; (on_goal 1 => clear_value z); (on_goal 2 => (dsimp -zeta only [z]; clear z)))
        | (have _q : Nat := z; clear _q; clear_value z) | (have _q : Bool := z; clear _q; clear_value z)
        | (have _q : Word := z; clear _q; clear_value z) | (have _q : Record := z; clear _q; clear_value z)
        | (try dsimp -zeta only [z]; clear z))
    | with_reducible exact id
    | with_reducible exact fun _ w => w
    | with_reducible exact fun _ _ => memWf_nil _
    | with_reducible exact memPutWord_wf
    | with_reducible exact memWriteList_wf
    | with_reducible exact memErase_wf
    | with_reducible exact memWriteList_wf (memWf_nil _)
    | with_reducible exact stgRegs_wf _ _ _
    | with_reducible exact fun _ => memWf_nil _
    | (with_reducible apply Good.foldl; intro _ _ _)
    | (with_reducible apply Good.foldl_fst; intro _ _ _)
    | intro _
    | with_reducible apply Good.ite
    | with_reducible apply Good.ite_fst
    | split
    | with_reducible apply Good.fold
    | (with_reducible apply Good.mk'; try dsimp only)
    | dsimp only
    | simp only [rngLost_buf, stgLimp_buf, endSession9_buf, trlOff_buf, trlOn_buf, stgEmpty_buf, trlOff_same, trlOn_same, adcStop_same, stgLimp_same]
    | with_reducible apply Good.fold_cry
    | with_reducible apply Good.fold_spi
    | with_reducible apply Good.fold_trl
    | with_reducible apply Good.fold_stg
    | with_reducible apply Good.fold_mem
    | with_reducible apply Good.fold_held
    | with_reducible apply Good.fold_fls
    | with_reducible apply Good.fold_bank0
    | with_reducible apply Good.fold_bank1
    | (with_reducible apply Good.fold_clock)
    | (with_reducible apply Good.fold_badWords)
    | (with_reducible apply Good.fold_crystal)
    | (with_reducible apply Good.fold_verdict)
    | (with_reducible apply Good.fold_staged)
    | (with_reducible apply Good.fold_applied)
    | (with_reducible apply Good.fold_timing)
    | (with_reducible apply Good.fold_address)
    | (with_reducible apply Good.fold_expiry)
    | (with_reducible apply Good.fold_question)
    | (with_reducible apply Good.fold_life)
    | (with_reducible apply Good.fold_arming)
    | (with_reducible apply Good.fold_flashOp)
    | (with_reducible apply Good.fold_rng)
    | (with_reducible apply Good.fold_diag)
    | (with_reducible apply Good.fold_failed)
    | (with_reducible apply Good.fold_button)
    | (with_reducible apply Good.fold_ship)
    | (with_reducible apply Good.fold_changeover)
    | (with_reducible apply Good.fold_graft)
    | (with_reducible apply Good.fold_irq)
    | (with_reducible apply Good.fold_lastEvent)
    | (with_reducible apply Good.fold_powered)
    | (with_reducible apply Good.fold_inputs)
    | (with_reducible apply Good.fold_wakeCause)
    | (with_reducible apply Good.fold_settings)
    | (refine Good.gen (by with_reducible assumption) rfl rfl rfl ?_ ?_ ?_ ?_ ?_ ?_ ?_ ?_ ?_ ?_ ?_ ?_ ?_ ?_ ?_ ?_ ?_ ?_ ?_ ?_ ?_ ?_ ?_ ?_ ?_ ?_ ?_ ?_ ?_ ?_ ?_ <;> first | exact .inl (by assumption) | exact .inr rfl | exact .inr ⟨rfl, rfl⟩ | exact id | skip)


theorem execRequest_good {W : Group → Prop} (a0 : Nat) (a1 : State) (r t : State) (h : Good W r a1) (e : execRequest a0 a1 = .next t) : Good W r t :=
    by
  unfold execRequest at e
  refine act_good _ _ _ _ h (fun s h => ?_) e
  repeat' first
    | with_reducible assumption | with_reducible apply sessRequest_good
    | with_reducible apply Good.ite | exact ⟨h.1⟩

theorem drawWords_good {W : Group → Prop} (n : Nat) (s : State) (r : State) (h : Good W r s) : Good W r (drawWords n s).2 := by
  induction n generalizing s with
  | zero => exact h
  | succ n ih => exact ih _ (randomWord_good _ _ h)

theorem formChallenge_good {W : Group → Prop} (a0 : SessIface) (a1 : State) (r : State) (h : Good W r a1) : Good W r (formChallenge a0 a1) := by
  unfold formChallenge
  repeat' first
    | with_reducible assumption | with_reducible apply modSess_good | with_reducible apply authSend_good | with_reducible apply drawWords_good
    | (extract_lets +onlyGivenNames z; first
        | (refine (fun (hz : Good W r z) => ?_) ?_; (on_goal 1 => clear_value z); (on_goal 2 => (dsimp -zeta only [z]; clear z)))
        | (refine (fun (hz : Good W r z.1) => ?_) ?_; (on_goal 1 => clear_value z); (on_goal 2 => (dsimp -zeta only [z]; clear z)))
        | (have _q : Nat := z; clear _q; clear_value z) | (try dsimp -zeta only [z]; clear z))
    | (with_reducible apply Good.foldl; intro _ _ _) | (with_reducible apply Good.foldl_fst; intro _ _ _) | intro _
    | with_reducible apply Good.ite | with_reducible apply Good.ite_fst | split | with_reducible exact id | with_reducible exact fun _ w => w
    | with_reducible exact fun _ _ => memWf_nil _ | with_reducible exact memPutWord_wf | with_reducible exact memWriteList_wf
    | with_reducible exact memErase_wf | with_reducible exact memWriteList_wf (memWf_nil _) | with_reducible exact stgRegs_wf _ _ _
    | with_reducible exact fun _ => memWf_nil _
    | with_reducible apply Good.fold | (with_reducible apply Good.mk'; try dsimp only) | dsimp only
    | simp only [rngLost_buf, stgLimp_buf, endSession9_buf, trlOff_buf, trlOn_buf, stgEmpty_buf, trlOff_same, trlOn_same, adcStop_same, stgLimp_same]
    | with_reducible apply Good.fold_cry | with_reducible apply Good.fold_spi | with_reducible apply Good.fold_trl

theorem execChallengeFormed_good {W : Group → Prop} (a0 : SessIface) (a1 : State) (r t : State) (h : Good W r a1) (e : execChallengeFormed a0 a1 =
    .next t) : Good W r t := by
  unfold execChallengeFormed at e
  refine act_good _ _ _ _ h (fun s h => ?_) e
  repeat' first
    | with_reducible assumption | with_reducible apply formChallenge_good
    | with_reducible apply Good.ite | exact ⟨h.1⟩

theorem execChallengeExpiry_good {W : Group → Prop} (a0 : SessIface) (a1 : State) (r t : State) (h : Good W r a1) (e : execChallengeExpiry a0 a1 =
    .next t) : Good W r t := by
  unfold execChallengeExpiry at e
  refine act_good _ _ _ _ h (fun s h => ?_) e
  repeat' first
    | with_reducible assumption | with_reducible apply sessNone_good
    | with_reducible apply Good.ite | exact ⟨h.1⟩

theorem sessSlot_good {W : Group → Prop} (a0 : SessIface) (a1 : State) (r : State) (h : Good W r a1) : Good W r (sessSlot a0 a1) := by
  unfold sessSlot
  dsimp only
  repeat' first
    | with_reducible assumption | with_reducible apply acquire_good | with_reducible apply modSess_good
    | intro _ | with_reducible apply Good.ite | split | with_reducible apply Good.fold | with_reducible apply Good.mk'

theorem sessVerify_good {W : Group → Prop} (a0 : SessIface) (a1 : State) (r : State) (h : Good W r a1) : Good W r (sessVerify a0 a1) := by
  unfold sessVerify
  repeat' first
    | with_reducible assumption | with_reducible apply modSess_good | with_reducible apply sessRes_good | with_reducible apply sessSlot_good
    | (with_reducible apply Good.foldl; intro _ _ _) | intro _
    | with_reducible apply Good.ite | split
    | with_reducible apply Good.fold | (with_reducible apply Good.mk'; try dsimp only)

theorem execVerify_good {W : Group → Prop} (a0 : State) (r t : State) (h : Good W r a0) (e : execVerify a0 = .next t) : Good W r t := by
  unfold execVerify at e
  refine act_good _ _ _ _ h (fun s h => ?_) e
  repeat' first
    | with_reducible assumption | with_reducible apply sessVerify_good
    | with_reducible apply Good.ite | exact ⟨h.1⟩

theorem sessOpen_good {W : Group → Prop} (a0 : SessIface) (a1 : State) (r : State) (h : Good W r a1) : Good W r (sessOpen a0 a1) := by
  unfold sessOpen
  repeat' first
    | with_reducible assumption | with_reducible apply modSess_good
    | (with_reducible apply Good.foldl; intro _ _ _) | intro _
    | with_reducible apply Good.ite | split
    | with_reducible apply Good.fold | (with_reducible apply Good.mk'; try dsimp only)

theorem sessRefuse_good {W : Group → Prop} (a0 : SessIface) (a1 : State) (r : State) (h : Good W r a1) : Good W r (sessRefuse a0 a1) := by
  unfold sessRefuse
  dsimp only
  repeat' first
    | with_reducible assumption | with_reducible apply record_good | with_reducible apply raise_good | with_reducible apply modSess_good
    | with_reducible apply sessNone_good
    | intro _ | with_reducible apply Good.ite | split | with_reducible apply Good.fold | with_reducible apply Good.mk'

theorem execVerifyComplete_good {W : Group → Prop} (a0 : SessIface) (a1 : State) (r t : State) (h : Good W r a1) (e : execVerifyComplete a0 a1 = .next
    t) : Good W r t := by
  unfold execVerifyComplete at e
  refine act_good _ _ _ _ h (fun s h => ?_) e
  repeat' first
    | with_reducible assumption | with_reducible apply tellResult_good | with_reducible apply sessSlot_good | with_reducible apply sessOpen_good
    | with_reducible apply sessRefuse_good
    | with_reducible apply Good.ite | exact ⟨h.1⟩

theorem sessClose_good {W : Group → Prop} (a0 : SessIface) (a1 : State) (r : State) (h : Good W r a1) : Good W r (sessClose a0 a1) := by
  unfold sessClose
  repeat' first
    | with_reducible assumption | with_reducible apply sessRes_good | with_reducible apply sessNone_good
    | with_reducible apply Good.ite | exact ⟨h.1⟩

theorem execClose_good {W : Group → Prop} (a0 : State) (r t : State) (h : Good W r a0) (e : execClose a0 = .next t) : Good W r t := by
  unfold execClose at e
  refine act_good _ _ _ _ h (fun s h => ?_) e
  repeat' first
    | with_reducible assumption | with_reducible apply sessClose_good
    | with_reducible apply Good.ite | exact ⟨h.1⟩

theorem execSessionLeaseExpiry_good {W : Group → Prop} (a0 : SessIface) (a1 : State) (r t : State) (h : Good W r a1) (e : execSessionLeaseExpiry a0 a1
    = .next t) : Good W r t := by
  unfold execSessionLeaseExpiry at e
  refine act_good _ _ _ _ h (fun s h => ?_) e
  repeat' first
    | with_reducible assumption | with_reducible apply sessNone_good
    | with_reducible apply Good.ite | exact ⟨h.1⟩

theorem execLockoutEnd_good {W : Group → Prop} (a0 : SessIface) (a1 : State) (r t : State) (h : Good W r a1) (e : execLockoutEnd a0 a1 = .next t) :
    Good W r t := by
  unfold execLockoutEnd at e
  refine act_good _ _ _ _ h (fun s h => ?_) e
  clear e
  repeat' first
    | with_reducible assumption | with_reducible apply modSess_good
    | (with_reducible apply Good.foldl; intro _ _ _) | intro _
    | with_reducible apply Good.ite | split
    | with_reducible apply Good.fold | (with_reducible apply Good.mk'; try dsimp only)

theorem authStep_good {W : Group → Prop} (a0 : State) (r : State) (h : Good W r a0) : Good W r (authStep a0) := ⟨h.1⟩

theorem authWrite_good {W : Group → Prop} (a0 : Word) (a1 : State) (r : State) (h : Good W r a1) : Good W r (authWrite a0 a1) := by
  unfold authWrite
  repeat' first
    | with_reducible assumption
    | with_reducible apply modSess_good
    | with_reducible apply authStep_good
    | (extract_lets +onlyGivenNames z; first
        | (refine (fun (hz : Good W r z) => ?_) ?_; (on_goal 1 => clear_value z); (on_goal 2 => (dsimp -zeta only [z]; clear z)))
        | (refine (fun (hz : Good W r z.1) => ?_) ?_; (on_goal 1 => clear_value z); (on_goal 2 => (dsimp -zeta only [z]; clear z)))
        | (refine (fun (hz : Good W r z.2) => ?_) ?_; (on_goal 1 => clear_value z); (on_goal 2 => (dsimp -zeta only [z]; clear z)))
        | (have _q : Nat := z; clear _q; clear_value z) | (have _q : Bool := z; clear _q; clear_value z)
        | (have _q : Word := z; clear _q; clear_value z) | (have _q : Record := z; clear _q; clear_value z)
        | (try dsimp -zeta only [z]; clear z))
    | with_reducible exact id
    | with_reducible exact fun _ w => w
    | with_reducible exact fun _ _ => memWf_nil _
    | with_reducible exact memPutWord_wf
    | with_reducible exact memWriteList_wf
    | with_reducible exact memErase_wf
    | with_reducible exact memWriteList_wf (memWf_nil _)
    | with_reducible exact stgRegs_wf _ _ _
    | with_reducible exact fun _ => memWf_nil _
    | (with_reducible apply Good.foldl; intro _ _ _)
    | (with_reducible apply Good.foldl_fst; intro _ _ _)
    | intro _
    | with_reducible apply Good.ite
    | with_reducible apply Good.ite_fst
    | split
    | with_reducible apply Good.fold
    | (with_reducible apply Good.mk'; try dsimp only)
    | dsimp only
    | simp only [rngLost_buf, stgLimp_buf, endSession9_buf, trlOff_buf, trlOn_buf, stgEmpty_buf, trlOff_same, trlOn_same, adcStop_same, stgLimp_same]
    | with_reducible apply Good.fold_cry
    | with_reducible apply Good.fold_spi
    | with_reducible apply Good.fold_trl
    | with_reducible apply Good.fold_stg
    | with_reducible apply Good.fold_mem
    | with_reducible apply Good.fold_held
    | with_reducible apply Good.fold_fls
    | with_reducible apply Good.fold_bank0
    | with_reducible apply Good.fold_bank1
    | (with_reducible apply Good.fold_clock)
    | (with_reducible apply Good.fold_badWords)
    | (with_reducible apply Good.fold_crystal)
    | (with_reducible apply Good.fold_verdict)
    | (with_reducible apply Good.fold_staged)
    | (with_reducible apply Good.fold_applied)
    | (with_reducible apply Good.fold_timing)
    | (with_reducible apply Good.fold_address)
    | (with_reducible apply Good.fold_expiry)
    | (with_reducible apply Good.fold_question)
    | (with_reducible apply Good.fold_life)
    | (with_reducible apply Good.fold_arming)
    | (with_reducible apply Good.fold_flashOp)
    | (with_reducible apply Good.fold_rng)
    | (with_reducible apply Good.fold_diag)
    | (with_reducible apply Good.fold_failed)
    | (with_reducible apply Good.fold_button)
    | (with_reducible apply Good.fold_ship)
    | (with_reducible apply Good.fold_changeover)
    | (with_reducible apply Good.fold_graft)
    | (with_reducible apply Good.fold_irq)
    | (with_reducible apply Good.fold_lastEvent)
    | (with_reducible apply Good.fold_powered)
    | (with_reducible apply Good.fold_inputs)
    | (with_reducible apply Good.fold_wakeCause)
    | (with_reducible apply Good.fold_settings)
    | (refine Good.gen (by with_reducible assumption) rfl rfl rfl ?_ ?_ ?_ ?_ ?_ ?_ ?_ ?_ ?_ ?_ ?_ ?_ ?_ ?_ ?_ ?_ ?_ ?_ ?_ ?_ ?_ ?_ ?_ ?_ ?_ ?_ ?_ ?_ ?_ ?_ ?_ <;> first | exact .inl (by assumption) | exact .inr rfl | exact .inr ⟨rfl, rfl⟩ | exact id | skip)


theorem execSpiAuthDataAccess_good {W : Group → Prop} (a0 : Option Word) (a1 : State) (r t : State) (h : Good W r a1) (e : execSpiAuthDataAccess a0 a1
    = .next t) : Good W r t := by
  unfold execSpiAuthDataAccess at e
  refine act_good _ _ _ _ h (fun s h => ?_) e
  clear e
  repeat' first
    | with_reducible assumption | with_reducible apply authStep_good | with_reducible apply authWrite_good
    | (with_reducible apply Good.foldl; intro _ _ _) | intro _
    | with_reducible apply Good.ite | split
    | with_reducible apply Good.fold | (with_reducible apply Good.mk'; try dsimp only)

theorem authOp_good {W : Group → Prop} (a0 : Nat) (a1 : Nat) (a2 : AuthOp) (a3 : State) (r : State) (h : Good W r a3) : Good W r (authOp a0 a1 a2 a3)
    := by
  unfold authOp
  repeat' first
    | with_reducible assumption
    | with_reducible apply modSess_good
    | with_reducible apply sessRes_good
    | with_reducible apply authResult_good
    | with_reducible apply sessRequest_good
    | with_reducible apply sessVerify_good
    | with_reducible apply sessClose_good
    | (extract_lets +onlyGivenNames z; first
        | (refine (fun (hz : Good W r z) => ?_) ?_; (on_goal 1 => clear_value z); (on_goal 2 => (dsimp -zeta only [z]; clear z)))
        | (refine (fun (hz : Good W r z.1) => ?_) ?_; (on_goal 1 => clear_value z); (on_goal 2 => (dsimp -zeta only [z]; clear z)))
        | (refine (fun (hz : Good W r z.2) => ?_) ?_; (on_goal 1 => clear_value z); (on_goal 2 => (dsimp -zeta only [z]; clear z)))
        | (have _q : Nat := z; clear _q; clear_value z) | (have _q : Bool := z; clear _q; clear_value z)
        | (have _q : Word := z; clear _q; clear_value z) | (have _q : Record := z; clear _q; clear_value z)
        | (try dsimp -zeta only [z]; clear z))
    | with_reducible exact id
    | with_reducible exact fun _ w => w
    | with_reducible exact fun _ _ => memWf_nil _
    | with_reducible exact memPutWord_wf
    | with_reducible exact memWriteList_wf
    | with_reducible exact memErase_wf
    | with_reducible exact memWriteList_wf (memWf_nil _)
    | with_reducible exact stgRegs_wf _ _ _
    | with_reducible exact fun _ => memWf_nil _
    | (with_reducible apply Good.foldl; intro _ _ _)
    | (with_reducible apply Good.foldl_fst; intro _ _ _)
    | intro _
    | with_reducible apply Good.ite
    | with_reducible apply Good.ite_fst
    | split
    | with_reducible apply Good.fold
    | (with_reducible apply Good.mk'; try dsimp only)
    | dsimp only
    | simp only [rngLost_buf, stgLimp_buf, endSession9_buf, trlOff_buf, trlOn_buf, stgEmpty_buf, trlOff_same, trlOn_same, adcStop_same, stgLimp_same]
    | with_reducible apply Good.fold_cry
    | with_reducible apply Good.fold_spi
    | with_reducible apply Good.fold_trl
    | with_reducible apply Good.fold_stg
    | with_reducible apply Good.fold_mem
    | with_reducible apply Good.fold_held
    | with_reducible apply Good.fold_fls
    | with_reducible apply Good.fold_bank0
    | with_reducible apply Good.fold_bank1
    | (with_reducible apply Good.fold_clock)
    | (with_reducible apply Good.fold_badWords)
    | (with_reducible apply Good.fold_crystal)
    | (with_reducible apply Good.fold_verdict)
    | (with_reducible apply Good.fold_staged)
    | (with_reducible apply Good.fold_applied)
    | (with_reducible apply Good.fold_timing)
    | (with_reducible apply Good.fold_address)
    | (with_reducible apply Good.fold_expiry)
    | (with_reducible apply Good.fold_question)
    | (with_reducible apply Good.fold_life)
    | (with_reducible apply Good.fold_arming)
    | (with_reducible apply Good.fold_flashOp)
    | (with_reducible apply Good.fold_rng)
    | (with_reducible apply Good.fold_diag)
    | (with_reducible apply Good.fold_failed)
    | (with_reducible apply Good.fold_button)
    | (with_reducible apply Good.fold_ship)
    | (with_reducible apply Good.fold_changeover)
    | (with_reducible apply Good.fold_graft)
    | (with_reducible apply Good.fold_irq)
    | (with_reducible apply Good.fold_lastEvent)
    | (with_reducible apply Good.fold_powered)
    | (with_reducible apply Good.fold_inputs)
    | (with_reducible apply Good.fold_wakeCause)
    | (with_reducible apply Good.fold_settings)
    | (refine Good.gen (by with_reducible assumption) rfl rfl rfl ?_ ?_ ?_ ?_ ?_ ?_ ?_ ?_ ?_ ?_ ?_ ?_ ?_ ?_ ?_ ?_ ?_ ?_ ?_ ?_ ?_ ?_ ?_ ?_ ?_ ?_ ?_ ?_ ?_ ?_ ?_ <;> first | exact .inl (by assumption) | exact .inr rfl | exact .inr ⟨rfl, rfl⟩ | exact id | skip)


theorem execAuth_good {W : Group → Prop} (a0 : Via) (a1 : Nat) (a2 : AuthOp) (a3 : State) (r t : State) (h : Good W r a3) (e : execAuth a0 a1 a2 a3 =
    .next t) : Good W r t := by
  unfold execAuth at e
  refine act_good _ _ _ _ h (fun s h => ?_) e
  clear e
  repeat' first
    | with_reducible assumption | with_reducible apply consume_good | with_reducible apply authOp_good
    | (with_reducible apply Good.foldl; intro _ _ _) | intro _
    | with_reducible apply Good.ite | split
    | with_reducible apply Good.fold | (with_reducible apply Good.mk'; try dsimp only)

end Sys2Proof.Laws
end

