-- ==== Sys2Proof/Laws/KeepsUpdate.lean ====
section
/-! SUPPORT. What the Graft, flash, watchdog and fault rows keep: `Good W r` of a state passes to the state
the operation makes, for every `W` that allows the groups the operation writes. -/

open Sys2Proof.Machine

namespace Sys2Proof.Laws
set_option Elab.async false
set_option linter.all false

theorem putChunk_good {W : Group → Prop} (a0 : Nat) (a1 : List Byte) (a2 : State) (r : State) (h : Good W r a2) (_ : W .cellar := by assumption) (_ :
    W .flash := by assumption) : Good W r (putChunk a0 a1 a2) := by
  unfold putChunk
  repeat' first
    | with_reducible assumption | with_reducible apply flashPut_good | with_reducible apply sectorErase_good | with_reducible apply putChunkBit_good
    | (with_reducible apply Good.foldl; intro _ _ _) | intro _
    | with_reducible apply Good.ite | split
    | with_reducible apply Good.fold | (with_reducible apply Good.mk'; try dsimp only) | with_reducible apply Good.fold_mem
    | with_reducible apply Good.fold_bank0 | with_reducible apply Good.fold_bank1

theorem tidyHeld_good {W : Group → Prop} (a0 : State) (r : State) (h : Good W r a0) (_ : W .cellar := by assumption) : Good W r (tidyHeld a0) := by
  unfold tidyHeld
  repeat' first
    | with_reducible assumption | with_reducible apply saveState_good
    | with_reducible apply Good.ite | exact ⟨h.1⟩

theorem storeOne_good {W : Group → Prop} (a0 : Nat) (a1 : List Byte) (a2 : State) (r : State) (h : Good W r a2) (_ : W .cellar := by assumption) (_ :
    W .flash := by assumption) : Good W r (storeOne a0 a1 a2) := by
  unfold storeOne
  repeat' first
    | with_reducible assumption | with_reducible apply putChunk_good | with_reducible apply tidyHeld_good
    | with_reducible apply Good.ite | exact ⟨h.1⟩

theorem refuseGraft_good {W : Group → Prop} (a0 : Nat) (a1 : Nat) (a2 : State) (r : State) (h : Good W r a2) (_ : W .cellar := by assumption) : Good W
    r (refuseGraft a0 a1 a2) := by
  unfold refuseGraft
  repeat' first
    | with_reducible assumption | with_reducible apply saveState_good | with_reducible apply clearBitmap_good
    | with_reducible apply Good.ite | exact ⟨h.1⟩

theorem execManifestComplete_good {W : Group → Prop} (a0 : State) (r t : State) (h : Good W r a0) (e : execManifestComplete a0 = .next t) (_ : W
    .cellar := by assumption) : Good W r t := by
  unfold execManifestComplete at e
  refine act_good _ _ _ _ h (fun s h => ?_) e
  repeat' first
    | with_reducible assumption | with_reducible apply saveState_good | with_reducible apply tidyHeld_good | with_reducible apply refuseGraft_good
    | with_reducible apply Good.ite | exact ⟨h.1⟩

theorem startGraft_good {W : Group → Prop} (a0 : BitVec 64) (a1 : Nat) (a2 : Nat) (a3 : State) (r : State) (h : Good W r a3) (_ : W .cellar := by
    assumption) (_ : W .graft := by assumption) : Good W r (startGraft a0 a1 a2 a3) := by
  unfold startGraft
  repeat' first
    | with_reducible assumption | with_reducible apply saveGraftHeader_good | with_reducible apply saveState_good
    | with_reducible apply clearBitmap_good
    | (with_reducible apply Good.foldl; intro _ _ _) | intro _
    | with_reducible apply Good.ite | split
    | with_reducible apply Good.fold | (with_reducible apply Good.mk'; try dsimp only) | with_reducible apply Good.fold_mem
    | with_reducible apply Good.fold_graft

theorem graftSend_good {W : Group → Prop} (a0 : TrlPort) (a1 : Nat) (a2 : Nat) (a3 : Nat) (a4 : List Byte) (a5 : State) (r : State) (h : Good W r a5)
    : Good W r (graftSend a0 a1 a2 a3 a4 a5) := by
  unfold graftSend
  repeat' first
    | with_reducible assumption | with_reducible apply enqueue_good
    | with_reducible apply Good.ite | exact ⟨h.1⟩

theorem sendWant_good {W : Group → Prop} (a0 : State) (r : State) (h : Good W r a0) : Good W r (sendWant a0) := by
  unfold sendWant
  dsimp only
  repeat' first
    | with_reducible assumption | with_reducible apply graftSend_good
    | intro _ | with_reducible apply Good.ite | split | with_reducible apply Good.fold | with_reducible apply Good.mk'

theorem dropWindow_good {W : Group → Prop} (a0 : Nat) (a1 : State) (r : State) (h : Good W r a1) : Good W r (dropWindow a0 a1) := by
  unfold dropWindow
  dsimp only
  repeat' first
    | with_reducible assumption
    | intro _ | with_reducible apply Good.ite | split | with_reducible apply Good.fold | with_reducible apply Good.mk'

theorem heardOffer_good {W : Group → Prop} (a0 : TrlPort) (a1 : Nat) (a2 : GraftOffer) (a3 : State) (r : State) (h : Good W r a3) (_ : W .cellar := by
    assumption) (_ : W .graft := by assumption) : Good W r (heardOffer a0 a1 a2 a3) := by
  unfold heardOffer
  dsimp only
  repeat' first
    | with_reducible assumption | with_reducible apply startGraft_good | with_reducible apply sendWant_good | with_reducible apply dropWindow_good
    | intro _ | with_reducible apply Good.ite | split | with_reducible apply Good.fold | with_reducible apply Good.mk'

theorem execGraftOffer_good {W : Group → Prop} (a0 : Via) (a1 : Nat) (a2 : GraftOffer) (a3 : State) (r t : State) (h : Good W r a3) (e :
    execGraftOffer a0 a1 a2 a3 = .next t) (_ : W .cellar := by assumption) (_ : W .graft := by assumption) : Good W r t := by
  unfold execGraftOffer at e
  refine act_good _ _ _ _ h (fun s h => ?_) e
  clear e
  repeat' first
    | with_reducible assumption | with_reducible apply consume_good | with_reducible apply heardOffer_good
    | (with_reducible apply Good.foldl; intro _ _ _) | intro _
    | with_reducible apply Good.ite | split
    | with_reducible apply Good.fold | (with_reducible apply Good.mk'; try dsimp only) | with_reducible apply Good.fold_mem
    | with_reducible apply Good.fold_graft

theorem heardWant_good {W : Group → Prop} (a0 : TrlPort) (a1 : Nat) (a2 : BitVec 64) (a3 : Nat) (a4 : Nat) (a5 : State) (r : State) (h : Good W r a5)
    : Good W r (heardWant a0 a1 a2 a3 a4 a5) := by
  unfold heardWant
  repeat' first
    | with_reducible assumption | with_reducible apply graftSend_good | with_reducible apply dropWindow_good
    | (with_reducible apply Good.foldl; intro _ _ _) | intro _
    | with_reducible apply Good.ite | split
    | with_reducible apply Good.fold | (with_reducible apply Good.mk'; try dsimp only)

theorem execGraftWant_good {W : Group → Prop} (a0 : Via) (a1 : Nat) (a2 : BitVec 64) (a3 : Nat) (a4 : Nat) (a5 : State) (r t : State) (h : Good W r
    a5) (e : execGraftWant a0 a1 a2 a3 a4 a5 = .next t) : Good W r t := by
  unfold execGraftWant at e
  refine act_good _ _ _ _ h (fun s h => ?_) e
  clear e
  repeat' first
    | with_reducible assumption | with_reducible apply consume_good | with_reducible apply heardWant_good
    | (with_reducible apply Good.foldl; intro _ _ _) | intro _
    | with_reducible apply Good.ite | split
    | with_reducible apply Good.fold | (with_reducible apply Good.mk'; try dsimp only)

theorem heardWindow_good {W : Group → Prop} (a0 : TrlPort) (a1 : Nat) (a2 : GraftWin) (a3 : State) (r : State) (h : Good W r a3) : Good W r
    (heardWindow a0 a1 a2 a3) := by
  unfold heardWindow
  dsimp only
  repeat' first
    | with_reducible assumption | with_reducible apply dropWindow_good
    | intro _ | with_reducible apply Good.ite | split | with_reducible apply Good.fold | with_reducible apply Good.mk'

theorem execGraftWindow_good {W : Group → Prop} (a0 : Via) (a1 : Nat) (a2 : GraftWin) (a3 : State) (r t : State) (h : Good W r a3) (e :
    execGraftWindow a0 a1 a2 a3 = .next t) : Good W r t := by
  unfold execGraftWindow at e
  refine act_good _ _ _ _ h (fun s h => ?_) e
  clear e
  repeat' first
    | with_reducible assumption | with_reducible apply consume_good | with_reducible apply heardWindow_good
    | (with_reducible apply Good.foldl; intro _ _ _) | intro _
    | with_reducible apply Good.ite | split
    | with_reducible apply Good.fold | (with_reducible apply Good.mk'; try dsimp only)

theorem heardChunk_good {W : Group → Prop} (a0 : TrlPort) (a1 : Nat) (a2 : List Byte) (a3 : State) (r : State) (h : Good W r a3) : Good W r
    (heardChunk a0 a1 a2 a3) := by
  unfold heardChunk
  dsimp only
  repeat' first
    | with_reducible assumption | with_reducible apply dropWindow_good
    | intro _ | with_reducible apply Good.ite | split | with_reducible apply Good.fold | with_reducible apply Good.mk'

theorem execGraftChunk_good {W : Group → Prop} (a0 : Via) (a1 : Nat) (a2 : List Byte) (a3 : State) (r t : State) (h : Good W r a3) (e : execGraftChunk
    a0 a1 a2 a3 = .next t) : Good W r t := by
  unfold execGraftChunk at e
  refine act_good _ _ _ _ h (fun s h => ?_) e
  clear e
  repeat' first
    | with_reducible assumption | with_reducible apply consume_good | with_reducible apply heardChunk_good
    | (with_reducible apply Good.foldl; intro _ _ _) | intro _
    | with_reducible apply Good.ite | split
    | with_reducible apply Good.fold | (with_reducible apply Good.mk'; try dsimp only)

theorem storeWindow_good {W : Group → Prop} (cs : List (List Byte)) (k : Nat) (s : State) (r : State) (h : Good W r s) (_ : W .cellar := by
    assumption) (_ : W .flash := by assumption) : Good W r (storeWindow cs k s) := by
  induction cs generalizing k s with
  | nil => exact h
  | cons c cs ih => exact ih _ _ (Good.ite (storeOne_good _ _ _ _ h) h)

theorem execGraftWindowComplete_good {W : Group → Prop} (a0 : State) (r t : State) (h : Good W r a0) (e : execGraftWindowComplete a0 = .next t) (_ : W
    .cellar := by assumption) (_ : W .flash := by assumption) : Good W r t := by
  unfold execGraftWindowComplete at e
  refine act_good _ _ _ _ h (fun s h => ?_) e
  dsimp only
  repeat' first
    | with_reducible assumption | with_reducible apply sendWant_good | with_reducible apply storeWindow_good
    | intro _ | with_reducible apply Good.ite | split | with_reducible apply Good.fold | with_reducible apply Good.mk'

theorem execGraftWindowTimeout_good {W : Group → Prop} (a0 : State) (r t : State) (h : Good W r a0) (e : execGraftWindowTimeout a0 = .next t) : Good W
    r t := by
  unfold execGraftWindowTimeout at e
  refine act_good _ _ _ _ h (fun s h => ?_) e
  dsimp only
  repeat' first
    | with_reducible assumption
    | intro _ | with_reducible apply Good.ite | split | with_reducible apply Good.fold | with_reducible apply Good.mk'

theorem offerTo_good {W : Group → Prop} (a0 : TrlPort) (a1 : State) (r : State) (h : Good W r a1) : Good W r (offerTo a0 a1) := by
  unfold offerTo
  repeat' first
    | with_reducible assumption | with_reducible apply graftSend_good
    | with_reducible apply Good.ite | exact ⟨h.1⟩

theorem execGraftOfferSend_good {W : Group → Prop} (a0 : State) (r t : State) (h : Good W r a0) (e : execGraftOfferSend a0 = .next t) : Good W r t :=
    by
  unfold execGraftOfferSend at e
  refine act_good _ _ _ _ h (fun s h => ?_) e
  repeat' first
    | with_reducible assumption | with_reducible apply offerTo_good
    | with_reducible apply Good.ite | exact ⟨h.1⟩

theorem execGraftWantRepeat_good {W : Group → Prop} (a0 : State) (r t : State) (h : Good W r a0) (e : execGraftWantRepeat a0 = .next t) : Good W r t
    := by
  unfold execGraftWantRepeat at e
  refine act_good _ _ _ _ h (fun s h => ?_) e
  repeat' first
    | with_reducible assumption | with_reducible apply sendWant_good
    | with_reducible apply Good.ite | exact ⟨h.1⟩

theorem updRes_good {W : Group → Prop} (a0 : Nat) (a1 : Nat) (a2 : State) (r : State) (h : Good W r a2) : Good W r (updRes a0 a1 a2) := ⟨h.1⟩

theorem hxIdxWrite_good {W : Group → Prop} (a0 : Agent) (a1 : Word) (a2 : State) (r : State) (h : Good W r a2) : Good W r (hxIdxWrite a0 a1 a2) :=
    ⟨h.1⟩

theorem execUpdHxIdxWrite_good {W : Group → Prop} (a0 : Agent) (a1 : Word) (a2 : State) (r t : State) (h : Good W r a2) (e : execUpdHxIdxWrite a0 a1
    a2 = .next t) : Good W r t := by
  unfold execUpdHxIdxWrite at e
  refine act_good _ _ _ _ h (fun s h => ?_) e
  exact ⟨h.1⟩

theorem hxDataWrite_good {W : Group → Prop} (a0 : Agent) (a1 : Word) (a2 : State) (r : State) (h : Good W r a2) : Good W r (hxDataWrite a0 a1 a2) :=
    ⟨h.1⟩

theorem execUpdHxDataWrite_good {W : Group → Prop} (a0 : Agent) (a1 : Word) (a2 : State) (r t : State) (h : Good W r a2) (e : execUpdHxDataWrite a0 a1
    a2 = .next t) : Good W r t := by
  unfold execUpdHxDataWrite at e
  refine act_good _ _ _ _ h (fun s h => ?_) e
  exact ⟨h.1⟩

theorem updStore_good {W : Group → Prop} (a0 : Agent) (a1 : State) (r : State) (h : Good W r a1) (_ : W .cellar := by assumption) (_ : W .flash := by
    assumption) (_ : W .graft := by assumption) : Good W r (updStore a0 a1) := by
  unfold updStore
  repeat' first
    | with_reducible assumption | with_reducible apply storeOne_good | with_reducible apply startGraft_good | with_reducible apply updRes_good
    | with_reducible apply Good.ite | exact ⟨h.1⟩

theorem execStoreChunk_good {W : Group → Prop} (a0 : Agent) (a1 : State) (r t : State) (h : Good W r a1) (e : execStoreChunk a0 a1 = .next t) (_ : W
    .cellar := by assumption) (_ : W .flash := by assumption) (_ : W .graft := by assumption) : Good W r t := by
  unfold execStoreChunk at e
  refine act_good _ _ _ _ h (fun s h => ?_) e
  repeat' first
    | with_reducible assumption | with_reducible apply updStore_good
    | with_reducible apply Good.ite | exact ⟨h.1⟩

theorem refetch_good {W : Group → Prop} (a0 : Nat) (a1 : State) (r : State) (h : Good W r a1) (_ : W .cellar := by assumption) : Good W r (refetch a0
    a1) := by
  unfold refetch
  repeat' first
    | with_reducible assumption | with_reducible apply putChunkBit_good
    | (with_reducible apply Good.foldl; intro _ _ _) | intro _
    | with_reducible apply Good.ite | split
    | with_reducible apply Good.fold | (with_reducible apply Good.mk'; try dsimp only) | with_reducible apply Good.fold_mem

theorem verified_good {W : Group → Prop} (a0 : State) (r : State) (h : Good W r a0) (_ : W .cellar := by assumption) : Good W r (verified a0) := by
  unfold verified
  repeat' first
    | with_reducible assumption | with_reducible apply raise_good | with_reducible apply saveState_good | with_reducible apply refuseGraft_good
    | with_reducible apply sendWant_good | with_reducible apply refetch_good
    | with_reducible apply Good.ite | exact ⟨h.1⟩

theorem execGraftVerify_good {W : Group → Prop} (s : State) (r t : State) (h : Good W r s) (e : execGraftVerify s = .next t) (_ : W .cellar := by
    assumption) : Good W r t := by
  unfold execGraftVerify at e
  refine act_good _ _ _ _ h (fun s h => ?_) e
  have k : Good W r (acquire 2 s).2 := acquire_good _ _ _ h
  refine Good.ite h ?_
  extract_lets x
  change Good W r x.2 at k
  clear_value x
  exact Good.ite (verified_good _ _ (releaseSlot_good _ _ _ (Good.ite (Good.mk' (Good.fold k)) k))) k

theorem updDiscard_good {W : Group → Prop} (a0 : State) (r : State) (h : Good W r a0) (_ : W .cellar := by assumption) (_ : W .graft := by assumption)
    : Good W r (updDiscard a0) := by
  unfold updDiscard
  repeat' first
    | with_reducible assumption | with_reducible apply saveActivation_good | with_reducible apply saveState_good
    | with_reducible apply clearBitmap_good | with_reducible apply updRes_good
    | (with_reducible apply Good.foldl; intro _ _ _) | intro _
    | with_reducible apply Good.ite | split
    | with_reducible apply Good.fold | (with_reducible apply Good.mk'; try dsimp only) | with_reducible apply Good.fold_mem
    | with_reducible apply Good.fold_graft

theorem execDiscard_good {W : Group → Prop} (a0 : State) (r t : State) (h : Good W r a0) (e : execDiscard a0 = .next t) (_ : W .cellar := by
    assumption) (_ : W .graft := by assumption) : Good W r t := by
  unfold execDiscard at e
  refine act_good _ _ _ _ h (fun s h => ?_) e
  repeat' first
    | with_reducible assumption | with_reducible apply updDiscard_good
    | with_reducible apply Good.ite | exact ⟨h.1⟩

theorem saveAct_good {W : Group → Prop} (a0 : State) (r : State) (h : Good W r a0) (_ : W .cellar := by assumption) : Good W r (saveAct a0) := by
  unfold saveAct
  repeat' first
    | with_reducible assumption | with_reducible apply saveActivation_good | with_reducible apply saveState_good
    | with_reducible apply Good.ite | exact ⟨h.1⟩

theorem swapBank_good {W : Group → Prop} (a0 : Bool) (a1 : State) (r : State) (h : Good W r a1) (_ : W .cellar := by assumption) (_ : W .settings :=
    by assumption) : Good W r (swapBank a0 a1) := by
  unfold swapBank
  repeat' first
    | with_reducible assumption | with_reducible apply saveBank_good
    | (with_reducible apply Good.foldl; intro _ _ _) | intro _
    | with_reducible apply Good.ite | split
    | with_reducible apply Good.fold | (with_reducible apply Good.mk'; try dsimp only) | with_reducible apply Good.fold_mem
    | with_reducible apply Good.fold_settings

theorem finishRepair_good {W : Group → Prop} (a0 : State) (r : State) (h : Good W r a0) (_ : W .cellar := by assumption) (_ : W .flash := by
    assumption) (_ : W .image := by assumption) (_ : W .page := by assumption) (_ : W .powered := by assumption) (_ : W .settings := by assumption) (_
    : W .clock := by assumption) (_ : W .badWords := by assumption) (_ : W .crystal := by assumption) (_ : W .verdict := by assumption) (_ : W .staged
    := by assumption) (_ : W .applied := by assumption) (_ : W .timing := by assumption) (_ : W .address := by assumption) (_ : W .expiry := by
    assumption) (_ : W .question := by assumption) (_ : W .life := by assumption) (_ : W .arming := by assumption) (_ : W .flashOp := by assumption)
    (_ : W .rng := by assumption) (_ : W .diag := by assumption) (_ : W .failed := by assumption) (_ : W .button := by assumption) (_ : W .ship := by
    assumption) (_ : W .changeover := by assumption) (_ : W .graft := by assumption) (_ : W .irq := by assumption) (_ : W .lastEvent := by assumption)
    : Good W r (finishRepair a0) := by
  unfold finishRepair
  repeat' first
    | with_reducible assumption | with_reducible apply queueRecord_good | with_reducible apply limpEntry_good
    | with_reducible apply flushQueue_good | with_reducible apply endActivation_good | with_reducible apply coldState_good
    | (with_reducible apply Good.foldl; intro _ _ _) | intro _
    | with_reducible apply Good.ite | split
    | with_reducible apply Good.fold | (with_reducible apply Good.mk'; try dsimp only) | with_reducible apply Good.fold_mem
    | with_reducible apply Good.fold_bank0 | with_reducible apply Good.fold_bank1 | with_reducible apply Good.fold_stg
    | with_reducible apply Good.fold_fls | with_reducible apply Good.fold_powered | with_reducible apply Good.fold_settings
    | with_reducible apply Good.fold_clock | with_reducible apply Good.fold_badWords | with_reducible apply Good.fold_crystal
    | with_reducible apply Good.fold_verdict | with_reducible apply Good.fold_staged | with_reducible apply Good.fold_applied
    | with_reducible apply Good.fold_timing | with_reducible apply Good.fold_address | with_reducible apply Good.fold_expiry
    | with_reducible apply Good.fold_question | with_reducible apply Good.fold_life | with_reducible apply Good.fold_arming
    | with_reducible apply Good.fold_flashOp | with_reducible apply Good.fold_rng | with_reducible apply Good.fold_diag
    | with_reducible apply Good.fold_failed | with_reducible apply Good.fold_button | with_reducible apply Good.fold_ship
    | with_reducible apply Good.fold_changeover | with_reducible apply Good.fold_graft | with_reducible apply Good.fold_irq
    | with_reducible apply Good.fold_lastEvent

theorem enterStructure_good {W : Group → Prop} (a0 : State) (r : State) (h : Good W r a0) (_ : W .cellar := by assumption) (_ : W .flash := by
    assumption) (_ : W .image := by assumption) (_ : W .page := by assumption) (_ : W .powered := by assumption) (_ : W .settings := by assumption) (_
    : W .clock := by assumption) (_ : W .badWords := by assumption) (_ : W .crystal := by assumption) (_ : W .verdict := by assumption) (_ : W .staged
    := by assumption) (_ : W .applied := by assumption) (_ : W .timing := by assumption) (_ : W .address := by assumption) (_ : W .expiry := by
    assumption) (_ : W .question := by assumption) (_ : W .life := by assumption) (_ : W .arming := by assumption) (_ : W .flashOp := by assumption)
    (_ : W .rng := by assumption) (_ : W .diag := by assumption) (_ : W .failed := by assumption) (_ : W .button := by assumption) (_ : W .ship := by
    assumption) (_ : W .changeover := by assumption) (_ : W .graft := by assumption) (_ : W .irq := by assumption) (_ : W .lastEvent := by assumption)
    : Good W r (enterStructure a0) := by
  unfold enterStructure
  repeat' first
    | with_reducible assumption | with_reducible apply endActivation_good | with_reducible apply saveAct_good | with_reducible apply finishRepair_good
    | with_reducible apply Good.ite | exact ⟨h.1⟩

theorem repairMain_good {W : Group → Prop} (a0 : State) (r : State) (h : Good W r a0) (_ : W .cellar := by assumption) (_ : W .flash := by assumption)
    (_ : W .image := by assumption) (_ : W .page := by assumption) (_ : W .powered := by assumption) (_ : W .settings := by assumption) (_ : W .clock
    := by assumption) (_ : W .badWords := by assumption) (_ : W .crystal := by assumption) (_ : W .verdict := by assumption) (_ : W .staged := by
    assumption) (_ : W .applied := by assumption) (_ : W .timing := by assumption) (_ : W .address := by assumption) (_ : W .expiry := by assumption)
    (_ : W .question := by assumption) (_ : W .life := by assumption) (_ : W .arming := by assumption) (_ : W .flashOp := by assumption) (_ : W .rng
    := by assumption) (_ : W .diag := by assumption) (_ : W .failed := by assumption) (_ : W .button := by assumption) (_ : W .ship := by assumption)
    (_ : W .changeover := by assumption) (_ : W .graft := by assumption) (_ : W .irq := by assumption) (_ : W .lastEvent := by assumption) : Good W r
    (repairMain a0) := by
  unfold repairMain
  repeat' first
    | with_reducible assumption | with_reducible apply swapBank_good | with_reducible apply enterStructure_good
    | with_reducible apply Good.ite | exact ⟨h.1⟩

theorem enterCells_good {W : Group → Prop} (a0 : State) (r : State) (h : Good W r a0) (_ : W .cellar := by assumption) (_ : W .flash := by assumption)
    (_ : W .image := by assumption) (_ : W .page := by assumption) (_ : W .powered := by assumption) (_ : W .settings := by assumption) (_ : W .clock
    := by assumption) (_ : W .badWords := by assumption) (_ : W .crystal := by assumption) (_ : W .verdict := by assumption) (_ : W .staged := by
    assumption) (_ : W .applied := by assumption) (_ : W .timing := by assumption) (_ : W .address := by assumption) (_ : W .expiry := by assumption)
    (_ : W .question := by assumption) (_ : W .life := by assumption) (_ : W .arming := by assumption) (_ : W .flashOp := by assumption) (_ : W .rng
    := by assumption) (_ : W .diag := by assumption) (_ : W .failed := by assumption) (_ : W .button := by assumption) (_ : W .ship := by assumption)
    (_ : W .changeover := by assumption) (_ : W .graft := by assumption) (_ : W .irq := by assumption) (_ : W .lastEvent := by assumption) : Good W r
    (enterCells a0) := by
  unfold enterCells
  repeat' first
    | with_reducible assumption | with_reducible apply saveAct_good | with_reducible apply enterStructure_good | with_reducible apply repairMain_good
    | with_reducible apply Good.ite | exact ⟨h.1⟩

theorem enterMain_good {W : Group → Prop} (a0 : State) (r : State) (h : Good W r a0) (_ : W .cellar := by assumption) (_ : W .flash := by assumption)
    (_ : W .image := by assumption) (_ : W .page := by assumption) (_ : W .powered := by assumption) (_ : W .settings := by assumption) (_ : W .clock
    := by assumption) (_ : W .badWords := by assumption) (_ : W .crystal := by assumption) (_ : W .verdict := by assumption) (_ : W .staged := by
    assumption) (_ : W .applied := by assumption) (_ : W .timing := by assumption) (_ : W .address := by assumption) (_ : W .expiry := by assumption)
    (_ : W .question := by assumption) (_ : W .life := by assumption) (_ : W .arming := by assumption) (_ : W .flashOp := by assumption) (_ : W .rng
    := by assumption) (_ : W .diag := by assumption) (_ : W .failed := by assumption) (_ : W .button := by assumption) (_ : W .ship := by assumption)
    (_ : W .changeover := by assumption) (_ : W .graft := by assumption) (_ : W .irq := by assumption) (_ : W .lastEvent := by assumption) : Good W r
    (enterMain a0) := by
  unfold enterMain
  repeat' first
    | with_reducible assumption | with_reducible apply limpEntry_good | with_reducible apply saveAct_good | with_reducible apply swapBank_good
    | with_reducible apply enterCells_good
    | with_reducible apply Good.ite | exact ⟨h.1⟩

theorem refuseActivation_good {W : Group → Prop} (a0 : Nat) (a1 : State) (r : State) (h : Good W r a1) : Good W r (refuseActivation a0 a1) := ⟨h.1⟩

theorem activationGuard_good {W : Group → Prop} (a0 : State) (r : State) (h : Good W r a0) (_ : W .cellar := by assumption) (_ : W .flash := by
    assumption) (_ : W .image := by assumption) (_ : W .page := by assumption) (_ : W .powered := by assumption) (_ : W .settings := by assumption) (_
    : W .clock := by assumption) (_ : W .badWords := by assumption) (_ : W .crystal := by assumption) (_ : W .verdict := by assumption) (_ : W .staged
    := by assumption) (_ : W .applied := by assumption) (_ : W .timing := by assumption) (_ : W .address := by assumption) (_ : W .expiry := by
    assumption) (_ : W .question := by assumption) (_ : W .life := by assumption) (_ : W .arming := by assumption) (_ : W .flashOp := by assumption)
    (_ : W .rng := by assumption) (_ : W .diag := by assumption) (_ : W .failed := by assumption) (_ : W .button := by assumption) (_ : W .ship := by
    assumption) (_ : W .changeover := by assumption) (_ : W .graft := by assumption) (_ : W .irq := by assumption) (_ : W .lastEvent := by assumption)
    : Good W r (activationGuard a0) := by
  unfold activationGuard
  repeat' first
    | with_reducible assumption | with_reducible apply enterMain_good | with_reducible apply refuseActivation_good
    | with_reducible apply Good.ite | exact ⟨h.1⟩

theorem beginActivation_good {W : Group → Prop} (a0 : Bool) (a1 : State) (r : State) (h : Good W r a1) (_ : W .cellar := by assumption) (_ : W .flash
    := by assumption) (_ : W .image := by assumption) (_ : W .page := by assumption) (_ : W .powered := by assumption) (_ : W .settings := by
    assumption) (_ : W .clock := by assumption) (_ : W .badWords := by assumption) (_ : W .crystal := by assumption) (_ : W .verdict := by assumption)
    (_ : W .staged := by assumption) (_ : W .applied := by assumption) (_ : W .timing := by assumption) (_ : W .address := by assumption) (_ : W
    .expiry := by assumption) (_ : W .question := by assumption) (_ : W .life := by assumption) (_ : W .arming := by assumption) (_ : W .flashOp := by
    assumption) (_ : W .rng := by assumption) (_ : W .diag := by assumption) (_ : W .failed := by assumption) (_ : W .button := by assumption) (_ : W
    .ship := by assumption) (_ : W .changeover := by assumption) (_ : W .graft := by assumption) (_ : W .irq := by assumption) (_ : W .lastEvent := by
    assumption) : Good W r (beginActivation a0 a1) := by
  unfold beginActivation
  repeat' first
    | with_reducible assumption | with_reducible apply activationGuard_good
    | with_reducible apply Good.ite | exact ⟨h.1⟩

theorem updActivate_good {W : Group → Prop} (a0 : State) (r : State) (h : Good W r a0) (_ : W .cellar := by assumption) (_ : W .flash := by
    assumption) (_ : W .image := by assumption) (_ : W .page := by assumption) (_ : W .powered := by assumption) (_ : W .settings := by assumption) (_
    : W .clock := by assumption) (_ : W .badWords := by assumption) (_ : W .crystal := by assumption) (_ : W .verdict := by assumption) (_ : W .staged
    := by assumption) (_ : W .applied := by assumption) (_ : W .timing := by assumption) (_ : W .address := by assumption) (_ : W .expiry := by
    assumption) (_ : W .question := by assumption) (_ : W .life := by assumption) (_ : W .arming := by assumption) (_ : W .flashOp := by assumption)
    (_ : W .rng := by assumption) (_ : W .diag := by assumption) (_ : W .failed := by assumption) (_ : W .button := by assumption) (_ : W .ship := by
    assumption) (_ : W .changeover := by assumption) (_ : W .graft := by assumption) (_ : W .irq := by assumption) (_ : W .lastEvent := by assumption)
    : Good W r (updActivate a0) := by
  unfold updActivate
  repeat' first
    | with_reducible assumption | with_reducible apply updRes_good | with_reducible apply beginActivation_good
    | with_reducible apply Good.ite | exact ⟨h.1⟩

theorem execActivate_good {W : Group → Prop} (a0 : State) (r t : State) (h : Good W r a0) (e : execActivate a0 = .next t) (_ : W .cellar := by
    assumption) (_ : W .flash := by assumption) (_ : W .image := by assumption) (_ : W .page := by assumption) (_ : W .powered := by assumption) (_ :
    W .settings := by assumption) (_ : W .clock := by assumption) (_ : W .badWords := by assumption) (_ : W .crystal := by assumption) (_ : W .verdict
    := by assumption) (_ : W .staged := by assumption) (_ : W .applied := by assumption) (_ : W .timing := by assumption) (_ : W .address := by
    assumption) (_ : W .expiry := by assumption) (_ : W .question := by assumption) (_ : W .life := by assumption) (_ : W .arming := by assumption) (_
    : W .flashOp := by assumption) (_ : W .rng := by assumption) (_ : W .diag := by assumption) (_ : W .failed := by assumption) (_ : W .button := by
    assumption) (_ : W .ship := by assumption) (_ : W .changeover := by assumption) (_ : W .graft := by assumption) (_ : W .irq := by assumption) (_ :
    W .lastEvent := by assumption) : Good W r t := by
  unfold execActivate at e
  refine act_good _ _ _ _ h (fun s h => ?_) e
  repeat' first
    | with_reducible assumption | with_reducible apply updActivate_good
    | with_reducible apply Good.ite | exact ⟨h.1⟩

theorem updActivateAt_good {W : Group → Prop} (a0 : State) (r : State) (h : Good W r a0) (_ : W .cellar := by assumption) : Good W r (updActivateAt
    a0) := by
  unfold updActivateAt
  repeat' first
    | with_reducible assumption | with_reducible apply saveActivation_good | with_reducible apply updRes_good
    | with_reducible apply Good.ite | exact ⟨h.1⟩

theorem execActivateAt_good {W : Group → Prop} (a0 : State) (r t : State) (h : Good W r a0) (e : execActivateAt a0 = .next t) (_ : W .cellar := by
    assumption) : Good W r t := by
  unfold execActivateAt at e
  refine act_good _ _ _ _ h (fun s h => ?_) e
  repeat' first
    | with_reducible assumption | with_reducible apply updActivateAt_good
    | with_reducible apply Good.ite | exact ⟨h.1⟩

theorem updCancel_good {W : Group → Prop} (a0 : State) (r : State) (h : Good W r a0) (_ : W .cellar := by assumption) : Good W r (updCancel a0) := by
  unfold updCancel
  repeat' first
    | with_reducible assumption | with_reducible apply saveActivation_good | with_reducible apply updRes_good
    | with_reducible apply Good.ite | exact ⟨h.1⟩

theorem execCancelAct_good {W : Group → Prop} (a0 : State) (r t : State) (h : Good W r a0) (e : execCancelAct a0 = .next t) (_ : W .cellar := by
    assumption) : Good W r t := by
  unfold execCancelAct at e
  refine act_good _ _ _ _ h (fun s h => ?_) e
  repeat' first
    | with_reducible assumption | with_reducible apply updCancel_good
    | with_reducible apply Good.ite | exact ⟨h.1⟩

theorem execActivationTimeReached_good {W : Group → Prop} (a0 : State) (r t : State) (h : Good W r a0) (e : execActivationTimeReached a0 = .next t) (_
    : W .cellar := by assumption) (_ : W .flash := by assumption) (_ : W .image := by assumption) (_ : W .page := by assumption) (_ : W .powered := by
    assumption) (_ : W .settings := by assumption) (_ : W .clock := by assumption) (_ : W .badWords := by assumption) (_ : W .crystal := by
    assumption) (_ : W .verdict := by assumption) (_ : W .staged := by assumption) (_ : W .applied := by assumption) (_ : W .timing := by assumption)
    (_ : W .address := by assumption) (_ : W .expiry := by assumption) (_ : W .question := by assumption) (_ : W .life := by assumption) (_ : W
    .arming := by assumption) (_ : W .flashOp := by assumption) (_ : W .rng := by assumption) (_ : W .diag := by assumption) (_ : W .failed := by
    assumption) (_ : W .button := by assumption) (_ : W .ship := by assumption) (_ : W .changeover := by assumption) (_ : W .graft := by assumption)
    (_ : W .irq := by assumption) (_ : W .lastEvent := by assumption) : Good W r t := by
  unfold execActivationTimeReached at e
  refine act_good _ _ _ _ h (fun s h => ?_) e
  repeat' first
    | with_reducible assumption | with_reducible apply beginActivation_good
    | with_reducible apply Good.ite | exact ⟨h.1⟩

theorem execPeerGuardRecheck_good {W : Group → Prop} (a0 : State) (r t : State) (h : Good W r a0) (e : execPeerGuardRecheck a0 = .next t) (_ : W
    .cellar := by assumption) (_ : W .flash := by assumption) (_ : W .image := by assumption) (_ : W .page := by assumption) (_ : W .powered := by
    assumption) (_ : W .settings := by assumption) (_ : W .clock := by assumption) (_ : W .badWords := by assumption) (_ : W .crystal := by
    assumption) (_ : W .verdict := by assumption) (_ : W .staged := by assumption) (_ : W .applied := by assumption) (_ : W .timing := by assumption)
    (_ : W .address := by assumption) (_ : W .expiry := by assumption) (_ : W .question := by assumption) (_ : W .life := by assumption) (_ : W
    .arming := by assumption) (_ : W .flashOp := by assumption) (_ : W .rng := by assumption) (_ : W .diag := by assumption) (_ : W .failed := by
    assumption) (_ : W .button := by assumption) (_ : W .ship := by assumption) (_ : W .changeover := by assumption) (_ : W .graft := by assumption)
    (_ : W .irq := by assumption) (_ : W .lastEvent := by assumption) : Good W r t := by
  unfold execPeerGuardRecheck at e
  refine act_good _ _ _ _ h (fun s h => ?_) e
  repeat' first
    | with_reducible assumption | with_reducible apply enterMain_good | with_reducible apply refuseActivation_good
    | with_reducible apply Good.ite | exact ⟨h.1⟩

theorem execTrialEnd_good {W : Group → Prop} (a0 : State) (r t : State) (h : Good W r a0) (e : execTrialEnd a0 = .next t) (_ : W .cellar := by
    assumption) (_ : W .flash := by assumption) (_ : W .image := by assumption) (_ : W .page := by assumption) (_ : W .powered := by assumption) (_ :
    W .settings := by assumption) (_ : W .clock := by assumption) (_ : W .badWords := by assumption) (_ : W .crystal := by assumption) (_ : W .verdict
    := by assumption) (_ : W .staged := by assumption) (_ : W .applied := by assumption) (_ : W .timing := by assumption) (_ : W .address := by
    assumption) (_ : W .expiry := by assumption) (_ : W .question := by assumption) (_ : W .life := by assumption) (_ : W .arming := by assumption) (_
    : W .flashOp := by assumption) (_ : W .rng := by assumption) (_ : W .diag := by assumption) (_ : W .failed := by assumption) (_ : W .button := by
    assumption) (_ : W .ship := by assumption) (_ : W .changeover := by assumption) (_ : W .graft := by assumption) (_ : W .irq := by assumption) (_ :
    W .lastEvent := by assumption) : Good W r t := by
  unfold execTrialEnd at e
  refine act_good _ _ _ _ h (fun s h => ?_) e
  repeat' first
    | with_reducible assumption | with_reducible apply enterCells_good
    | with_reducible apply Good.ite | exact ⟨h.1⟩

theorem cellDone_good {W : Group → Prop} (a0 : Nat) (a1 : State) (r : State) (h : Good W r a1) (_ : W .cellar := by assumption) : Good W r (cellDone
    a0 a1) := by
  unfold cellDone
  repeat' first
    | with_reducible assumption | with_reducible apply saveActivation_good
    | with_reducible apply Good.ite | exact ⟨h.1⟩

theorem skipFailed_good {W : Group → Prop} (a0 : State) (r : State) (h : Good W r a0) (_ : W .cellar := by assumption) : Good W r (skipFailed a0) :=
    by
  unfold skipFailed
  repeat' first
    | with_reducible assumption | with_reducible apply cellDone_good
    | (with_reducible apply Good.foldl; intro _ _ _) | intro _
    | with_reducible apply Good.ite | split
    | with_reducible apply Good.fold | (with_reducible apply Good.mk'; try dsimp only) | with_reducible apply Good.fold_mem

theorem stampWait_good {W : Group → Prop} (a0 : List Nat) (a1 : State) (r : State) (h : Good W r a1) : Good W r (stampWait a0 a1) := by
  unfold stampWait
  repeat' first
    | with_reducible assumption
    | (with_reducible apply Good.foldl; intro _ _ _) | intro _
    | with_reducible apply Good.ite | split
    | with_reducible apply Good.fold | (with_reducible apply Good.mk'; try dsimp only)

theorem cellStep_good {W : Group → Prop} (a0 : State) (r : State) (h : Good W r a0) (_ : W .cellar := by assumption) (_ : W .flash := by assumption)
    (_ : W .image := by assumption) (_ : W .page := by assumption) (_ : W .powered := by assumption) (_ : W .settings := by assumption) (_ : W .clock
    := by assumption) (_ : W .badWords := by assumption) (_ : W .crystal := by assumption) (_ : W .verdict := by assumption) (_ : W .staged := by
    assumption) (_ : W .applied := by assumption) (_ : W .timing := by assumption) (_ : W .address := by assumption) (_ : W .expiry := by assumption)
    (_ : W .question := by assumption) (_ : W .life := by assumption) (_ : W .arming := by assumption) (_ : W .flashOp := by assumption) (_ : W .rng
    := by assumption) (_ : W .diag := by assumption) (_ : W .failed := by assumption) (_ : W .button := by assumption) (_ : W .ship := by assumption)
    (_ : W .changeover := by assumption) (_ : W .graft := by assumption) (_ : W .irq := by assumption) (_ : W .lastEvent := by assumption) : Good W r
    (cellStep a0) := by
  unfold cellStep
  dsimp only
  repeat' first
    | with_reducible assumption | with_reducible apply modCell_good | with_reducible apply leaveFor_good
    | with_reducible apply enterStructure_good | with_reducible apply repairMain_good | with_reducible apply cellDone_good
    | with_reducible apply skipFailed_good | with_reducible apply stampWait_good
    | intro _ | with_reducible apply Good.ite | split | with_reducible apply Good.fold | with_reducible apply Good.mk'

theorem execActivationCellStep_good {W : Group → Prop} (a0 : State) (r t : State) (h : Good W r a0) (e : execActivationCellStep a0 = .next t) (_ : W
    .cellar := by assumption) (_ : W .flash := by assumption) (_ : W .image := by assumption) (_ : W .page := by assumption) (_ : W .powered := by
    assumption) (_ : W .settings := by assumption) (_ : W .clock := by assumption) (_ : W .badWords := by assumption) (_ : W .crystal := by
    assumption) (_ : W .verdict := by assumption) (_ : W .staged := by assumption) (_ : W .applied := by assumption) (_ : W .timing := by assumption)
    (_ : W .address := by assumption) (_ : W .expiry := by assumption) (_ : W .question := by assumption) (_ : W .life := by assumption) (_ : W
    .arming := by assumption) (_ : W .flashOp := by assumption) (_ : W .rng := by assumption) (_ : W .diag := by assumption) (_ : W .failed := by
    assumption) (_ : W .button := by assumption) (_ : W .ship := by assumption) (_ : W .changeover := by assumption) (_ : W .graft := by assumption)
    (_ : W .irq := by assumption) (_ : W .lastEvent := by assumption) : Good W r t := by
  unfold execActivationCellStep at e
  refine act_good _ _ _ _ h (fun s h => ?_) e
  repeat' first
    | with_reducible assumption | with_reducible apply cellStep_good
    | with_reducible apply Good.ite | exact ⟨h.1⟩

theorem execActStalled_good {W : Group → Prop} (a0 : Nat) (a1 : State) (r t : State) (h : Good W r a1) (e : execActStalled a0 a1 = .next t) : Good W r
    t := by
  unfold execActStalled at e
  refine act_good _ _ _ _ h (fun s h => ?_) e
  repeat' first
    | with_reducible assumption | with_reducible apply raise_good
    | with_reducible apply Good.ite | exact ⟨h.1⟩

theorem writeStore_good {W : Group → Prop} (a0 : State) (r : State) (h : Good W r a0) (_ : W .cellar := by assumption) (_ : W .flash := by assumption)
    : Good W r (writeStore a0) := by
  unfold writeStore
  dsimp only
  repeat' first
    | with_reducible assumption | with_reducible apply storeWrite_good | with_reducible apply saveActivation_good
    | intro _ | with_reducible apply Good.ite | split | with_reducible apply Good.fold | with_reducible apply Good.mk'

theorem stageStructure_good {W : Group → Prop} (a0 : State) (r : State) (h : Good W r a0) (_ : W .staged := by assumption) : Good W r (stageStructure
    a0) := by
  unfold stageStructure
  dsimp only
  repeat' first
    | with_reducible assumption | with_reducible apply stgOpen_good | with_reducible apply startCheck_good
    | intro _ | with_reducible apply Good.ite | split | with_reducible apply Good.fold | with_reducible apply Good.mk'

theorem execActivationStructure_good {W : Group → Prop} (a0 : State) (r t : State) (h : Good W r a0) (e : execActivationStructure a0 = .next t) (_ : W
    .cellar := by assumption) (_ : W .flash := by assumption) (_ : W .image := by assumption) (_ : W .page := by assumption) (_ : W .powered := by
    assumption) (_ : W .settings := by assumption) (_ : W .clock := by assumption) (_ : W .badWords := by assumption) (_ : W .crystal := by
    assumption) (_ : W .verdict := by assumption) (_ : W .staged := by assumption) (_ : W .applied := by assumption) (_ : W .timing := by assumption)
    (_ : W .address := by assumption) (_ : W .expiry := by assumption) (_ : W .question := by assumption) (_ : W .life := by assumption) (_ : W
    .arming := by assumption) (_ : W .flashOp := by assumption) (_ : W .rng := by assumption) (_ : W .diag := by assumption) (_ : W .failed := by
    assumption) (_ : W .button := by assumption) (_ : W .ship := by assumption) (_ : W .changeover := by assumption) (_ : W .graft := by assumption)
    (_ : W .irq := by assumption) (_ : W .lastEvent := by assumption) : Good W r t := by
  unfold execActivationStructure at e
  refine act_good _ _ _ _ h (fun s h => ?_) e
  repeat' first
    | with_reducible assumption | with_reducible apply finishRepair_good | with_reducible apply writeStore_good
    | with_reducible apply stageStructure_good
    | with_reducible apply Good.ite | exact ⟨h.1⟩

theorem execRepairActivation_good {W : Group → Prop} (a0 : State) (r t : State) (h : Good W r a0) (e : execRepairActivation a0 = .next t) (_ : W
    .cellar := by assumption) (_ : W .flash := by assumption) (_ : W .image := by assumption) (_ : W .page := by assumption) (_ : W .powered := by
    assumption) (_ : W .settings := by assumption) (_ : W .clock := by assumption) (_ : W .badWords := by assumption) (_ : W .crystal := by
    assumption) (_ : W .verdict := by assumption) (_ : W .staged := by assumption) (_ : W .applied := by assumption) (_ : W .timing := by assumption)
    (_ : W .address := by assumption) (_ : W .expiry := by assumption) (_ : W .question := by assumption) (_ : W .life := by assumption) (_ : W
    .arming := by assumption) (_ : W .flashOp := by assumption) (_ : W .rng := by assumption) (_ : W .diag := by assumption) (_ : W .failed := by
    assumption) (_ : W .button := by assumption) (_ : W .ship := by assumption) (_ : W .changeover := by assumption) (_ : W .graft := by assumption)
    (_ : W .irq := by assumption) (_ : W .lastEvent := by assumption) : Good W r t := by
  unfold execRepairActivation at e
  refine act_good _ _ _ _ h (fun s h => ?_) e
  repeat' first
    | with_reducible assumption | with_reducible apply beginActivation_good
    | with_reducible apply Good.ite | exact ⟨h.1⟩

theorem updCmd_good {W : Group → Prop} (a0 : Agent) (a1 : Word) (a2 : State) (r : State) (h : Good W r a2) (_ : W .cellar := by assumption) (_ : W
    .flash := by assumption) (_ : W .image := by assumption) (_ : W .page := by assumption) (_ : W .powered := by assumption) (_ : W .settings := by
    assumption) (_ : W .clock := by assumption) (_ : W .badWords := by assumption) (_ : W .crystal := by assumption) (_ : W .verdict := by assumption)
    (_ : W .staged := by assumption) (_ : W .applied := by assumption) (_ : W .timing := by assumption) (_ : W .address := by assumption) (_ : W
    .expiry := by assumption) (_ : W .question := by assumption) (_ : W .life := by assumption) (_ : W .arming := by assumption) (_ : W .flashOp := by
    assumption) (_ : W .rng := by assumption) (_ : W .diag := by assumption) (_ : W .failed := by assumption) (_ : W .button := by assumption) (_ : W
    .ship := by assumption) (_ : W .changeover := by assumption) (_ : W .graft := by assumption) (_ : W .irq := by assumption) (_ : W .lastEvent := by
    assumption) : Good W r (updCmd a0 a1 a2) := by
  unfold updCmd
  repeat' first
    | with_reducible assumption | with_reducible apply updRes_good | with_reducible apply updStore_good | with_reducible apply updDiscard_good
    | with_reducible apply updActivate_good | with_reducible apply updActivateAt_good | with_reducible apply updCancel_good
    | (with_reducible apply Good.foldl; intro _ _ _) | intro _
    | with_reducible apply Good.ite | split
    | with_reducible apply Good.fold | (with_reducible apply Good.mk'; try dsimp only) | with_reducible apply Good.fold_mem
    | with_reducible apply Good.fold_bank0 | with_reducible apply Good.fold_bank1 | with_reducible apply Good.fold_stg
    | with_reducible apply Good.fold_fls | with_reducible apply Good.fold_powered | with_reducible apply Good.fold_settings
    | with_reducible apply Good.fold_clock | with_reducible apply Good.fold_badWords | with_reducible apply Good.fold_crystal
    | with_reducible apply Good.fold_verdict | with_reducible apply Good.fold_staged | with_reducible apply Good.fold_applied
    | with_reducible apply Good.fold_timing | with_reducible apply Good.fold_address | with_reducible apply Good.fold_expiry
    | with_reducible apply Good.fold_question | with_reducible apply Good.fold_life | with_reducible apply Good.fold_arming
    | with_reducible apply Good.fold_flashOp | with_reducible apply Good.fold_rng | with_reducible apply Good.fold_diag
    | with_reducible apply Good.fold_failed | with_reducible apply Good.fold_button | with_reducible apply Good.fold_ship
    | with_reducible apply Good.fold_changeover | with_reducible apply Good.fold_graft | with_reducible apply Good.fold_irq
    | with_reducible apply Good.fold_lastEvent

theorem flsRes_good {W : Group → Prop} (a0 : Nat) (a1 : Nat) (a2 : State) (r : State) (h : Good W r a2) : Good W r (flsRes a0 a1 a2) := ⟨h.1⟩

theorem flsBegin_good {W : Group → Prop} (a0 : Bool) (a1 : Nat) (a2 : Nat) (a3 : Nat) (a4 : State) (r : State) (h : Good W r a4) (_ : W .flashOp := by
    assumption) : Good W r (flsBegin a0 a1 a2 a3 a4) := by
  unfold flsBegin
  repeat' first
    | with_reducible assumption | with_reducible apply flsRes_good
    | (with_reducible apply Good.foldl; intro _ _ _) | intro _
    | with_reducible apply Good.ite | split
    | with_reducible apply Good.fold | (with_reducible apply Good.mk'; try dsimp only) | with_reducible apply Good.fold_flashOp

theorem execEraseSector_good {W : Group → Prop} (a0 : Nat) (a1 : Nat) (a2 : State) (r t : State) (h : Good W r a2) (e : execEraseSector a0 a1 a2 =
    .next t) (_ : W .flashOp := by assumption) : Good W r t := by
  unfold execEraseSector at e
  refine act_good _ _ _ _ h (fun s h => ?_) e
  repeat' first
    | with_reducible assumption | with_reducible apply flsBegin_good
    | with_reducible apply Good.ite | exact ⟨h.1⟩

theorem execProgramPage_good {W : Group → Prop} (a0 : Nat) (a1 : Nat) (a2 : Nat) (a3 : State) (r t : State) (h : Good W r a3) (e : execProgramPage a0
    a1 a2 a3 = .next t) (_ : W .flashOp := by assumption) : Good W r t := by
  unfold execProgramPage at e
  refine act_good _ _ _ _ h (fun s h => ?_) e
  repeat' first
    | with_reducible assumption | with_reducible apply flsBegin_good
    | with_reducible apply Good.ite | exact ⟨h.1⟩

theorem programPage_good {W : Group → Prop} (a0 : FlashOp) (a1 : Bool) (a2 : State) (r : State) (h : Good W r a2) (_ : W .flash := by assumption) :
    Good W r (programPage a0 a1 a2) := by
  unfold programPage
  repeat' first
    | with_reducible assumption | with_reducible apply flashPut_good
    | with_reducible apply Good.ite | exact ⟨h.1⟩

theorem execFlashOpComplete_good {W : Group → Prop} (a0 : Bool) (a1 : State) (r t : State) (h : Good W r a1) (e : execFlashOpComplete a0 a1 = .next t)
    (_ : W .flash := by assumption) (_ : W .flashOp := by assumption) : Good W r t := by
  unfold execFlashOpComplete at e
  refine act_good _ _ _ _ h (fun s h => ?_) e
  clear e
  repeat' first
    | with_reducible assumption | with_reducible apply raiseSrc_good | with_reducible apply sectorErase_good | with_reducible apply flsRes_good
    | with_reducible apply programPage_good
    | (with_reducible apply Good.foldl; intro _ _ _) | intro _
    | with_reducible apply Good.ite | split
    | with_reducible apply Good.fold | (with_reducible apply Good.mk'; try dsimp only) | with_reducible apply Good.fold_bank0
    | with_reducible apply Good.fold_bank1 | with_reducible apply Good.fold_flashOp

theorem flsStep_good {W : Group → Prop} (a0 : State) (r : State) (h : Good W r a0) : Good W r (flsStep a0) := ⟨h.1⟩

theorem flsWrite_good {W : Group → Prop} (a0 : Word) (a1 : State) (r : State) (h : Good W r a1) (_ : W .page := by assumption) : Good W r (flsWrite a0
    a1) := by
  unfold flsWrite
  repeat' first
    | with_reducible assumption
    | with_reducible apply flsStep_good
    | (extract_lets +onlyGivenNames z; first
        | (refine (fun (hz : Good W r z) => ?_) ?_; (on_goal 1 => clear_value z); (on_goal 2 => (dsimp -zeta only [z]; clear z)))
        | (refine (fun (hz : Good W r z.1) => ?_) ?_; (on_goal 1 => clear_value z); (on_goal 2 => (dsimp -zeta only [z]; clear z)))
        | (refine (fun (hz : Good W r z.2) => ?_) ?_; (on_goal 1 => clear_value z); (on_goal 2 => (dsimp -zeta only [z]; clear z)))
        | (have _q : Nat := z; clear _q; clear_value z) | (have _q : Bool := z; clear _q; clear_value z)
        | (have _q : Word := z; clear _q; clear_value z) | (have _q : Record := z; clear _q; clear_value z)
        | (try dsimp -zeta only [z]; clear z))
    | with_reducible exact id
    | with_reducible exact fun _ w => w
    | with_reducible exact fun _ _ => memWf_nil _
    | with_reducible exact memPutWord_wf
    | with_reducible exact memWriteList_wf
    | with_reducible exact memErase_wf
    | with_reducible exact memWriteList_wf (memWf_nil _)
    | with_reducible exact stgRegs_wf _ _ _
    | with_reducible exact fun _ => memWf_nil _
    | (with_reducible apply Good.foldl; intro _ _ _)
    | (with_reducible apply Good.foldl_fst; intro _ _ _)
    | intro _
    | with_reducible apply Good.ite
    | with_reducible apply Good.ite_fst
    | split
    | with_reducible apply Good.fold
    | (with_reducible apply Good.mk'; try dsimp only)
    | dsimp only
    | simp only [rngLost_buf, stgLimp_buf, endSession9_buf, trlOff_buf, trlOn_buf, stgEmpty_buf, trlOff_same, trlOn_same, adcStop_same, stgLimp_same]
    | with_reducible apply Good.fold_cry
    | with_reducible apply Good.fold_spi
    | with_reducible apply Good.fold_trl
    | with_reducible apply Good.fold_stg
    | with_reducible apply Good.fold_mem
    | with_reducible apply Good.fold_held
    | with_reducible apply Good.fold_fls
    | with_reducible apply Good.fold_bank0
    | with_reducible apply Good.fold_bank1
    | (with_reducible apply Good.fold_clock)
    | (with_reducible apply Good.fold_badWords)
    | (with_reducible apply Good.fold_crystal)
    | (with_reducible apply Good.fold_verdict)
    | (with_reducible apply Good.fold_staged)
    | (with_reducible apply Good.fold_applied)
    | (with_reducible apply Good.fold_timing)
    | (with_reducible apply Good.fold_address)
    | (with_reducible apply Good.fold_expiry)
    | (with_reducible apply Good.fold_question)
    | (with_reducible apply Good.fold_life)
    | (with_reducible apply Good.fold_arming)
    | (with_reducible apply Good.fold_flashOp)
    | (with_reducible apply Good.fold_rng)
    | (with_reducible apply Good.fold_diag)
    | (with_reducible apply Good.fold_failed)
    | (with_reducible apply Good.fold_button)
    | (with_reducible apply Good.fold_ship)
    | (with_reducible apply Good.fold_changeover)
    | (with_reducible apply Good.fold_graft)
    | (with_reducible apply Good.fold_irq)
    | (with_reducible apply Good.fold_lastEvent)
    | (with_reducible apply Good.fold_powered)
    | (with_reducible apply Good.fold_inputs)
    | (with_reducible apply Good.fold_wakeCause)
    | (with_reducible apply Good.fold_settings)
    | (refine Good.gen (by with_reducible assumption) rfl rfl rfl ?_ ?_ ?_ ?_ ?_ ?_ ?_ ?_ ?_ ?_ ?_ ?_ ?_ ?_ ?_ ?_ ?_ ?_ ?_ ?_ ?_ ?_ ?_ ?_ ?_ ?_ ?_ ?_ ?_ ?_ ?_ <;> first | exact .inl (by assumption) | exact .inr rfl | exact .inr ⟨rfl, rfl⟩ | exact id | skip)


theorem execFlsDataAccess_good {W : Group → Prop} (a0 : Option Word) (a1 : State) (r t : State) (h : Good W r a1) (e : execFlsDataAccess a0 a1 = .next
    t) (_ : W .page := by assumption) : Good W r t := by
  unfold execFlsDataAccess at e
  refine act_good _ _ _ _ h (fun s h => ?_) e
  clear e
  repeat' first
    | with_reducible assumption | with_reducible apply flsStep_good | with_reducible apply flsWrite_good
    | (with_reducible apply Good.foldl; intro _ _ _) | intro _
    | with_reducible apply Good.ite | split
    | with_reducible apply Good.fold | (with_reducible apply Good.mk'; try dsimp only) | with_reducible apply Good.fold_fls

theorem flsCmd_good {W : Group → Prop} (a0 : Word) (a1 : State) (r : State) (h : Good W r a1) (_ : W .flashOp := by assumption) : Good W r (flsCmd a0
    a1) := by
  unfold flsCmd
  repeat' first
    | with_reducible assumption | with_reducible apply flsRes_good | with_reducible apply flsBegin_good
    | (with_reducible apply Good.foldl; intro _ _ _) | intro _
    | with_reducible apply Good.ite | split
    | with_reducible apply Good.fold | (with_reducible apply Good.mk'; try dsimp only) | with_reducible apply Good.fold_flashOp

theorem expire_good {W : Group → Prop} (a0 : Nat) (a1 : Nat) (a2 : State) (r : State) (h : Good W r a2) (_ : W .expiry := by assumption) : Good W r
    (expire a0 a1 a2) := by
  unfold expire
  repeat' first
    | with_reducible assumption | with_reducible apply aliveStop_good | with_reducible apply limpEntry_good | with_reducible apply raiseSrc_good
    | (extract_lets +onlyGivenNames z; first
        | (refine (fun (hz : Good W r z) => ?_) ?_; (on_goal 1 => clear_value z); (on_goal 2 => (dsimp -zeta only [z]; clear z)))
        | (refine (fun (hz : Good W r z.1) => ?_) ?_; (on_goal 1 => clear_value z); (on_goal 2 => (dsimp -zeta only [z]; clear z)))
        | (have _q : Nat := z; clear _q; clear_value z) | (try dsimp -zeta only [z]; clear z))
    | (with_reducible apply Good.foldl; intro _ _ _) | intro _
    | with_reducible apply Good.ite | split
    | with_reducible apply Good.fold | (with_reducible apply Good.mk'; try dsimp only) | with_reducible apply Good.fold_expiry

theorem execWdgWindowOpen_good {W : Group → Prop} (a0 : State) (r t : State) (h : Good W r a0) (e : execWdgWindowOpen a0 = .next t) : Good W r t := by
  unfold execWdgWindowOpen at e
  refine act_good _ _ _ _ h (fun s h => ?_) e
  exact Good.ite ⟨h.1⟩ h

theorem wdgAnswer_good {W : Group → Prop} (a0 : Word) (a1 : State) (r : State) (h : Good W r a1) : Good W r (wdgAnswer a0 a1) := by
  unfold wdgAnswer
  repeat' first
    | with_reducible assumption
    | with_reducible apply Good.ite | exact ⟨h.1⟩

theorem execWdgAnswer_good {W : Group → Prop} (a0 : Word) (a1 : State) (r t : State) (h : Good W r a1) (e : execWdgAnswer a0 a1 = .next t) : Good W r
    t := by
  unfold execWdgAnswer at e
  refine act_good _ _ _ _ h (fun s h => ?_) e
  repeat' first
    | with_reducible assumption | with_reducible apply wdgAnswer_good
    | with_reducible apply Good.ite | exact ⟨h.1⟩

theorem serviced_good {W : Group → Prop} (a0 : Nat) (a1 : State) (r : State) (h : Good W r a1) (_ : W .expiry := by assumption) (_ : W .question := by
    assumption) : Good W r (serviced a0 a1) := by
  unfold serviced
  repeat' first
    | with_reducible assumption | with_reducible apply wdgPeriod_good
    | (with_reducible apply Good.foldl; intro _ _ _) | intro _
    | with_reducible apply Good.ite | split
    | with_reducible apply Good.fold | (with_reducible apply Good.mk'; try dsimp only) | with_reducible apply Good.fold_expiry
    | with_reducible apply Good.fold_question

theorem judge_good {W : Group → Prop} (a0 : Word) (a1 : Nat) (a2 : State) (r : State) (h : Good W r a2) (_ : W .expiry := by assumption) (_ : W
    .question := by assumption) : Good W r (judge a0 a1 a2) := by
  unfold judge
  repeat' first
    | with_reducible assumption | with_reducible apply expire_good | with_reducible apply serviced_good
    | with_reducible apply Good.ite | exact ⟨h.1⟩

theorem execWdgAnswerEffective_good {W : Group → Prop} (a0 : Nat) (a1 : State) (r t : State) (h : Good W r a1) (e : execWdgAnswerEffective a0 a1 =
    .next t) (_ : W .expiry := by assumption) (_ : W .question := by assumption) : Good W r t := by
  unfold execWdgAnswerEffective at e
  refine act_good _ _ _ _ h (fun s h => ?_) e
  clear e
  repeat' first
    | with_reducible assumption | with_reducible apply judge_good
    | (with_reducible apply Good.foldl; intro _ _ _) | intro _
    | with_reducible apply Good.ite | split
    | with_reducible apply Good.fold | (with_reducible apply Good.mk'; try dsimp only) | with_reducible apply Good.fold_expiry
    | with_reducible apply Good.fold_question

theorem execWdgExpiry_good {W : Group → Prop} (a0 : State) (r t : State) (h : Good W r a0) (e : execWdgExpiry a0 = .next t) (_ : W .expiry := by
    assumption) : Good W r t := by
  unfold execWdgExpiry at e
  refine act_good _ _ _ _ h (fun s h => ?_) e
  repeat' first
    | with_reducible assumption | with_reducible apply expire_good
    | with_reducible apply Good.ite | exact ⟨h.1⟩

theorem execWdgHardTimerEnd_good {W : Group → Prop} (a0 : State) (r t : State) (h : Good W r a0) (e : execWdgHardTimerEnd a0 = .next t) : Good W r t
    := by
  unfold execWdgHardTimerEnd at e
  refine act_good _ _ _ _ h (fun s h => ?_) e
  repeat' first
    | with_reducible assumption | with_reducible apply coreReset_good
    | with_reducible apply Good.ite | exact ⟨h.1⟩

theorem wdgPeriodWrite_good {W : Group → Prop} (a0 : Word) (a1 : State) (r : State) (h : Good W r a1) : Good W r (wdgPeriodWrite a0 a1) := by
  unfold wdgPeriodWrite
  repeat' first
    | with_reducible assumption
    | with_reducible apply Good.ite | exact ⟨h.1⟩

theorem execWdgPeriodWrite_good {W : Group → Prop} (a0 : Word) (a1 : State) (r t : State) (h : Good W r a1) (e : execWdgPeriodWrite a0 a1 = .next t) :
    Good W r t := by
  unfold execWdgPeriodWrite at e
  refine act_good _ _ _ _ h (fun s h => ?_) e
  repeat' first
    | with_reducible assumption | with_reducible apply wdgPeriodWrite_good
    | with_reducible apply Good.ite | exact ⟨h.1⟩

theorem wdgCfgWrite_good {W : Group → Prop} (a0 : Word) (a1 : State) (r : State) (h : Good W r a1) : Good W r (wdgCfgWrite a0 a1) := ⟨h.1⟩

theorem wdgRead_good {W : Group → Prop} (a0 : State) (r : State) (h : Good W r a0) : Good W r (wdgRead a0) := ⟨h.1⟩

theorem execFaultSourceActive_good {W : Group → Prop} (a0 : Nat) (a1 : Nat) (a2 : Word) (a3 : State) (r t : State) (h : Good W r a3) (e :
    execFaultSourceActive a0 a1 a2 a3 = .next t) (_ : W .question := by assumption) (_ : W .rng := by assumption) : Good W r t := by
  unfold execFaultSourceActive at e
  refine act_good _ _ _ _ h (fun s h => ?_) e
  repeat' first
    | with_reducible assumption | with_reducible apply raiseSrc_good | with_reducible apply refinChange_good
    | with_reducible apply warmAtOnceFrom_good
    | with_reducible apply Good.ite | exact ⟨h.1⟩

theorem pairInactive_good {W : Group → Prop} (a0 : Nat) (a1 : State) (r : State) (h : Good W r a1) : Good W r (pairInactive a0 a1) := by
  unfold pairInactive
  dsimp only
  repeat' first
    | with_reducible assumption | with_reducible apply modFsrc_good | with_reducible apply lower_good
    | intro _ | with_reducible apply Good.ite | split | with_reducible apply Good.fold | with_reducible apply Good.mk'

theorem execFaultSourceInactive_good {W : Group → Prop} (a0 : Nat) (a1 : State) (r t : State) (h : Good W r a1) (e : execFaultSourceInactive a0 a1 =
    .next t) : Good W r t := by
  unfold execFaultSourceInactive at e
  refine act_good _ _ _ _ h (fun s h => ?_) e
  repeat' first
    | with_reducible assumption | with_reducible apply refinChange_good | with_reducible apply pairInactive_good
    | with_reducible apply Good.ite | exact ⟨h.1⟩

theorem wireFault_good {W : Group → Prop} (a0 : Nat) (a1 : State) (r : State) (h : Good W r a1) : Good W r (wireFault a0 a1) := by
  unfold wireFault
  repeat' first
    | with_reducible assumption | with_reducible apply modFsrc_good | with_reducible apply react_good | with_reducible apply raiseSrc_good
    | with_reducible apply Good.ite | exact ⟨h.1⟩

theorem execWireFault_good {W : Group → Prop} (a0 : Nat) (a1 : WireLevel) (a2 : State) (r t : State) (h : Good W r a2) (e : execWireFault a0 a1 a2 =
    .next t) (_ : W .question := by assumption) (_ : W .rng := by assumption) : Good W r t := by
  unfold execWireFault at e
  refine act_good _ _ _ _ h (fun s h => ?_) e
  repeat' first
    | with_reducible assumption | with_reducible apply warmAtOnceFrom_good | with_reducible apply wireFault_good
    | with_reducible apply Good.ite | exact ⟨h.1⟩

theorem execC2WindowEscalation_good {W : Group → Prop} (a0 : Nat) (a1 : State) (r t : State) (h : Good W r a1) (e : execC2WindowEscalation a0 a1 =
    .next t) : Good W r t := by
  unfold execC2WindowEscalation at e
  refine act_good _ _ _ _ h (fun s h => ?_) e
  dsimp only
  repeat' first
    | with_reducible assumption | with_reducible apply pushEvent_good | with_reducible apply limpEntry_good
    | intro _ | with_reducible apply Good.ite | split | with_reducible apply Good.fold | with_reducible apply Good.mk'

theorem closeWindow_good {W : Group → Prop} (a0 : Nat) (a1 : State) (r : State) (h : Good W r a1) : Good W r (closeWindow a0 a1) := by
  unfold closeWindow
  dsimp only
  repeat' first
    | with_reducible assumption
    | intro _ | with_reducible apply Good.ite | split | with_reducible apply Good.fold | with_reducible apply Good.mk'

theorem pendClear_good {W : Group → Prop} (a0 : Nat) (a1 : Word) (a2 : State) (r : State) (h : Good W r a2) : Good W r (pendClear a0 a1 a2) := by
  unfold pendClear
  repeat' first
    | with_reducible assumption | with_reducible apply modFsrc_good | with_reducible apply closeWindow_good
    | (with_reducible apply Good.foldl; intro _ _ _) | intro _
    | with_reducible apply Good.ite | split
    | with_reducible apply Good.fold | (with_reducible apply Good.mk'; try dsimp only)

theorem execFltPendClear_good {W : Group → Prop} (a0 : Nat) (a1 : Word) (a2 : State) (r t : State) (h : Good W r a2) (e : execFltPendClear a0 a1 a2 =
    .next t) : Good W r t := by
  unfold execFltPendClear at e
  refine act_good _ _ _ _ h (fun s h => ?_) e
  repeat' first
    | with_reducible assumption | with_reducible apply pendClear_good
    | with_reducible apply Good.ite | exact ⟨h.1⟩

theorem eventRead_good {W : Group → Prop} (a0 : State) (r : State) (h : Good W r a0) (_ : W .lastEvent := by assumption) : Good W r (eventRead a0) :=
    by
  unfold eventRead
  repeat' first
    | with_reducible assumption
    | (with_reducible apply Good.foldl; intro _ _ _) | intro _
    | with_reducible apply Good.ite | split
    | with_reducible apply Good.fold | (with_reducible apply Good.mk'; try dsimp only) | with_reducible apply Good.fold_lastEvent

theorem execFltEventRead_good {W : Group → Prop} (a0 : Agent) (a1 : State) (r t : State) (h : Good W r a1) (e : execFltEventRead a0 a1 = .next t) (_ :
    W .lastEvent := by assumption) : Good W r t := by
  unfold execFltEventRead at e
  refine act_good _ _ _ _ h (fun s h => ?_) e
  repeat' first
    | with_reducible assumption | with_reducible apply eventRead_good
    | with_reducible apply Good.ite | exact ⟨h.1⟩

theorem compatRead_good {W : Group → Prop} (a0 : State) (r : State) (h : Good W r a0) : Good W r (compatRead a0) := ⟨h.1⟩

theorem execFltCompatRead_good {W : Group → Prop} (a0 : Agent) (a1 : State) (r t : State) (h : Good W r a1) (e : execFltCompatRead a0 a1 = .next t) :
    Good W r t := by
  unfold execFltCompatRead at e
  refine act_good _ _ _ _ h (fun s h => ?_) e
  exact ⟨h.1⟩

theorem fltForce_good {W : Group → Prop} (a0 : Word) (a1 : State) (r : State) (h : Good W r a1) : Good W r (fltForce a0 a1) := by
  unfold fltForce
  repeat' first
    | with_reducible assumption | with_reducible apply modFsrc_good | with_reducible apply raise_good | with_reducible apply wireFault_good
    | with_reducible apply Good.ite | exact ⟨h.1⟩

theorem execFltForce_good {W : Group → Prop} (a0 : Word) (a1 : State) (r t : State) (h : Good W r a1) (e : execFltForce a0 a1 = .next t) : Good W r t
    := by
  unfold execFltForce at e
  refine act_good _ _ _ _ h (fun s h => ?_) e
  repeat' first
    | with_reducible assumption | with_reducible apply fltForce_good
    | with_reducible apply Good.ite | exact ⟨h.1⟩

theorem execAliveEdge_good {W : Group → Prop} (a0 : State) (r t : State) (h : Good W r a0) (e : execAliveEdge a0 = .next t) : Good W r t := by
  unfold execAliveEdge at e
  refine act_good _ _ _ _ h (fun s h => ?_) e
  exact Good.ite ⟨h.1⟩ h

theorem execAliveFeedback_good {W : Group → Prop} (a0 : State) (r t : State) (h : Good W r a0) (e : execAliveFeedback a0 = .next t) : Good W r t := by
  unfold execAliveFeedback at e
  refine act_good _ _ _ _ h (fun s h => ?_) e
  repeat' first
    | with_reducible assumption | with_reducible apply raiseSrc_good
    | with_reducible apply Good.ite | exact ⟨h.1⟩

end Sys2Proof.Laws
end

