-- ==== Sys2Proof/Laws/KeepsHost.lean ====
section
/-! SUPPORT. What register accesses and the host rows keep: `Good W r` of a state passes to the state
the operation makes, for every `W` that allows the groups the operation writes. -/

open Sys2Proof.Machine

namespace Sys2Proof.Laws
set_option Elab.async false
set_option linter.all false

theorem regReadEffect_good {W : Group → Prop} (a0 : Agent) (a1 : Nat) (a2 : State) (r : State) (h : Good W r a2) (_ : W .badWords := by assumption) (_
    : W .lastEvent := by assumption) : Good W r (regReadEffect a0 a1 a2) := by
  unfold regReadEffect
  dsimp only
  repeat' first
    | with_reducible assumption | with_reducible apply modChg_good | with_reducible apply modPeer_good | with_reducible apply clrAdvance_good
    | with_reducible apply adcReadRes_good | with_reducible apply cryTake_good | with_reducible apply cryStep_good
    | with_reducible apply randomWord_good | with_reducible apply timeLatch_good | with_reducible apply flsStep_good
    | with_reducible apply wdgRead_good | with_reducible apply eventRead_good | with_reducible apply compatRead_good
    | intro _ | with_reducible apply Good.ite | split | with_reducible apply Good.fold | with_reducible apply Good.mk'

theorem regReadDone_good {W : Group → Prop} (a0 : Agent) (a1 : Nat) (a2 : State) (r : State) (h : Good W r a2) (_ : W .badWords := by assumption) (_ :
    W .lastEvent := by assumption) : Good W r (regReadDone a0 a1 a2) := by
  unfold regReadDone
  repeat' first
    | with_reducible assumption | with_reducible apply freeWord_good | with_reducible apply regReadEffect_good
    | with_reducible apply Good.ite | exact ⟨h.1⟩

theorem freeEnv_good {W : Group → Prop} (a0 : State) (r : State) (h : Good W r a0) : Good W r (freeEnv a0).2 := ⟨h.1⟩

theorem wakeKnown_good {W : Group → Prop} (a0 : State) (r : State) (h : Good W r a0) : Good W r (wakeKnown a0).2 := by
  unfold wakeKnown
  dsimp only
  repeat' first
    | with_reducible assumption | with_reducible apply freeNat_good
    | intro _ | with_reducible apply Good.ite | split | with_reducible apply Good.fold | with_reducible apply Good.mk'

theorem sysCmd_good {W : Group → Prop} (a0 : Agent) (a1 : Word) (a2 : State) (r : State) (h : Good W r a2) (_ : W .cellar := by assumption) (_ : W
    .question := by assumption) (_ : W .rng := by assumption) (_ : W .failed := by assumption) (_ : W .changeover := by assumption) : Good W r (sysCmd
    a0 a1 a2) := by
  unfold sysCmd
  dsimp only
  repeat' first
    | with_reducible assumption | with_reducible apply sysReady_good | with_reducible apply sysEnterService_good
    | with_reducible apply sysLeaveService_good | with_reducible apply sysCoreReset_good | with_reducible apply sysClearLock_good
    | with_reducible apply sysUnknown_good | with_reducible apply sysEnterShip_good | with_reducible apply freeEnv_good
    | with_reducible apply wakeKnown_good
    | intro _ | with_reducible apply Good.ite | split | with_reducible apply Good.fold | with_reducible apply Good.mk'

theorem stgCmd_good {W : Group → Prop} (a0 : Agent) (a1 : Word) (a2 : State) (r : State) (h : Good W r a2) : Good W r (stgCmd a0 a1 a2) := by
  unfold stgCmd
  repeat' first
    | with_reducible assumption | with_reducible apply stgCheck_good | with_reducible apply stgCommit_good | with_reducible apply stgCommitAt_good
    | with_reducible apply stgCancel_good | with_reducible apply stgClear_good | with_reducible apply stgUnknown_good
    | (with_reducible apply Good.foldl; intro _ _ _) | intro _
    | with_reducible apply Good.ite | split
    | with_reducible apply Good.fold | (with_reducible apply Good.mk'; try dsimp only)

theorem chgCmdWord_good {W : Group → Prop} (a0 : Word) (a1 : State) (r : State) (h : Good W r a1) : Good W r (chgCmdWord a0 a1) := by
  unfold chgCmdWord
  repeat' first
    | with_reducible assumption | with_reducible apply chgRestart_good | with_reducible apply chgHold_good | with_reducible apply chgNewCycle_good
    | with_reducible apply chgUnknown_good
    | (with_reducible apply Good.foldl; intro _ _ _) | intro _
    | with_reducible apply Good.ite | split
    | with_reducible apply Good.fold | (with_reducible apply Good.mk'; try dsimp only)

theorem adcCmdWord_good {W : Group → Prop} (a0 : Word) (a1 : State) (r : State) (h : Good W r a1) (_ : W .diag := by assumption) (_ : W .failed := by
    assumption) : Good W r (adcCmdWord a0 a1) := by
  unfold adcCmdWord
  dsimp only
  repeat' first
    | with_reducible assumption | with_reducible apply freeNat_good | with_reducible apply adcDiag_good | with_reducible apply adcClearFailed_good
    | with_reducible apply adcUnknown_good
    | intro _ | with_reducible apply Good.ite | split | with_reducible apply Good.fold | with_reducible apply Good.mk'

theorem eisCmdWord_good {W : Group → Prop} (a0 : Word) (a1 : State) (r : State) (h : Good W r a1) : Good W r (eisCmdWord a0 a1) := by
  unfold eisCmdWord
  dsimp only
  repeat' first
    | with_reducible assumption | with_reducible apply eisSwitchOpen_good | with_reducible apply eisSwitchRelease_good
    | with_reducible apply eisRun_good | with_reducible apply eisRunDeep_good | with_reducible apply eisAbortCmd_good
    | with_reducible apply eisSetRef_good | with_reducible apply eisBookReset_good | with_reducible apply eisUnknown_good
    | intro _ | with_reducible apply Good.ite | split | with_reducible apply Good.fold | with_reducible apply Good.mk'

theorem pptCmdWord_good {W : Group → Prop} (a0 : Word) (a1 : State) (r : State) (h : Good W r a1) (_ : W .changeover := by assumption) : Good W r
    (pptCmdWord a0 a1) := by
  unfold pptCmdWord
  dsimp only
  repeat' first
    | with_reducible assumption | with_reducible apply pptExportTest_good | with_reducible apply pptEndContract_good
    | with_reducible apply pptRecheck_good | with_reducible apply pptUnknown_good
    | intro _ | with_reducible apply Good.ite | split | with_reducible apply Good.fold | with_reducible apply Good.mk'

theorem lcsCmdWord_good {W : Group → Prop} (a0 : Agent) (a1 : Word) (a2 : State) (r : State) (h : Good W r a2) (_ : W .otp := by assumption) (_ : W
    .life := by assumption) (_ : W .arming := by assumption) : Good W r (lcsCmdWord a0 a1 a2) := by
  unfold lcsCmdWord
  repeat' first
    | with_reducible assumption | with_reducible apply lcsProgram_good | with_reducible apply lcsArm_good
    | with_reducible apply lcsTransition_good | with_reducible apply lcsUnknown_good
    | (with_reducible apply Good.foldl; intro _ _ _) | intro _
    | with_reducible apply Good.ite | split
    | with_reducible apply Good.fold | (with_reducible apply Good.mk'; try dsimp only) | with_reducible apply Good.fold_life
    | with_reducible apply Good.fold_arming

theorem celCmdWord_good {W : Group → Prop} (a0 : Word) (a1 : State) (r : State) (h : Good W r a1) : Good W r (celCmdWord a0 a1) := by
  unfold celCmdWord
  dsimp only
  repeat' first
    | with_reducible assumption | with_reducible apply celStartSelftest_good | with_reducible apply celRestart_good
    | with_reducible apply celWithdraw_good | with_reducible apply celReturn_good | with_reducible apply celClearFailed_good
    | with_reducible apply celUnknown_good
    | intro _ | with_reducible apply Good.ite | split | with_reducible apply Good.fold | with_reducible apply Good.mk'

theorem eisWrite_good {W : Group → Prop} (a0 : Agent) (a1 : Nat) (a2 : Word) (a3 : State) (r : State) (h : Good W r a3) (_ : W .settings := by
    assumption) : Good W r (eisWrite a0 a1 a2 a3) := by
  unfold eisWrite
  repeat' first
    | with_reducible assumption | with_reducible apply modAgent_good | with_reducible apply eisCmdWord_good
    | (with_reducible apply Good.foldl; intro _ _ _) | intro _
    | with_reducible apply Good.ite | split
    | with_reducible apply Good.fold | (with_reducible apply Good.mk'; try dsimp only) | with_reducible apply Good.fold_settings

theorem updWrite_good {W : Group → Prop} (a0 : Agent) (a1 : Nat) (a2 : Word) (a3 : State) (r : State) (h : Good W r a3) (_ : W .cellar := by
    assumption) (_ : W .flash := by assumption) (_ : W .image := by assumption) (_ : W .page := by assumption) (_ : W .powered := by assumption) (_ :
    W .settings := by assumption) (_ : W .clock := by assumption) (_ : W .badWords := by assumption) (_ : W .crystal := by assumption) (_ : W .verdict
    := by assumption) (_ : W .staged := by assumption) (_ : W .applied := by assumption) (_ : W .timing := by assumption) (_ : W .address := by
    assumption) (_ : W .expiry := by assumption) (_ : W .question := by assumption) (_ : W .life := by assumption) (_ : W .arming := by assumption) (_
    : W .flashOp := by assumption) (_ : W .rng := by assumption) (_ : W .diag := by assumption) (_ : W .failed := by assumption) (_ : W .button := by
    assumption) (_ : W .ship := by assumption) (_ : W .changeover := by assumption) (_ : W .graft := by assumption) (_ : W .irq := by assumption) (_ :
    W .lastEvent := by assumption) : Good W r (updWrite a0 a1 a2 a3) := by
  unfold updWrite
  repeat' first
    | with_reducible assumption | with_reducible apply hxIdxWrite_good | with_reducible apply hxDataWrite_good | with_reducible apply updCmd_good
    | (with_reducible apply Good.foldl; intro _ _ _) | intro _
    | with_reducible apply Good.ite | split
    | with_reducible apply Good.fold | (with_reducible apply Good.mk'; try dsimp only) | with_reducible apply Good.fold_mem
    | with_reducible apply Good.fold_bank0 | with_reducible apply Good.fold_bank1 | with_reducible apply Good.fold_stg
    | with_reducible apply Good.fold_fls | with_reducible apply Good.fold_powered | with_reducible apply Good.fold_settings
    | with_reducible apply Good.fold_clock | with_reducible apply Good.fold_badWords | with_reducible apply Good.fold_crystal
    | with_reducible apply Good.fold_verdict | with_reducible apply Good.fold_staged | with_reducible apply Good.fold_applied
    | with_reducible apply Good.fold_timing | with_reducible apply Good.fold_address | with_reducible apply Good.fold_expiry
    | with_reducible apply Good.fold_question | with_reducible apply Good.fold_life | with_reducible apply Good.fold_arming
    | with_reducible apply Good.fold_flashOp | with_reducible apply Good.fold_rng | with_reducible apply Good.fold_diag
    | with_reducible apply Good.fold_failed | with_reducible apply Good.fold_button | with_reducible apply Good.fold_ship
    | with_reducible apply Good.fold_changeover | with_reducible apply Good.fold_graft | with_reducible apply Good.fold_irq
    | with_reducible apply Good.fold_lastEvent

theorem cryWrite_good {W : Group → Prop} (a0 : Nat) (a1 : Word) (a2 : State) (r : State) (h : Good W r a2) : Good W r (cryWrite a0 a1 a2) := by
  unfold cryWrite
  dsimp only
  repeat' first
    | with_reducible assumption | with_reducible apply cryFeed_good | with_reducible apply cryBufWrite_good | with_reducible apply cryCtl_good
    | intro _ | with_reducible apply Good.ite | split | with_reducible apply Good.fold | with_reducible apply Good.mk'

theorem wdgWrite_good {W : Group → Prop} (a0 : Agent) (a1 : Nat) (a2 : Word) (a3 : State) (r : State) (h : Good W r a3) : Good W r (wdgWrite a0 a1 a2
    a3) := by
  unfold wdgWrite
  dsimp only
  repeat' first
    | with_reducible assumption | with_reducible apply wdgAnswer_good | with_reducible apply wdgPeriodWrite_good
    | with_reducible apply wdgCfgWrite_good
    | intro _ | with_reducible apply Good.ite | split | with_reducible apply Good.fold | with_reducible apply Good.mk'

theorem fltWrite_good {W : Group → Prop} (a0 : Agent) (a1 : Nat) (a2 : Word) (a3 : State) (r : State) (h : Good W r a3) (_ : W .settings := by
    assumption) : Good W r (fltWrite a0 a1 a2 a3) := by
  unfold fltWrite
  repeat' first
    | with_reducible assumption | with_reducible apply modAgent_good | with_reducible apply pendClear_good | with_reducible apply fltForce_good
    | (with_reducible apply Good.foldl; intro _ _ _) | intro _
    | with_reducible apply Good.ite | split
    | with_reducible apply Good.fold | (with_reducible apply Good.mk'; try dsimp only) | with_reducible apply Good.fold_settings

theorem clrWrite_good {W : Group → Prop} (a0 : Agent) (a1 : Nat) (a2 : Word) (a3 : State) (r : State) (h : Good W r a3) (_ : W .settings := by
    assumption) (_ : W .badWords := by assumption) : Good W r (clrWrite a0 a1 a2 a3) := by
  unfold clrWrite
  repeat' first
    | with_reducible assumption | with_reducible apply clrNote_good | with_reducible apply clrUnknown_good | with_reducible apply clrSelect_good
    | (with_reducible apply Good.foldl; intro _ _ _) | intro _
    | with_reducible apply Good.ite | split
    | with_reducible apply Good.fold | (with_reducible apply Good.mk'; try dsimp only) | with_reducible apply Good.fold_settings
    | with_reducible apply Good.fold_badWords

theorem trlWrite_good {W : Group → Prop} (a0 : Agent) (a1 : Nat) (a2 : Word) (a3 : State) (r : State) (h : Good W r a3) (_ : W .cellar := by
    assumption) (_ : W .settings := by assumption) (_ : W .timing := by assumption) (_ : W .address := by assumption) : Good W r (trlWrite a0 a1 a2
    a3) := by
  unfold trlWrite
  repeat' first
    | with_reducible assumption | with_reducible apply modAgent_good | with_reducible apply trlCmd_good | with_reducible apply trlCfgWrite_good
    | (with_reducible apply Good.foldl; intro _ _ _) | intro _
    | with_reducible apply Good.ite | split
    | with_reducible apply Good.fold | (with_reducible apply Good.mk'; try dsimp only) | with_reducible apply Good.fold_mem
    | with_reducible apply Good.fold_settings | with_reducible apply Good.fold_timing | with_reducible apply Good.fold_address

theorem regWriteEffect_good {W : Group → Prop} (a0 : Agent) (a1 : Nat) (a2 : Word) (a3 : State) (r : State) (h : Good W r a3) (_ : W .cellar := by
    assumption) (_ : W .flash := by assumption) (_ : W .otp := by assumption) (_ : W .image := by assumption) (_ : W .page := by assumption) (_ : W
    .powered := by assumption) (_ : W .settings := by assumption) (_ : W .clock := by assumption) (_ : W .badWords := by assumption) (_ : W .crystal
    := by assumption) (_ : W .verdict := by assumption) (_ : W .staged := by assumption) (_ : W .applied := by assumption) (_ : W .timing := by
    assumption) (_ : W .address := by assumption) (_ : W .expiry := by assumption) (_ : W .question := by assumption) (_ : W .life := by assumption)
    (_ : W .arming := by assumption) (_ : W .flashOp := by assumption) (_ : W .rng := by assumption) (_ : W .diag := by assumption) (_ : W .failed :=
    by assumption) (_ : W .button := by assumption) (_ : W .ship := by assumption) (_ : W .changeover := by assumption) (_ : W .graft := by
    assumption) (_ : W .irq := by assumption) (_ : W .lastEvent := by assumption) : Good W r (regWriteEffect a0 a1 a2 a3) := by
  unfold regWriteEffect
  repeat' first
    | with_reducible assumption | with_reducible apply modCell_good | with_reducible apply modAgent_good | with_reducible apply crdRestart_good
    | with_reducible apply crdUnknown_good | with_reducible apply pwrTestDrop_good | with_reducible apply pwrUnknown_good
    | with_reducible apply swTrigger_good | with_reducible apply adcWrite_good | with_reducible apply stgWrite_good
    | with_reducible apply flsWrite_good | with_reducible apply flsCmd_good | with_reducible apply sysCmd_good | with_reducible apply stgCmd_good
    | with_reducible apply chgCmdWord_good | with_reducible apply adcCmdWord_good | with_reducible apply pptCmdWord_good
    | with_reducible apply lcsCmdWord_good | with_reducible apply celCmdWord_good | with_reducible apply eisWrite_good
    | with_reducible apply updWrite_good | with_reducible apply cryWrite_good | with_reducible apply wdgWrite_good
    | with_reducible apply fltWrite_good | with_reducible apply clrWrite_good | with_reducible apply trlWrite_good
    | (with_reducible apply Good.foldl; intro _ _ _) | intro _
    | with_reducible apply Good.ite | split
    | with_reducible apply Good.fold | (with_reducible apply Good.mk'; try dsimp only) | with_reducible apply Good.fold_mem
    | with_reducible apply Good.fold_bank0 | with_reducible apply Good.fold_bank1 | with_reducible apply Good.fold_stg
    | with_reducible apply Good.fold_fls | with_reducible apply Good.fold_powered | with_reducible apply Good.fold_settings
    | with_reducible apply Good.fold_clock | with_reducible apply Good.fold_badWords | with_reducible apply Good.fold_crystal
    | with_reducible apply Good.fold_verdict | with_reducible apply Good.fold_staged | with_reducible apply Good.fold_applied
    | with_reducible apply Good.fold_timing | with_reducible apply Good.fold_address | with_reducible apply Good.fold_expiry
    | with_reducible apply Good.fold_question | with_reducible apply Good.fold_life | with_reducible apply Good.fold_arming
    | with_reducible apply Good.fold_flashOp | with_reducible apply Good.fold_rng | with_reducible apply Good.fold_diag
    | with_reducible apply Good.fold_failed | with_reducible apply Good.fold_button | with_reducible apply Good.fold_ship
    | with_reducible apply Good.fold_changeover | with_reducible apply Good.fold_graft | with_reducible apply Good.fold_irq
    | with_reducible apply Good.fold_lastEvent

theorem regRead_good {W : Group → Prop} (a0 : Agent) (a1 : Bool) (a2 : Nat) (a3 : State) (r : State) (h : Good W r a3) (_ : W .badWords := by
    assumption) (_ : W .lastEvent := by assumption) : Good W r (regRead a0 a1 a2 a3).st := by
  unfold regRead
  repeat' first
    | with_reducible assumption | with_reducible apply freeWord_good | with_reducible apply randomWord_good | with_reducible apply regReadDone_good
    | (with_reducible apply Good.foldl; intro _ _ _) | intro _
    | with_reducible apply Good.ite | split
    | with_reducible apply Good.fold | (with_reducible apply Good.mk'; try dsimp only) | with_reducible apply Good.fold_badWords
    | with_reducible apply Good.fold_lastEvent

theorem regWrite_good {W : Group → Prop} (a0 : Agent) (a1 : Bool) (a2 : Nat) (a3 : Word) (a4 : State) (r : State) (h : Good W r a4) (_ : W .cellar :=
    by assumption) (_ : W .flash := by assumption) (_ : W .otp := by assumption) (_ : W .image := by assumption) (_ : W .page := by assumption) (_ : W
    .powered := by assumption) (_ : W .settings := by assumption) (_ : W .clock := by assumption) (_ : W .badWords := by assumption) (_ : W .crystal
    := by assumption) (_ : W .verdict := by assumption) (_ : W .staged := by assumption) (_ : W .applied := by assumption) (_ : W .timing := by
    assumption) (_ : W .address := by assumption) (_ : W .expiry := by assumption) (_ : W .question := by assumption) (_ : W .life := by assumption)
    (_ : W .arming := by assumption) (_ : W .flashOp := by assumption) (_ : W .rng := by assumption) (_ : W .diag := by assumption) (_ : W .failed :=
    by assumption) (_ : W .button := by assumption) (_ : W .ship := by assumption) (_ : W .changeover := by assumption) (_ : W .graft := by
    assumption) (_ : W .irq := by assumption) (_ : W .lastEvent := by assumption) : Good W r (regWrite a0 a1 a2 a3 a4).st := by
  unfold regWrite
  dsimp only
  repeat' first
    | with_reducible assumption | with_reducible apply regWriteEffect_good
    | intro _ | with_reducible apply Good.ite | split | with_reducible apply Good.fold | with_reducible apply Good.mk'

theorem authCtl_good {W : Group → Prop} (a0 : Word) (a1 : State) (r : State) (h : Good W r a1) : Good W r (authCtl a0 a1) := by
  unfold authCtl
  repeat' first
    | with_reducible assumption | with_reducible apply sessRes_good | with_reducible apply sessRequest_good | with_reducible apply sessVerify_good
    | with_reducible apply sessClose_good
    | (with_reducible apply Good.foldl; intro _ _ _) | intro _
    | with_reducible apply Good.ite | split
    | with_reducible apply Good.fold | (with_reducible apply Good.mk'; try dsimp only)

theorem spiStatWrite_good {W : Group → Prop} (a0 : Word) (a1 : State) (r : State) (h : Good W r a1) : Good W r (spiStatWrite a0 a1) := ⟨h.1⟩

theorem ifWriteEffect_good {W : Group → Prop} (a0 : Nat) (a1 : Word) (a2 : State) (r : State) (h : Good W r a2) (_ : W .irq := by assumption) : Good W
    r (ifWriteEffect a0 a1 a2) := by
  unfold ifWriteEffect
  repeat' first
    | with_reducible assumption | with_reducible apply authWrite_good | with_reducible apply authCtl_good | with_reducible apply spiStatWrite_good
    | (with_reducible apply Good.foldl; intro _ _ _) | intro _
    | with_reducible apply Good.ite | split
    | with_reducible apply Good.fold | (with_reducible apply Good.mk'; try dsimp only) | with_reducible apply Good.fold_irq

theorem ifRead_good {W : Group → Prop} (a0 : Nat) (a1 : State) (r : State) (h : Good W r a1) : Good W r (ifRead a0 a1).st := by
  unfold ifRead
  repeat' first
    | with_reducible assumption | with_reducible apply authStep_good
    | (with_reducible apply Good.foldl; intro _ _ _) | intro _
    | with_reducible apply Good.ite | split
    | with_reducible apply Good.fold | (with_reducible apply Good.mk'; try dsimp only)

theorem ifWrite_good {W : Group → Prop} (a0 : Nat) (a1 : Word) (a2 : State) (r : State) (h : Good W r a2) (_ : W .irq := by assumption) : Good W r
    (ifWrite a0 a1 a2).st := by
  unfold ifWrite
  dsimp only
  repeat' first
    | with_reducible assumption | with_reducible apply ifWriteEffect_good
    | intro _ | with_reducible apply Good.ite | split | with_reducible apply Good.fold | with_reducible apply Good.mk'

theorem respond_good {W : Group → Prop} (a0 : Bool) (a1 : Resp) (a2 : State) (r : State) (h : Good W r a2) : Good W r (respond a0 a1 a2) := by
  unfold respond
  repeat' first
    | with_reducible assumption
    | with_reducible apply Good.ite | exact ⟨h.1⟩

theorem countDenied_good {W : Group → Prop} (a0 : Nat) (a1 : State) (r : State) (h : Good W r a1) : Good W r (countDenied a0 a1) := by
  unfold countDenied
  exact Good.ite ⟨h.1⟩ h

theorem loadNext_good {W : Group → Prop} (a0 : State) (r : State) (h : Good W r a0) : Good W r (loadNext a0) := ⟨h.1⟩

theorem frame_good {W : Group → Prop} (a0 : Bool) (a1 : Nat) (a2 : State → Access) (a3 : State) (r : State) (h : Good W r a3) (ha2 : ∀ t, Good W r t →
    Good W r (a2 t).st) : Good W r (frame a0 a1 a2 a3) := by
  unfold frame
  repeat' first
    | with_reducible assumption | with_reducible apply ha2 | with_reducible apply respond_good | with_reducible apply countDenied_good
    | with_reducible apply loadNext_good
    | with_reducible apply Good.ite | exact ⟨h.1⟩

theorem execSpiRead_good {W : Group → Prop} (a0 : Nat) (a1 : Bool) (a2 : State) (r t : State) (h : Good W r a2) (e : execSpiRead a0 a1 a2 = .next t)
    (_ : W .badWords := by assumption) (_ : W .lastEvent := by assumption) : Good W r t := by
  unfold execSpiRead at e
  refine act_good _ _ _ _ h (fun s h => ?_) e
  clear e
  repeat' first
    | with_reducible assumption | with_reducible apply regRead_good | with_reducible apply frame_good
    | (with_reducible apply Good.foldl; intro _ _ _) | intro _
    | with_reducible apply Good.ite | split
    | with_reducible apply Good.fold | (with_reducible apply Good.mk'; try dsimp only) | with_reducible apply Good.fold_badWords
    | with_reducible apply Good.fold_lastEvent

theorem execSpiWrite_good {W : Group → Prop} (a0 : Nat) (a1 : Word) (a2 : Bool) (a3 : State) (r t : State) (h : Good W r a3) (e : execSpiWrite a0 a1
    a2 a3 = .next t) (_ : W .cellar := by assumption) (_ : W .flash := by assumption) (_ : W .otp := by assumption) (_ : W .image := by assumption) (_
    : W .page := by assumption) (_ : W .powered := by assumption) (_ : W .settings := by assumption) (_ : W .clock := by assumption) (_ : W .badWords
    := by assumption) (_ : W .crystal := by assumption) (_ : W .verdict := by assumption) (_ : W .staged := by assumption) (_ : W .applied := by
    assumption) (_ : W .timing := by assumption) (_ : W .address := by assumption) (_ : W .expiry := by assumption) (_ : W .question := by assumption)
    (_ : W .life := by assumption) (_ : W .arming := by assumption) (_ : W .flashOp := by assumption) (_ : W .rng := by assumption) (_ : W .diag := by
    assumption) (_ : W .failed := by assumption) (_ : W .button := by assumption) (_ : W .ship := by assumption) (_ : W .changeover := by assumption)
    (_ : W .graft := by assumption) (_ : W .irq := by assumption) (_ : W .lastEvent := by assumption) : Good W r t := by
  unfold execSpiWrite at e
  refine act_good _ _ _ _ h (fun s h => ?_) e
  clear e
  repeat' first
    | with_reducible assumption | with_reducible apply regWrite_good | with_reducible apply frame_good
    | (with_reducible apply Good.foldl; intro _ _ _) | intro _
    | with_reducible apply Good.ite | split
    | with_reducible apply Good.fold | (with_reducible apply Good.mk'; try dsimp only) | with_reducible apply Good.fold_mem
    | with_reducible apply Good.fold_bank0 | with_reducible apply Good.fold_bank1 | with_reducible apply Good.fold_stg
    | with_reducible apply Good.fold_fls | with_reducible apply Good.fold_powered | with_reducible apply Good.fold_settings
    | with_reducible apply Good.fold_clock | with_reducible apply Good.fold_badWords | with_reducible apply Good.fold_crystal
    | with_reducible apply Good.fold_verdict | with_reducible apply Good.fold_staged | with_reducible apply Good.fold_applied
    | with_reducible apply Good.fold_timing | with_reducible apply Good.fold_address | with_reducible apply Good.fold_expiry
    | with_reducible apply Good.fold_question | with_reducible apply Good.fold_life | with_reducible apply Good.fold_arming
    | with_reducible apply Good.fold_flashOp | with_reducible apply Good.fold_rng | with_reducible apply Good.fold_diag
    | with_reducible apply Good.fold_failed | with_reducible apply Good.fold_button | with_reducible apply Good.fold_ship
    | with_reducible apply Good.fold_changeover | with_reducible apply Good.fold_graft | with_reducible apply Good.fold_irq
    | with_reducible apply Good.fold_lastEvent

theorem execNop_good {W : Group → Prop} (a0 : Nat) (a1 : Bool) (a2 : State) (r t : State) (h : Good W r a2) (e : execNop a0 a1 a2 = .next t) : Good W
    r t := by
  unfold execNop at e
  refine act_good _ _ _ _ h (fun s h => ?_) e
  clear e
  repeat' first
    | with_reducible assumption | with_reducible apply frame_good
    | (with_reducible apply Good.foldl; intro _ _ _) | intro _
    | with_reducible apply Good.ite | split
    | with_reducible apply Good.fold | (with_reducible apply Good.mk'; try dsimp only)

theorem execIfRead_good {W : Group → Prop} (a0 : Nat) (a1 : Bool) (a2 : State) (r t : State) (h : Good W r a2) (e : execIfRead a0 a1 a2 = .next t) :
    Good W r t := by
  unfold execIfRead at e
  refine act_good _ _ _ _ h (fun s h => ?_) e
  clear e
  repeat' first
    | with_reducible assumption | with_reducible apply ifRead_good | with_reducible apply frame_good
    | (with_reducible apply Good.foldl; intro _ _ _) | intro _
    | with_reducible apply Good.ite | split
    | with_reducible apply Good.fold | (with_reducible apply Good.mk'; try dsimp only)

theorem execIfWrite_good {W : Group → Prop} (a0 : Nat) (a1 : Word) (a2 : Bool) (a3 : State) (r t : State) (h : Good W r a3) (e : execIfWrite a0 a1 a2
    a3 = .next t) (_ : W .irq := by assumption) : Good W r t := by
  unfold execIfWrite at e
  refine act_good _ _ _ _ h (fun s h => ?_) e
  clear e
  repeat' first
    | with_reducible assumption | with_reducible apply ifWrite_good | with_reducible apply frame_good
    | (with_reducible apply Good.foldl; intro _ _ _) | intro _
    | with_reducible apply Good.ite | split
    | with_reducible apply Good.fold | (with_reducible apply Good.mk'; try dsimp only) | with_reducible apply Good.fold_irq

theorem execUnknownCmd_good {W : Group → Prop} (a0 : Nat) (a1 : Bool) (a2 : State) (r t : State) (h : Good W r a2) (e : execUnknownCmd a0 a1 a2 =
    .next t) : Good W r t := by
  unfold execUnknownCmd at e
  refine act_good _ _ _ _ h (fun s h => ?_) e
  dsimp only
  repeat' first
    | with_reducible assumption | with_reducible apply frame_good
    | intro _ | with_reducible apply Good.ite | split | with_reducible apply Good.fold | with_reducible apply Good.mk'

theorem resendCopy_good {W : Group → Prop} (a0 : State) (r : State) (h : Good W r a0) : Good W r (resendCopy a0).2 := by
  unfold resendCopy
  dsimp only
  repeat' first
    | with_reducible assumption | with_reducible apply freeNat_good | with_reducible apply freeWord_good
    | intro _ | with_reducible apply Good.ite | split | with_reducible apply Good.fold | with_reducible apply Good.mk'

theorem resendFrame_good {W : Group → Prop} (a0 : Bool) (a1 : State) (r : State) (h : Good W r a1) : Good W r (resendFrame a0 a1) := by
  unfold resendFrame
  dsimp only
  repeat' first
    | with_reducible assumption | with_reducible apply respond_good | with_reducible apply loadNext_good | with_reducible apply resendCopy_good
    | intro _ | with_reducible apply Good.ite | split | with_reducible apply Good.fold | with_reducible apply Good.mk'

theorem execResend_good {W : Group → Prop} (a0 : Nat) (a1 : Bool) (a2 : State) (r t : State) (h : Good W r a2) (e : execResend a0 a1 a2 = .next t) :
    Good W r t := by
  unfold execResend at e
  refine act_good _ _ _ _ h (fun s h => ?_) e
  repeat' first
    | with_reducible assumption | with_reducible apply resendFrame_good
    | with_reducible apply Good.ite | exact ⟨h.1⟩

theorem discardFrame_good {W : Group → Prop} (n : Nat) (b : Bool) (s : State) (r : State) (h : Good W r s) : Good W r (discardFrame n b s) := by
  unfold discardFrame
  refine Good.ite h ?_
  have k : Good W r (freeNat 16 (loadNext s)).2 := freeNat_good _ _ _ (loadNext_good _ _ h)
  extract_lets c x
  change Good W r x.2 at k
  clear_value x
  exact respond_good _ _ _ _ (Good.mk' (Good.fold k))

theorem execFrameDiscarded_good {W : Group → Prop} (a0 : Nat) (a1 : Bool) (a2 : State) (r t : State) (h : Good W r a2) (e : execFrameDiscarded a0 a1
    a2 = .next t) : Good W r t := by
  unfold execFrameDiscarded at e
  refine act_good _ _ _ _ h (fun s h => ?_) e
  repeat' first
    | with_reducible assumption | with_reducible apply discardFrame_good
    | with_reducible apply Good.ite | exact ⟨h.1⟩

theorem execRegisterWrite_good {W : Group → Prop} (a0 : Agent) (a1 : Nat) (a2 : Word) (a3 : State) (r t : State) (h : Good W r a3) (e :
    execRegisterWrite a0 a1 a2 a3 = .next t) (_ : W .cellar := by assumption) (_ : W .flash := by assumption) (_ : W .otp := by assumption) (_ : W
    .image := by assumption) (_ : W .page := by assumption) (_ : W .powered := by assumption) (_ : W .settings := by assumption) (_ : W .clock := by
    assumption) (_ : W .badWords := by assumption) (_ : W .crystal := by assumption) (_ : W .verdict := by assumption) (_ : W .staged := by
    assumption) (_ : W .applied := by assumption) (_ : W .timing := by assumption) (_ : W .address := by assumption) (_ : W .expiry := by assumption)
    (_ : W .question := by assumption) (_ : W .life := by assumption) (_ : W .arming := by assumption) (_ : W .flashOp := by assumption) (_ : W .rng
    := by assumption) (_ : W .diag := by assumption) (_ : W .failed := by assumption) (_ : W .button := by assumption) (_ : W .ship := by assumption)
    (_ : W .changeover := by assumption) (_ : W .graft := by assumption) (_ : W .irq := by assumption) (_ : W .lastEvent := by assumption) : Good W r
    t := by
  unfold execRegisterWrite at e
  refine act_good _ _ _ _ h (fun s h => ?_) e
  repeat' first
    | with_reducible assumption | with_reducible apply regWrite_good
    | with_reducible apply Good.ite | exact ⟨h.1⟩

theorem keep_good {W : Group → Prop} (a0 : Kept) (a1 : State) (r : State) (h : Good W r a1) : Good W r (keep a0 a1) := ⟨h.1⟩

theorem remoteRead_good {W : Group → Prop} (src n a : Nat) (z : Remote) (r : State) (h : Good W r z.st) (_ : W .badWords := by assumption) (_ : W
    .lastEvent := by assumption) : Good W r (remoteRead src n a z).st := by
  induction n generalizing a z with
  | zero => exact h
  | succ n ih =>
    unfold remoteRead
    have k := regRead_good .trellis (remotePriv src z.st) a z.st r h
    dsimp only
    split
    · exact ih _ _ k
    · exact k

theorem remoteWrite_good {W : Group → Prop} (src : Nat) (ds : List Word) (a : Nat) (z : Remote) (r : State) (h : Good W r z.st) (_ : W .cellar := by
    assumption) (_ : W .flash := by assumption) (_ : W .otp := by assumption) (_ : W .image := by assumption) (_ : W .page := by assumption) (_ : W
    .powered := by assumption) (_ : W .settings := by assumption) (_ : W .clock := by assumption) (_ : W .badWords := by assumption) (_ : W .crystal
    := by assumption) (_ : W .verdict := by assumption) (_ : W .staged := by assumption) (_ : W .applied := by assumption) (_ : W .timing := by
    assumption) (_ : W .address := by assumption) (_ : W .expiry := by assumption) (_ : W .question := by assumption) (_ : W .life := by assumption)
    (_ : W .arming := by assumption) (_ : W .flashOp := by assumption) (_ : W .rng := by assumption) (_ : W .diag := by assumption) (_ : W .failed :=
    by assumption) (_ : W .button := by assumption) (_ : W .ship := by assumption) (_ : W .changeover := by assumption) (_ : W .graft := by
    assumption) (_ : W .irq := by assumption) (_ : W .lastEvent := by assumption) :
    Good W r (remoteWrite src ds a z).st := by
  induction ds generalizing a z with
  | nil => exact h
  | cons d ds ih =>
    unfold remoteWrite
    have k := regWrite_good .trellis (remotePriv src z.st) a d z.st r h
    dsimp only
    split
    · exact ih _ _ k
    · exact k

theorem runRequest_good {W : Group → Prop} (p : Nat) (q : RegReq) (s : State) (r : State) (h : Good W r s) (_ : W .cellar := by assumption) (_ : W
    .flash := by assumption) (_ : W .otp := by assumption) (_ : W .image := by assumption) (_ : W .page := by assumption) (_ : W .powered := by
    assumption) (_ : W .settings := by assumption) (_ : W .clock := by assumption) (_ : W .badWords := by assumption) (_ : W .crystal := by
    assumption) (_ : W .verdict := by assumption) (_ : W .staged := by assumption) (_ : W .applied := by assumption) (_ : W .timing := by assumption)
    (_ : W .address := by assumption) (_ : W .expiry := by assumption) (_ : W .question := by assumption) (_ : W .life := by assumption) (_ : W
    .arming := by assumption) (_ : W .flashOp := by assumption) (_ : W .rng := by assumption) (_ : W .diag := by assumption) (_ : W .failed := by
    assumption) (_ : W .button := by assumption) (_ : W .ship := by assumption) (_ : W .changeover := by assumption) (_ : W .graft := by assumption)
    (_ : W .irq := by assumption) (_ : W .lastEvent := by assumption) : Good W r (runRequest p q s) := by
  unfold runRequest
  extract_lets z x
  have hx : Good W r x.st := by
    simp only [x]; split
    · exact remoteRead_good _ _ _ _ _ h
    · exact remoteWrite_good _ _ _ _ _ h
  exact sendTo_good _ _ _ _ _ _ (keep_good _ _ _ hx)

theorem regRequest_good {W : Group → Prop} (a0 : Nat) (a1 : RegReq) (a2 : State) (r : State) (h : Good W r a2) (_ : W .cellar := by assumption) (_ : W
    .flash := by assumption) (_ : W .otp := by assumption) (_ : W .image := by assumption) (_ : W .page := by assumption) (_ : W .powered := by
    assumption) (_ : W .settings := by assumption) (_ : W .clock := by assumption) (_ : W .badWords := by assumption) (_ : W .crystal := by
    assumption) (_ : W .verdict := by assumption) (_ : W .staged := by assumption) (_ : W .applied := by assumption) (_ : W .timing := by assumption)
    (_ : W .address := by assumption) (_ : W .expiry := by assumption) (_ : W .question := by assumption) (_ : W .life := by assumption) (_ : W
    .arming := by assumption) (_ : W .flashOp := by assumption) (_ : W .rng := by assumption) (_ : W .diag := by assumption) (_ : W .failed := by
    assumption) (_ : W .button := by assumption) (_ : W .ship := by assumption) (_ : W .changeover := by assumption) (_ : W .graft := by assumption)
    (_ : W .irq := by assumption) (_ : W .lastEvent := by assumption) : Good W r (regRequest a0 a1 a2) := by
  unfold regRequest
  repeat' first
    | with_reducible assumption | with_reducible apply sendTo_good | with_reducible apply runRequest_good
    | (with_reducible apply Good.foldl; intro _ _ _) | intro _
    | with_reducible apply Good.ite | split
    | with_reducible apply Good.fold | (with_reducible apply Good.mk'; try dsimp only) | with_reducible apply Good.fold_mem
    | with_reducible apply Good.fold_bank0 | with_reducible apply Good.fold_bank1 | with_reducible apply Good.fold_stg
    | with_reducible apply Good.fold_fls | with_reducible apply Good.fold_powered | with_reducible apply Good.fold_settings
    | with_reducible apply Good.fold_clock | with_reducible apply Good.fold_badWords | with_reducible apply Good.fold_crystal
    | with_reducible apply Good.fold_verdict | with_reducible apply Good.fold_staged | with_reducible apply Good.fold_applied
    | with_reducible apply Good.fold_timing | with_reducible apply Good.fold_address | with_reducible apply Good.fold_expiry
    | with_reducible apply Good.fold_question | with_reducible apply Good.fold_life | with_reducible apply Good.fold_arming
    | with_reducible apply Good.fold_flashOp | with_reducible apply Good.fold_rng | with_reducible apply Good.fold_diag
    | with_reducible apply Good.fold_failed | with_reducible apply Good.fold_button | with_reducible apply Good.fold_ship
    | with_reducible apply Good.fold_changeover | with_reducible apply Good.fold_graft | with_reducible apply Good.fold_irq
    | with_reducible apply Good.fold_lastEvent

theorem execRegReq_good {W : Group → Prop} (a0 : Via) (a1 : RegReq) (a2 : State) (r t : State) (h : Good W r a2) (e : execRegReq a0 a1 a2 = .next t)
    (_ : W .cellar := by assumption) (_ : W .flash := by assumption) (_ : W .otp := by assumption) (_ : W .image := by assumption) (_ : W .page := by
    assumption) (_ : W .powered := by assumption) (_ : W .settings := by assumption) (_ : W .clock := by assumption) (_ : W .badWords := by
    assumption) (_ : W .crystal := by assumption) (_ : W .verdict := by assumption) (_ : W .staged := by assumption) (_ : W .applied := by assumption)
    (_ : W .timing := by assumption) (_ : W .address := by assumption) (_ : W .expiry := by assumption) (_ : W .question := by assumption) (_ : W
    .life := by assumption) (_ : W .arming := by assumption) (_ : W .flashOp := by assumption) (_ : W .rng := by assumption) (_ : W .diag := by
    assumption) (_ : W .failed := by assumption) (_ : W .button := by assumption) (_ : W .ship := by assumption) (_ : W .changeover := by assumption)
    (_ : W .graft := by assumption) (_ : W .irq := by assumption) (_ : W .lastEvent := by assumption) : Good W r t := by
  unfold execRegReq at e
  refine act_good _ _ _ _ h (fun s h => ?_) e
  clear e
  repeat' first
    | with_reducible assumption | with_reducible apply consume_good | with_reducible apply regRequest_good
    | (with_reducible apply Good.foldl; intro _ _ _) | intro _
    | with_reducible apply Good.ite | split
    | with_reducible apply Good.fold | (with_reducible apply Good.mk'; try dsimp only) | with_reducible apply Good.fold_mem
    | with_reducible apply Good.fold_bank0 | with_reducible apply Good.fold_bank1 | with_reducible apply Good.fold_stg
    | with_reducible apply Good.fold_fls | with_reducible apply Good.fold_powered | with_reducible apply Good.fold_settings
    | with_reducible apply Good.fold_clock | with_reducible apply Good.fold_badWords | with_reducible apply Good.fold_crystal
    | with_reducible apply Good.fold_verdict | with_reducible apply Good.fold_staged | with_reducible apply Good.fold_applied
    | with_reducible apply Good.fold_timing | with_reducible apply Good.fold_address | with_reducible apply Good.fold_expiry
    | with_reducible apply Good.fold_question | with_reducible apply Good.fold_life | with_reducible apply Good.fold_arming
    | with_reducible apply Good.fold_flashOp | with_reducible apply Good.fold_rng | with_reducible apply Good.fold_diag
    | with_reducible apply Good.fold_failed | with_reducible apply Good.fold_button | with_reducible apply Good.fold_ship
    | with_reducible apply Good.fold_changeover | with_reducible apply Good.fold_graft | with_reducible apply Good.fold_irq
    | with_reducible apply Good.fold_lastEvent

end Sys2Proof.Laws
end

