-- ==== Sys2Proof/WellFormed.lean ====
section
/-! DEFINITION. Which commands are well formed: every number lies in the range of the field, table or payload that
carries it. A meaning never needs this check: a cell, cordon or window that does not exist has no effect. -/

namespace Sys2Proof

namespace WellFormed

/-- A number below a bound. -/
def below (bound n : Nat) : Bool := decide (n < bound)
/-- A cell, 1 to 7 (R5). -/
def cellOk (n : Nat) : Bool := decide (1 ≤ n ∧ n ≤ 7)
/-- A cordon, 1 to 7 (R13). -/
def cordonOk (n : Nat) : Bool := decide (1 ≤ n ∧ n ≤ 7)
/-- A battery or peer index, 1 to 4 (R78). -/
def fourOk (n : Nat) : Bool := decide (1 ≤ n ∧ n ≤ 4)
/-- A source table entry, 1 to 8 (Table 3-7). -/
def entryOk (n : Nat) : Bool := decide (1 ≤ n ∧ n ≤ 8)
/-- A converter, 0 to 3 for A to D (R258). -/
def convOk (n : Nat) : Bool := decide (n < 4)
/-- A slice, 0 to 4 for A to D and S (Table 9-11). -/
def sliceOk (n : Nat) : Bool := decide (n < 5)
/-- A register request of 1 to 32 words (R336). -/
def regReqOk (r : RegReq) : Bool :=
  decide (r.src < 65536 ∧ r.tag < 65536 ∧ 1 ≤ r.count ∧ r.count ≤ 32 ∧ r.addr < 65536) &&
  decide (r.op = 1 ∨ (r.op = 2 ∧ r.data.length = r.count))
/-- An AUTH operation: a lease of one byte, a signature of 96 bytes (R339). -/
def authOk : AuthOp → Bool
  | .request lease => decide (lease < 256)
  | .verify sig => decide (sig.length = 96)
  | .close => true
/-- A Trellis frame within the fields of Table 12-1. -/
def frameOk (f : TrlFrame) : Bool :=
  decide (f.prio < 8 ∧ f.dest < 65536 ∧ f.src < 65536 ∧ f.typ < 32 ∧ f.cr < 8 ∧ f.body.length ≤ 256)
/-- The head of an accepted frame (Table 12-1). -/
def viaOk (v : Via) : Bool := decide (v.prio < 8 ∧ v.cr < 8)
/-- HEARTBEAT within the fields of Table 12-4. -/
def hbOk (h : Hb) : Bool :=
  decide (h.src < 65536 ∧ h.port < 2 ∧ h.named < 65536 ∧ h.mode < 8 ∧ h.tHb < 65536 ∧ h.master < 65536 ∧ h.rank < 256 ∧ h.hops < 256 ∧
    h.cr < 8)
/-- TIME within the fields of R333. -/
def timeOk (t : TimeFrame) : Bool :=
  decide (t.master < 65536 ∧ t.rank < 256 ∧ t.hops < 256 ∧ t.time < 2 ^ 48 ∧ t.cr < 8)
/-- CAPS within the fields of Table 8-5. -/
def capsOk (c : Caps) : Bool :=
  decide (c.addr < 65536 ∧ c.vMin < 65536 ∧ c.vMax < 65536 ∧ c.expLim < 65536 ∧ c.impLim < 65536 ∧
    c.swapP < 65536 ∧ c.rCable < 65536)
/-- Contract terms within the fields of Table 8-5. -/
def termsOk (t : Terms) : Bool := decide (t.vC < 65536 ∧ t.pC < 65536 ∧ t.pS < 65536 ∧ t.rC < 65536)
/-- A window of at most six chunks (Table 13-7). -/
def winOk (w : GraftWin) : Bool := decide (w.first < 65536 ∧ w.count ≤ 6)
/-- A chunk of 256 bytes (Table 13-7). -/
def chunkOk (b : List Byte) : Bool := decide (b.length = 256)

end WellFormed

open WellFormed in
/-- The command's operands lie in their ranges. -/
def wellFormed : Instr → Bool
  | .powerOnReset _ => true
  | .logicRailFail _ _ => true
  | .gateDriveUvlo cell => cellOk cell
  | .crystalQualified => true
  | .crystalLost => true
  | .linkTrainingComplete cell _ => cellOk cell
  | .linkTrainingFail cell => cellOk cell
  | .linkDown cell _ => cellOk cell
  | .linkHoldExpiry cell => cellOk cell
  | .sync cell => cellOk cell
  | .set cell _ => cellOk cell
  | .arm cell _ _ => cellOk cell
  | .cmd cell _ => cellOk cell
  | .abort cell => cellOk cell
  | .applyArmedSet cell => cellOk cell
  | .commitMissed cell => cellOk cell
  | .telem cell _ => cellOk cell
  | .event cell _ => cellOk cell
  | .rsp cell seq _ => cellOk cell && below 65536 seq
  | .ack cell seq _ _ => cellOk cell && below 65536 seq
  | .commitTick _ => true
  | .giveApplied cordon => cordonOk cordon
  | .overloadAccountEmpty cell => cellOk cell
  | .engage cell => cellOk cell
  | .protectionTrip cell _ => cellOk cell
  | .tripCleared cell _ => cellOk cell
  | .ocRestart cell => cellOk cell
  | .startSelftest cell => cellOk cell
  | .restart cell => cellOk cell
  | .withdraw cell => cellOk cell
  | .returnCell cell => cellOk cell
  | .clearFailed cell => cellOk cell
  | .selftestDue cell => cellOk cell
  | .selftestComplete cell _ _ => cellOk cell
  | .selftestReschedule cell => cellOk cell
  | .microcodeTransferEnd cell _ => cellOk cell
  | .restartCordon cordon => cordonOk cordon
  | .lastGoodCopyWrite => true
  | .enterService lease => below 256 lease
  | .leaveService => true
  | .serviceLeaseExpiry => true
  | .coreReset key => below 256 key
  | .enterShip key _ => below 256 key
  | .clearLimpLock => true
  | .ready _ _ => true
  | .readyTimeout _ => true
  | .limpCause cause => below 16 cause
  | .heldExpiry => true
  | .warmRestart => true
  | .limpCountAge => true
  | .limpSourceReadmit ref => below 8 ref
  | .caskHeld => true
  | .sourceCrossingReport entry _ => entryOk entry
  | .sourceQualifyStart entry _ => entryOk entry
  | .qualificationEnd entry => entryOk entry
  | .sourceDrop entry => entryOk entry
  | .dropCountAge entry => entryOk entry
  | .coLate => true
  | .handback => true
  | .handbackComplete => true
  | .handbackTimeout => true
  | .caskLow => true
  | .caskLowClear => true
  | .supplementEnd => true
  | .testDrop entry hold => entryOk entry && below 65536 hold
  | .testDropHoldEnd entry => entryOk entry
  | .chargeEvaluation => true
  | .qualifyRestEnd index => fourOk index
  | .safeTimeout index => fourOk index
  | .preTimeout index => fourOk index
  | .cvTimerExpiry index => fourOk index
  | .chgRestart index => fourOk index
  | .hold index => fourOk index
  | .newCycle index => fourOk index
  | .nicdPulseEnd index => fourOk index
  | .batswSettled index v w => fourOk index && below 65536 v && below 65536 w
  | .batswSettleTimeout index => fourOk index
  | .batswRetry index => fourOk index
  | .missingPulseEnd index _ _ => fourOk index
  | .presenceProbe index => fourOk index
  | .presenceProbeEnd index _ => fourOk index
  | .bookCellarWrite => true
  | .switchOpen index => fourOk index
  | .switchRelease index => fourOk index
  | .run index => fourOk index
  | .runDeep index => fourOk index
  | .eisAbort index => fourOk index
  | .setRef index => fourOk index
  | .bookReset index => fourOk index
  | .eisScheduledDue index => fourOk index
  | .eisScheduledSkip index => fourOk index
  | .eisPointComplete index _ => fourOk index
  | .btnPress => true
  | .shipEntryDone => true
  | .shipWake _ => true
  | .longPressReset => true
  | .longPressHoldEnd _ => true
  | .absorbEntry cell => cellOk cell
  | .absorbRelease cell => cellOk cell
  | .brkGateRise => true
  | .brkGateFall => true
  | .regenOv => true
  | .presentationToggle peer _ => fourOk peer
  | .partnerRecognised peer => fourOk peer
  | .quietWindowEnd peer ownK => fourOk peer && below 65536 ownK
  | .moisturePeriodic peer => fourOk peer
  | .wetRetry peer => fourOk peer
  | .caps peer seq c => fourOk peer && below 65536 seq && capsOk c
  | .offer peer seq t => fourOk peer && below 65536 seq && termsOk t
  | .accept peer seq => fourOk peer && below 65536 seq
  | .reject peer reason => fourOk peer && below 256 reason
  | .status peer seq _ => fourOk peer && below 65536 seq
  | .peerEnd peer seq reason => fourOk peer && below 65536 seq && below 256 reason
  | .quiet peer seq => fourOk peer && below 65536 seq
  | .peerTest peer seq power duration => fourOk peer && below 65536 seq && below 65536 power && below 65536 duration
  | .peerAck peer seq => fourOk peer && below 65536 seq
  | .peerStatusSend peer => fourOk peer
  | .peerReplyTimeout peer => fourOk peer
  | .swapPulse peer => fourOk peer
  | .swapFail peer => fourOk peer
  | .swapOfferTimeout peer => fourOk peer
  | .partnerLost peer => fourOk peer
  | .backoffEnd peer => fourOk peer
  | .exportTest peer power duration => fourOk peer && below 65536 power && below 65536 duration
  | .exportTestEnd peer => fourOk peer
  | .endContract peer => fourOk peer
  | .recheckMoisture peer => fourOk peer
  | .slotConversionDone conv slot _ => convOk conv && below 16 slot
  | .trigger route => below 8 route
  | .triggeredConversionDone conv _ => convOk conv
  | .adcTimerExpiry timer => below 4 timer
  | .comparatorTransition cmp _ => below 8 cmp
  | .referenceSettled conv => convOk conv
  | .calibrationFrameBoundary _ _ => true
  | .diag conv channel => convOk conv && below 32 channel
  | .adcClearFailed slice _ => sliceOk slice
  | .adcSwtrgWrite _ => true
  | .stgWrite _ addr _ => below 65536 addr
  | .stgImgDataWrite _ _ => true
  | .check _ => true
  | .checkComplete => true
  | .commit _ => true
  | .commitAt _ => true
  | .cancel _ => true
  | .clear _ => true
  | .commitAtArm => true
  | .armAckMissing => true
  | .stagedSetApply => true
  | .scheduledTimeLost => true
  | .bankOwnerIdle => true
  | .spiRead addr _ => below 65536 addr
  | .spiWrite addr _ _ => below 65536 addr
  | .nop addr _ => below 65536 addr
  | .resend addr _ => below 65536 addr
  | .ifRead addr _ => below 65536 addr
  | .ifWrite addr _ _ => below 65536 addr
  | .unknownCmd addr _ => below 65536 addr
  | .frameDiscarded _ _ => true
  | .registerWrite _ addr _ => below 65536 addr
  | .request lease => below 256 lease
  | .verify => true
  | .close => true
  | .challengeFormed _ => true
  | .verifyComplete _ => true
  | .challengeExpiry _ => true
  | .sessionLeaseExpiry _ => true
  | .lockoutEnd _ => true
  | .spiAuthDataAccess _ => true
  | .heartbeat _ hb => hbOk hb
  | .time _ t => timeOk t
  | .delayReq via src _ _ _ => viaOk via && below 65536 src
  | .delayRsp via src _ _ _ _ => viaOk via && below 65536 src
  | .credit _ count => below 131073 count
  | .regReq via r => viaOk via && regReqOk r
  | .auth via src op => viaOk via && below 65536 src && authOk op
  | .trellisForward _ f => frameOk f
  | .trellisFrameError _ _ => true
  | .trellisSendResult _ _ => true
  | .clashBackoffEnd _ => true
  | .heartbeatSend _ => true
  | .neighbourLost _ => true
  | .timeSend => true
  | .timeLockLost => true
  | .delayMeasure => true
  | .creditOwedSend _ => true
  | .learnAge addr => below 65536 addr
  | .censusAge _ addr => below 65536 addr
  | .passThroughOpen => true
  | .setAddr addr => below 65536 addr
  | .flushLearn => true
  | .measureDelay => true
  | .endSession => true
  | .trlTimeLoRead _ => true
  | .graftOffer via src _ => viaOk via && below 65536 src
  | .graftWant via src _ first count => viaOk via && below 65536 src && below 65536 first && below 131073 count
  | .graftWindow via src w => viaOk via && below 65536 src && winOk w
  | .graftChunk via src bytes => viaOk via && below 65536 src && chunkOk bytes
  | .graftWindowComplete => true
  | .graftWindowTimeout => true
  | .graftOfferSend => true
  | .graftWantRepeat => true
  | .storeChunk _ => true
  | .updHxIdxWrite _ _ => true
  | .updHxDataWrite _ _ => true
  | .manifestComplete => true
  | .graftVerify => true
  | .discard => true
  | .activate => true
  | .activateAt => true
  | .cancelAct => true
  | .activationTimeReached => true
  | .peerGuardRecheck => true
  | .trialEnd => true
  | .activationCellStep => true
  | .actStalled cell => cellOk cell
  | .activationStructure => true
  | .repairActivation => true
  | .eraseSector bank sector => below 2 bank && below 512 sector
  | .programPage bank sector page => below 2 bank && below 512 sector && below 16 page
  | .flashOpComplete _ => true
  | .flsDataAccess _ => true
  | .shaStart => true
  | .shaFinal bytes => below 256 bytes
  | .ecdsaVerify => true
  | .gcmEncStart aad => below 256 aad
  | .gcmDecStart aad => below 256 aad
  | .gcmFinal => true
  | .cryRelease => true
  | .cryDataAccess _ => true
  | .cryBufAccess _ => true
  | .cryptoOpComplete => true
  | .rngDataRead => true
  | .rngReady => true
  | .rngWindowFail _ => true
  | .wdgWindowOpen => true
  | .wdgAnswer _ => true
  | .wdgAnswerEffective count => below 131073 count
  | .wdgExpiry => true
  | .wdgHardTimerEnd => true
  | .wdgPeriodWrite _ => true
  | .faultSourceActive source arg _ => below 256 source && below 256 arg
  | .wireFault source _ => below 256 source
  | .c2WindowEscalation group => below 16 group
  | .fltPendClear k _ => below 8 k
  | .fltEventRead _ => true
  | .fltCompatRead _ => true
  | .fltForce _ => true
  | .aliveEdge => true
  | .aliveFeedback => true
  | .cellarRecordWrite => true
  | .note => true
  | .clrSelWrite _ _ => true
  | .clrData15Read _ => true
  | .programWord _ word => below 256 word
  | .armTransition _ key target => below 256 key && below 8 target
  | .transition _ key target => below 256 key && below 8 target
  | .armTransitionExpiry => true
  | .btnRelease len10ms => below 65536 len10ms
  | .faultSourceInactive source => below 256 source
  | .diagComplete _ _ => true
  | .swapPulseEnd peer => fourOk peer
  | .peerMessageCrcFail peer => fourOk peer
  | .peerTransmitCollision peer => fourOk peer
  | .trellisFcrcFail _ => true
  | .longReqExpiry _ => true

end Sys2Proof
end

