-- ==== Sys2Proof/Tests/Slice0.lean ====
section
/-! SUPPORT. Tests: a command that each well-formedness check refuses, figures that the manual works out itself, and for
every statement with hypotheses, clause by clause, a concrete state and operands that meet them together. -/

namespace Sys2Proof.Tests.Slice0

open Sys2Proof Sys2Proof.Machine

set_option Elab.async false
set_option linter.all false

/-! ### Well-formedness -/

theorem test_wf_cell : wellFormed (.linkDown 0 true) = false ∧ wellFormed (.linkDown 8 true) = false ∧
    wellFormed (.linkDown 7 true) = true := by decide
theorem test_wf_cordon : wellFormed (.restartCordon 0) = false ∧ wellFormed (.restartCordon 8) = false := by decide
theorem test_wf_four : wellFormed (.switchOpen 0) = false ∧ wellFormed (.switchOpen 5) = false := by decide
theorem test_wf_entry : wellFormed (.sourceDrop 0) = false ∧ wellFormed (.sourceDrop 9) = false := by decide
theorem test_wf_conv : wellFormed (.referenceSettled 4) = false := by decide
theorem test_wf_slice : wellFormed (.adcClearFailed 5 true) = false := by decide
theorem test_wf_below : wellFormed (.coreReset 256) = false ∧ wellFormed (.limpCause 16) = false := by decide
theorem test_wf_regReq : wellFormed (.regReq ⟨.a, 0, true, 0⟩ ⟨9, 0, 1, 33, 0, []⟩) = false ∧
    wellFormed (.regReq ⟨.a, 0, true, 0⟩ ⟨9, 0, 2, 2, 0, [0]⟩) = false := by decide
theorem test_wf_auth : wellFormed (.auth ⟨.a, 0, true, 0⟩ 9 (.verify [0])) = false ∧
    wellFormed (.auth ⟨.a, 0, true, 0⟩ 9 (.request 256)) = false := by decide
theorem test_wf_via : wellFormed (.graftOffer ⟨.a, 8, true, 0⟩ 9 ⟨0, 0, 0, 0, false, false⟩) = false := by decide
theorem test_wf_frame : wellFormed (.trellisForward .a ⟨0, false, true, 7, 9, 32, 0, [], 0⟩) = false := by decide
theorem test_wf_heartbeat : wellFormed (.heartbeat .a ⟨9, true, 0, 2, false, false, false, false, false, 0, 0, 0, 0, 0, 0, 0⟩) = false
      := by
  decide
theorem test_wf_time : wellFormed (.time .a ⟨9, 256, 0, 0, 0, true, 0⟩) = false := by decide
theorem test_wf_caps : wellFormed (.caps 1 0 ⟨0, 65536, false, false, false, false, 0, 0, 0, 0, 0, 0⟩) = false := by decide
theorem test_wf_terms : wellFormed (.offer 1 0 ⟨65536, 0, 0, 0⟩) = false := by decide
theorem test_wf_window : wellFormed (.graftWindow ⟨.a, 0, true, 0⟩ 9 ⟨0, 0, 7, 0⟩) = false := by decide
theorem test_wf_chunk : wellFormed (.graftChunk ⟨.a, 0, true, 0⟩ 9 [0]) = false := by decide

/-! ### Figures of the manual -/

/-- The example after R464. -/
theorem test_crc32 : crc32 [0x31, 0x32, 0x33, 0x34, 0x35, 0x36, 0x37, 0x38, 0x39] = 0xCBF43926 := by decide +kernel
/-- The example of the fault address: block 1 of the protection subsystem of cell 3. -/
theorem test_faultAddr : blockAddr 3 3 1 = 0x661FFFFF := by decide
/-- The window example of the watchdog: 3,277 ticks, WDG_FRAC 2. -/
theorem test_wdgOpensAt : wdgOpensAt 3277 2 = 1638 := by decide
/-- The source resistance example of the diagnosis: 59.524 mV. -/
theorem test_rSrc : rSrc 0 59524 = some 5000 := by decide
/-- The current limits of the port example: 40 A at 48 V, 13.9 A at 216 V. -/
theorem test_iCont : iCont 4800 = 40000 ∧ iCont 21600 / 100 = 138 := by decide
/-- R44: the region changes once the ratio of port to cask has passed a boundary by 0.01. -/
theorem test_region : regionOf (some .buck) 38200 40000 = some .buck ∧ regionOf (some .buck) 38400 40000 = some .band ∧
    regionOf (some .boost) 41800 40000 = some .boost ∧ regionOf none 38200 40000 = some .band := by decide

/-! ### Hypotheses that a concrete state meets -/

/-- Set points of a current of 0 A. -/
def sp : SetPoints := ⟨.portI, 0, 0, 0, 0, 0, 0, 0, 0, 0, 0, 0, 0, 0, false, 0, 0, false⟩
/-- A NOTE record. -/
def rc : Record := ⟨10, 0, 0, 0, 0, 0, 0, 0, []⟩
/-- A HEARTBEAT of module 9. -/
def hb : Hb := ⟨9, true, 0, 0, false, false, false, false, false, 0, 0, 0, 0, 0, 0, 0⟩
/-- A module frame of type 5 from 9 to 7. -/
def frm : TrlFrame := ⟨0, false, true, 7, 9, 5, 0, [], 0⟩
/-- Port A, a module frame. -/
def via : Via := ⟨.a, 0, true, 0⟩
/-- A READ of one word. -/
def rq : RegReq := ⟨9, 0, 1, 1, 0, []⟩
/-- An image with a source gate, a brake chopper, the button reset, an impedance schedule of string 1 and the bounds of peer port 1. -/
def img : List Byte := List.replicate 20 0 ++ [0x84, 0x03] ++ List.replicate 59 0 ++ [9, 1] ++ List.replicate 749 0 ++
  [4, 1, 16, 0, 100, 0, 0, 0, 100, 0, 0, 0, 1, 1, 1, 0, 0, 0, 0, 0] ++ [5, 1, 16, 0, 0, 0, 0x88, 0x13, 1, 0, 1, 0, 1, 0, 1, 0, 3, 0, 0,
        0] ++
  List.replicate 28 0
/-- Cordon 1 of cell 1 carries battery string 1. -/
def bat1 (s : State) : State := (s.modCordon 1 (fun c =>
  { c with state := .idle, e.role := .battery, e.index := 1, e.cells := 1 })).modCell 1 (fun c =>
        { c with cordon := 1, state := .standby, uc := 1 })
/-- Cells 1 and 2 share cordon 1. -/
def two (s : State) : State := ((s.modCordon 1 (fun c => { c with e.cells := 3 })).modCell 1 (fun c => { c with cordon := 1 })).modCell 2
  (fun c => { c with cordon := 1, state := .standby })
/-- Source entry 1 stands on cordon 1. -/
def src1 (s : State) : State := (s.modSrc 1 (fun x => { x with ref := 1, declared := 1, band := .inside })).modCordon 1
  (fun c => { c with state := .idle, e.role := .source })
/-- Cordon 1 carries peer port 1. -/
def peer1 (s : State) : State := s.modCordon 1 (fun c => { c with state := .idle, e.role := .peer, e.index := 1 })
/-- The smallest image whose length and CRC agree. -/
def im0 : List Byte := List.replicate 60 0 ++ wordBytes (crc32 (List.replicate 64 0))
/-- A Cellar whose slot 0 holds it as the last good copy. -/
def copied : Mem := (lgcWrite im0 State.reset).clr.mem
/-- An impedance run of string 1 is running. -/
def run1 (s : State) : State := s.modBat 1 (fun b => { b with run.running := true })
/-- The cask at v, in 10 mV, and nothing else. -/
def up (v : Nat) : OrInputs := ⟨v, Vector.replicate 7 0, 0⟩
/-- Every wake input at 0 V. -/
def low : WakeLevels := ⟨Vector.replicate 7 0, 0⟩
/-- A press of 100 ms with the cask at v. -/
def wakes (v : Nat) : WakeReport := ⟨100, 100, low, 0, up v⟩

theorem witness_StepRunsFront : ∃ s : State, s.pending = [] :=
  ⟨{ State.reset with pending := [] }, by decide +kernel⟩

theorem witness_AsleepKeepsAll : ∃ s : State, ¬ Awake s :=
  ⟨{ State.reset with powered := false }, by decide +kernel⟩

theorem witness_SettleFrame : ∃ old new : State, QuietEdges old new ∧ tidyPath new = new :=
  ⟨State.reset, State.reset, fun _ _ => rfl, by decide +kernel⟩

theorem witness_MemoryReadsAndForm :
    (∃ f : Byte, ∃ m : Mem, memWf f m = true) ∧
    (∃ a : Nat, ∃ x : Nat, x ≠ a) ∧
    (∃ a : Nat, ∃ x : Nat, ∃ bs : List Byte, (x < a ∨ a + bs.length ≤ x)) ∧
    (∃ f : Byte, ∃ m : Mem, ∃ k : Mem, memWf f m = true ∧ memWf f k = true ∧ (∀ a, memRead f m a = memRead f k a)) :=
  ⟨⟨ff, [], by decide +kernel⟩,
   ⟨0, 1, by decide +kernel⟩,
   ⟨1, 0, [0, 0], by decide +kernel⟩,
   ⟨ff, [], [], by decide +kernel, by decide +kernel, fun _ => rfl⟩⟩

theorem witness_RegisterAccessRefusals :
    (∃ a : Nat, 0x4400 ≤ a) ∧
    (∃ s : State, ∃ b : Agent, ∃ a : Nat, a < 0x4400 ∧ (regAcc s b a = .roP ∨ regAcc s b a = .rwP)) ∧
    (∃ s : State, ∃ b : Agent, ∃ a : Nat, a < 0x4400 ∧ (regAcc s b a = .ro ∨ regAcc s b a = .rwU)) ∧
    (∃ s : State, ∃ b : Agent, ∃ a : Nat, a < 0x4400 ∧ b ≠ .mainImage ∧ s.sys.mode = .limp ∧ (s.sys.sub = .rom ∨ s.sys.sub = .locked) ∧
          a ∉ [0x0003, 0x2406, 0x2408, 0x2409, 0x3803, 0x3805]) ∧
    (∃ s : State, ∃ b : Agent, ∃ a : Nat, ∃ d : Word, a < 0x4400 ∧ b ≠ .mainImage ∧ s.sys.mode = .limp ∧ s.sys.sub = .rom ∧ field d 8 8
          ≠ 4 ∧ field d 8 8 ≠ 5) ∧
    (∃ s : State, ∃ b : Agent, ∃ a : Nat, a < 0x4400 ∧ limpReadOnly s b = false ∧ regAcc s b a = .ro) ∧
    (∃ s : State, ∃ b : Agent, ∃ a : Nat, a < 0x4400 ∧ limpReadOnly s b = false ∧ (regAcc s b a = .roP ∨ regAcc s b a = .rwP)) ∧
    (∃ s : State, ∃ b : Agent, ∃ a : Nat, a < 0x4400 ∧ limpReadOnly s b = false ∧ regAcc s b a = .rwP) :=
  ⟨⟨0x4400, by decide +kernel⟩,
   ⟨State.reset, .hostSpi, 10247, by decide +kernel⟩,
   ⟨State.reset, .hostSpi, 1, by decide +kernel⟩,
   ⟨{ State.reset with sys.mode := .limp, sys.sub := .rom }, .hostSpi, 1, by decide +kernel⟩,
   ⟨{ State.reset with sys.mode := .limp, sys.sub := .rom }, .hostSpi, 1, 0, by decide +kernel⟩,
   ⟨State.reset, .hostSpi, 1, by decide +kernel⟩,
   ⟨State.reset, .hostSpi, 10247, by decide +kernel⟩,
   ⟨State.reset, .hostSpi, 3, by decide +kernel⟩⟩

theorem witness_RecordWrittenComplete :
    (∃ s : State, 896 ≤ s.clr.head ∧ s.clr.head < 8191) ∧
    (∃ s : State, s.clr.head = 8191) ∧
    (∃ r : Record, ∃ s : State, ∃ k, (r.kind = 3 ∨ r.kind = 4) ∧ k < 64 ∧ unitUnused s (ffFirst s.lcs.state + k) = true ∧ (∀ j, j < k →
          unitUnused s (ffFirst s.lcs.state + j) = false)) ∧
    (∃ r : Record, ∃ s : State,
      let u := nextUnit s; ∃ a, r.kind ≠ 3 ∧ r.kind ≠ 4 ∧ a / 64 ≠ u) :=
  ⟨⟨{ State.reset with clr.head := 8190 }, by decide +kernel⟩,
   ⟨{ State.reset with clr.head := 8191 }, by decide +kernel⟩,
   ⟨{ rc with kind := 3 }, State.reset, 0, by decide +kernel⟩,
   ⟨rc, State.reset, 0, by decide +kernel⟩⟩

theorem witness_FirstFaultWriteOnce : ∃ s : State, ∃ f : Nat, ∃ a : Nat, f < 896 ∧ a / 64 = f ∧ (f < 512 ∨ unitUnused s f = false) :=
  ⟨State.reset, 511, 32767, by decide +kernel⟩

theorem witness_EveryStepKeepsMemOk : ∃ s t : State, MemOk s ∧ step s = .next t :=
  ⟨{ State.reset with pending := [.crystalQualified] }, _, by unfold MemOk; decide +kernel, rfl⟩

theorem witness_NoStepClearsAnOtpBit : ∃ s t : State, step s = .next t :=
  ⟨{ State.reset with pending := [.crystalQualified] }, _, rfl⟩

theorem witness_QueueAndPartKept : ∃ s t, exec .btnPress s = .next t :=
  ⟨State.reset, _, rfl⟩

theorem witness_StorageFrame : ∃ s t, exec .btnPress s = .next t :=
  ⟨State.reset, _, rfl⟩

theorem witness_SettingsFrame : ∃ s t, exec .btnPress s = .next t :=
  ⟨State.reset, _, rfl⟩

theorem witness_StatusFrame : ∃ s t, exec .btnPress s = .next t :=
  ⟨State.reset, _, rfl⟩

theorem witness_WatchdogJudgement :
    (∃ s : State, ∃ c, ∃ t, Awake s ∧ wdgRuns s.wdg = true ∧ s.wdg.answer = some t ∧ c < s.wdg.opensAt) ∧
    (∃ s : State, ∃ c, Awake s ∧ wdgRuns s.wdg = true ∧ s.wdg.answer = some (token s.wdg.q (wdgSalt s)) ∧ s.wdg.opensAt ≤ c ∧ c <
          s.wdg.period) ∧
    (∃ s : State, ∃ c, ∃ t, Awake s ∧ wdgRuns s.wdg = true ∧ s.wdg.answer = some t ∧ t ≠ token s.wdg.q (wdgSalt s) ∧ s.wdg.opensAt ≤ c
          ∧ c < s.wdg.period) ∧
    (∃ s : State, Awake s ∧ wdgRuns s.wdg = true) ∧
    (∃ s : State, ∃ t, Awake s ∧ wdgRuns s.wdg = true ∧ s.wdg.answer = some t ∧ s.wdg.opensAt ≤ s.wdg.period) ∧
    (∃ s : State, Awake s ∧ wdgRuns s.wdg = false) :=
  ⟨⟨{ State.reset with wdg.state := .closed, wdg.answer := some 0, wdg.opensAt := 1 }, 0, 0, by decide +kernel⟩,
   ⟨{ State.reset with wdg.state := .closed, wdg.answer := some (token 0 (wdgSalt State.reset)) }, 16383, by decide +kernel⟩,
   ⟨{ State.reset with wdg.state := .closed, wdg.answer := some 1 }, 16383, 1, by decide +kernel⟩,
   ⟨{ State.reset with wdg.state := .closed }, by decide +kernel⟩,
   ⟨{ State.reset with wdg.state := .closed, wdg.answer := some 0 }, 0, by decide +kernel⟩,
   ⟨State.reset, by decide +kernel⟩⟩

theorem witness_WatchdogPeriodWrites :
    (∃ s : State, ∃ d, Awake s ∧ s.wdg.lock = false ∧ s.wdg.state ≠ .trap ∧ 33 ≤ field d 0 18 ∧ field d 0 18 ≤ 131072) ∧
    (∃ s : State, ∃ d, Awake s ∧ (s.wdg.lock = true ∨ s.wdg.state = .trap ∨ field d 0 18 < 33 ∨ 131072 < field d 0 18)) ∧
    (∃ s : State, ∃ p, Awake s ∧ s.wdg.newPeriod = some p ∧ 110 ≤ s.now - s.wdg.newAt) ∧
    (∃ s : State, ∃ p, Awake s ∧ s.wdg.newPeriod = some p ∧ s.now - s.wdg.newAt < 50) ∧
    (∃ s : State, Awake s ∧ s.wdg.newPeriod = none) ∧
    (∃ s : State, Awake s) :=
  ⟨⟨{ State.reset with wdg.lock := false }, 131072, by decide +kernel⟩,
   ⟨State.reset, 32, by decide +kernel⟩,
   ⟨{ State.reset with wdg.newPeriod := some 0, now := 110 }, 0, by decide +kernel⟩,
   ⟨{ State.reset with wdg.newPeriod := some 0 }, 0, by decide +kernel⟩,
   ⟨{ State.reset with wdg.newPeriod := none }, by decide +kernel⟩,
   ⟨State.reset, by decide +kernel⟩⟩

theorem witness_SpiFrameCrc : ∃ v : Nat, v < 2 ^ 56 :=
  ⟨1, by decide +kernel⟩

theorem witness_CompatMessageFields :
    (∃ n : Nat, ∃ k : Nat, k < 16 ∧ n < 256) ∧
    (∃ s : State, ∃ n : Nat, ∃ k : Nat, k < 16 ∧ n < 256 ∧ s.flt.cmq = []) :=
  ⟨⟨1, 1, by decide +kernel⟩,
   ⟨{ State.reset with flt.cmq := [] }, 1, 1, by decide +kernel⟩⟩

theorem witness_PowerAndClockRows :
    (∃ s : State, ∃ low : OrInputs, (s.powered = false ∨ railsUp low = true)) ∧
    (∃ s : State, ∃ low : OrInputs, s.powered = true ∧ railsUp low = false) ∧
    (∃ s : State, ∃ low : OrInputs, s.powered = true ∧ railsUp low = false ∧ s.sys.mode = .ship) ∧
    (∃ s : State, ∃ low : OrInputs, s.powered = true ∧ railsUp low = false ∧ s.sys.mode ≠ .ship) ∧
    (∃ s : State, Awake s ∧ s.sys.mode = .staging) ∧
    (∃ s : State, Awake s ∧ s.sys.mode ≠ .staging) ∧
    (∃ s : State, Awake s ∧ s.crystal = true) ∧
    (∃ s : State, Awake s ∧ s.crystal = false) :=
  ⟨⟨State.reset, up 1800, by decide +kernel⟩,
   ⟨{ State.reset with powered := true }, up 1799, by decide +kernel⟩,
   ⟨{ State.reset with powered := true, sys.mode := .ship }, up 1799, by decide +kernel⟩,
   ⟨{ State.reset with powered := true, sys.mode := .normal }, up 1799, by decide +kernel⟩,
   ⟨{ State.reset with sys.mode := .staging }, by decide +kernel⟩,
   ⟨{ State.reset with sys.mode := .normal }, by decide +kernel⟩,
   ⟨{ State.reset with crystal := true }, by decide +kernel⟩,
   ⟨{ State.reset with crystal := false }, by decide +kernel⟩⟩

theorem witness_LinkTrainingRows :
    (∃ s : State, ∃ n : Nat, Awake s ∧ (s.cell n).state = .training ∧ s.upd.skipped.getLsbD (n - 1) = false) ∧
    (∃ s : State, ∃ n : Nat, Awake s ∧ (s.cell n).state = .training ∧ (s.cell n).link.fails < 2) ∧
    (∃ s : State, ∃ n : Nat, Awake s ∧ (s.cell n).state = .training ∧ 2 ≤ (s.cell n).link.fails) ∧
    (∃ s : State, ∃ n : Nat, Awake s ∧ (s.cell n).state ≠ .off ∧ (s.cell n).state ≠ .failed ∧ (s.cell n).state ≠ .selftest) ∧
    (∃ s : State, ∃ n : Nat, Awake s ∧ (s.cell n).link.holding = true ∧ cellFitted s n = true) :=
  ⟨⟨State.reset.modCell 1 (fun x => { x with state := .training }), 1, by decide +kernel⟩,
   ⟨State.reset.modCell 1 (fun x => { x with state := .training }), 1, by decide +kernel⟩,
   ⟨State.reset.modCell 1 (fun x => { x with state := .training, link.fails := 2 }), 1, by decide +kernel⟩,
   ⟨State.reset.modCell 1 (fun x => { x with state := .run }), 1, by decide +kernel⟩,
   ⟨State.reset.modCell 1 (fun x => { x with link.holding := true }), 1, by decide +kernel⟩⟩

theorem witness_LinkFrameRows :
    (∃ s : State, ∃ n : Nat, ∃ x, Awake s ∧ cellFitted s n = true ∧ (s.cell n).link.trained = true ∧ (s.cell n).link.slot = some x) ∧
    (∃ s : State, ∃ n : Nat, ∃ p : SetPoints, Awake s ∧ cellFitted s n = true ∧ (s.cell n).link.trained = true ∧ s.limp.linksHeld =
          false ∧ s.sys.mode ≠ .staging ∧ (s.cell n).cordon ≠ 0 ∧ p.engage = false ∧ (s.cell n).state = .standby ∧ (s.cell n).latched =
          [] ∧ (s.cell n).absorbing = false ∧ p.mode = .portI ∧ (0 ≤ p.iSet ∨ (s.cell n).valid = false ∨ 2000 ≤ (s.cell n).vPort)) ∧
    (∃ s : State, ∃ n : Nat, ∃ p : SetPoints, Awake s ∧ cellFitted s n = true ∧ (s.cell n).link.trained = true ∧ s.limp.linksHeld =
          false ∧ s.sys.mode ≠ .staging ∧ (s.cell n).cordon ≠ 0 ∧ p.engage = true ∧ (s.cell n).state = .standby ∧ (s.cell n).latched =
          [] ∧ (p.iNeg = 0 ∨ (s.cell n).valid = false ∨ 2000 ≤ (s.cell n).vPort)) ∧
    (∃ s : State, ∃ n : Nat, ∃ p : SetPoints, Awake s ∧ cellFitted s n = true ∧ (s.cell n).link.trained = true ∧ s.limp.linksHeld =
          false ∧ s.sys.mode ≠ .staging ∧ (s.cell n).cordon ≠ 0 ∧ p.engage = false ∧ p.mode = .portI ∧ p.iSet < 0 ∧ (s.cell n).valid =
          true ∧ (s.cell n).vPort < 2000) ∧
    (∃ s : State, ∃ n : Nat, Awake s ∧ cellFitted s n = true ∧ (s.cell n).link.trained = true ∧ s.limp.linksHeld = false ∧ s.sys.mode ≠
          .staging) ∧
    (∃ s : State, ∃ n : Nat, Awake s ∧ cellFitted s n = true ∧ (s.cell n).link.trained = true ∧ s.limp.linksHeld = false ∧ (s.cell
          n).state = .ready ∧ runOnCordon s n = false) ∧
    (∃ s : State, ∃ n : Nat, ∃ bs : List Byte, Awake s ∧ cellFitted s n = true ∧ (s.cell n).link.trained = true ∧ s.limp.linksHeld =
          false ∧ (s.cell n).state = .update ∧ (s.cell n).ucFill + bs.length ≤ 65504) ∧
    (∃ s : State, ∃ n : Nat, Awake s ∧ cellFitted s n = true ∧ (s.cell n).link.trained = true ∧ s.limp.linksHeld = false ∧ (s.cell
          n).state = .update) ∧
    (∃ s : State, ∃ n : Nat, Awake s ∧ cellFitted s n = true ∧ (s.cell n).link.trained = true) ∧
    (∃ s : State, ∃ n : Nat, ∃ q, ∃ w : LinkWait, Awake s ∧ cellFitted s n = true ∧ (s.cell n).link.trained = true ∧ (s.cell
          n).link.waits = [w] ∧ w.seq = q) ∧
    (∃ s : State, ∃ n : Nat, ∃ q, ∃ w : LinkWait, Awake s ∧ cellFitted s n = true ∧ (s.cell n).link.trained = true ∧ (s.cell
          n).link.waits = [w] ∧ w.seq = q ∧ w.tries < 2) ∧
    (∃ s : State, ∃ n : Nat, ∃ q, ∃ w : LinkWait, Awake s ∧ cellFitted s n = true ∧ (s.cell n).link.trained = true ∧ (s.cell
          n).link.upWaits = [w] ∧ w.seq = q) ∧
    (∃ s : State, ∃ n : Nat, ∃ k : Nat, ∃ p : SetPoints, Awake s ∧ cellFitted s n = true ∧ (s.cell n).armed = some (k, p) ∧ goFor
          (s.cell n) k = true ∧ (s.cell n).link.trained = true ∧ (s.cell n).engaged = false ∧ (s.cell n).latched = [] ∧ (s.cell
          n).state = .run ∧ (s.cell n).absorbing = false ∧ p.mode = .portV) ∧
    (∃ s : State, ∃ n : Nat, ∃ k : Nat, ∃ p : SetPoints, Awake s ∧ cellFitted s n = true ∧ (s.cell n).armed = some (k, p) ∧ goFor
          (s.cell n) k = true ∧ (s.cell n).engaged = true) ∧
    (∃ s : State, ∃ n : Nat, ∃ k : Nat, ∃ p : SetPoints, Awake s ∧ cellFitted s n = true ∧ (s.cell n).armed = some (k, p) ∧ goFor
          (s.cell n) k = false ∧ syncFor (s.cell n) k = true) ∧
    (∃ s : State, ∃ n : Nat, ∃ k : Nat, ∃ p : SetPoints, Awake s ∧ cellFitted s n = true ∧ (s.cell n).armed = some (k, p) ∧ syncFor
          (s.cell n) k = false ∧ (s.cell n).state = .run) ∧
    (∃ s : State, ∃ n : Nat, ∃ k : Nat, ∃ p : SetPoints, Awake s ∧ cellFitted s n = true ∧ (s.cell n).armed = some (k, p) ∧ syncFor
          (s.cell n) k = true) :=
  ⟨⟨State.reset.modCell 1 (fun x => { x with link.trained := true, link.slot := some 0 }), 1, 0, by decide +kernel⟩,
   ⟨({ State.reset with limp.linksHeld := false, sys.mode := .normal } : State).modCell 1 (fun x =>
         { x with link.trained := true, cordon := 1, state := .standby, latched := [], absorbing := false }), 1, sp, by decide +kernel⟩,
   ⟨({ State.reset with limp.linksHeld := false, sys.mode := .normal } : State).modCell 1 (fun x =>
         { x with link.trained := true, cordon := 1, state := .standby, latched := [] }), 1, ({ sp with engage := true } : SetPoints),
         by decide +kernel⟩,
   ⟨({ State.reset with limp.linksHeld := false, sys.mode := .normal } : State).modCell 1 (fun x =>
         { x with link.trained := true, cordon := 1, valid := true, vPort := 1999 }), 1, ({ sp with iSet := -1 } : SetPoints),
         by decide +kernel⟩,
   ⟨({ State.reset with limp.linksHeld := false, sys.mode := .normal } : State).modCell 1 (fun x => { x with link.trained := true }),
         1, by decide +kernel⟩,
   ⟨({ State.reset with limp.linksHeld := false } : State).modCell 1 (fun x => { x with link.trained := true, state := .ready }), 1,
         by decide +kernel⟩,
   ⟨({ State.reset with limp.linksHeld := false } : State).modCell 1 (fun x =>
         { x with link.trained := true, state := .update, ucFill := 65504 }), 1, [], by decide +kernel⟩,
   ⟨({ State.reset with limp.linksHeld := false } : State).modCell 1 (fun x => { x with link.trained := true, state := .update }), 1,
         by decide +kernel⟩,
   ⟨State.reset.modCell 1 (fun x => { x with link.trained := true }), 1, by decide +kernel⟩,
   ⟨State.reset.modCell 1 (fun x => { x with link.trained := true, link.waits := [(⟨0, 0, 0⟩)] }), 1, 0, ⟨0, 0, 0⟩, by decide +kernel⟩,
   ⟨State.reset.modCell 1 (fun x => { x with link.trained := true, link.waits := [(⟨0, 0, 1⟩)] }), 1, 0, ⟨0, 0, 1⟩, by decide +kernel⟩,
   ⟨State.reset.modCell 1 (fun x => { x with link.trained := true, link.upWaits := [(⟨0, 0, 0⟩)] }), 1, 0, ⟨0, 0, 0⟩, by decide +kernel⟩,
   ⟨State.reset.modCell 1 (fun x =>
         { x with armed := some (1, (({ sp with mode := .portV } : SetPoints))), link.trained := true, engaged := false, latched := [], state := .run, absorbing := false, syncs := [(0, true)] }), 1, 1, ({ sp with mode := .portV } : SetPoints), by decide +kernel⟩,
   ⟨State.reset.modCell 1 (fun x => { x with armed := some (1, sp), engaged := true, syncs := [(0, true)] }), 1, 1, sp,
         by decide +kernel⟩,
   ⟨State.reset.modCell 1 (fun x => { x with armed := some (1, sp), syncs := [(0, false)] }), 1, 1, sp, by decide +kernel⟩,
   ⟨State.reset.modCell 1 (fun x => { x with armed := some (1, sp), state := .run }), 1, 1, sp, by decide +kernel⟩,
   ⟨State.reset.modCell 1 (fun x => { x with armed := some (1, sp), syncs := [(0, false)] }), 1, 1, sp, by decide +kernel⟩⟩

theorem witness_TelemetryRows :
    (∃ s : State, ∃ n : Nat, Awake s ∧ (s.cell n).link.trained = true ∧ cellFitted s n = true) ∧
    (∃ s : State, ∃ n : Nat, ∃ t : Trip, Awake s ∧ (s.cell n).link.trained = true ∧ cellFitted s n = true ∧ (t = Trip.portOv ∨ t =
          Trip.ot)) ∧
    (∃ s : State, ∃ n : Nat, ∃ b : Band, Awake s ∧ (s.cell n).link.trained = true ∧ cellFitted s n = true ∧ srcOfCordon s (servedCordon
          s n) ≠ 0 ∧ srcOfCordon s (servedCordon s n) ≤ 8 ∧ s.sys.mode ≠ .limp ∧ b ≠ .slope) ∧
    (∃ s : State, ∃ n : Nat, Awake s ∧ (s.cell n).link.trained = true ∧ cellFitted s n = true ∧ s.pwr.path = .changeover ∧
          s.pwr.coTrigger = 0) ∧
    (∃ s : State, ∃ n : Nat, Awake s ∧ (s.cell n).link.trained = true ∧ cellFitted s n = true ∧ s.ppt.regen.state = .none) ∧
    (∃ s : State, ∃ n : Nat, Awake s ∧ (s.cell n).link.trained = true ∧ cellFitted s n = true ∧ (s.cordon (servedCordon s n)).e.role =
          .battery ∧ 1 ≤ (s.cordon (servedCordon s n)).e.index ∧ (s.cordon (servedCordon s n)).e.index ≤ 4 ∧ (s.bat (s.cordon
          (servedCordon s n)).e.index).chargeAt ≠ 0 ∧ s.now < (s.bat (s.cordon (servedCordon s n)).e.index).chargeAt + 10000) :=
  ⟨⟨State.reset.modCell 1 (fun x => { x with link.trained := true }), 1, by decide +kernel⟩,
   ⟨State.reset.modCell 1 (fun x => { x with link.trained := true }), 1, .portOv, by decide +kernel⟩,
   ⟨(src1 ((({ State.reset with sys.mode := .normal } : State).modCell 1 (fun x => { x with link.trained := true })).modSrc 1 (fun x =>
         { x with state := .usable }))).modCell 1 (fun x => { x with cordon := 1 }), 1, .inside, by decide +kernel⟩,
   ⟨({ State.reset with pwr.path := .changeover, pwr.coTrigger := 0 } : State).modCell 1 (fun x => { x with link.trained := true }), 1,
         by decide +kernel⟩,
   ⟨({ State.reset with ppt.regen.state := .none } : State).modCell 1 (fun x => { x with link.trained := true }), 1, by decide +kernel⟩,
   ⟨(bat1 (State.reset.modCell 1 (fun x => { x with link.trained := true }))).modBat 1 (fun b => { b with chargeAt := 1 }), 1,
         by decide +kernel⟩⟩

theorem witness_ProtectionRows :
    (∃ s : State, ∃ n : Nat, ∃ t : Trip, Awake s ∧ cellFitted s n = true ∧ t ≠ .uvlo ∧ t ≠ .desat ∧ (s.cell n).state = .run) ∧
    (∃ s : State, ∃ n : Nat, Awake s ∧ cellFitted s n = true ∧ (s.cell n).state = .run) ∧
    (∃ s : State, ∃ n : Nat, ∃ t : Trip, Awake s ∧ cellFitted s n = true ∧ tripLatching t = false ∧ (s.cell n).state = .tripped ∧
          (s.cell n).latched = [t] ∧ (s.cell n).sp.mode = .portV ∧ (s.cell n).runBefore = true) ∧
    (∃ s : State, ∃ n : Nat, ∃ t : Trip, Awake s ∧ cellFitted s n = true ∧ tripLatching t = true) ∧
    (∃ s : State, ∃ n : Nat, Awake s ∧ cellFitted s n = true ∧ (s.cell n).restart = true ∧ (s.cordon (servedCordon s n)).state ≠
          .stopped ∧ (s.cell n).portShort = false ∧ ocRetries (s.cell n) < 4 ∧ (s.cell n).state = .tripped) ∧
    (∃ s : State, ∃ n : Nat, Awake s ∧ cellFitted s n = true ∧ (s.cell n).restart = true ∧ (s.cordon (servedCordon s n)).state ≠
          .stopped ∧ (s.cell n).portShort = false ∧ 4 ≤ ocRetries (s.cell n)) ∧
    (∃ s : State, ∃ n : Nat, Awake s ∧ cellFitted s n = true) :=
  ⟨⟨State.reset.modCell 1 (fun x => { x with state := .run }), 1, .oc, by decide +kernel⟩,
   ⟨State.reset.modCell 1 (fun x => { x with state := .run }), 1, by decide +kernel⟩,
   ⟨State.reset.modCell 1 (fun x => { x with state := .tripped, latched := [.portOv], sp.mode := .portV, runBefore := true }), 1,
         .portOv, by decide +kernel⟩,
   ⟨State.reset, 1, .oc, by decide +kernel⟩,
   ⟨State.reset.modCell 1 (fun x => { x with restart := true, portShort := false, state := .tripped }), 1, by decide +kernel⟩,
   ⟨State.reset.modCell 1 (fun x => { x with restart := true, portShort := false, ocTimes := [0, 0, 0, 0] }), 1, by decide +kernel⟩,
   ⟨State.reset, 1, by decide +kernel⟩⟩

theorem witness_CellCommandRows :
    (∃ s : State, ∃ n : Nat, Awake s ∧ cellFitted s n = false) ∧
    (∃ s : State, ∃ n : Nat, Awake s ∧ cellFitted s n = true ∧ (s.sys.mode = .limp ∨ s.sys.mode = .staging)) ∧
    (∃ s : State, ∃ n : Nat, Awake s ∧ cellFitted s n = true ∧ s.sys.mode ≠ .limp ∧ s.sys.mode ≠ .staging ∧ testable (s.cell n).state =
          true ∧ runOnCordon s n = false ∧ mayLeave s n = true) ∧
    (∃ s : State, ∃ n : Nat, Awake s ∧ cellFitted s n = true ∧ s.sys.mode ≠ .limp ∧ s.sys.mode ≠ .staging ∧ (s.cell n).state = .tripped
          ∧ ocCondemned (s.cell n) = false) ∧
    (∃ s : State, ∃ n : Nat, Awake s ∧ cellFitted s n = true ∧ s.sys.mode ≠ .limp ∧ s.sys.mode ≠ .staging ∧ testable (s.cell n).state =
          true ∧ (s.cell n).withdrawn = false ∧ runOnCordon s n = false ∧ mayLeave s n = true) ∧
    (∃ s : State, ∃ n : Nat, Awake s ∧ cellFitted s n = true ∧ s.sys.mode ≠ .limp ∧ s.sys.mode ≠ .staging ∧ (s.cell n).state ≠ .failed
          ∧ (s.cell n).withdrawn = true) ∧
    (∃ s : State, ∃ n : Nat, Awake s ∧ cellFitted s n = true ∧ s.sys.mode ≠ .limp ∧ s.sys.mode ≠ .staging ∧ (s.cell n).state = .failed) :=
  ⟨⟨State.reset, 8, by decide +kernel⟩,
   ⟨State.reset, 1, by decide +kernel⟩,
   ⟨two (({ State.reset with sys.mode := .normal } : State).modCell 1 (fun x => { x with state := .run })), 1, by decide +kernel⟩,
   ⟨({ State.reset with sys.mode := .normal } : State).modCell 1 (fun x => { x with state := .tripped }), 1, by decide +kernel⟩,
   ⟨two (({ State.reset with sys.mode := .normal } : State).modCell 1 (fun x => { x with withdrawn := false, state := .run })), 1,
         by decide +kernel⟩,
   ⟨({ State.reset with sys.mode := .normal } : State).modCell 1 (fun x => { x with withdrawn := true }), 1, by decide +kernel⟩,
   ⟨({ State.reset with sys.mode := .normal } : State).modCell 1 (fun x => { x with state := .failed }), 1, by decide +kernel⟩⟩

theorem witness_SelfTestRows :
    (∃ s : State, ∃ n : Nat, Awake s ∧ cellFitted s n = true ∧ working s.sys.mode = true ∧ testable (s.cell n).state = true ∧ (s.cell
          n).withdrawn = false ∧ runOnCordon s n = false ∧ mayLeave s n = true) ∧
    (∃ s : State, ∃ n : Nat, Awake s ∧ cellFitted s n = true ∧ working s.sys.mode = true ∧ testable (s.cell n).state = true ∧ (s.cell
          n).withdrawn = false ∧ runOnCordon s n = true) ∧
    (∃ s : State, ∃ n : Nat, Awake s ∧ cellFitted s n = true ∧ working s.sys.mode = true ∧ testable (s.cell n).state = true ∧ (s.cell
          n).withdrawn = false ∧ runOnCordon s n = false ∧ mayLeave s n = true ∧ (s.cell n).st.result = 3) ∧
    (∃ s : State, ∃ n : Nat, Awake s ∧ cellFitted s n = true ∧ (s.cell n).state = .selftest) ∧
    (∃ s : State, ∃ n : Nat, Awake s ∧ cellFitted s n = true ∧ (s.cell n).state = .selftest ∧ (s.cell n).st.aborts < 2) ∧
    (∃ s : State, ∃ n : Nat, Awake s ∧ cellFitted s n = true ∧ (s.cell n).state ≠ .selftest) ∧
    (∃ s : State, ∃ n : Nat, Awake s ∧ cellFitted s n = true ∧ (s.cell n).state = .update) :=
  ⟨⟨two (({ State.reset with sys.mode := .normal } : State).modCell 1 (fun x => { x with withdrawn := false, state := .run })), 1,
        by decide +kernel⟩,
   ⟨bat1 (run1 (({ State.reset with sys.mode := .normal } : State).modCell 1 (fun x => { x with withdrawn := false }))), 1,
         by decide +kernel⟩,
   ⟨two (({ State.reset with sys.mode := .normal } : State).modCell 1 (fun x =>
         { x with withdrawn := false, st.result := 3, state := .run })), 1, by decide +kernel⟩,
   ⟨State.reset.modCell 1 (fun x => { x with state := .selftest }), 1, by decide +kernel⟩,
   ⟨State.reset.modCell 1 (fun x => { x with state := .selftest }), 1, by decide +kernel⟩,
   ⟨State.reset, 1, by decide +kernel⟩,
   ⟨State.reset.modCell 1 (fun x => { x with state := .update }), 1, by decide +kernel⟩⟩

theorem witness_CordonAndCopyRows :
    (∃ s : State, Awake s ∧ s.sys.mode = .limp) ∧
    (∃ s : State, ∃ n : Nat, Awake s ∧ s.sys.mode ≠ .limp ∧ (s.cordon n).state ≠ .stopped) ∧
    (∃ s : State, ∃ n : Nat, Awake s ∧ s.sys.mode ≠ .limp ∧ (s.cordon n).state = .stopped ∧ (s.cordon n).e.role = .system ∧ 1 ≤ n ∧ n ≤
          7) ∧
    (∃ s : State, Awake s ∧ s.str.copyDue = true ∧ (lgcPick s).map (lgcBytes s) = some s.str.image) ∧
    (∃ s : State, Awake s ∧ s.str.copyDue = true ∧ (lgcPick s).map (lgcBytes s) ≠ some s.str.image) ∧
    (∃ s : State, Awake s ∧ s.str.copyDue = false) :=
  ⟨⟨{ State.reset with sys.mode := .limp }, by decide +kernel⟩,
   ⟨{ State.reset with sys.mode := .normal }, 1, by decide +kernel⟩,
   ⟨({ State.reset with sys.mode := .normal } : State).modCordon 1 (fun x => { x with state := .stopped, e.role := .system }), 1,
         by decide +kernel⟩,
   ⟨{ State.reset with str.copyDue := true, str.image := im0, clr.mem := copied }, by decide +kernel⟩,
   ⟨{ State.reset with str.copyDue := true }, by decide +kernel⟩,
   ⟨{ State.reset with str.copyDue := false }, by decide +kernel⟩⟩

theorem witness_ServiceRows :
    (∃ s : State, ∃ l, Awake s ∧ working s.sys.mode = true ∧ s.eis.shipRun = false ∧ 1 ≤ l ∧ l ≤ 60) ∧
    (∃ s : State, ∃ l, Awake s ∧ working s.sys.mode = true ∧ s.eis.shipRun = false ∧ (l = 0 ∨ 60 < l)) ∧
    (∃ s : State, Awake s ∧ (working s.sys.mode = false ∨ s.eis.shipRun = true)) ∧
    (∃ s : State, Awake s ∧ s.sys.mode = .service ∧ s.eis.shipRun = false) ∧
    (∃ s : State, Awake s ∧ s.sys.mode ≠ .service) ∧
    (∃ s : State, Awake s ∧ working s.sys.mode = true) ∧
    (∃ s : State, ∃ k, Awake s ∧ k ≠ 0x5A) ∧
    (∃ s : State, Awake s ∧ working s.sys.mode = false) ∧
    (∃ s : State, Awake s ∧ s.sys.mode = .limp ∧ s.sys.sub = .locked) ∧
    (∃ s : State, Awake s ∧ s.sys.sub ≠ .locked) :=
  ⟨⟨{ State.reset with sys.mode := .normal, eis.shipRun := false }, 60, by decide +kernel⟩,
   ⟨{ State.reset with sys.mode := .normal, eis.shipRun := false }, 61, by decide +kernel⟩,
   ⟨State.reset, by decide +kernel⟩,
   ⟨{ State.reset with sys.mode := .service, eis.shipRun := false }, by decide +kernel⟩,
   ⟨State.reset, by decide +kernel⟩,
   ⟨{ State.reset with sys.mode := .normal }, by decide +kernel⟩,
   ⟨State.reset, 0, by decide +kernel⟩,
   ⟨State.reset, by decide +kernel⟩,
   ⟨{ State.reset with sys.mode := .limp, sys.sub := .locked }, by decide +kernel⟩,
   ⟨State.reset, by decide +kernel⟩⟩

theorem witness_ShipRows :
    (∃ s : State, ∃ l : WakeLevels, Awake s ∧ shipMode s = true ∧ s.eis.shipRun = false ∧ wakeHigh s l = false ∧ updating s = false) ∧
    (∃ s : State, ∃ l : WakeLevels, Awake s ∧ shipMode s = true ∧ s.eis.shipRun = false ∧ (wakeHigh s l = true ∨ updating s = true)) ∧
    (∃ s : State, ∃ k, Awake s ∧ k ≠ 0x5A) ∧
    (∃ s : State, Awake s ∧ s.eis.shipRun = true) ∧
    (∃ s : State, Awake s ∧ s.eis.shipRun = false) ∧
    (∃ s : State, ∃ r : WakeReport, s.powered = true ∧ s.sys.mode = .ship ∧ 100 ≤ r.highMs ∧ 100 ≤ r.pressMs ∧ railsUp r.inputs = true) ∧
    (∃ s : State, ∃ r : WakeReport, s.powered = true ∧ s.sys.mode = .ship ∧ railsUp r.inputs = false) ∧
    (∃ s : State, Awake s ∧ s.eis.btn.low = true ∧ s.eis.btn.ignored = false ∧ btnResetEnabled s = true ∧ s.eis.btn.longRun = false) ∧
    (∃ s : State, s.powered = true ∧ s.eis.btn.longRun = true) ∧
    (∃ s : State, s.eis.btn.longRun = false) :=
  ⟨⟨{ State.reset with eis.shipRun := false, sys.mode := .normal }, low, by decide +kernel⟩,
   ⟨{ State.reset with eis.shipRun := false, sys.mode := .normal, upd.state := .activating }, low, by decide +kernel⟩,
   ⟨State.reset, 0, by decide +kernel⟩,
   ⟨{ State.reset with eis.shipRun := true }, by decide +kernel⟩,
   ⟨{ State.reset with eis.shipRun := false }, by decide +kernel⟩,
   ⟨{ State.reset with powered := true, sys.mode := .ship }, wakes 1800, by decide +kernel⟩,
   ⟨{ State.reset with powered := true, sys.mode := .ship }, wakes 1799, by decide +kernel⟩,
   ⟨{ State.reset with eis.btn.low := true, eis.btn.ignored := false, eis.btn.longRun := false, str.image := img, sys.mode := .normal }, by decide +kernel⟩,
   ⟨{ State.reset with powered := true, eis.btn.longRun := true }, by decide +kernel⟩,
   ⟨{ State.reset with eis.btn.longRun := false }, by decide +kernel⟩⟩

theorem witness_ReadyRows :
    (∃ s : State, ∃ a : Agent, Awake s ∧ a ≠ .mainImage) ∧
    (∃ s : State, Awake s ∧ s.sys.awaitReady = false) ∧
    (∃ s : State, Awake s ∧ s.sys.awaitReady = true ∧ s.sys.mode = .staging) ∧
    (∃ s : State, Awake s ∧ s.sys.awaitReady = true ∧ s.sys.mode = .limp) :=
  ⟨⟨State.reset, .hostSpi, by decide +kernel⟩,
   ⟨{ State.reset with sys.awaitReady := false }, by decide +kernel⟩,
   ⟨{ State.reset with sys.awaitReady := true, sys.mode := .staging }, by decide +kernel⟩,
   ⟨{ State.reset with sys.awaitReady := true, sys.mode := .limp }, by decide +kernel⟩⟩

theorem witness_LimpRows :
    (∃ s : State, ∃ c, Awake s ∧ 1 ≤ c ∧ c ≤ 8 ∧ s.sys.mode ≠ .staging) ∧
    (∃ s : State, Awake s ∧ s.sys.mode = .limp ∧ s.sys.sub = .held ∧ s.limp.stayHeld = false ∧ s.fls.trial = false) ∧
    (∃ s : State, Awake s ∧ (s.sys.sub ≠ .held ∨ s.limp.stayHeld = true)) ∧
    (∃ s : State, Awake s ∧ s.sys.mode = .limp ∧ s.sys.sub = .rom ∧ s.limp.warm = 0 ∧ limpCount s ≤ 3 ∧ c3Live s = false ∧ (lastGood
          s).isSome = true) ∧
    (∃ s : State, Awake s) ∧
    (∃ s : State, Awake s ∧ (s.sys.sub ≠ .rom ∨ s.limp.warm ≠ 0 ∨ 3 < limpCount s ∨ c3Live s = true)) ∧
    (∃ s : State, ∃ r, Awake s ∧ s.sys.mode = .limp ∧ s.limp.power = true ∧ r ≠ 0 ∧ (s.cordon r).e.role = .source ∧ (s.cordon r).state
          ≠ .stopped) ∧
    (∃ s : State, Awake s ∧ s.sys.mode = .limp ∧ s.limp.power = true ∧ s.limp.src = 0 ∧ gateFitted (boardImage s) = true) ∧
    (∃ s : State, Awake s ∧ s.sys.mode ≠ .limp) ∧
    (∃ s : State, Awake s ∧ (working s.sys.mode = true ∨ (s.sys.mode = .limp ∧ s.limp.power = true))) ∧
    (∃ s : State, Awake s ∧ s.sys.mode = .staging) :=
  ⟨⟨{ State.reset with sys.mode := .normal }, 8, by decide +kernel⟩,
   ⟨{ State.reset with sys.mode := .limp, sys.sub := .held, limp.stayHeld := false, fls.trial := false }, by decide +kernel⟩,
   ⟨State.reset, by decide +kernel⟩,
   ⟨{ State.reset with sys.mode := .limp, sys.sub := .rom, limp.warm := 0, clr.mem := copied }, by decide +kernel⟩,
   ⟨State.reset, by decide +kernel⟩,
   ⟨State.reset, by decide +kernel⟩,
   ⟨({ State.reset with sys.mode := .limp, limp.power := true } : State).modCordon 1 (fun x => { x with e.role := .source }), 1,
         by decide +kernel⟩,
   ⟨{ State.reset with sys.mode := .limp, limp.power := true, limp.src := 0, str.image := img }, by decide +kernel⟩,
   ⟨{ State.reset with sys.mode := .normal }, by decide +kernel⟩,
   ⟨{ State.reset with sys.mode := .normal }, by decide +kernel⟩,
   ⟨{ State.reset with sys.mode := .staging }, by decide +kernel⟩⟩

theorem witness_SourceRows :
    (∃ s : State, ∃ i : Nat, ∃ b : Band, Awake s ∧ 1 ≤ i ∧ i ≤ 8 ∧ (s.src i).state = .usable ∧ s.sys.mode ≠ .limp ∧ b ≠ .slope) ∧
    (∃ s : State, ∃ i : Nat, Awake s ∧ 1 ≤ i ∧ i ≤ 8 ∧ (s.src i).state = .usable ∧ s.sys.mode ≠ .limp ∧ (s.src i).dvdt = 0) ∧
    (∃ s : State, ∃ i : Nat, Awake s ∧ 1 ≤ i ∧ i ≤ 8 ∧ (s.src i).state = .absent) ∧
    (∃ s : State, ∃ i : Nat, Awake s ∧ 1 ≤ i ∧ i ≤ 8 ∧ working s.sys.mode = true ∧ (s.src i).state = .invalid ∧ (s.src i).ref = 0 ∧
          (s.src i).band = .inside ∧ (s.src i).declared ≠ 0) ∧
    (∃ s : State, ∃ i : Nat, Awake s ∧ 1 ≤ i ∧ i ≤ 8 ∧ (s.src i).state = .qualifying ∧ pathValid s i = true ∧ s.sys.mode = .normal ∧
          s.pwr.path = .carried) ∧
    (∃ s : State, ∃ i : Nat, Awake s ∧ 1 ≤ i ∧ i ≤ 8 ∧ (s.src i).state = .qualifying ∧ pathValid s i = true ∧ s.sys.mode = .normal ∧
          s.pwr.path = .fed) ∧
    (∃ s : State, ∃ i : Nat, Awake s ∧ 1 ≤ i ∧ i ≤ 8 ∧ pathValid s i = false) ∧
    (∃ s : State, ∃ i : Nat, Awake s ∧ 1 ≤ i ∧ i ≤ 8 ∧ working s.sys.mode = true ∧ usableState (s.src i).state = true ∧ pathValid s i =
          false) ∧
    (∃ s : State, ∃ i : Nat, Awake s ∧ 1 ≤ i ∧ i ≤ 8 ∧ pathValid s i = true) ∧
    (∃ s : State, ∃ i : Nat, Awake s ∧ 1 ≤ i ∧ i ≤ 8) :=
  ⟨⟨({ State.reset with sys.mode := .normal } : State).modSrc 1 (fun x => { x with state := .usable }), 1, .inside, by decide +kernel⟩,
   ⟨({ State.reset with sys.mode := .normal } : State).modSrc 1 (fun x => { x with state := .usable, dvdt := 0 }), 1, by decide +kernel⟩,
   ⟨State.reset.modSrc 1 (fun x => { x with state := .absent }), 1, by decide +kernel⟩,
   ⟨({ State.reset with sys.mode := .normal } : State).modSrc 1 (fun x =>
         { x with state := .invalid, ref := 0, band := .inside, declared := 1 }), 1, by decide +kernel⟩,
   ⟨src1 (({ State.reset with sys.mode := .normal, pwr.path := .carried } : State).modSrc 1 (fun x =>
         { x with state := .qualifying })), 1, by decide +kernel⟩,
   ⟨src1 (({ State.reset with sys.mode := .normal, pwr.path := .fed } : State).modSrc 1 (fun x => { x with state := .qualifying })), 1,
         by decide +kernel⟩,
   ⟨State.reset, 1, by decide +kernel⟩,
   ⟨({ State.reset with sys.mode := .normal } : State).modSrc 1 (fun x => { x with state := .usable }), 1, by decide +kernel⟩,
   ⟨src1 (State.reset.modSrc 1 (fun x => { x with state := .usable })), 1, by decide +kernel⟩,
   ⟨State.reset, 1, by decide +kernel⟩⟩

theorem witness_ChangeoverRows :
    (∃ s : State, Awake s ∧ s.pwr.path = .changeover ∧ s.pwr.coLate = false) ∧
    (∃ s : State, Awake s ∧ (s.pwr.path ≠ .changeover ∨ s.pwr.coLate = true)) ∧
    (∃ s : State, ∃ i, ∃ r : List Nat, Awake s ∧ s.sys.mode ≠ .limp ∧ s.pwr.path = .carried ∧ usableRanks s = i :: r) ∧
    (∃ s : State, Awake s ∧ s.sys.mode ≠ .limp ∧ s.pwr.path = .carried ∧ usableRanks s = []) ∧
    (∃ s : State, Awake s ∧ s.pwr.path = .handback ∧ s.sys.mode ≠ .limp) ∧
    (∃ s : State, Awake s ∧ s.pwr.path ≠ .handback) ∧
    (∃ s : State, Awake s ∧ s.pwr.path = .handback ∧ s.sys.mode = .limp) ∧
    (∃ s : State, Awake s ∧ s.sys.mode ≠ .staging ∧ s.pwr.path ≠ .fed) ∧
    (∃ s : State, Awake s) ∧
    (∃ s : State, ∃ i, ∃ r : List Nat, Awake s ∧ s.pwr.supplement = true ∧ anyEngaged s = true ∧ usableRanks s = i :: r) ∧
    (∃ s : State, Awake s ∧ s.pwr.supplement = false) ∧
    (∃ s : State, ∃ i, ∃ h, Awake s ∧ s.sys.mode = .service ∧ s.pwr.testEntry = 0 ∧ 1 ≤ h ∧ h ≤ 60000 ∧ usableState (s.src i).state =
          true) ∧
    (∃ s : State, Awake s ∧ s.sys.mode ≠ .service) ∧
    (∃ s : State, ∃ h, Awake s ∧ s.sys.mode = .service ∧ s.pwr.testEntry = 0 ∧ (h = 0 ∨ 60000 < h)) ∧
    (∃ s : State, ∃ i, Awake s ∧ 1 ≤ i ∧ i ≤ 8 ∧ (s.src i).state = .testDropped ∧ s.pwr.testEntry = i) :=
  ⟨⟨{ State.reset with pwr.path := .changeover, pwr.coLate := false }, by decide +kernel⟩,
   ⟨State.reset, by decide +kernel⟩,
   ⟨({ State.reset with sys.mode := .normal, pwr.path := .carried } : State).modSrc 8 (fun x => { x with state := .usable }), 8, [],
         by decide +kernel⟩,
   ⟨{ State.reset with sys.mode := .normal, pwr.path := .carried }, by decide +kernel⟩,
   ⟨{ State.reset with pwr.path := .handback, sys.mode := .normal }, by decide +kernel⟩,
   ⟨State.reset, by decide +kernel⟩,
   ⟨{ State.reset with pwr.path := .handback, sys.mode := .limp }, by decide +kernel⟩,
   ⟨{ State.reset with sys.mode := .normal }, by decide +kernel⟩,
   ⟨State.reset, by decide +kernel⟩,
   ⟨(({ State.reset with pwr.supplement := true } : State).modSrc 8 (fun x => { x with state := .usable })).modCell 1 (fun x =>
         { x with state := .run, engaged := true }), 8, [], by decide +kernel⟩,
   ⟨{ State.reset with pwr.supplement := false }, by decide +kernel⟩,
   ⟨({ State.reset with sys.mode := .service, pwr.testEntry := 0 } : State).modSrc 8 (fun x => { x with state := .usable }), 8, 60000,
         by decide +kernel⟩,
   ⟨State.reset, by decide +kernel⟩,
   ⟨{ State.reset with sys.mode := .service, pwr.testEntry := 0 }, 0, by decide +kernel⟩,
   ⟨({ State.reset with pwr.testEntry := 8 } : State).modSrc 8 (fun x => { x with state := .testDropped }), 8, by decide +kernel⟩⟩

theorem witness_CaskReadingRows :
    (∃ s : State, ∃ n : Nat,
      let c := servedCordon s n;
      let x := s.cell n;
      Awake s ∧ (s.cordon c).e.role = .battery ∧ switching x = true ∧ x.engaged = false ∧ x.sp.vEngage ≠ 0 ∧ x.mode = .standby ∧
            s.sys.mode = .normal ∧ s.pwr.path = .unfed) ∧
    (∃ s : State, ∃ n : Nat,
      let c := servedCordon s n;
      let x := s.cell n;
      Awake s ∧ (s.cordon c).e.role = .battery ∧ switching x = true ∧ x.engaged = false ∧ x.sp.vEngage ≠ 0 ∧ x.mode = .standby ∧
            s.sys.mode = .normal ∧ s.pwr.path = .fed) ∧
    (∃ s : State, ∃ n : Nat,
      let c := servedCordon s n;
      let x := s.cell n;
      Awake s ∧ (s.cordon c).e.role = .battery ∧ switching x = true ∧ x.engaged = false ∧ x.sp.vEngage ≠ 0 ∧ x.mode = .standby ∧
            s.sys.mode = .limp ∧ s.pwr.path ≠ .fed) ∧
    (∃ s : State, ∃ n : Nat, Awake s ∧ (s.cell n).sp.share ≠ 0 ∧ switching (s.cell n) = true ∧ (s.cell n).engaged = false ∧ (s.cell
          n).absorbing = false ∧ (s.cordon (servedCordon s n)).e.role = .battery ∧ cellFitted s n = true) ∧
    (∃ s : State, ∃ n : Nat, Awake s ∧ (s.cell n).sp.share = 0) ∧
    (∃ s : State, ∃ n : Nat, Awake s ∧ (s.cell n).absorbing = true ∧ (s.cell n).sp.mode = .standby ∧ switching (s.cell n) = true ∧
          cellFitted s n = true) ∧
    (∃ s : State, Awake s ∧ chopperFitted (boardImage s) = true ∧ s.ppt.regen.brk = false) ∧
    (∃ s : State, Awake s ∧ s.ppt.regen.brk = true) ∧
    (∃ s : State, Awake s ∧ s.ppt.regen.brk = false) ∧
    (∃ s : State, Awake s ∧ s.ppt.regen.brk = true ∧ s.ppt.regen.ovBrk = true ∧ s.ppt.regen.overAt = none) ∧
    (∃ s : State, Awake s ∧ s.ppt.regen.brk = true ∧ s.ppt.regen.ovBrk = false) :=
  ⟨⟨bat1 (({ State.reset with sys.mode := .normal, pwr.path := .unfed } : State).modCell 1 (fun x =>
        { x with sp.vEngage := 1, mode := .standby })), 1, by decide +kernel⟩,
   ⟨bat1 (({ State.reset with sys.mode := .normal, pwr.path := .fed } : State).modCell 1 (fun x =>
         { x with sp.vEngage := 1, mode := .standby })), 1, by decide +kernel⟩,
   ⟨bat1 (({ State.reset with sys.mode := .limp } : State).modCell 1 (fun x => { x with sp.vEngage := 1, mode := .standby })), 1,
         by decide +kernel⟩,
   ⟨bat1 (State.reset.modCell 1 (fun x => { x with engaged := false, absorbing := false, sp.share := 1 })), 1, by decide +kernel⟩,
   ⟨State.reset.modCell 1 (fun x => { x with sp.share := 0 }), 1, by decide +kernel⟩,
   ⟨State.reset.modCell 1 (fun x => { x with absorbing := true, sp.mode := .standby, state := .run }), 1, by decide +kernel⟩,
   ⟨{ State.reset with ppt.regen.brk := false, str.image := img }, by decide +kernel⟩,
   ⟨{ State.reset with ppt.regen.brk := true }, by decide +kernel⟩,
   ⟨{ State.reset with ppt.regen.brk := false }, by decide +kernel⟩,
   ⟨{ State.reset with ppt.regen.brk := true, ppt.regen.ovBrk := true, ppt.regen.overAt := none }, by decide +kernel⟩,
   ⟨{ State.reset with ppt.regen.brk := true, ppt.regen.ovBrk := false }, by decide +kernel⟩⟩

theorem witness_ChargeRows :
    (∃ s : State, Awake s ∧ working s.sys.mode = true ∧ s.eis.shipRun = false ∧ s.eis.btn.longRun = false) ∧
    (∃ s : State, ∃ i : Nat, ∃ v, Awake s ∧ runningIn s i = true ∧ (s.chgI i).phase = .qualify ∧ (s.chgI i).restRuns = true ∧ (s.chgI
          i).rest.count = 0 ∧ (s.chgI i).vNow = some v ∧ v * 1000 < (prof s i).cells * (prof s i).vDeep * 100) ∧
    (∃ s : State, ∃ i : Nat, Awake s ∧ runningIn s i = true ∧ (s.chgI i).phase = .cc) ∧
    (∃ s : State, ∃ i : Nat, Awake s ∧ runningIn s i = true ∧ (s.chgI i).phase = .pre) ∧
    (∃ s : State, ∃ i : Nat, Awake s ∧ runningIn s i = true ∧ (s.chgI i).phase = .cv ∧ (prof s i).chem ≠ 3) ∧
    (∃ s : State, ∃ i : Nat, Awake s ∧ (s.chgI i).pulse = true ∧ working s.sys.mode = true) ∧
    (∃ s : State, ∃ i : Nat, Awake s ∧ working s.sys.mode = true ∧ batUsed s i = true ∧ (s.chgI i).phase = .hold ∧ (s.chgI i).susp = 0) ∧
    (∃ s : State, ∃ i : Nat, Awake s ∧ working s.sys.mode = true ∧ batUsed s i = true ∧ (s.chgI i).phase = .hold ∧ (s.chgI i).susp ≠ 0) ∧
    (∃ s : State, ∃ i : Nat, Awake s ∧ working s.sys.mode = true ∧ batUsed s i = true ∧ (s.chgI i).phase = .cc) ∧
    (∃ s : State, ∃ i : Nat, Awake s ∧ working s.sys.mode = true ∧ batUsed s i = true ∧ (s.chgI i).phase = .maint ∧ (s.chgI i).susp =
          0) :=
  ⟨⟨{ State.reset with sys.mode := .normal, eis.shipRun := false, eis.btn.longRun := false }, by decide +kernel⟩,
   ⟨bat1 (({ State.reset with sys.mode := .normal, str.image := List.replicate 832 1 } : State).modChg 1 (fun x =>
         { x with phase := .qualify, restRuns := true, rest.count := 0, vNow := some 0 })), 1, 0, by decide +kernel⟩,
   ⟨bat1 (({ State.reset with sys.mode := .normal } : State).modChg 1 (fun x => { x with phase := .cc })), 1, by decide +kernel⟩,
   ⟨bat1 (({ State.reset with sys.mode := .normal } : State).modChg 1 (fun x => { x with phase := .pre })), 1, by decide +kernel⟩,
   ⟨bat1 (({ State.reset with sys.mode := .normal } : State).modChg 1 (fun x => { x with phase := .cv })), 1, by decide +kernel⟩,
   ⟨({ State.reset with sys.mode := .normal } : State).modChg 1 (fun x => { x with pulse := true }), 1, by decide +kernel⟩,
   ⟨bat1 (({ State.reset with sys.mode := .normal } : State).modChg 1 (fun x => { x with phase := .hold, susp := 0 })), 1,
         by decide +kernel⟩,
   ⟨bat1 (({ State.reset with sys.mode := .normal } : State).modChg 1 (fun x => { x with phase := .hold, susp := 1 })), 1,
         by decide +kernel⟩,
   ⟨bat1 (({ State.reset with sys.mode := .normal } : State).modChg 1 (fun x => { x with phase := .cc })), 1, by decide +kernel⟩,
   ⟨bat1 (({ State.reset with sys.mode := .normal } : State).modChg 1 (fun x => { x with phase := .maint, susp := 0 })), 1,
         by decide +kernel⟩⟩

theorem witness_BatteryRows :
    (∃ s : State, ∃ i : Nat, ∃ v, ∃ w, Awake s ∧ 1 ≤ i ∧ i ≤ 4 ∧ (s.bat i).sw = .settle ∧ polarityOk s (s.bat i) = true ∧ s.sys.mode ≠
          .limp ∧ (s.bat i).settleAt + 20000 ≤ s.now ∧ portStill v w = true) ∧
    (∃ s : State, ∃ i : Nat, ∃ v, ∃ w, Awake s ∧ 1 ≤ i ∧ i ≤ 4 ∧ portStill v w = false) ∧
    (∃ s : State, ∃ i : Nat, Awake s ∧ 1 ≤ i ∧ i ≤ 4 ∧ (s.bat i).sw = .settle) ∧
    (∃ s : State, ∃ i : Nat, Awake s ∧ 1 ≤ i ∧ i ≤ 4 ∧ working s.sys.mode = true) ∧
    (∃ s : State, ∃ i : Nat, ∃ v, ∃ w, Awake s ∧ 1 ≤ i ∧ i ≤ 4 ∧ (s.bat i).miss = .pulse ∧ 10 * w < 9 * v) ∧
    (∃ s : State, ∃ i : Nat, ∃ v, ∃ w, Awake s ∧ 1 ≤ i ∧ i ≤ 4 ∧ (s.bat i).miss = .pulse ∧ 9 * v ≤ 10 * w) ∧
    (∃ s : State, ∃ i : Nat, Awake s ∧ 1 ≤ i ∧ i ≤ 4 ∧ (s.bat i).miss = .confirmed ∧ (s.bat i).probing = false ∧ (s.bat i).sw = .closed
          ∧ working s.sys.mode = true ∧ discharging s (batCordon s i) = false) ∧
    (∃ s : State, ∃ i : Nat, Awake s ∧ 1 ≤ i ∧ i ≤ 4 ∧ (s.bat i).probing = true) ∧
    (∃ s : State, ∃ i : Nat, Awake s ∧ working s.sys.mode = true ∧ batUsed s i = true ∧ discharging s (batCordon s i) = false) ∧
    (∃ s : State, ∃ i : Nat, Awake s ∧ working s.sys.mode = true ∧ batUsed s i = true ∧ discharging s (batCordon s i) = true) ∧
    (∃ s : State, ∃ i : Nat, Awake s ∧ working s.sys.mode = true ∧ batUsed s i = true) ∧
    (∃ s : State, ∃ i : Nat, ∃ e : EisSched, Awake s ∧ working s.sys.mode = true ∧ batUsed s i = true ∧ eisSched s.str.image i = some e
          ∧ (e.mode = 1 ∨ s.sys.mode = .service) ∧ pairFree s i e.pair = true ∧ runPhaseOk s i 2 = true) ∧
    (∃ s : State, ∃ i : Nat, Awake s ∧ working s.sys.mode = true ∧ batUsed s i = true ∧ s.sys.mode = .service ∧ deepOk s = true ∧
          pairFree s i s.eis.deepPair = true ∧ runPhaseOk s i 3 = true ∧ deepBudgetOk s = true) ∧
    (∃ s : State, ∃ i : Nat, ∃ r : EisRun, Awake s ∧ working s.sys.mode = true ∧ batUsed s i = true ∧ r.running = true) ∧
    (∃ s : State, ∃ i : Nat, Awake s ∧ working s.sys.mode = true ∧ batUsed s i = true ∧ (s.bat i).run.lastRun ≠ none) :=
  ⟨⟨({ State.reset with sys.mode := .normal, now := 20000 } : State).modBat 1 (fun x => { x with sw := .settle }), 1, 0, 0,
        by decide +kernel⟩,
   ⟨State.reset, 1, (0 : Nat), 51, by decide +kernel⟩,
   ⟨State.reset.modBat 1 (fun x => { x with sw := .settle }), 1, by decide +kernel⟩,
   ⟨{ State.reset with sys.mode := .normal }, 1, by decide +kernel⟩,
   ⟨State.reset.modBat 1 (fun x => { x with miss := .pulse }), 1, (10 : Nat), 8, by decide +kernel⟩,
   ⟨State.reset.modBat 1 (fun x => { x with miss := .pulse }), 1, 0, 0, by decide +kernel⟩,
   ⟨({ State.reset with sys.mode := .normal } : State).modBat 1 (fun x =>
         { x with miss := .confirmed, probing := false, sw := .closed }), 1, by decide +kernel⟩,
   ⟨State.reset.modBat 1 (fun x => { x with probing := true }), 1, by decide +kernel⟩,
   ⟨bat1 ({ State.reset with sys.mode := .normal }), 1, by decide +kernel⟩,
   ⟨(bat1 ({ State.reset with sys.mode := .normal })).modCordon 1 (fun c => { c with mode := .portI, iSet := -1 }), 1, by decide +kernel⟩,
   ⟨bat1 ({ State.reset with sys.mode := .normal }), 1, by decide +kernel⟩,
   ⟨bat1 (({ State.reset with sys.mode := .normal, str.image := img } : State).modChg 1 (fun x => { x with phase := .cc })), 1, ⟨100,
         100, 1, 1, 1, 0, 0⟩, by decide +kernel⟩,
   ⟨bat1 (({ State.reset with sys.mode := .service, eis.deepF0 := 10, eis.deepF1 := 10, eis.deepAmpl := 1, eis.deepPpd := 1 }
         : State).modChg 1 (fun x => { x with phase := .cc })), 1, by decide +kernel⟩,
   ⟨bat1 ({ State.reset with sys.mode := .normal }), 1, ({ running := true } : EisRun), by decide +kernel⟩,
   ⟨bat1 (({ State.reset with sys.mode := .normal } : State).modBat 1 (fun x => { x with run.lastRun := some 0 })), 1, by decide +kernel⟩⟩

theorem witness_BooksRunsAndButtonRows :
    (∃ s : State, Awake s ∧ working s.sys.mode = true) ∧
    (∃ s : State, ∃ i : Nat, Awake s ∧ batUsed s i = true ∧ (eisSched s.str.image i).isSome = true ∧ (s.bat i).run.due = none) ∧
    (∃ s : State, ∃ i : Nat, Awake s ∧ batUsed s i = false) ∧
    (∃ s : State, ∃ i : Nat, Awake s ∧ 1 ≤ i ∧ i ≤ 4 ∧ (s.bat i).run.running = false) ∧
    (∃ s : State, ∃ i : Nat, ∃ l : List (Int × Int), ∃ z : Int × Int, Awake s ∧ 1 ≤ i ∧ i ≤ 4 ∧ (s.bat i).run.running = true ∧ 64 * (1
          + pointPeriods (runFreq s i)) ≤ l.length ∧ (s.bat i).run.dirty = false ∧ (s.bat i).run.snap = [] ∧ pointZ (pointSamples
          (runFreq s i) (l.map (·.1))) (pointSamples (runFreq s i) (l.map (·.2))) = some z ∧ (s.bat i).run.cur + 1 < (s.bat
          i).run.points) ∧
    (∃ s : State, ∃ i : Nat, ∃ l : List (Int × Int), Awake s ∧ (s.bat i).run.running = true ∧ 64 * (1 + pointPeriods (runFreq s i)) ≤
          l.length ∧ (s.bat i).run.dirty = true ∧ (s.bat i).run.repeating = false) ∧
    (∃ s : State, ∃ i : Nat, Awake s ∧ (s.bat i).run.running = false) ∧
    (∃ s : State, Awake s ∧ s.eis.btn.low = false) ∧
    (∃ s : State, Awake s ∧ s.eis.btn.low = true) :=
  ⟨⟨{ State.reset with sys.mode := .normal }, by decide +kernel⟩,
   ⟨bat1 (({ State.reset with str.image := img } : State).modBat 1 (fun x => { x with run.due := none })), 1, by decide +kernel⟩,
   ⟨State.reset, 1, by decide +kernel⟩,
   ⟨State.reset.modBat 1 (fun x => { x with run.running := false }), 1, by decide +kernel⟩,
   ⟨State.reset.modBat 1 (fun x => { x with run.running := true, run.dirty := false, run.snap := [], run.points := 2 }), 1,
         List.replicate 64 (0, 0) ++ (List.range 256).map (fun k => (if k % 64 < 32 then 2 else -2, if k % 64 < 32 then 1 else -1)),
         (2000000, 0), by decide +kernel⟩,
   ⟨State.reset.modBat 1 (fun x => { x with run.running := true, run.dirty := true, run.repeating := false, run.points := 2 }), 1,
         List.replicate 64 (0, 0) ++ (List.range 256).map (fun k => (if k % 64 < 32 then 2 else -2, if k % 64 < 32 then 1 else -1)),
         by decide +kernel⟩,
   ⟨State.reset.modBat 1 (fun x => { x with run.running := false }), 1, by decide +kernel⟩,
   ⟨{ State.reset with eis.btn.low := false }, by decide +kernel⟩,
   ⟨{ State.reset with eis.btn.low := true }, by decide +kernel⟩⟩

theorem witness_PeerAttachRows :
    (∃ s : State, ∃ i : Nat, Awake s ∧ 1 ≤ i ∧ i ≤ 4 ∧ (s.peerI i).state = .seek ∧ (bounds s i).mayExport = true ∧ (bounds s
          i).mayImport = true) ∧
    (∃ s : State, ∃ i : Nat, Awake s ∧ 1 ≤ i ∧ i ≤ 4 ∧ (s.peerI i).state = .seek ∧ (s.peerI i).present ≠ .released) ∧
    (∃ s : State, ∃ i : Nat, ∃ k, Awake s ∧ 1 ≤ i ∧ i ≤ 4 ∧ (s.peerI i).quiet = true ∧ (s.peerI i).state = .check ∧ 200 ≤ k) ∧
    (∃ s : State, ∃ i : Nat, ∃ k, Awake s ∧ 1 ≤ i ∧ i ≤ 4 ∧ (s.peerI i).quiet = true ∧ (s.peerI i).state = .check ∧ k < 200) ∧
    (∃ s : State, ∃ i : Nat, Awake s ∧ 1 ≤ i ∧ i ≤ 4 ∧ (s.peerI i).quiet = false) ∧
    (∃ s : State, ∃ i : Nat, Awake s ∧ 1 ≤ i ∧ i ≤ 4 ∧ (s.peerI i).upper = true ∧ (s.peerI i).state = .contract) ∧
    (∃ s : State, ∃ i : Nat, Awake s ∧ 1 ≤ i ∧ i ≤ 4 ∧ (s.peerI i).state = .wet) ∧
    (∃ s : State, ∃ i : Nat, Awake s ∧ 1 ≤ i ∧ i ≤ 4 ∧ (s.peerI i).state = .backoff) ∧
    (∃ s : State, ∃ i : Nat, ∃ w : PeerWait, Awake s ∧ 1 ≤ i ∧ i ≤ 4 ∧ (s.peerI i).waits = some w ∧ w.typ ≠ 6 ∧ w.typ ≠ 8) ∧
    (∃ s : State, ∃ i : Nat, Awake s ∧ 1 ≤ i ∧ i ≤ 4) ∧
    (∃ s : State, ∃ i : Nat, ∃ w : PeerWait, Awake s ∧ 1 ≤ i ∧ i ≤ 4 ∧ (s.peerI i).waits = some w ∧ w.typ ≠ 6 ∧ w.sends < 3) ∧
    (∃ s : State, ∃ i : Nat, ∃ w : PeerWait, Awake s ∧ 1 ≤ i ∧ i ≤ 4 ∧ (s.peerI i).waits = some w ∧ w.typ = 2 ∧ 3 ≤ w.sends ∧ (s.peerI
          i).state = .negotiate) ∧
    (∃ s : State, ∃ i : Nat, Awake s ∧ 1 ≤ i ∧ i ≤ 4 ∧ (s.peerI i).sent ≠ []) ∧
    (∃ s : State, ∃ i : Nat, Awake s ∧ 1 ≤ i ∧ i ≤ 4 ∧ (s.peerI i).waits = none) :=
  ⟨⟨({ State.reset with str.image := img } : State).modPeer 1 (fun x => { x with state := .seek }), 1, by decide +kernel⟩,
   ⟨State.reset.modPeer 1 (fun x => { x with state := .seek, present := .pullUp }), 1, by decide +kernel⟩,
   ⟨State.reset.modPeer 1 (fun x => { x with quiet := true, state := .check }), 1, 200, by decide +kernel⟩,
   ⟨State.reset.modPeer 1 (fun x => { x with quiet := true, state := .check }), 1, 199, by decide +kernel⟩,
   ⟨State.reset.modPeer 1 (fun x => { x with quiet := false }), 1, by decide +kernel⟩,
   ⟨State.reset.modPeer 1 (fun x => { x with upper := true, state := .contract }), 1, by decide +kernel⟩,
   ⟨State.reset.modPeer 1 (fun x => { x with state := .wet }), 1, by decide +kernel⟩,
   ⟨State.reset.modPeer 1 (fun x => { x with state := .backoff }), 1, by decide +kernel⟩,
   ⟨State.reset.modPeer 1 (fun x => { x with waits := some (⟨2, 0, 1, []⟩) }), 1, ⟨2, 0, 1, []⟩, by decide +kernel⟩,
   ⟨State.reset, 1, by decide +kernel⟩,
   ⟨State.reset.modPeer 1 (fun x => { x with waits := some (⟨2, 0, 2, []⟩) }), 1, ⟨2, 0, 2, []⟩, by decide +kernel⟩,
   ⟨State.reset.modPeer 1 (fun x => { x with waits := some (⟨2, 0, 3, []⟩), state := .negotiate }), 1, ⟨2, 0, 3, []⟩, by decide +kernel⟩,
   ⟨State.reset.modPeer 1 (fun x => { x with sent := [0] }), 1, by decide +kernel⟩,
   ⟨State.reset.modPeer 1 (fun x => { x with waits := none }), 1, by decide +kernel⟩⟩

theorem witness_PeerMessageRows :
    (∃ s : State, ∃ i : Nat, Awake s ∧ 1 ≤ i ∧ i ≤ 4 ∧ (s.peerI i).state = .contract ∧ (s.peerI i).upper = true) ∧
    (∃ s : State, ∃ i : Nat, ∃ t : Terms, Awake s ∧ 1 ≤ i ∧ i ≤ 4 ∧ (s.peerI i).state = .negotiate ∧ offerVerdict s i t = 0) ∧
    (∃ s : State, ∃ i : Nat, ∃ t : Terms, Awake s ∧ 1 ≤ i ∧ i ≤ 4 ∧ (s.peerI i).state = .negotiate ∧ offerVerdict s i t = 3) ∧
    (∃ s : State, ∃ i : Nat, ∃ q : Nat, ∃ c : Caps, ∃ w : PeerWait, Awake s ∧ 1 ≤ i ∧ i ≤ 4 ∧ (s.peerI i).state = .negotiate ∧ (s.peerI
          i).waits = some w ∧ w.typ = 2 ∧ w.seq = q ∧ (s.peerI i).caps = some c) ∧
    (∃ s : State, ∃ i : Nat, ∃ w : PeerWait, ∃ r, Awake s ∧ 1 ≤ i ∧ i ≤ 4 ∧ (s.peerI i).waits = some w ∧ w.typ = 2 ∧ (s.peerI i).state
          = .negotiate ∧ r ≠ 2) ∧
    (∃ s : State, ∃ i : Nat, Awake s ∧ 1 ≤ i ∧ i ≤ 4 ∧ (s.peerI i).state = .swap ∧ (s.peerI i).ownChecked = false ∧ (s.peerI i).upper =
          true ∧ (s.peerI i).recheck = false) ∧
    (∃ s : State, ∃ i : Nat, Awake s ∧ 1 ≤ i ∧ i ≤ 4 ∧ (s.peerI i).state = .contract) :=
  ⟨⟨State.reset.modPeer 1 (fun x => { x with state := .contract, upper := true }), 1, by decide +kernel⟩,
   ⟨peer1 (({ State.reset with sys.mode := .normal, str.image := img } : State).modPeer 1 (fun x =>
         { x with state := .negotiate, caps := some ⟨0, 9, true, true, true, false, 0, 5000, 1, 1, 1, 1⟩, partnerFeed := true })), 1,
         ⟨5000, 0, 0, 1⟩, by decide +kernel⟩,
   ⟨peer1 (({ State.reset with sys.mode := .normal, str.image := img } : State).modPeer 1 (fun x =>
         { x with state := .negotiate, caps := some ⟨0, 9, true, true, true, false, 0, 5000, 1, 1, 1, 1⟩, partnerFeed := true })), 1,
         ⟨5000, 1, 0, 1⟩, by decide +kernel⟩,
   ⟨State.reset.modPeer 1 (fun x =>
         { x with state := .negotiate, waits := some (⟨2, 1, 1, []⟩), caps := some (⟨0, 9, true, true, true, false, 0, 5000, 1, 1, 1, 1⟩) }), 1, 1, ⟨0, 9, true, true, true, false, 0, 5000, 1, 1, 1, 1⟩, ⟨2, 1, 1, []⟩, by decide +kernel⟩,
   ⟨State.reset.modPeer 1 (fun x => { x with waits := some (⟨2, 1, 1, []⟩), state := .negotiate }), 1, ⟨2, 1, 1, []⟩, 1,
         by decide +kernel⟩,
   ⟨State.reset.modPeer 1 (fun x => { x with state := .swap, ownChecked := false, upper := true, recheck := false }), 1,
         by decide +kernel⟩,
   ⟨State.reset.modPeer 1 (fun x => { x with state := .contract }), 1, by decide +kernel⟩⟩

theorem witness_PeerSwapAndTestRows :
    (∃ s : State, ∃ i : Nat, Awake s ∧ 1 ≤ i ∧ i ≤ 4 ∧ (s.peerI i).state = .contract ∧ (s.peerI i).role = .consumer ∧ ownFeed s = true) ∧
    (∃ s : State, ∃ i : Nat, Awake s ∧ 1 ≤ i ∧ i ≤ 4 ∧ (s.peerI i).state ≠ .contract ∨ (s.peerI i).role ≠ .consumer) ∧
    (∃ s : State, ∃ i : Nat, Awake s ∧ 1 ≤ i ∧ i ≤ 4 ∧ (s.peerI i).state = .swap ∧ (s.peerI i).pulse = true) ∧
    (∃ s : State, ∃ i : Nat, Awake s ∧ 1 ≤ i ∧ i ≤ 4 ∧ (s.peerI i).state = .swap) ∧
    (∃ s : State, ∃ i : Nat, Awake s ∧ 1 ≤ i ∧ i ≤ 4 ∧ (s.peerI i).state = .idle ∧ (s.peerI i).quiet = false) ∧
    (∃ s : State, ∃ i : Nat, ∃ p, ∃ d, Awake s ∧ 1 ≤ i ∧ i ≤ 4 ∧ s.sys.mode = .service ∧ peerUsed s i = true ∧ 1 ≤ p ∧ p ≤ 960 ∧ 1 ≤ d
          ∧ d ≤ 60 ∧ (s.peerI i).state = .contract ∧ (s.peerI i).role = .supplier ∧ (s.peerI i).test = false ∧ (s.peerI i).waits = none) ∧
    (∃ s : State, ∃ i : Nat, Awake s ∧ 1 ≤ i ∧ i ≤ 4 ∧ (s.peerI i).state = .contract ∧ (s.peerI i).role = .consumer ∧ (bounds s
          i).mayImport = true ∧ ownFeed s = true) ∧
    (∃ s : State, ∃ i : Nat, Awake s ∧ 1 ≤ i ∧ i ≤ 4 ∧ (s.peerI i).test = true ∧ (s.peerI i).testImport = false) ∧
    (∃ s : State, ∃ i : Nat, Awake s ∧ 1 ≤ i ∧ i ≤ 4 ∧ working s.sys.mode = true ∧ peerUsed s i = true ∧ (s.peerI i).state = .contract) :=
  ⟨⟨(State.reset.modPeer 1 (fun x => { x with state := .contract, role := .consumer })).modSrc 1 (fun x =>
        { x with state := .usable }), 1, by decide +kernel⟩,
   ⟨State.reset, 1, by decide +kernel⟩,
   ⟨State.reset.modPeer 1 (fun x => { x with state := .swap, pulse := true }), 1, by decide +kernel⟩,
   ⟨State.reset.modPeer 1 (fun x => { x with state := .swap }), 1, by decide +kernel⟩,
   ⟨State.reset.modPeer 1 (fun x => { x with state := .idle, quiet := false }), 1, by decide +kernel⟩,
   ⟨peer1 (({ State.reset with sys.mode := .service } : State).modPeer 1 (fun x =>
         { x with state := .contract, role := .supplier, test := false, waits := none })), 1, 960, 60, by decide +kernel⟩,
   ⟨(({ State.reset with str.image := img } : State).modPeer 1 (fun x => { x with state := .contract, role := .consumer })).modSrc
         1 (fun x => { x with state := .usable }), 1, by decide +kernel⟩,
   ⟨State.reset.modPeer 1 (fun x => { x with test := true, testImport := false }), 1, by decide +kernel⟩,
   ⟨peer1 (({ State.reset with sys.mode := .normal } : State).modPeer 1 (fun x => { x with state := .contract })), 1, by decide +kernel⟩⟩

theorem witness_AdcRows :
    (∃ s : State, ∃ x, ∃ k, ∃ raw : BitVec 24,
      let a := bankGet {} (s.convX x).slots (k + 1);
      let r := tagged s x a.left a.channel false raw;
      let t := s.modConv x (fun c => { c with slots := bankMod c.slots (k + 1) (fun a => { a with res := r, left := if s.adc.settled.getLsbD x then a.left - 1 else a.left }) });
      Awake s ∧ adcRuns s = true ∧ a.used = true ∧ servingSlot t a.channel ≠ some (x, k) ∧ (r.valid = true → (t.convX x).wsrc ≠ k + 1)) ∧
    (∃ s : State, ∃ x, ∃ k, ∃ raw : BitVec 24,
      let a := bankGet {} (s.convX x).slots (k + 1);
      let r := tagged s x a.left a.channel false raw;
      let t := s.modConv x (fun c => { c with slots := bankMod c.slots (k + 1) (fun a => { a with res := r, left := if s.adc.settled.getLsbD x then a.left - 1 else a.left }) });
      Awake s ∧ adcRuns s = true ∧ a.used = true ∧ servingSlot t a.channel = some (x, k) ∧ r.valid = true ∧ (t.convX x).wsrc ≠ k + 1) ∧
    (∃ s : State, Awake s ∧ adcRuns s = false) ∧
    (∃ s : State, ∃ x, ∃ h : AdcHold, Awake s ∧ x < 4 ∧ adcRuns s = true ∧ (s.convX x).held = some h ∧ (s.convX x).en = false) ∧
    (∃ s : State, Awake s) ∧
    (∃ s : State, ∃ r, Awake s ∧ (bankGet {} s.adc.routes (r + 1)).en = true ∧ (bankGet {} s.adc.routes (r + 1)).conv = 1 ∧ adcRuns s =
          true ∧ trigCode (bankGet {} s.adc.routes (r + 1)).src ≠ 0 ∧ (s.convX 0).held = none) ∧
    (∃ s : State, ∃ t, Awake s ∧ timerOn (bankGet {} s.adc.timers (t + 1)) = true) ∧
    (∃ s : State, ∃ c,
      let k := bankGet {} s.adc.cmps (c + 1);
      Awake s ∧ k.en = true ∧ 1 ≤ k.mode ∧ k.mode ≤ 4 ∧ k.out = true) ∧
    (∃ s : State, ∃ x, Awake s ∧ adcRuns s = true ∧ x < 4 ∧ s.adc.refinBad = false) ∧
    (∃ s : State, ∃ d, ∃ p, Awake s ∧ working s.sys.mode = true ∧ (rotate s.now d p s.adc).2 = none) ∧
    (∃ s : State, ∃ d, ∃ p, ∃ k, Awake s ∧ working s.sys.mode = true ∧ (rotate s.now d p s.adc).2 = some k) ∧
    (∃ s : State, ∃ x, ∃ c, Awake s ∧ s.sys.mode = .service ∧ x ≤ 3 ∧ c ≤ 31 ∧ s.adc.cmps.toList.any (fun k => k.module_ &&
          decide (k.channel = c)) = false ∧ s.adc.diagState ≠ 1) ∧
    (∃ s : State, ∃ v, ∃ w, ∃ n, Awake s ∧ s.adc.diagState = 1 ∧ rSrc v w = some n ∧ w - v < 1250000) ∧
    (∃ s : State, Awake s ∧ s.adc.diagState ≠ 1) ∧
    (∃ s : State, ∃ k, Awake s ∧ working s.sys.mode = true ∧ k ≤ 4 ∧ s.adc.failed.getLsbD k = true) :=
  ⟨⟨({ State.reset with sys.mode := .normal, adc.runs := true }).modConv 3 (fun c =>
        { c with slots := bankMod (bankMod c.slots 16 (fun a => { a with used := true })) 1 (fun a => { a with used := true }) }), 3,
        15, (0 : BitVec 24), by decide +kernel⟩,
   ⟨({ State.reset with sys.mode := .normal, adc.runs := true, adc.settled := 15 }).modConv 3 (fun c =>
         { c with slots := bankMod c.slots 16 (fun a => { a with used := true }) }), 3, 15, (0 : BitVec 24), by decide +kernel⟩,
   ⟨State.reset, by decide +kernel⟩,
   ⟨({ State.reset with sys.mode := .normal, adc.runs := true } : State).modConv 3 (fun x =>
         { x with held := some (⟨0⟩), en := false }), 3, ⟨0⟩, by decide +kernel⟩,
   ⟨State.reset, by decide +kernel⟩,
   ⟨({ State.reset with adc.routes := Vector.replicate _ { en := true, conv := 1, src := 1 }, sys.mode := .normal, adc.runs := true }
         : State).modConv 0 (fun x => { x with held := none }), 3, by decide +kernel⟩,
   ⟨{ State.reset with adc.timers := Vector.replicate 4 { en := true, period := 100 } }, 3, by decide +kernel⟩,
   ⟨{ State.reset with adc.cmps := Vector.replicate 8 { en := true, mode := 4, out := true } }, 7, by decide +kernel⟩,
   ⟨{ State.reset with adc.refinBad := false, sys.mode := .normal, adc.runs := true }, 3, by decide +kernel⟩,
   ⟨{ State.reset with sys.mode := .normal }, 0, 0, by decide +kernel⟩,
   ⟨{ State.reset with sys.mode := .normal, adc.calState := 0, adc.rot.mismatches := 1 }, 17, false, 4, by decide +kernel⟩,
   ⟨{ State.reset with sys.mode := .service }, 0, 0, by decide +kernel⟩,
   ⟨{ State.reset with adc.diagState := 1 }, 0, 0, 0, by decide +kernel⟩,
   ⟨{ State.reset with adc.failed := 31 }, by decide +kernel⟩,
   ⟨{ State.reset with sys.mode := .normal, adc.failed := 31 }, 4, by decide +kernel⟩⟩

theorem witness_StagingBankRows :
    (∃ s : State, Awake s ∧ working s.sys.mode = true ∧ s.stg.state = .empty) ∧
    (∃ s : State, ∃ o, Awake s ∧ working s.sys.mode = true ∧ stgWritable (o - 0x400) = false) ∧
    (∃ s : State, ∃ a : Agent, Awake s ∧ working s.sys.mode = true ∧ s.stg.state = .open_ ∧ s.stg.owner = some a ∧ s.stg.imgPtr < 2048) ∧
    (∃ s : State, ∃ a : Agent, Awake s ∧ working s.sys.mode = true ∧ s.stg.state = .open_ ∧ s.stg.owner = some a ∧ 2048 ≤ s.stg.imgPtr) ∧
    (∃ s : State, Awake s ∧ working s.sys.mode = true ∧ s.stg.state = .armed) ∧
    (∃ s : State, ∃ a : Agent, ∃ b : Agent, Awake s ∧ working s.sys.mode = true ∧ s.stg.state = .open_ ∧ s.stg.owner = some b ∧ b ≠ a) ∧
    (∃ s : State, ∃ a : Agent, Awake s ∧ working s.sys.mode = true ∧ s.stg.owner = some a ∧ s.stg.state = .open_) ∧
    (∃ s : State, ∃ a : Agent, Awake s ∧ working s.sys.mode = true ∧ s.stg.owner = some a ∧ s.stg.state = .checking ∧ s.stg.after =
          .stay ∧ s.sys.mode ≠ .limp ∧ (checkSet s).1.reason = 0) ∧
    (∃ s : State, ∃ a : Agent, Awake s ∧ working s.sys.mode = true ∧ s.stg.owner = some a ∧ s.stg.state = .checking ∧ s.sys.mode ≠
          .limp ∧ (checkSet s).1.reason ≠ 0 ∧ s.stg.bySeq = false) ∧
    (∃ s : State, ∃ a : Agent, Awake s ∧ working s.sys.mode = true ∧ s.stg.owner = some a ∧ s.stg.state = .checked) ∧
    (∃ s : State, ∃ a : Agent, Awake s ∧ working s.sys.mode = true ∧ s.stg.owner = some a ∧ s.stg.state ≠ .checking) ∧
    (∃ s : State, ∃ a : Agent, Awake s ∧ working s.sys.mode = true ∧ s.stg.owner = some a ∧ s.stg.state = .checked ∧ atRefusal
          { s with stg := { s.stg with actAt := s.now } } = 0) ∧
    (∃ s : State, ∃ a : Agent, Awake s ∧ working s.sys.mode = true ∧ s.stg.owner = some a ∧ s.stg.state = .scheduled) ∧
    (∃ s : State, ∃ a : Agent, Awake s ∧ working s.sys.mode = true ∧ s.stg.owner = some a) :=
  ⟨⟨{ State.reset with sys.mode := .normal, stg.state := .empty }, by decide +kernel⟩,
   ⟨{ State.reset with sys.mode := .normal, stg.imgPtr := 2047 }, 0, by decide +kernel⟩,
   ⟨{ State.reset with sys.mode := .normal, stg.state := .open_, stg.owner := some .hostSpi }, .hostSpi, by decide +kernel⟩,
   ⟨{ State.reset with sys.mode := .normal, stg.state := .open_, stg.owner := some .hostSpi, stg.imgPtr := 2048 }, .hostSpi,
         by decide +kernel⟩,
   ⟨{ State.reset with sys.mode := .normal, stg.state := .armed }, by decide +kernel⟩,
   ⟨{ State.reset with sys.mode := .normal, stg.state := .open_, stg.owner := some .trellis }, .hostSpi, .trellis, by decide +kernel⟩,
   ⟨{ State.reset with sys.mode := .normal, stg.owner := some .hostSpi, stg.state := .open_ }, .hostSpi, by decide +kernel⟩,
   ⟨{ State.reset with sys.mode := .normal, stg.owner := some .hostSpi, stg.state := .checking, stg.after := .stay }, .hostSpi,
         by decide +kernel⟩,
   ⟨{ State.reset with sys.mode := .normal, stg.owner := some .hostSpi, stg.state := .checking, stg.bySeq := false, stg.imgSrc := 1 },
         .hostSpi, by decide +kernel⟩,
   ⟨{ State.reset with sys.mode := .normal, stg.owner := some .hostSpi, stg.state := .checked }, .hostSpi, by decide +kernel⟩,
   ⟨{ State.reset with sys.mode := .normal, stg.owner := some .hostSpi }, .hostSpi, by decide +kernel⟩,
   ⟨{ State.reset with sys.mode := .normal, stg.owner := some .hostSpi, stg.state := .checked, trl.locked := true, stg.tLo := 6000 },
         .hostSpi, by decide +kernel⟩,
   ⟨{ State.reset with sys.mode := .normal, stg.owner := some .hostSpi, stg.state := .scheduled }, .hostSpi, by decide +kernel⟩,
   ⟨{ State.reset with sys.mode := .normal, stg.owner := some .hostSpi }, .hostSpi, by decide +kernel⟩⟩

theorem witness_StagingProgressRows :
    (∃ s : State, Awake s ∧ s.stg.state = .scheduled) ∧
    (∃ s : State, Awake s ∧ s.stg.state = .armed ∧ s.stg.goSent = false ∧ allAcked s.stg = false ∧ s.stg.at_ = true) ∧
    (∃ s : State, Awake s ∧ s.stg.state = .armed ∧ s.stg.goSent = false ∧ allAcked s.stg = false ∧ s.stg.at_ = false ∧ s.stg.tries = 0) ∧
    (∃ s : State, Awake s ∧ s.stg.state = .armed ∧ s.stg.goSent = true ∧ s.stg.k ≤ tickNow s ∧ s.sys.mode ≠ .limp) ∧
    (∃ s : State, Awake s ∧ (s.stg.goSent = false ∨ tickNow s < s.stg.k)) ∧
    (∃ s : State, Awake s ∧ s.stg.state = .armed ∧ s.stg.goSent = true ∧ s.stg.k ≤ tickNow s ∧ s.sys.mode = .limp ∧ s.stg.takeover =
          true ∧ takeoverWaits s = false) ∧
    (∃ s : State, Awake s ∧ (s.stg.state = .open_ ∨ s.stg.state = .checked)) ∧
    (∃ s : State, Awake s) ∧
    (∃ s : State, ∃ n, Awake s ∧ working s.sys.mode = true ∧ (s.cordon n).give = true ∧ (s.cordon n).e.role = .system) :=
  ⟨⟨{ State.reset with stg.state := .scheduled }, by decide +kernel⟩,
   ⟨{ State.reset with stg.state := .armed, stg.goSent := false, stg.at_ := true, stg.cells := 1 }, by decide +kernel⟩,
   ⟨{ State.reset with stg.state := .armed, stg.goSent := false, stg.at_ := false, stg.tries := 0, stg.cells := 1 }, by decide +kernel⟩,
   ⟨{ State.reset with stg.state := .armed, stg.goSent := true, sys.mode := .normal }, by decide +kernel⟩,
   ⟨State.reset, by decide +kernel⟩,
   ⟨{ State.reset with stg.state := .armed, stg.goSent := true, sys.mode := .limp, stg.takeover := true }, by decide +kernel⟩,
   ⟨{ State.reset with stg.state := .checked }, by decide +kernel⟩,
   ⟨State.reset, by decide +kernel⟩,
   ⟨({ State.reset with sys.mode := .normal } : State).modCordon 7 (fun x => { x with give := true, e.role := .system }), 7,
         by decide +kernel⟩⟩

theorem witness_ResendAndDiscardRows :
    (∃ s : State, Awake s ∧ s.spi.serving = true ∧ s.spi.loaded.status ≠ 0) ∧
    (∃ s : State, Awake s ∧ s.spi.serving = true) ∧
    (∃ s : State, ∃ e, Awake s ∧ s.spi.serving = true ∧ e ≠ 64 ∧ e ≤ 255) :=
  ⟨⟨{ State.reset with spi.serving := true, spi.loaded.status := 0x15 }, by decide +kernel⟩,
   ⟨{ State.reset with spi.serving := true }, by decide +kernel⟩,
   ⟨{ State.reset with spi.serving := true }, 0, by decide +kernel⟩⟩

theorem witness_RegisterWriteRows :
    (∃ s : State, ∃ b : Agent, Awake s ∧ (b ≠ .hostSpi ∨ s.spi.serving = true)) ∧
    (∃ s : State, Awake s) :=
  ⟨⟨{ State.reset with spi.serving := true }, .hostSpi, by decide +kernel⟩,
   ⟨State.reset, by decide +kernel⟩⟩

theorem witness_SessionRows :
    (∃ s : State, Awake s) ∧
    (∃ s : State, ∃ i : SessIface, Awake s ∧ (sess i s).state = .waitRng ∧ s.cry.rng = .ready) ∧
    (∃ s : State, ∃ i : SessIface, Awake s ∧ (sess i s).state ≠ .waitRng) ∧
    (∃ s : State, Awake s ∧ s.spi.sess.state = .challenge) ∧
    (∃ s : State, ∃ i : SessIface, Awake s ∧ (sess i s).state = .verifying ∧ (sess i s).waitCrypto = false) ∧
    (∃ s : State, Awake s ∧ s.spi.sess.state = .open_) ∧
    (∃ s : State, ∃ i : SessIface, Awake s ∧ (sess i s).state = .challenge) ∧
    (∃ s : State, ∃ i : SessIface, Awake s ∧ (sess i s).state = .open_) ∧
    (∃ s : State, ∃ i : SessIface, Awake s ∧ lockedOut (sess i s) = true) ∧
    (∃ s : State, Awake s ∧ 12 ≤ s.spi.authPtr ∧ s.spi.authPtr ≤ 34) :=
  ⟨⟨State.reset, by decide +kernel⟩,
   ⟨{ State.reset with spi.sess.state := .waitRng, cry.rng := .ready }, .spi, by decide +kernel⟩,
   ⟨State.reset, .spi, by decide +kernel⟩,
   ⟨{ State.reset with spi.sess.state := .challenge }, by decide +kernel⟩,
   ⟨{ State.reset with spi.sess.state := .verifying, spi.sess.waitCrypto := false }, .spi, by decide +kernel⟩,
   ⟨{ State.reset with spi.sess.state := .open_ }, by decide +kernel⟩,
   ⟨{ State.reset with spi.sess.state := .challenge }, .spi, by decide +kernel⟩,
   ⟨{ State.reset with spi.sess.state := .open_ }, .spi, by decide +kernel⟩,
   ⟨{ State.reset with spi.sess.state := .lockedOut }, .spi, by decide +kernel⟩,
   ⟨{ State.reset with spi.authPtr := 34 }, by decide +kernel⟩⟩

theorem witness_TrellisSegmentRows :
    (∃ s : State, ∃ p : TrlPort, ∃ hb : Hb, Awake s ∧ (s.port p).state ≠ .off ∧ hb.src ≠ s.trl.addr ∧ hb.isModule = true ∧ hb.longReq =
          false) ∧
    (∃ s : State, ∃ p : TrlPort, ∃ hb : Hb, Awake s ∧ (s.port p).state ≠ .off ∧ hb.src ≠ s.trl.addr ∧ hb.isModule = true ∧ hb.longReq =
          false ∧ (s.port p).state = .linked ∧ hb.src = (s.port p).peer) ∧
    (∃ s : State, ∃ p : TrlPort, Awake s ∧ (s.port p).state ≠ .off) ∧
    (∃ s : State, ∃ p : TrlPort, ∃ v : Via, Awake s ∧ (s.port p).state ≠ .off ∧ v.port = p) ∧
    (∃ s : State, ∃ p : TrlPort, ∃ v : Via, ∃ a, Awake s ∧ (s.port p).state ≠ .off ∧ v.port = p ∧ v.isModule = true ∧ (s.port
          p).hasPeer = true ∧ (s.port p).peer = a) ∧
    (∃ s : State, ∃ p : TrlPort, ∃ n, Awake s ∧ (s.port p).state ≠ .off ∧ (s.port p).hasPeer = true ∧ (s.port p).held + n ≤ 6) :=
  ⟨⟨State.reset.modPort .a (fun x => { x with state := .linked }), .a, hb, by decide +kernel⟩,
   ⟨State.reset.modPort .a (fun x => { x with state := .linked, peer := 9 }), .a, hb, by decide +kernel⟩,
   ⟨State.reset.modPort .a (fun x => { x with state := .linked }), .a, by decide +kernel⟩,
   ⟨State.reset.modPort .a (fun x => { x with state := .linked }), .a, via, by decide +kernel⟩,
   ⟨State.reset.modPort .a (fun x => { x with state := .linked, hasPeer := true, peer := 0 }), .a, via, 0, by decide +kernel⟩,
   ⟨State.reset.modPort .a (fun x => { x with state := .linked, hasPeer := true }), .a, 0, by decide +kernel⟩⟩

theorem witness_TrellisFrameRows :
    (∃ s : State, ∃ v : Via, ∃ a : Nat, ∃ r : RegReq, Awake s ∧ (s.port v.port).state ≠ .off ∧ bufFree (s.port v.port) v.isModule =
          true ∧ a ≠ s.trl.addr ∧ (s.port v.port).hasPeer = false ∧ r.src = a) ∧
    (∃ s : State, ∃ v : Via, ∃ a : Nat, Awake s ∧ (s.port v.port).state ≠ .off ∧ bufFree (s.port v.port) v.isModule = true ∧ a ≠
          s.trl.addr ∧ (s.port v.port).hasPeer = false) ∧
    (∃ s : State, ∃ v : Via, ∃ a : Nat, ∃ w : Window, Awake s ∧ (s.port v.port).state ≠ .off ∧ bufFree (s.port v.port) v.isModule =
          true ∧ a ≠ s.trl.addr ∧ (s.port v.port).hasPeer = false ∧ s.upd.window = some w ∧ w.src = a ∧ w.port = v.port ∧ w.got.length
          < w.count) ∧
    (∃ s : State, ∃ v : Via, ∃ a : Nat, Awake s ∧ (s.port v.port).state ≠ .off ∧ bufFree (s.port v.port) v.isModule = true ∧ a ≠
          s.trl.addr ∧ (s.port v.port).hasPeer = false ∧ s.upd.want = none ∧ s.upd.window = none) ∧
    (∃ s : State, ∃ v : Via, ∃ a : Nat, ∃ g : BitVec 64, Awake s ∧ (s.port v.port).state ≠ .off ∧ bufFree (s.port v.port) v.isModule =
          true ∧ a ≠ s.trl.addr ∧ (s.port v.port).hasPeer = false ∧ g ≠ s.upd.gid ∧ s.upd.window = none) ∧
    (∃ s : State, ∃ v : Via, ∃ a : Nat,
      let t := learnSrc v.port a (s.modPort v.port (portHear a v.isModule v.cr s.now)); ∃ r : RegReq, Awake s ∧ (s.port v.port).state ≠ .off ∧ bufFree (s.port v.port) v.isModule = true ∧ a ≠ s.trl.addr ∧ (s.port v.port).hasPeer = false ∧ r.src = a ∧ keptFor r t = none ∧ reqOk r = false) ∧
    (∃ s : State, ∃ v : Via, ∃ a : Nat,
      let t := learnSrc v.port a (s.modPort v.port (portHear a v.isModule v.cr s.now)); ∃ f : TrlFrame, Awake s ∧ (s.port v.port).state ≠ .off ∧ bufFree (s.port v.port) v.isModule = true ∧ a ≠ s.trl.addr ∧ (s.port v.port).hasPeer = false ∧ f.src = a ∧ f.isModule = v.isModule ∧ f.cr = v.cr ∧ 4 < f.typ ∧ f.bcast = false ∧ f.dest ≠ s.trl.addr ∧ learnedOn t f.dest ≠ some v.port) ∧
    (∃ s : State, ∃ v : Via, ∃ a : Nat, ∃ f : TrlFrame, Awake s ∧ (s.port v.port).state ≠ .off ∧ bufFree (s.port v.port) v.isModule =
          true ∧ a ≠ s.trl.addr ∧ (s.port v.port).hasPeer = false ∧ f.src = a ∧ f.isModule = v.isModule ∧ f.cr = v.cr ∧ 4 < f.typ ∧
          f.bcast = false ∧ f.dest = s.trl.addr) :=
  ⟨⟨State.reset.modPort via.port (fun x => { x with state := .linked, hasPeer := false }), via, 9, rq, by decide +kernel⟩,
   ⟨State.reset.modPort via.port (fun x => { x with state := .linked, hasPeer := false }), via, 9, by decide +kernel⟩,
   ⟨({ State.reset with upd.window := some (⟨.a, 9, 0, 1, 0, []⟩) } : State).modPort via.port (fun x =>
         { x with state := .linked, hasPeer := false }), via, 9, ⟨.a, 9, 0, 1, 0, []⟩, by decide +kernel⟩,
   ⟨({ State.reset with upd.want := none, upd.window := none } : State).modPort via.port (fun x =>
         { x with state := .linked, hasPeer := false }), via, 9, by decide +kernel⟩,
   ⟨({ State.reset with upd.window := none } : State).modPort via.port (fun x => { x with state := .linked, hasPeer := false }), via,
         9, 1, by decide +kernel⟩,
   ⟨State.reset.modPort via.port (fun x => { x with state := .linked, hasPeer := false }), via, 9, { rq with count := 33 },
         by decide +kernel⟩,
   ⟨State.reset.modPort via.port (fun x => { x with state := .linked, hasPeer := false }), via, 9, frm, by decide +kernel⟩,
   ⟨State.reset.modPort via.port (fun x => { x with state := .linked, hasPeer := false }), via, 9, { frm with dest := 0 },
         by decide +kernel⟩⟩

theorem witness_TrellisSendRows :
    (∃ s : State, ∃ p : TrlPort, Awake s ∧ (s.port p).state ≠ .off) ∧
    (∃ s : State, Awake s) ∧
    (∃ s : State, ∃ p : TrlPort, ∃ k, ∃ q : Queued, Awake s ∧ sendIx (s.port p) = some k ∧ (s.port p).queue[k]? = some q) ∧
    (∃ s : State, ∃ p : TrlPort, Awake s ∧ (s.port p).owed ≠ 0 ∧ (s.port p).queue = []) :=
  ⟨⟨State.reset.modPort .a (fun x => { x with state := .linked }), .a, by decide +kernel⟩,
   ⟨State.reset, by decide +kernel⟩,
   ⟨State.reset.modPort .a (fun x => { x with state := .linked, queue := [⟨frm, 0, none⟩], hasPeer := true, held := 6 }), .a, 0, ⟨frm,
         0, none⟩, by decide +kernel⟩,
   ⟨State.reset.modPort .a (fun x => { x with queue := [], owed := 1 }), .a, by decide +kernel⟩⟩

theorem witness_TrellisTimerRows :
    (∃ s : State, ∃ p : TrlPort, Awake s ∧ (s.port p).state = .linked) ∧
    (∃ s : State, Awake s) ∧
    (∃ s : State, Awake s ∧ s.trl.locked = true) ∧
    (∃ s : State, Awake s ∧ s.spi.serving = true) ∧
    (∃ s : State, Awake s ∧ working s.sys.mode = true) ∧
    (∃ s : State, Awake s ∧ working s.sys.mode = true ∧ s.trl.sess.state = .open_) ∧
    (∃ s : State, Awake s ∧ working s.sys.mode = true ∧ s.trl.sess.state ≠ .open_) ∧
    (∃ s : State, Awake s ∧ working s.sys.mode = false) :=
  ⟨⟨State.reset.modPort .a (fun x => { x with state := .linked }), .a, by decide +kernel⟩,
   ⟨State.reset, by decide +kernel⟩,
   ⟨{ State.reset with trl.locked := true }, by decide +kernel⟩,
   ⟨{ State.reset with spi.serving := true }, by decide +kernel⟩,
   ⟨{ State.reset with sys.mode := .normal }, by decide +kernel⟩,
   ⟨{ State.reset with sys.mode := .normal, trl.sess.state := .open_ }, by decide +kernel⟩,
   ⟨{ State.reset with sys.mode := .normal }, by decide +kernel⟩,
   ⟨State.reset, by decide +kernel⟩⟩

theorem witness_GraftRows :
    (∃ s : State, ∃ w : Window, Awake s ∧ s.upd.window = some w ∧ w.got.length = w.count ∧ fcrcBytes w.got.flatten = w.crc) ∧
    (∃ s : State, ∃ w : Window, Awake s ∧ s.upd.window = some w ∧ w.got.length = w.count ∧ fcrcBytes w.got.flatten ≠ w.crc) ∧
    (∃ s : State, ∃ w : Window, Awake s ∧ s.upd.window = some w) ∧
    (∃ s : State, Awake s ∧ s.upd.state = .verified ∧ s.upd.bitmap ≠ 0) ∧
    (∃ s : State, Awake s ∧ s.upd.state = .receiving) ∧
    (∃ s : State, Awake s ∧ s.upd.state = .receiving ∧ s.upd.formOk = false ∧ manifestHeld s = true) ∧
    (∃ s : State, ∃ a : Agent,
      let k := (s.agent a).hxIdx;
      Awake s ∧ s.upd.state = .receiving ∧ s.fls.trial = false ∧ k ≠ 0 ∧ chunkRefusal s k = 0) ∧
    (∃ s : State, ∃ a : Agent,
      let k := (s.agent a).hxIdx;
      Awake s ∧ s.upd.state = .receiving ∧ s.fls.trial = false ∧ k ≠ 0 ∧ chunkRefusal s k ≠ 0) ∧
    (∃ s : State, Awake s ∧ s.upd.state = .complete ∧ s.cry.rng = .ready ∧ s.cry.slot0 = 0 ∧ s.cry.slot1 = 0) ∧
    (∃ s : State, Awake s ∧ s.upd.state = .complete ∧ s.cry.rng = .ready ∧ s.cry.slot0 = 3 ∧ s.cry.slot1 = 5) ∧
    (∃ s : State, Awake s ∧ s.upd.state = .verified) ∧
    (∃ s : State, Awake s ∧ s.upd.state = .none) ∧
    (∃ s : State, Awake s ∧ working s.sys.mode = true ∧ s.eis.shipRun = false ∧ s.upd.state = .verified) ∧
    (∃ s : State, Awake s ∧ working s.sys.mode = true ∧ s.eis.shipRun = false ∧ s.upd.state = .carried) ∧
    (∃ s : State, Awake s ∧ working s.sys.mode = true ∧ s.eis.shipRun = false ∧ s.upd.state = .verified ∧ s.trl.locked = true ∧ 100000
          ≤ trlUntil s (activateTime s) ∧ trlUntil s (activateTime s) ≤ 86400000000) ∧
    (∃ s : State, Awake s ∧ s.upd.phase = .scheduled) ∧
    (∃ s : State, Awake s ∧ s.upd.phase = .scheduled ∧ s.upd.state = .verified ∧ working s.sys.mode = true) :=
  ⟨⟨{ State.reset with upd.window := some (⟨.a, 9, 0, 0, 0xFFFFFFFF, []⟩) }, ⟨.a, 9, 0, 0, 0xFFFFFFFF, []⟩, by decide +kernel⟩,
   ⟨{ State.reset with upd.window := some (⟨.a, 9, 0, 0, 0, []⟩) }, ⟨.a, 9, 0, 0, 0, []⟩, by decide +kernel⟩,
   ⟨{ State.reset with upd.window := some (⟨.a, 9, 0, 0, 0xFFFFFFFF, []⟩) }, ⟨.a, 9, 0, 0, 0xFFFFFFFF, []⟩, by decide +kernel⟩,
   ⟨{ State.reset with upd.state := .verified, upd.bitmap := 1 }, by decide +kernel⟩,
   ⟨{ State.reset with upd.state := .receiving }, by decide +kernel⟩,
   ⟨{ State.reset with upd.state := .receiving, upd.formOk := false, upd.bitmap := BitVec.allOnes 8192 }, by decide +kernel⟩,
   ⟨{ State.reset with upd.state := .receiving, fls.trial := false, agents := Vector.replicate 3 { hxIdx := 8191 }, upd.total := 8192, upd.formOk := true, upd.bitmap := 1 }, .hostSpi, by decide +kernel⟩,
   ⟨{ State.reset with upd.state := .receiving, fls.trial := false, agents := Vector.replicate 3 { hxIdx := 1 } }, .hostSpi,
         by decide +kernel⟩,
   ⟨{ State.reset with upd.state := .complete, cry.rng := .ready, cry.slot0 := 0, cry.slot1 := 0 }, by decide +kernel⟩,
   ⟨{ State.reset with upd.state := .complete, cry.rng := .ready, cry.slot0 := 3, cry.slot1 := 5 }, by decide +kernel⟩,
   ⟨{ State.reset with upd.state := .verified }, by decide +kernel⟩,
   ⟨{ State.reset with upd.state := .none }, by decide +kernel⟩,
   ⟨{ State.reset with sys.mode := .normal, eis.shipRun := false, upd.state := .verified }, by decide +kernel⟩,
   ⟨{ State.reset with sys.mode := .normal, eis.shipRun := false, upd.state := .carried }, by decide +kernel⟩,
   ⟨{ State.reset with sys.mode := .normal, eis.shipRun := false, upd.state := .verified, trl.locked := true, upd.atLo := 100000 },
         by decide +kernel⟩,
   ⟨{ State.reset with upd.phase := .scheduled }, by decide +kernel⟩,
   ⟨{ State.reset with upd.phase := .scheduled, upd.state := .verified, sys.mode := .normal }, by decide +kernel⟩⟩

theorem witness_ActivationRows :
    (∃ s : State, Awake s ∧ s.upd.state = .activating ∧ s.upd.phase = .guard ∧ working s.sys.mode = true ∧ partnerInLimp s = false) ∧
    (∃ s : State, Awake s ∧ s.upd.state = .activating ∧ s.upd.phase = .guard ∧ working s.sys.mode = true ∧ partnerInLimp s = true ∧
          s.upd.guardAt + 60 * oneSec ≤ s.now) ∧
    (∃ s : State, Awake s ∧ s.fls.trial = true ∧ s.upd.trialBy = true ∧ working s.sys.mode = true) ∧
    (∃ s : State, Awake s ∧ s.upd.state = .activating ∧ s.upd.phase = .cells ∧ actMode s = true) ∧
    (∃ s : State, ∃ n, Awake s ∧ s.upd.state = .activating ∧ s.upd.phase = .cells ∧ bankGet 0 s.upd.waitAt n ≠ 0) ∧
    (∃ s : State, Awake s ∧ s.upd.state = .activating ∧ s.upd.phase = .structure_ ∧ s.upd.repair = false ∧ actMode s = true ∧
          (writeStore s).upd.repair = false) ∧
    (∃ s : State, Awake s ∧ s.sys.mode = .limp ∧ s.sys.sub = .rom ∧ s.limp.power = true ∧ s.sys.vResult = 2 ∧ s.upd.state = .verified ∧
          s.upd.bound = true ∧ compatible { s with upd := { s.upd with repair := true } } = true) :=
  ⟨⟨{ State.reset with upd.state := .activating, upd.phase := .guard, sys.mode := .normal }, by decide +kernel⟩,
   ⟨({ State.reset with upd.state := .activating, upd.phase := .guard, sys.mode := .normal, now := 60000000 } : State).modPeer 1 (fun x
         => { x with partnerLimp := true }), by decide +kernel⟩,
   ⟨{ State.reset with fls.trial := true, upd.trialBy := true, sys.mode := .normal }, by decide +kernel⟩,
   ⟨{ State.reset with upd.state := .activating, upd.phase := .cells, sys.mode := .normal }, by decide +kernel⟩,
   ⟨{ State.reset with upd.state := .activating, upd.phase := .cells, upd.waitAt := Vector.replicate 7 1 }, 7, by decide +kernel⟩,
   ⟨{ State.reset with upd.state := .activating, upd.phase := .structure_, upd.repair := false, sys.mode := .normal }, by decide +kernel⟩,
   ⟨{ State.reset with sys.mode := .limp, sys.sub := .rom, limp.power := true, sys.vResult := 2, upd.state := .verified, upd.bound := true }, by decide +kernel⟩⟩

theorem witness_FlashRows :
    (∃ s : State, ∃ b, ∃ k, Awake s ∧ flsRefusal s b k 0 = 0) ∧
    (∃ s : State, ∃ b, ∃ k, ∃ p, Awake s ∧ flsRefusal s b k p = 0) ∧
    (∃ s : State, ∃ b, ∃ k, ∃ p, Awake s ∧ flsRefusal s b k p ≠ 0) ∧
    (∃ s : State, ∃ o : FlashOp, Awake s ∧ s.fls.op = some o ∧ o.program = false) ∧
    (∃ s : State, Awake s) :=
  ⟨⟨State.reset, 1, 511, by decide +kernel⟩,
   ⟨State.reset, 1, 511, 15, by decide +kernel⟩,
   ⟨State.reset, 0, 0, 0, by decide +kernel⟩,
   ⟨{ State.reset with fls.op := some (⟨false, 1, 511, 0, []⟩) }, ⟨false, 1, 511, 0, []⟩, by decide +kernel⟩,
   ⟨State.reset, by decide +kernel⟩⟩

theorem witness_CryptoRows :
    (∃ s : State, Awake s ∧ s.cry.mode = .none ∧ s.cry.slot0 = 0 ∧ s.cry.slot1 ≠ 5) ∧
    (∃ s : State, Awake s ∧ s.cry.mode ≠ .none) ∧
    (∃ s : State, Awake s ∧ s.cry.mode = .none ∧ s.cry.slot0 = 2 ∧ s.cry.slot1 = 3) ∧
    (∃ s : State, ∃ n, Awake s ∧ s.cry.mode = .sha ∧ s.cry.fin = false ∧ 1 ≤ n ∧ n ≤ 4 ∧ s.cry.stream ≠ []) ∧
    (∃ s : State, Awake s ∧ s.cry.mode = .gcmEnc ∧ s.cry.fin = false ∧ s.cry.aad ≤ 4 * s.cry.stream.length) ∧
    (∃ s : State, Awake s ∧ s.cry.fin = false ∧ slotHeld s 5 = true) ∧
    (∃ s : State, Awake s ∧ s.cry.mode = .sha ∧ s.cry.fin = false) ∧
    (∃ s : State, Awake s) ∧
    (∃ s : State, Awake s ∧ s.cry.fin = true ∧ s.cry.mode = .sha) ∧
    (∃ s : State, Awake s ∧ s.cry.rng = .ready) ∧
    (∃ s : State, Awake s ∧ s.cry.rng = .notReady) ∧
    (∃ s : State, Awake s ∧ s.cry.rng = .ready ∧ s.lcs.rngTimes = []) :=
  ⟨⟨{ State.reset with cry.mode := .none, cry.slot0 := 0 }, by decide +kernel⟩,
   ⟨{ State.reset with cry.mode := .sha }, by decide +kernel⟩,
   ⟨{ State.reset with cry.mode := .none, cry.slot0 := 2, cry.slot1 := 3 }, by decide +kernel⟩,
   ⟨{ State.reset with cry.mode := .sha, cry.fin := false, cry.stream := [0] }, 4, by decide +kernel⟩,
   ⟨{ State.reset with cry.mode := .gcmEnc, cry.fin := false }, by decide +kernel⟩,
   ⟨{ State.reset with cry.fin := false, cry.slot0 := 5 }, by decide +kernel⟩,
   ⟨{ State.reset with cry.mode := .sha, cry.fin := false }, by decide +kernel⟩,
   ⟨State.reset, by decide +kernel⟩,
   ⟨{ State.reset with cry.fin := true, cry.mode := .sha }, by decide +kernel⟩,
   ⟨{ State.reset with cry.rng := .ready }, by decide +kernel⟩,
   ⟨{ State.reset with cry.rng := .notReady }, by decide +kernel⟩,
   ⟨{ State.reset with cry.rng := .ready, lcs.rngTimes := [] }, by decide +kernel⟩⟩

theorem witness_WatchdogRows :
    (∃ s : State, Awake s ∧ s.wdg.state = .closed) ∧
    (∃ s : State, Awake s ∧ wdgRuns s.wdg = true ∧ s.wdg.answer = none) ∧
    (∃ s : State, ∃ u, Awake s ∧ wdgRuns s.wdg = true ∧ s.wdg.answer = some u) ∧
    (∃ s : State, ∃ c, Awake s ∧ s.wdg.state = .open_ ∧ s.wdg.answer = some (token s.wdg.q (wdgSalt s)) ∧ s.wdg.opensAt ≤ c ∧ c <
          s.wdg.period) ∧
    (∃ s : State, ∃ c, ∃ t, Awake s ∧ wdgRuns s.wdg = true ∧ s.wdg.answer = some t ∧ c < s.wdg.opensAt) ∧
    (∃ s : State, ∃ c, ∃ t, Awake s ∧ s.wdg.state = .open_ ∧ s.wdg.answer = some t ∧ t ≠ token s.wdg.q (wdgSalt s) ∧ s.wdg.opensAt ≤ c
          ∧ c < s.wdg.period) ∧
    (∃ s : State, Awake s ∧ wdgRuns s.wdg = true) ∧
    (∃ s : State, Awake s ∧ s.wdg.state = .trap) ∧
    (∃ s : State, ∃ d, Awake s ∧ s.wdg.lock = false ∧ s.wdg.state ≠ .trap ∧ 33 ≤ field d 0 18 ∧ field d 0 18 ≤ 131072) ∧
    (∃ s : State, ∃ d, Awake s ∧ (s.wdg.lock = true ∨ field d 0 18 < 33 ∨ 131072 < field d 0 18)) :=
  ⟨⟨{ State.reset with wdg.state := .closed }, by decide +kernel⟩,
   ⟨{ State.reset with wdg.state := .closed, wdg.answer := none }, by decide +kernel⟩,
   ⟨{ State.reset with wdg.state := .closed, wdg.answer := some 0 }, 0, by decide +kernel⟩,
   ⟨{ State.reset with wdg.state := .open_, wdg.answer := some (token 0 (wdgSalt State.reset)) }, 0, by decide +kernel⟩,
   ⟨{ State.reset with wdg.state := .closed, wdg.answer := some 0, wdg.opensAt := 1 }, 0, 0, by decide +kernel⟩,
   ⟨{ State.reset with wdg.state := .open_, wdg.answer := some 0 }, 0, 0, by decide +kernel⟩,
   ⟨{ State.reset with wdg.state := .closed }, by decide +kernel⟩,
   ⟨{ State.reset with wdg.state := .trap }, by decide +kernel⟩,
   ⟨{ State.reset with wdg.lock := false }, 131072, by decide +kernel⟩,
   ⟨State.reset, 131073, by decide +kernel⟩⟩

theorem witness_FaultRows :
    (∃ s : State, ∃ n, Awake s ∧ named s n = true ∧ n ≠ 210) ∧
    (∃ s : State, ∃ n, Awake s ∧ named s n = false) ∧
    (∃ s : State, ∃ n, Awake s ∧ named s n = true ∧ n ≠ 210 ∧ levelCond s n = false) ∧
    (∃ s : State, ∃ n, Awake s ∧ named s n = true) ∧
    (∃ s : State, ∃ g, ∃ w : C2Win, Awake s ∧ bankGet none s.flt.win (g + 1) = some w) ∧
    (∃ s : State, ∃ k, Awake s ∧ k < 8) ∧
    (∃ s : State, ∃ e : FltEvent, ∃ q : List FltEvent, Awake s ∧ s.flt.evq = e :: q) ∧
    (∃ s : State, ∃ m : Word, ∃ q : List Word, Awake s ∧ s.flt.cmq = m :: q) ∧
    (∃ s : State, ∃ d, Awake s ∧ forceRefusal d s ≠ 0) ∧
    (∃ s : State, ∃ d, Awake s ∧ forceRefusal d s = 0 ∧ field d 8 2 ≠ 0) ∧
    (∃ s : State, Awake s ∧ aliveOk s = true) ∧
    (∃ s : State, Awake s) :=
  ⟨⟨State.reset, 0, by decide +kernel⟩,
   ⟨State.reset, 256, by decide +kernel⟩,
   ⟨State.reset, 0, by decide +kernel⟩,
   ⟨State.reset, 0, by decide +kernel⟩,
   ⟨{ State.reset with flt.win := Vector.replicate _ (some ⟨50, 0⟩) }, 3, ⟨50, 0⟩, by decide +kernel⟩,
   ⟨State.reset, 0, by decide +kernel⟩,
   ⟨{ State.reset with flt.evq := (⟨0, 0⟩) :: ([]) }, ⟨0, 0⟩, [], by decide +kernel⟩,
   ⟨{ State.reset with flt.cmq := 0 :: ([]) }, 0, [], by decide +kernel⟩,
   ⟨State.reset, 0, by decide +kernel⟩,
   ⟨{ State.reset with sys.mode := .service }, 0xA5000110, by decide +kernel⟩,
   ⟨{ State.reset with sys.mode := .normal }, by decide +kernel⟩,
   ⟨State.reset, by decide +kernel⟩⟩

theorem witness_LifeCycleRows :
    (∃ s : State, ∃ r : Record, ∃ q : List Record, Awake s ∧ s.clr.queue = r :: q) ∧
    (∃ s : State, Awake s ∧ s.clr.queue.length < 32) ∧
    (∃ s : State, Awake s ∧ 32 ≤ s.clr.queue.length) ∧
    (∃ s : State, ∃ w, Awake s ∧ wordOpen s w = true ∧ otpRaw s w = 0 ∧ s.lcs.data ≠ 0) ∧
    (∃ s : State, ∃ w, Awake s ∧ (wordOpen s w = false ∨ otpRaw s w ≠ 0 ∨ s.lcs.data = 0)) ∧
    (∃ s : State, Awake s ∧ lcsMode s = true) ∧
    (∃ s : State, ∃ k, Awake s ∧ k ≠ 0xC3 ∧ lcsMode s = true) ∧
    (∃ s : State, ∃ b : Agent, ∃ m : ArmT, ∃ p : Nat × Nat, Awake s ∧ lcsMode s = true ∧ s.lcs.arm = some m ∧ s.now < m.until_ ∧
          transOf s m.target = some p ∧ transView s p.1 b = true ∧ transOk s p.1 = true) ∧
    (∃ s : State, Awake s) :=
  ⟨⟨{ State.reset with clr.queue := rc :: ([]) }, rc, [], by decide +kernel⟩,
   ⟨State.reset, by decide +kernel⟩,
   ⟨{ State.reset with clr.queue := List.replicate 32 rc }, by decide +kernel⟩,
   ⟨{ State.reset with lcs.data := 1 }, 51, by decide +kernel⟩,
   ⟨State.reset, 0, by decide +kernel⟩,
   ⟨{ State.reset with sys.mode := .normal }, by decide +kernel⟩,
   ⟨{ State.reset with sys.mode := .normal }, 0, by decide +kernel⟩,
   ⟨{ State.reset with lcs.arm := some (⟨5, 1⟩), sys.mode := .normal }, .mainImage, ⟨5, 1⟩, (5, 0), by decide +kernel⟩,
   ⟨State.reset, by decide +kernel⟩⟩

end Sys2Proof.Tests.Slice0
end

section
/-! SUPPORT. What each command may write, as one lemma over all commands, and with it the frames of a command: the queue and
the part (`QueueAndPartKept`), the supply, the inputs, the wake cause and the settings (`SettingsFrame`). -/

namespace Sys2Proof.Laws
open Sys2Proof Sys2Proof.Machine

/-- The register groups that a command may write. The commands that set up the whole state anew, those of a cold reset, of a
register write and of an activation, are given by what they leave; the others by what they write; a command not listed writes
none. -/
def MayWrite : Instr → Group → Prop
  | .powerOnReset .. | .longPressHoldEnd .. => fun _ => True
  | .logicRailFail .. => fun | .otp | .wakeCause => False | _ => True
  | .shipWake .. => fun | .cellar | .otp => False | _ => True
  | .spiWrite .. | .registerWrite .. | .regReq .. => fun | .inputs | .wakeCause => False | _ => True
  | .activate | .activationTimeReached | .peerGuardRecheck | .trialEnd | .activationCellStep | .activationStructure | .repairActivation =>
    fun | .otp | .inputs | .wakeCause => False | _ => True
  | .ready .. | .readyTimeout .. => fun | .cellar | .question | .rng | .failed | .changeover => True | _ => False
  | .checkComplete => fun | .cellar | .flash | .image | .verdict => True | _ => False
  | .stagedSetApply => fun | .cellar | .applied | .changeover => True | _ => False
  | .heldExpiry => fun | .cellar | .question | .rng => True | _ => False
  | .setAddr .. => fun | .cellar | .timing | .address => True | _ => False
  | .storeChunk .. => fun | .cellar | .flash | .graft => True | _ => False
  | .transition .. => fun | .otp | .life | .arming => True | _ => False
  | .limpCause .. | .faultSourceActive .. | .wireFault .. => fun | .question | .rng => True | _ => False
  | .shipEntryDone => fun | .cellar | .ship => True | _ => False
  | .longPressReset => fun | .cellar | .button => True | _ => False
  | .stgWrite .. | .stgImgDataWrite .. => fun | .image | .staged => True | _ => False
  | .spiRead .. => fun | .badWords | .lastEvent => True | _ => False
  | .graftOffer .. | .discard => fun | .cellar | .graft => True | _ => False
  | .graftWindowComplete => fun | .cellar | .flash => True | _ => False
  | .flashOpComplete .. => fun | .flash | .flashOp => True | _ => False
  | .wdgAnswerEffective .. => fun | .expiry | .question => True | _ => False
  | .lastGoodCopyWrite | .warmRestart | .bookCellarWrite | .manifestComplete | .graftVerify | .activateAt | .cancelAct | .cellarRecordWrite =>
    fun | .cellar => True | _ => False
  | .sourceQualifyStart .. | .sourceDrop .. | .handbackTimeout | .testDrop .. | .quietWindowEnd .. | .status .. | .peerEnd .. |
    .peerReplyTimeout .. | .swapPulse .. | .swapFail .. | .swapOfferTimeout .. | .partnerLost .. | .endContract .. =>
    fun | .changeover => True | _ => False
  | .crystalQualified | .crystalLost => fun | .crystal => True | _ => False
  | .btnPress | .btnRelease .. => fun | .button => True | _ => False
  | .calibrationFrameBoundary .. | .adcClearFailed .. => fun | .failed => True | _ => False
  | .time .. | .timeSend | .timeLockLost => fun | .timing => True | _ => False
  | .eraseSector .. | .programPage .. => fun | .flashOp => True | _ => False
  | .rngReady | .rngWindowFail .. => fun | .rng => True | _ => False
  | .clrSelWrite .. | .clrData15Read .. => fun | .badWords => True | _ => False
  | .armTransition .. | .armTransitionExpiry => fun | .arming => True | _ => False
  | .telem .. => fun | .inputs => True | _ => False
  | .commitTick .. => fun | .clock => True | _ => False
  | .diag .. => fun | .diag => True | _ => False
  | .ifWrite .. => fun | .irq => True | _ => False
  | .flsDataAccess .. => fun | .page => True | _ => False
  | .wdgExpiry => fun | .expiry => True | _ => False
  | .fltEventRead .. => fun | .lastEvent => True | _ => False
  | .programWord .. => fun | .otp => True | _ => False
  | _ => fun _ => False

/-- A command changes no register group but those it may write. The lemma of each command asks that `MayWrite` allow the groups the
command writes: each such condition reduces to `True` and is met by `allowed`. -/
theorem exec_good {s t : State} (c : Instr) (h : exec c s = .next t) : Good (MayWrite c) s t :=
  have allowed : True := trivial
  match c, h with
  | .powerOnReset env, h => execPowerOnReset_good env s s t (.refl s) h
  | .logicRailFail low rearms, h => execLogicRailFail_good low rearms s s t (.refl s) h
  | .gateDriveUvlo cell, h => execGateDriveUvlo_good cell s s t (.refl s) h
  | .crystalQualified, h => execCrystalQualified_good s s t (.refl s) h
  | .crystalLost, h => execCrystalLost_good s s t (.refl s) h
  | .linkTrainingComplete cell delay, h => execLinkTrainingComplete_good cell delay s s t (.refl s) h
  | .linkTrainingFail cell, h => execLinkTrainingFail_good cell s s t (.refl s) h
  | .linkDown cell byMerja, h => execLinkDown_good cell byMerja s s t (.refl s) h
  | .linkHoldExpiry cell, h => execLinkHoldExpiry_good cell s s t (.refl s) h
  | .sync cell, h => execSync_good cell s s t (.refl s) h
  | .set cell sp, h => execSet_good cell sp s s t (.refl s) h
  | .arm cell tick sp, h => execArm_good cell tick sp s s t (.refl s) h
  | .cmd cell c, h => execCmd_good cell c s s t (.refl s) h
  | .abort cell, h => execAbort_good cell s s t (.refl s) h
  | .applyArmedSet cell, h => execApplyArmedSet_good cell s s t (.refl s) h
  | .commitMissed cell, h => execCommitMissed_good cell s s t (.refl s) h
  | .telem cell f, h => execTelem_good cell f s s t (.refl s) h
  | .event cell e, h => execEvent_good cell e s s t (.refl s) h
  | .rsp cell seq data, h => execRsp_good cell seq data s s t (.refl s) h
  | .ack cell seq toMerja ok, h => execAck_good cell seq toMerja ok s s t (.refl s) h
  | .commitTick gate, h => execCommitTick_good gate s s t (.refl s) h
  | .giveApplied cordon, h => execGiveApplied_good cordon s s t (.refl s) h
  | .overloadAccountEmpty cell, h => execOverloadAccountEmpty_good cell s s t (.refl s) h
  | .engage cell, h => execEngage_good cell s s t (.refl s) h
  | .protectionTrip cell x, h => execProtectionTrip_good cell x s s t (.refl s) h
  | .tripCleared cell x, h => execTripCleared_good cell x s s t (.refl s) h
  | .ocRestart cell, h => execOcRestart_good cell s s t (.refl s) h
  | .startSelftest cell, h => execStartSelftest_good cell s s t (.refl s) h
  | .restart cell, h => execRestart_good cell s s t (.refl s) h
  | .withdraw cell, h => execWithdraw_good cell s s t (.refl s) h
  | .returnCell cell, h => execReturnCell_good cell s s t (.refl s) h
  | .clearFailed cell, h => execClearFailed_good cell s s t (.refl s) h
  | .selftestDue cell, h => execSelftestDue_good cell s s t (.refl s) h
  | .selftestComplete cell pass addr, h => execSelftestComplete_good cell pass addr s s t (.refl s) h
  | .selftestReschedule cell, h => execSelftestReschedule_good cell s s t (.refl s) h
  | .microcodeTransferEnd cell ok, h => execMicrocodeTransferEnd_good cell ok s s t (.refl s) h
  | .restartCordon cordon, h => execRestartCordon_good cordon s s t (.refl s) h
  | .lastGoodCopyWrite, h => execLastGoodCopyWrite_good s s t (.refl s) h
  | .enterService lease, h => execEnterService_good lease s s t (.refl s) h
  | .leaveService, h => execLeaveService_good s s t (.refl s) h
  | .serviceLeaseExpiry, h => execServiceLeaseExpiry_good s s t (.refl s) h
  | .coreReset key, h => execCoreReset_good key s s t (.refl s) h
  | .enterShip key levels, h => execEnterShip_good key levels s s t (.refl s) h
  | .clearLimpLock, h => execClearLimpLock_good s s t (.refl s) h
  | .ready by_ env, h => execReady_good by_ env s s t (.refl s) h
  | .readyTimeout env, h => execReadyTimeout_good env s s t (.refl s) h
  | .limpCause cause, h => execLimpCause_good cause s s t (.refl s) h
  | .heldExpiry, h => execHeldExpiry_good s s t (.refl s) h
  | .warmRestart, h => execWarmRestart_good s s t (.refl s) h
  | .limpCountAge, h => execLimpCountAge_good s s t (.refl s) h
  | .limpSourceReadmit ref, h => execLimpSourceReadmit_good ref s s t (.refl s) h
  | .caskHeld, h => execCaskHeld_good s s t (.refl s) h
  | .sourceCrossingReport entry b, h => execSourceCrossingReport_good entry b s s t (.refl s) h
  | .sourceQualifyStart entry srcIdMv, h => execSourceQualifyStart_good entry srcIdMv s s t (.refl s) h
  | .qualificationEnd entry, h => execQualificationEnd_good entry s s t (.refl s) h
  | .sourceDrop entry, h => execSourceDrop_good entry s s t (.refl s) h
  | .dropCountAge entry, h => execDropCountAge_good entry s s t (.refl s) h
  | .coLate, h => execCoLate_good s s t (.refl s) h
  | .handback, h => execHandback_good s s t (.refl s) h
  | .handbackComplete, h => execHandbackComplete_good s s t (.refl s) h
  | .handbackTimeout, h => execHandbackTimeout_good s s t (.refl s) h
  | .caskLow, h => execCaskLow_good s s t (.refl s) h
  | .caskLowClear, h => execCaskLowClear_good s s t (.refl s) h
  | .supplementEnd, h => execSupplementEnd_good s s t (.refl s) h
  | .testDrop entry hold, h => execTestDrop_good entry hold s s t (.refl s) h
  | .testDropHoldEnd entry, h => execTestDropHoldEnd_good entry s s t (.refl s) h
  | .chargeEvaluation, h => execChargeEvaluation_good s s t (.refl s) h
  | .qualifyRestEnd index, h => execQualifyRestEnd_good index s s t (.refl s) h
  | .safeTimeout index, h => execSafeTimeout_good index s s t (.refl s) h
  | .preTimeout index, h => execPreTimeout_good index s s t (.refl s) h
  | .cvTimerExpiry index, h => execCvTimerExpiry_good index s s t (.refl s) h
  | .chgRestart index, h => execChgRestart_good index s s t (.refl s) h
  | .hold index, h => execHold_good index s s t (.refl s) h
  | .newCycle index, h => execNewCycle_good index s s t (.refl s) h
  | .nicdPulseEnd index, h => execNicdPulseEnd_good index s s t (.refl s) h
  | .batswSettled index vBefore vNow, h => execBatswSettled_good index vBefore vNow s s t (.refl s) h
  | .batswSettleTimeout index, h => execBatswSettleTimeout_good index s s t (.refl s) h
  | .batswRetry index, h => execBatswRetry_good index s s t (.refl s) h
  | .missingPulseEnd index vStart vEnd, h => execMissingPulseEnd_good index vStart vEnd s s t (.refl s) h
  | .presenceProbe index, h => execPresenceProbe_good index s s t (.refl s) h
  | .presenceProbeEnd index stayedBelow, h => execPresenceProbeEnd_good index stayedBelow s s t (.refl s) h
  | .bookCellarWrite, h => execBookCellarWrite_good s s t (.refl s) h
  | .switchOpen index, h => execSwitchOpen_good index s s t (.refl s) h
  | .switchRelease index, h => execSwitchRelease_good index s s t (.refl s) h
  | .run index, h => execRun_good index s s t (.refl s) h
  | .runDeep index, h => execRunDeep_good index s s t (.refl s) h
  | .eisAbort index, h => execEisAbort_good index s s t (.refl s) h
  | .setRef index, h => execSetRef_good index s s t (.refl s) h
  | .bookReset index, h => execBookReset_good index s s t (.refl s) h
  | .eisScheduledDue index, h => execEisScheduledDue_good index s s t (.refl s) h
  | .eisScheduledSkip index, h => execEisScheduledSkip_good index s s t (.refl s) h
  | .eisPointComplete index samples, h => execEisPointComplete_good index samples s s t (.refl s) h
  | .btnPress, h => execBtnPress_good s s t (.refl s) h
  | .shipEntryDone, h => execShipEntryDone_good s s t (.refl s) h
  | .shipWake rep, h => execShipWake_good rep s s t (.refl s) h
  | .longPressReset, h => execLongPressReset_good s s t (.refl s) h
  | .longPressHoldEnd env, h => execLongPressHoldEnd_good env s s t (.refl s) h
  | .absorbEntry cell, h => execAbsorbEntry_good cell s s t (.refl s) h
  | .absorbRelease cell, h => execAbsorbRelease_good cell s s t (.refl s) h
  | .brkGateRise, h => execBrkGateRise_good s s t (.refl s) h
  | .brkGateFall, h => execBrkGateFall_good s s t (.refl s) h
  | .regenOv, h => execRegenOv_good s s t (.refl s) h
  | .presentationToggle peer idle, h => execPresentationToggle_good peer idle s s t (.refl s) h
  | .partnerRecognised peer, h => execPartnerRecognised_good peer s s t (.refl s) h
  | .quietWindowEnd peer ownK, h => execQuietWindowEnd_good peer ownK s s t (.refl s) h
  | .moisturePeriodic peer, h => execMoisturePeriodic_good peer s s t (.refl s) h
  | .wetRetry peer, h => execWetRetry_good peer s s t (.refl s) h
  | .caps peer seq c, h => execCaps_good peer seq c s s t (.refl s) h
  | .offer peer seq x, h => execOffer_good peer seq x s s t (.refl s) h
  | .accept peer seq, h => execAccept_good peer seq s s t (.refl s) h
  | .reject peer reason, h => execReject_good peer reason s s t (.refl s) h
  | .status peer seq st, h => execStatus_good peer seq st s s t (.refl s) h
  | .peerEnd peer seq reason, h => execPeerEnd_good peer seq reason s s t (.refl s) h
  | .quiet peer seq, h => execQuiet_good peer seq s s t (.refl s) h
  | .peerTest peer seq power duration, h => execPeerTest_good peer seq power duration s s t (.refl s) h
  | .peerAck peer seq, h => execPeerAck_good peer seq s s t (.refl s) h
  | .peerStatusSend peer, h => execPeerStatusSend_good peer s s t (.refl s) h
  | .peerReplyTimeout peer, h => execPeerReplyTimeout_good peer s s t (.refl s) h
  | .swapPulse peer, h => execSwapPulse_good peer s s t (.refl s) h
  | .swapFail peer, h => execSwapFail_good peer s s t (.refl s) h
  | .swapOfferTimeout peer, h => execSwapOfferTimeout_good peer s s t (.refl s) h
  | .partnerLost peer, h => execPartnerLost_good peer s s t (.refl s) h
  | .backoffEnd peer, h => execBackoffEnd_good peer s s t (.refl s) h
  | .exportTest peer power duration, h => execExportTest_good peer power duration s s t (.refl s) h
  | .exportTestEnd peer, h => execExportTestEnd_good peer s s t (.refl s) h
  | .endContract peer, h => execEndContract_good peer s s t (.refl s) h
  | .recheckMoisture peer, h => execRecheckMoisture_good peer s s t (.refl s) h
  | .slotConversionDone conv slot raw, h => execSlotConversionDone_good conv slot raw s s t (.refl s) h
  | .trigger route, h => execTrigger_good route s s t (.refl s) h
  | .triggeredConversionDone conv raw, h => execTriggeredConversionDone_good conv raw s s t (.refl s) h
  | .adcTimerExpiry timer, h => execAdcTimerExpiry_good timer s s t (.refl s) h
  | .comparatorTransition cmp active, h => execComparatorTransition_good cmp active s s t (.refl s) h
  | .referenceSettled conv, h => execReferenceSettled_good conv s s t (.refl s) h
  | .calibrationFrameBoundary diff selfTestPass, h => execCalibrationFrameBoundary_good diff selfTestPass s s t (.refl s) h
  | .diag conv channel, h => execDiag_good conv channel s s t (.refl s) h
  | .adcClearFailed slice pass, h => execAdcClearFailed_good slice pass s s t (.refl s) h
  | .adcSwtrgWrite routes, h => execAdcSwtrgWrite_good routes s s t (.refl s) h
  | .stgWrite by_ addr data, h => execStgWrite_good by_ addr data s s t (.refl s) h
  | .stgImgDataWrite by_ data, h => execStgImgDataWrite_good by_ data s s t (.refl s) h
  | .check by_, h => execCheck_good by_ s s t (.refl s) h
  | .checkComplete, h => execCheckComplete_good s s t (.refl s) h
  | .commit by_, h => execCommit_good by_ s s t (.refl s) h
  | .commitAt by_, h => execCommitAt_good by_ s s t (.refl s) h
  | .cancel by_, h => execCancel_good by_ s s t (.refl s) h
  | .clear by_, h => execClear_good by_ s s t (.refl s) h
  | .commitAtArm, h => execCommitAtArm_good s s t (.refl s) h
  | .armAckMissing, h => execArmAckMissing_good s s t (.refl s) h
  | .stagedSetApply, h => execStagedSetApply_good s s t (.refl s) h
  | .scheduledTimeLost, h => execScheduledTimeLost_good s s t (.refl s) h
  | .bankOwnerIdle, h => execBankOwnerIdle_good s s t (.refl s) h
  | .spiRead addr late, h => execSpiRead_good addr late s s t (.refl s) h
  | .spiWrite addr data late, h => execSpiWrite_good addr data late s s t (.refl s) h
  | .nop addr late, h => execNop_good addr late s s t (.refl s) h
  | .resend addr late, h => execResend_good addr late s s t (.refl s) h
  | .ifRead addr late, h => execIfRead_good addr late s s t (.refl s) h
  | .ifWrite addr data late, h => execIfWrite_good addr data late s s t (.refl s) h
  | .unknownCmd addr late, h => execUnknownCmd_good addr late s s t (.refl s) h
  | .frameDiscarded edges late, h => execFrameDiscarded_good edges late s s t (.refl s) h
  | .registerWrite by_ addr data, h => execRegisterWrite_good by_ addr data s s t (.refl s) h
  | .request lease, h => execRequest_good lease s s t (.refl s) h
  | .verify, h => execVerify_good s s t (.refl s) h
  | .close, h => execClose_good s s t (.refl s) h
  | .challengeFormed iface, h => execChallengeFormed_good iface s s t (.refl s) h
  | .verifyComplete iface, h => execVerifyComplete_good iface s s t (.refl s) h
  | .challengeExpiry iface, h => execChallengeExpiry_good iface s s t (.refl s) h
  | .sessionLeaseExpiry iface, h => execSessionLeaseExpiry_good iface s s t (.refl s) h
  | .lockoutEnd iface, h => execLockoutEnd_good iface s s t (.refl s) h
  | .spiAuthDataAccess write, h => execSpiAuthDataAccess_good write s s t (.refl s) h
  | .heartbeat port hb, h => execHeartbeat_good port hb s s t (.refl s) h
  | .time port x, h => execTime_good port x s s t (.refl s) h
  | .delayReq via src t1 t2 t3, h => execDelayReq_good via src t1 t2 t3 s s t (.refl s) h
  | .delayRsp via src t1 t2 t3 t4, h => execDelayRsp_good via src t1 t2 t3 t4 s s t (.refl s) h
  | .credit port count, h => execCredit_good port count s s t (.refl s) h
  | .regReq via rep, h => execRegReq_good via rep s s t (.refl s) h
  | .auth via src op, h => execAuth_good via src op s s t (.refl s) h
  | .trellisForward port f, h => execTrellisForward_good port f s s t (.refl s) h
  | .trellisFrameError port e, h => execTrellisFrameError_good port e s s t (.refl s) h
  | .trellisSendResult port rep, h => execTrellisSendResult_good port rep s s t (.refl s) h
  | .clashBackoffEnd port, h => execClashBackoffEnd_good port s s t (.refl s) h
  | .heartbeatSend port, h => execHeartbeatSend_good port s s t (.refl s) h
  | .neighbourLost port, h => execNeighbourLost_good port s s t (.refl s) h
  | .timeSend, h => execTimeSend_good s s t (.refl s) h
  | .timeLockLost, h => execTimeLockLost_good s s t (.refl s) h
  | .delayMeasure, h => execDelayMeasure_good s s t (.refl s) h
  | .creditOwedSend port, h => execCreditOwedSend_good port s s t (.refl s) h
  | .learnAge addr, h => execLearnAge_good addr s s t (.refl s) h
  | .censusAge port addr, h => execCensusAge_good port addr s s t (.refl s) h
  | .passThroughOpen, h => execPassThroughOpen_good s s t (.refl s) h
  | .setAddr addr, h => execSetAddr_good addr s s t (.refl s) h
  | .flushLearn, h => execFlushLearn_good s s t (.refl s) h
  | .measureDelay, h => execMeasureDelay_good s s t (.refl s) h
  | .endSession, h => execEndSession_good s s t (.refl s) h
  | .trlTimeLoRead by_, h => execTrlTimeLoRead_good by_ s s t (.refl s) h
  | .graftOffer via src o, h => execGraftOffer_good via src o s s t (.refl s) h
  | .graftWant via src gid first count, h => execGraftWant_good via src gid first count s s t (.refl s) h
  | .graftWindow via src w, h => execGraftWindow_good via src w s s t (.refl s) h
  | .graftChunk via src bytes, h => execGraftChunk_good via src bytes s s t (.refl s) h
  | .graftWindowComplete, h => execGraftWindowComplete_good s s t (.refl s) h
  | .graftWindowTimeout, h => execGraftWindowTimeout_good s s t (.refl s) h
  | .graftOfferSend, h => execGraftOfferSend_good s s t (.refl s) h
  | .graftWantRepeat, h => execGraftWantRepeat_good s s t (.refl s) h
  | .storeChunk by_, h => execStoreChunk_good by_ s s t (.refl s) h
  | .updHxIdxWrite by_ data, h => execUpdHxIdxWrite_good by_ data s s t (.refl s) h
  | .updHxDataWrite by_ data, h => execUpdHxDataWrite_good by_ data s s t (.refl s) h
  | .manifestComplete, h => execManifestComplete_good s s t (.refl s) h
  | .graftVerify, h => execGraftVerify_good s s t (.refl s) h
  | .discard, h => execDiscard_good s s t (.refl s) h
  | .activate, h => execActivate_good s s t (.refl s) h
  | .activateAt, h => execActivateAt_good s s t (.refl s) h
  | .cancelAct, h => execCancelAct_good s s t (.refl s) h
  | .activationTimeReached, h => execActivationTimeReached_good s s t (.refl s) h
  | .peerGuardRecheck, h => execPeerGuardRecheck_good s s t (.refl s) h
  | .trialEnd, h => execTrialEnd_good s s t (.refl s) h
  | .activationCellStep, h => execActivationCellStep_good s s t (.refl s) h
  | .actStalled cell, h => execActStalled_good cell s s t (.refl s) h
  | .activationStructure, h => execActivationStructure_good s s t (.refl s) h
  | .repairActivation, h => execRepairActivation_good s s t (.refl s) h
  | .eraseSector bank sector, h => execEraseSector_good bank sector s s t (.refl s) h
  | .programPage bank sector page, h => execProgramPage_good bank sector page s s t (.refl s) h
  | .flashOpComplete ok, h => execFlashOpComplete_good ok s s t (.refl s) h
  | .flsDataAccess write, h => execFlsDataAccess_good write s s t (.refl s) h
  | .shaStart, h => execShaStart_good s s t (.refl s) h
  | .shaFinal bytes, h => execShaFinal_good bytes s s t (.refl s) h
  | .ecdsaVerify, h => execEcdsaVerify_good s s t (.refl s) h
  | .gcmEncStart aad, h => execGcmEncStart_good aad s s t (.refl s) h
  | .gcmDecStart aad, h => execGcmDecStart_good aad s s t (.refl s) h
  | .gcmFinal, h => execGcmFinal_good s s t (.refl s) h
  | .cryRelease, h => execCryRelease_good s s t (.refl s) h
  | .cryDataAccess write, h => execCryDataAccess_good write s s t (.refl s) h
  | .cryBufAccess write, h => execCryBufAccess_good write s s t (.refl s) h
  | .cryptoOpComplete, h => execCryptoOpComplete_good s s t (.refl s) h
  | .rngDataRead, h => execRngDataRead_good s s t (.refl s) h
  | .rngReady, h => execRngReady_good s s t (.refl s) h
  | .rngWindowFail x, h => execRngWindowFail_good x s s t (.refl s) h
  | .wdgWindowOpen, h => execWdgWindowOpen_good s s t (.refl s) h
  | .wdgAnswer token, h => execWdgAnswer_good token s s t (.refl s) h
  | .wdgAnswerEffective count, h => execWdgAnswerEffective_good count s s t (.refl s) h
  | .wdgExpiry, h => execWdgExpiry_good s s t (.refl s) h
  | .wdgHardTimerEnd, h => execWdgHardTimerEnd_good s s t (.refl s) h
  | .wdgPeriodWrite data, h => execWdgPeriodWrite_good data s s t (.refl s) h
  | .faultSourceActive source arg addr, h => execFaultSourceActive_good source arg addr s s t (.refl s) h
  | .wireFault source level, h => execWireFault_good source level s s t (.refl s) h
  | .c2WindowEscalation group, h => execC2WindowEscalation_good group s s t (.refl s) h
  | .fltPendClear k data, h => execFltPendClear_good k data s s t (.refl s) h
  | .fltEventRead by_, h => execFltEventRead_good by_ s s t (.refl s) h
  | .fltCompatRead by_, h => execFltCompatRead_good by_ s s t (.refl s) h
  | .fltForce data, h => execFltForce_good data s s t (.refl s) h
  | .aliveEdge, h => execAliveEdge_good s s t (.refl s) h
  | .aliveFeedback, h => execAliveFeedback_good s s t (.refl s) h
  | .cellarRecordWrite, h => execCellarRecordWrite_good s s t (.refl s) h
  | .note, h => execNote_good s s t (.refl s) h
  | .clrSelWrite by_ data, h => execClrSelWrite_good by_ data s s t (.refl s) h
  | .clrData15Read by_, h => execClrData15Read_good by_ s s t (.refl s) h
  | .programWord by_ word, h => execProgramWord_good by_ word s s t (.refl s) h
  | .armTransition by_ key target, h => execArmTransition_good by_ key target s s t (.refl s) h
  | .transition by_ key target, h => execTransition_good by_ key target s s t (.refl s) h
  | .armTransitionExpiry, h => execArmTransitionExpiry_good s s t (.refl s) h
  | .btnRelease len10ms, h => execBtnRelease_good len10ms s s t (.refl s) h
  | .faultSourceInactive source, h => execFaultSourceInactive_good source s s t (.refl s) h
  | .diagComplete v1 v2, h => execDiagComplete_good v1 v2 s s t (.refl s) h
  | .swapPulseEnd peer, h => execSwapPulseEnd_good peer s s t (.refl s) h
  | .peerMessageCrcFail peer, h => execPeerMessageCrcFail_good peer s s t (.refl s) h
  | .peerTransmitCollision peer, h => execPeerTransmitCollision_good peer s s t (.refl s) h
  | .trellisFcrcFail port, h => execTrellisFcrcFail_good port s s t (.refl s) h
  | .longReqExpiry port, h => execLongReqExpiry_good port s s t (.refl s) h

/-- Settles O12: every command's frame holds the queue and the part. -/
theorem queueAndPartKept : Obligations.QueueAndPartKept := by
  intro c s t h
  have k := (exec_good c h).keeps
  exact ⟨k.pending, k.hw⟩

/-- Settles O14, group by group: of a command that is named there is nothing to show, and `MayWrite` allows no other the group. -/
theorem settingsFrame : Obligations.SettingsFrame := by
  intro c s t h
  have k := (exec_good c h).keeps
  have settings := k.settings
  simp only [store, Prod.mk.injEq] at settings
  refine ⟨?powered, ?inputs, ?wakeCause, ?settings⟩
  case powered =>
    cases c <;> try exact trivial
    all_goals exact k.powered id
  case inputs =>
    cases c <;> try exact trivial
    all_goals exact k.inputs id
  case wakeCause =>
    cases c <;> try exact trivial
    all_goals exact k.wakeCause id
  case settings =>
    cases c <;> try exact trivial
    all_goals exact settings id

end Sys2Proof.Laws
end

section
/-! SUPPORT. The register map: the state after reset and its registers, what an access answers under a view (`regRead`,
`regWrite`), and the registers that an agent holds for itself. -/

namespace Sys2Proof.Laws
open Sys2Proof Sys2Proof.Machine

/-! ### The state after reset -/

/-- Every memory of the reset state is blank. -/
theorem memOk_reset : MemOk State.reset := ⟨rfl, rfl, rfl, rfl, rfl, rfl, rfl, rfl, rfl, rfl, rfl⟩

/-- Settles O2: the memories are blank, and each register, whichever agent reads it, evaluates to its value. -/
theorem resetState : Obligations.ResetState :=
  ⟨memOk_reset, rfl, rfl, rfl, rfl, fun _ => ⟨rfl, rfl, rfl, rfl, rfl, rfl, rfl, rfl, rfl⟩⟩

/-! ### Accesses under a view -/

/-- No register beyond the map is read (R11). -/
theorem regRead_unmapped {a : Nat} (h : 0x4400 ≤ a) (b : Agent) (p : Bool) (s : State) : regRead b p a s = ⟨0x25, 0, s⟩ := by
  simp [regRead, h]
/-- No register beyond the map is written (R11). -/
theorem regWrite_unmapped {a : Nat} (h : 0x4400 ≤ a) (b : Agent) (p : Bool) (d : Word) (s : State) :
    regWrite b p a d s = ⟨0x25, 0, s⟩ := by
  simp [regWrite, h]

section
variable {s : State} {b : Agent} {a : Nat} {d : Word} {p : Bool} (mapped : a < 0x4400)
include mapped

/-- A read of a P register follows the view. -/
theorem regRead_privileged (h : regAcc s b a = .roP ∨ regAcc s b a = .rwP) :
    regRead b p a s = if p then ⟨0x11, regReadValue b a s, regReadDone b a s⟩ else ⟨0x23, 0, s⟩ := by
  rcases h with h | h <;> simp [regRead, mapped, h]
/-- A read of a U register does not depend on the view. -/
theorem regRead_unprivileged (h : regAcc s b a = .ro ∨ regAcc s b a = .rwU) :
    regRead b p a s = ⟨0x11, regReadValue b a s, regReadDone b a s⟩ := by
  rcases h with h | h <;> simp [regRead, mapped, h]
/-- LIMP refuses a write that R110 does not permit, under either view. -/
theorem regWrite_limp (h : limpReadOnly s b = true) (k : limpPermits s a d = false) : regWrite b p a d s = ⟨0x24, 0, s⟩ := by
  simp [regWrite, mapped, h, k]

section
variable (writable : limpReadOnly s b = false)
include writable

/-- A write to a read-only U register is ignored. -/
theorem regWrite_readOnly (h : regAcc s b a = .ro) : regWrite b p a d s = ⟨0x14, readBack b a d s, s⟩ := by
  simp [regWrite, mapped, writable, h]
/-- A write to a P register is refused to the unprivileged view. -/
theorem regWrite_denied (h : regAcc s b a = .roP ∨ regAcc s b a = .rwP) : regWrite b false a d s = ⟨0x23, 0, s⟩ := by
  rcases h with h | h <;> simp [regWrite, mapped, writable, h]
/-- A write to a P register with writable fields has its effect in the privileged view. -/
theorem regWrite_granted (h : regAcc s b a = .rwP) :
    regWrite b true a d s = ⟨0x13, readBack b a d (regWriteEffect b a d s), regWriteEffect b a d s⟩ := by
  simp [regWrite, mapped, writable, h]
end
end

/-- LIMP ROM and LOCKED are read only for host SPI and Trellis. -/
theorem limpReadOnly_iff (s : State) (b : Agent) :
    limpReadOnly s b = true ↔ b ≠ .mainImage ∧ s.sys.mode = .limp ∧ (s.sys.sub = .rom ∨ s.sys.sub = .locked) := decide_eq_true_iff

/-- R110 permits no write to another register. -/
theorem limpPermits_other {s : State} {a : Nat} {d : Word} (h : a ∉ [0x0003, 0x2406, 0x2408, 0x2409, 0x3803, 0x3805]) :
    limpPermits s a d = false := by
  simp only [List.mem_cons, List.not_mem_nil, or_false, not_or] at h
  simp [limpPermits, h]

/-- Of SYS_CMD R110 permits no codes but 4 and 5. -/
theorem limpPermits_sysCmd {s : State} {d : Word} (h4 : field d 8 8 ≠ 4) (h5 : field d 8 8 ≠ 5) : limpPermits s 0x0003 d = false := by
  simp [limpPermits, h4, h5]

/-- Settles O7, access kind by access kind. -/
theorem registerAccessRefusals : Obligations.RegisterAccessRefusals := by
  intro s b a d p
  refine ⟨fun h => ⟨regRead_unmapped h b p s, regWrite_unmapped h b p d s⟩,
    fun mapped h => ⟨regRead_privileged mapped h, regRead_privileged mapped h⟩,
    fun mapped h => regRead_unprivileged mapped h, ?limp, ?limpSysCmd, ?readOnly,
    fun mapped writable h => regWrite_denied mapped writable h, ?granted, rfl, rfl⟩
  case limp =>
    intro mapped agent mode sub other
    exact regWrite_limp mapped ((limpReadOnly_iff s b).2 ⟨agent, mode, sub⟩) (limpPermits_other other)
  case limpSysCmd =>
    intro _ agent mode rom h4 h5
    exact regWrite_limp (by decide) ((limpReadOnly_iff s b).2 ⟨agent, mode, .inl rom⟩) (limpPermits_sysCmd h4 h5)
  case readOnly =>
    intro mapped writable h
    simp [regWrite_readOnly mapped writable h]
  case granted =>
    intro mapped writable h
    simp [regWrite_granted mapped writable h]

/-! ### The registers that an agent holds for itself (R431) -/

@[simp] theorem countBad_agent (ws : List Nat) (s : State) (c : Agent) : (countBad ws s).agent c = s.agent c := by
  unfold countBad; split <;> rfl
@[simp] theorem countBad_clr_mem (ws : List Nat) (s : State) : (countBad ws s).clr.mem = s.clr.mem := by
  unfold countBad; split <;> rfl

/-- The sixteen words of a unit of the Cellar, as `clrSelect` copies them (`clrSelect_agent`). -/
def unitWords (s : State) (u : Nat) : Vector Word 16 := Vector.ofFn (fun w : Fin 16 => memWord ff s.clr.mem (64 * u + 4 * w.val))

/-- A unit selected is in the agent's own buffer. -/
theorem clrSelect_agent (b c : Agent) (u : Nat) (s : State) : (clrSelect b u s).agent c =
    if b = c then { s.agent c with clrSel := u % 8192, clrBuf := unitWords s (u % 8192) } else s.agent c := by
  simp [clrSelect, modAgent_agent, unitWords]
/-- A read of CLR_DATA15 selects the unit after the agent's own. -/
theorem clrAdvance_agent (b c : Agent) (s : State) : (clrAdvance b s).agent c =
    if b = c then { s.agent c with clrSel := ((s.agent b).clrSel + 1) % 8192, clrBuf := unitWords s (((s.agent b).clrSel + 1) % 8192) }
    else s.agent c := clrSelect_agent b c _ s
/-- A word of UPD_HX_DATA goes to the agent's own chunk buffer. -/
theorem hxDataWrite_agent (b c : Agent) (d : Word) (s : State) : (hxDataWrite b d s).agent c =
    if b = c then
      { s.agent c with hxBuf := memPutWord 0 (s.agent c).hxBuf (4 * (s.agent c).hxWord) d, hxWord := ((s.agent c).hxWord + 1) % 64 }
    else s.agent c := modAgent_agent ..
/-- UPD_HX_IDX is the agent's own and returns its word pointer to 0. -/
theorem hxIdxWrite_agent (b c : Agent) (d : Word) (s : State) : (hxIdxWrite b d s).agent c =
    if b = c then { s.agent c with hxIdx := field d 0 16, hxWord := 0 } else s.agent c := modAgent_agent ..

/-- A register write acts under the agent's view; host SPI writes while it serves (R13). -/
theorem exec_registerWrite {s : State} (awake : Awake s) {b : Agent} (served : b ≠ .hostSpi ∨ s.spi.serving = true) (a : Nat) (d : Word) :
    exec (.registerWrite b a d) s = .next (settle s (regWrite b (privView s b) a d s).st) := by
  have open_ : ¬ (b = .hostSpi ∧ s.spi.serving = false) := by simpa [imp_iff_not_or] using served
  change execRegisterWrite b a d s = _
  rw [execRegisterWrite, act_awake s _ awake, if_neg open_]

/-- Settles O48: each index command changes the registers of its own agent only. -/
theorem registerWriteRows : Obligations.RegisterWriteRows := by
  intro s d awake
  refine ⟨fun b a served => exec_registerWrite awake served a d, fun b => ?clrSel, fun b => ?clrData15, fun b => ?hxData, fun b => ?hxIdx,
    fun b => act_awake s _ awake⟩
  case clrSel =>
    exact ⟨_, act_awake s _ awake, by simp [clrSelect_agent], by simp [clrSelect_agent, unitWords],
      fun c ne => by simp [clrSelect_agent, ne.symm]⟩
  case clrData15 =>
    exact ⟨_, act_awake s _ awake, by simp [clrAdvance_agent], fun c ne => by simp [clrAdvance_agent, ne.symm]⟩
  case hxData =>
    exact ⟨_, act_awake s _ awake, by simp [hxDataWrite_agent], by simp [hxDataWrite_agent],
      fun c ne => by simp [hxDataWrite_agent, ne.symm]⟩
  case hxIdx =>
    exact ⟨_, act_awake s _ awake, by simp [hxIdxWrite_agent], by simp [hxIdxWrite_agent],
      fun c ne => by simp [hxIdxWrite_agent, ne.symm]⟩

end Sys2Proof.Laws
end

section
/-! SUPPORT. Every command answers a next state; the rows of the staged set and of the commit tick. -/

namespace Sys2Proof.Laws
open Sys2Proof Sys2Proof.Machine

/-! ### Every command answers -/

/-- The frame of a command always has a next state. -/
theorem act_answers (s : State) (f : State → State) : ∃ t, act s f = .next t := ⟨_, rfl⟩

/-- Settles O3: the four commands of the always-on and wake logic give their next state themselves, every other command through
the frame `act`. -/
theorem noOtherStop : Obligations.NoOtherStop := by
  intro c s
  cases c
  case powerOnReset | logicRailFail | shipWake | longPressHoldEnd => exact ⟨_, rfl⟩
  all_goals apply act_answers

/-! ### The staged set and the commit tick (R34, R264 to R275) -/

/-- What an armed set does at its tick once its commit-go has left (R266, R272). -/
theorem exec_stagedSetApply {s : State} (awake : Awake s) (armed : s.stg.state = .armed) (go : s.stg.goSent = true)
    (due : s.stg.k ≤ tickNow s) : exec .stagedSetApply s = .next (settle s
      (if s.sys.mode = .limp then
        if s.stg.takeover then (if takeoverWaits s then s else takeover114 s) else limpSet (applySet s)
      else applySet s)) := by
  change execStagedSetApply s = _
  rw [execStagedSetApply, act_awake s _ awake, if_neg (by simp [armed, go, due.not_gt])]

/-- Settles O45: the rows of the staged set by the set's state, then the tick and the last give. -/
theorem stagingProgressRows : Obligations.StagingProgressRows := by
  refine ⟨fun s awake => ⟨?arms, ?cancelled, ?deferred, ?applies, ?early, ?takeover, ?timeLost, ?idle⟩,
    fun s awake => ⟨fun gate => ?tick, ?lastGive⟩⟩
  case arms =>
    intro scheduled
    change execCommitAtArm s = _
    simp [execCommitAtArm, act_awake s _ awake, scheduled, armFor]
  case cancelled =>
    intro armed go acks at_
    change execArmAckMissing s = _
    simp [execArmAckMissing, act_awake s _ awake, armed, go, acks, at_]
  case deferred =>
    intro armed go acks at_ tries
    change execArmAckMissing s = _
    simp [execArmAckMissing, act_awake s _ awake, armed, go, acks, at_, tries]
  case applies =>
    intro armed go due mode
    rw [exec_stagedSetApply awake armed go due, if_neg mode]
  case early =>
    intro early
    change execStagedSetApply s = _
    simp [execStagedSetApply, act_awake s _ awake, early]
  case takeover =>
    intro armed go due mode takeover ready
    simp [exec_stagedSetApply awake armed go due, mode, takeover, ready]
  case timeLost =>
    intro scheduled
    change execScheduledTimeLost s = _
    simp [execScheduledTimeLost, act_awake s _ awake, scheduled]
  case idle =>
    intro idle
    change execBankOwnerIdle s = _
    simp [execBankOwnerIdle, act_awake s _ awake, idle]
  case tick =>
    change execCommitTick gate s = _
    rw [execCommitTick, act_awake s _ awake]
  case lastGive =>
    intro n works give role
    change execGiveApplied n s = _
    simp [execGiveApplied, act_awake s _ awake, works, give, role]

end Sys2Proof.Laws
end

section
/-! SUPPORT. The commands of the inter-die links: a command that changes one cell (`CellBecomes`), training and loss of a link,
what a cell does with each frame, and its armed set. -/

namespace Sys2Proof.Laws
open Sys2Proof Sys2Proof.Machine

/-! ### A command that changes one cell -/

/-- A change of a cell leaves every other cell. -/
theorem modCell_cell_ne {m n : Nat} (h : m ≠ n) (s : State) (f : Cell → Cell) : (s.modCell n f).cell m = s.cell m := by
  rw [modCell_cell, if_neg fun k => h k.1.symm]

/-- The command answers with cell n as `c` and every other cell as it was. -/
def CellBecomes (i : Instr) (s : State) (n : Nat) (c : Cell) : Prop :=
  ∃ u, exec i s = .next (settle s u) ∧ u.cell n = c ∧ ∀ m, m ≠ n → u.cell m = s.cell m

/-- A meaning that is a change of a fitted cell. -/
theorem modCell_becomes {s : State} {n : Nat} {f : Cell → Cell} {c : Cell} (fitted : cellFitted s n = true) (own : f (s.cell n) = c) :
    ∃ u, (.next (settle s (s.modCell n f)) : Host.Outcome State Fault Refusal) = .next (settle s u) ∧ u.cell n = c ∧
      ∀ m, m ≠ n → u.cell m = s.cell m :=
  ⟨_, rfl, (modCell_cell_self s n f fitted).trans own, fun _ ne => modCell_cell_ne ne s f⟩

/-! ### Training, loss and hold of a link (R31, R36, R41) -/

/-- A cell outside a test leaves none. -/
theorem leaveTest_of_ne {s : State} {n : Nat} (h : (s.cell n).state ≠ .selftest) : leaveTest n s = s := if_neg h

/-- A link that trains makes its cell READY and gives it back to its cordon, unless it missed a microcode (R31, R362). -/
theorem exec_linkTrainingComplete {s : State} {n : Nat} (awake : Awake s) (training : (s.cell n).state = .training)
    (heard : s.upd.skipped.getLsbD (n - 1) = false) (d : Nat) :
    let t := s.modCell n (fun c =>
      { noTelem c with state := .ready, mode := .off, uc := startUc s (s.cell n), removed := false, engaged := false, absorbing := false,
                       link := { clearLink c.link with trained := true, delayNs := d, fails := 0, down := false, holding := false } })
    let e := (t.cordon (servedCordon t n)).e
    exec (.linkTrainingComplete n d) s = .next (settle s (returnToCordon n
      (if startUc s (s.cell n) = 0 ∧ e.role = .battery then t.modRun e.index (runAbort s.now 10) else t))) := by
  have missed : ∀ r : State, r.upd = s.upd → (if r.upd.skipped.getLsbD (n - 1) ∧ 1 ≤ n then graftUc r else none) = none := by
    intro r h
    simp [h, heard]
  change execLinkTrainingComplete n d s = _
  rw [execLinkTrainingComplete, act_awake s _ awake, if_neg (not_not.2 training)]
  simp only [modCell_now]
  rw [missed _ (by split <;> simp [State.modRun])]

/-- The hold of a cell without its link ends with the switches off (R36). -/
theorem linkHoldExpiry_becomes {s : State} {n : Nat} (awake : Awake s) (fitted : cellFitted s n = true)
    (holding : (s.cell n).link.holding = true) : CellBecomes (.linkHoldExpiry n) s n
    { s.cell n with mode := .off, engaged := false, absorbing := false, link := { (s.cell n).link with holding := false } } := by
  change ∃ u, execLinkHoldExpiry n s = .next (settle s u) ∧ _
  rw [execLinkHoldExpiry, act_awake s _ awake]
  exact modCell_becomes fitted (if_pos holding)

/-- Settles O23, event by event. -/
theorem linkTrainingRows : Obligations.LinkTrainingRows := by
  intro s n awake
  refine ⟨fun d training heard => exec_linkTrainingComplete awake training heard d, fun training few => ?fails,
    fun training many => ?condemned, fun m off failed test => ?down, fun holding fitted => ?holdEnds, fun off failed test => ?lockout⟩
  case fails =>
    have : (s.cell n).link.fails + 1 < 3 := by omega
    change execLinkTrainingFail n s = _
    simp [execLinkTrainingFail, act_awake s _ awake, training, this]
  case condemned =>
    have : ¬ (s.cell n).link.fails + 1 < 3 := by omega
    change execLinkTrainingFail n s = _
    simp [execLinkTrainingFail, act_awake s _ awake, training, this]
  case down =>
    change execLinkDown n m s = _
    rw [execLinkDown, act_awake s _ awake, if_neg off, leaveTest_of_ne test]
    rfl
  case holdEnds =>
    obtain ⟨u, run, cell, others⟩ := linkHoldExpiry_becomes awake fitted holding
    exact ⟨u, run, by simpa [cell] using others⟩
  case lockout =>
    change execGateDriveUvlo n s = _
    rw [execGateDriveUvlo, act_awake s _ awake, gateUvlo, if_neg off, leaveTest_of_ne test]

/-! ### What a cell does with set points (R48, R53, R57) -/

section
variable (c : Cell)

/-! Refreshing the limits writes CEL_LIMIT and LIMIT_REASON only. -/

@[simp] theorem refreshLimit_state : (refreshLimit c).state = c.state := rfl
@[simp] theorem refreshLimit_mode : (refreshLimit c).mode = c.mode := rfl
@[simp] theorem refreshLimit_sp : (refreshLimit c).sp = c.sp := rfl
@[simp] theorem refreshLimit_engaged : (refreshLimit c).engaged = c.engaged := rfl
@[simp] theorem refreshLimit_engagedBySet : (refreshLimit c).engagedBySet = c.engagedBySet := rfl
@[simp] theorem refreshLimit_armed : (refreshLimit c).armed = c.armed := rfl
@[simp] theorem refreshLimit_appliedAt : (refreshLimit c).appliedAt = c.appliedAt := rfl

/-- A cell that sends a frame changes its end of the link only. -/
theorem cellSends_eq (typ : Nat) : cellSends typ c = { c with link := (cellSends typ c).link } := by
  unfold cellSends; split <;> rfl

variable (typ : Nat)

@[simp] theorem cellSends_state : (cellSends typ c).state = c.state := by rw [cellSends_eq]
@[simp] theorem cellSends_mode : (cellSends typ c).mode = c.mode := by rw [cellSends_eq]
@[simp] theorem cellSends_sp : (cellSends typ c).sp = c.sp := by rw [cellSends_eq]
@[simp] theorem cellSends_engaged : (cellSends typ c).engaged = c.engaged := by rw [cellSends_eq]
@[simp] theorem cellSends_engagedBySet : (cellSends typ c).engagedBySet = c.engagedBySet := by rw [cellSends_eq]
@[simp] theorem cellSends_armed : (cellSends typ c).armed = c.armed := by rw [cellSends_eq]
@[simp] theorem cellSends_latched : (cellSends typ c).latched = c.latched := by rw [cellSends_eq]
@[simp] theorem cellSends_activeSlot : (cellSends typ c).activeSlot = c.activeSlot := by rw [cellSends_eq]
@[simp] theorem cellSends_ucFill : (cellSends typ c).ucFill = c.ucFill := by rw [cellSends_eq]
@[simp] theorem cellSends_ucInto : (cellSends typ c).ucInto = c.ucInto := by rw [cellSends_eq]
end

section
variable {c : Cell} {p : SetPoints}

/-- A port that reads 20 V or more, or nothing, may discharge. -/
theorem refusedLow_of_port (h : c.valid = false ∨ 2000 ≤ c.vPort) : refusedLow c p = false := by
  rcases h with h | h <;> simp [refusedLow, h]
/-- Current toward the port is no discharge. -/
theorem refusedLow_portI (mode : p.mode = .portI) (h : 0 ≤ p.iSet) : refusedLow c p = false := by
  simp [refusedLow, mode, h.not_gt]
/-- PORT_V is no discharge. -/
theorem refusedLow_portV (mode : p.mode = .portV) : refusedLow c p = false := by simp [refusedLow, mode]
/-- CASK_V without a limit toward the cask is no discharge. -/
theorem refusedLow_caskV (mode : p.mode = .caskV) (h : p.iNeg = 0) : refusedLow c p = false := by simp [refusedLow, mode, h]
/-- A discharge of a port below 20 V is refused. -/
theorem refusedLow_discharge (mode : p.mode = .portI) (h : p.iSet < 0) (valid : c.valid = true) (low : c.vPort < 2000) :
    refusedLow c p = true := by simp [refusedLow, mode, h, valid, low]

/-- A switching cell that nothing holds runs on the set points it accepts. -/
theorem takeSp_runs (trained : c.link.trained = true) (accepts : refusedLow c p = false) (on : c.state = .standby ∨ c.state = .run)
    (free : c.latched = []) (own : c.absorbing = false) (m : runs p.mode = true) :
    (takeSp p c).sp = p ∧ (takeSp p c).state = .run ∧ (takeSp p c).mode = p.mode := by
  cases hm : p.mode <;> rw [hm] at m
  case off | standby => cases m
  all_goals rcases on with on | on <;> simp [takeSp, trained, accepts, on, free, own, hm]

/-- The cell once a SET has left its queue: a READY cell waits for no other SET after a lockout (R41). -/
def setHeard (c : Cell) : Cell :=
  { c with link := { c.link with toCell := queueTake typSet c.link.toCell },
           latched := if c.state = .ready then c.latched.filter (· ≠ .uvlo) else c.latched }

/-- What a SET does to the cell that hears it. -/
theorem takeSet_eq (p : SetPoints) (c : Cell) : takeSet p c =
    if refusesSet p (setHeard c) then { setHeard c with limitReason := 4 }
    else refreshLimit (if p.engage then engageBySet p (setHeard c) else takeSp p (setHeard c)) := rfl

/-- A SET that does not engage is judged by its own set points. -/
theorem refusesSet_setPoints (order : p.engage = false) : refusesSet p (setHeard c) = refusedLow c p := by
  rw [refusesSet, order]; rfl
/-- A SET that engages a STANDBY cell is judged as CASK_V. -/
theorem refusesSet_engaging (order : p.engage = true) (standby : c.state = .standby) :
    refusesSet p (setHeard c) = refusedLow c { p with mode := .caskV } := by
  have : (setHeard c).state = .standby := standby
  rw [refusesSet, order, this]; rfl

/-! Set points leave what the cell has armed and what it applied last. -/

@[simp] theorem takeSp_armed (p : SetPoints) (c : Cell) : (takeSp p c).armed = c.armed := by
  unfold takeSp; split_ifs <;> cases c.state <;> rfl
@[simp] theorem takeSp_appliedAt (p : SetPoints) (c : Cell) : (takeSp p c).appliedAt = c.appliedAt := by
  unfold takeSp; split_ifs <;> cases c.state <;> rfl

/-- A SET that a STANDBY cell accepts. -/
theorem takeSet_runs (trained : c.link.trained = true) (order : p.engage = false) (accepts : refusedLow c p = false)
    (standby : c.state = .standby) (free : c.latched = []) (own : c.absorbing = false) (m : runs p.mode = true) :
    (takeSet p c).sp = p ∧ (takeSet p c).state = .run ∧ (takeSet p c).mode = p.mode := by
  have heard : (setHeard c).latched = [] := by simp [setHeard, free]
  rw [takeSet_eq, refusesSet_setPoints order, accepts, order]
  exact takeSp_runs (c := setHeard c) trained accepts (.inl standby) heard own m

/-- A SET with its engage flag, on a STANDBY cell: CASK_V. -/
theorem takeSet_engages (order : p.engage = true) (accepts : refusedLow c { p with mode := .caskV } = false)
    (standby : c.state = .standby) (free : c.latched = []) :
    (takeSet p c).sp = { p with mode := .caskV } ∧ (takeSet p c).state = .run ∧ (takeSet p c).mode = .caskV ∧
      (takeSet p c).engaged = true ∧ (takeSet p c).engagedBySet = true := by
  have heard : (setHeard c).latched = [] := by simp [setHeard, free]
  have still : (setHeard c).state = .standby := standby
  rw [takeSet_eq, refusesSet_engaging order standby, accepts, order]
  simp [engageBySet, heard, still, order]

/-- A SET that the cell refuses changes nothing but the reason it shows (R48). -/
theorem takeSet_refused (order : p.engage = false) (refuses : refusedLow c p = true) :
    (takeSet p c).sp = c.sp ∧ (takeSet p c).mode = c.mode ∧ (takeSet p c).state = c.state ∧ (takeSet p c).limitReason = 4 := by
  rw [takeSet_eq, refusesSet_setPoints order, refuses]
  exact ⟨rfl, rfl, rfl, rfl⟩

/-- An engaged cell takes the limits of a committed set, and leaves its target (R136). -/
theorem takeCommitted_engaged (h : c.engaged = true) : takeCommitted p c = limitsOnly p c := if_pos h
/-- A committed set reaches a cell that nothing holds as a SET does. -/
theorem takeCommitted_free (h : c.engaged = false) (free : c.latched = []) : takeCommitted p c = takeSp p c := by
  simp [takeCommitted, h, free]
end

/-! ### The commands of a link frame, cell by cell (R29, R30, R34, R35, R53, R69) -/

/-- The cell once a CMD has left its queue and its RSP is sent (R29). -/
def cmdHeard (c : Cell) : Cell := cellSends typRsp { c with link := { c.link with toCell := queueTake typCmd c.link.toCell } }

@[simp] theorem cmdHeard_state (c : Cell) : (cmdHeard c).state = c.state := by simp [cmdHeard]
@[simp] theorem cmdHeard_activeSlot (c : Cell) : (cmdHeard c).activeSlot = c.activeSlot := by simp [cmdHeard]
@[simp] theorem cmdHeard_ucFill (c : Cell) : (cmdHeard c).ucFill = c.ucFill := by simp [cmdHeard]
@[simp] theorem cmdHeard_ucInto (c : Cell) : (cmdHeard c).ucInto = c.ucInto := by simp [cmdHeard]

/-- The cell at the tick of its armed set. -/
def armTaken (k : Nat) (c : Cell) : Cell := { c with armed := none, appliedAt := some k }

section
variable {s : State} {n : Nat} (awake : Awake s) (fitted : cellFitted s n = true)
include awake fitted

/-- A SYNC in the reserved slot is taken; the last two are kept (R30, R34). -/
theorem sync_becomes (trained : (s.cell n).link.trained = true) {x : Nat × Bool} (slot : (s.cell n).link.slot = some x) :
    CellBecomes (.sync n) s n { s.cell n with syncs := (x :: (s.cell n).syncs).take 2, link := { (s.cell n).link with slot := none } } := by
  change ∃ u, execSync n s = .next (settle s u) ∧ _
  rw [execSync, act_awake s _ awake]
  exact modCell_becomes fitted (by simp [trained, slot])

section
variable (trained : (s.cell n).link.trained = true) (cores : s.limp.linksHeld = false) (moded : s.sys.mode ≠ .staging)
include trained cores moded

/-- A SET of the cores reaches a trained cell of a cordon (R53). -/
theorem set_becomes (listed : (s.cell n).cordon ≠ 0) (p : SetPoints) : CellBecomes (.set n p) s n (takeSet p (s.cell n)) := by
  change ∃ u, execSet n p s = .next (settle s u) ∧ _
  rw [execSet, act_awake s _ awake, if_neg (by simp [coreFrames, cores, moded, listed])]
  exact modCell_becomes fitted (if_pos trained)

/-- An ARM is held for its tick (R34). -/
theorem arm_becomes (k : Nat) (p : SetPoints) : CellBecomes (.arm n k p) s n
    { s.cell n with armed := some (k, p), link := { (s.cell n).link with toCell := queueTake typArm (s.cell n).link.toCell } } := by
  change ∃ u, execArm n k p s = .next (settle s u) ∧ _
  rw [execArm, act_awake s _ awake, if_neg (by simp [coreFrames, cores, moded])]
  exact modCell_becomes fitted (if_pos trained)
end

section
variable (trained : (s.cell n).link.trained = true) (cores : s.limp.linksHeld = false)
include trained cores

/-- An erase with no impedance run on the cordon begins the update (R69, R190). -/
theorem ucErase_becomes (quiet : runOnCordon s n = false) : CellBecomes (.cmd n .ucErase) s n (beginUpdate (cmdHeard (s.cell n))) := by
  change ∃ u, execCmd n .ucErase s = .next (settle s u) ∧ _
  rw [execCmd, act_awake s _ awake, if_neg (by simp [trained, cores])]
  refine ⟨_, rfl, ?_, fun m ne => ?_⟩
  · simp [modCell_cell_self, fitted, quiet, cmdHeard]
  · simp [modCell_cell_ne ne]

/-- A body goes into the slot under update behind what it holds (R69). -/
theorem ucBody_becomes {bs : List Byte} (updating : (s.cell n).state = .update) (room : (s.cell n).ucFill + bs.length ≤ 65504) :
    CellBecomes (.cmd n (.ucBody bs)) s n
      { modSlot (s.cell n).ucInto (cmdHeard (s.cell n)) (fun m => memWriteList ff m (32 + (s.cell n).ucFill) bs) with
        ucFill := (s.cell n).ucFill + bs.length } := by
  change ∃ u, execCmd n (.ucBody bs) s = .next (settle s u) ∧ _
  rw [execCmd, act_awake s _ awake, if_neg (by simp [trained, cores])]
  refine ⟨_, rfl, ?_, fun m ne => ?_⟩
  · simp [modCell_cell_self, fitted, updating, room, cmdHeard]
  · simp [modCell_cell_ne ne]

/-- An activation makes the slot written the active one (R69). -/
theorem ucActivate_becomes (updating : (s.cell n).state = .update) :
    CellBecomes (.cmd n .ucActivate) s n { cmdHeard (s.cell n) with activeSlot := (s.cell n).ucInto } := by
  change ∃ u, execCmd n .ucActivate s = .next (settle s u) ∧ _
  rw [execCmd, act_awake s _ awake, if_neg (by simp [trained, cores])]
  refine ⟨_, rfl, ?_, fun m ne => ?_⟩
  · simp [modCell_cell_self, fitted, updating, cmdHeard]
  · simp [modCell_cell_ne ne]
end

/-- The data of an RSP reach Merja, and the CMD it answers waits no longer (R29). -/
theorem rsp_becomes (trained : (s.cell n).link.trained = true) (q : Nat) (d : Word) : CellBecomes (.rsp n q d) s n
    { merjaGot typRsp (s.cell n) with link := { (merjaGot typRsp (s.cell n)).link with
        rsp := d, waits := (s.cell n).link.waits.filter (fun w => !(decide (w.seq = q ∧ w.typ = typCmd))) } } := by
  change ∃ u, execRsp n q d s = .next (settle s u) ∧ _
  rw [execRsp, act_awake s _ awake]
  exact modCell_becomes fitted (if_pos trained)

/-- An answer at Merja's end is for the frames that wait there; that of an ARM counts for the set besides (R29, R34). -/
theorem ackMerja_becomes (q : Nat) (ok : Bool) : CellBecomes (.ack n q true ok) s n
    { s.cell n with link := { (s.cell n).link with waits := answered q ok (s.cell n).link.waits } } := by
  change ∃ u, execAck n q true ok s = .next (settle s u) ∧ _
  rw [execAck, act_awake s _ awake, if_neg (by decide)]
  have counted : ∀ (b : Prop) [Decidable b] (t : State) (g : Stg) (m : Nat), (if b then { t with stg := g } else t).cell m = t.cell m := by
    intro b _ t g m
    split <;> rfl
  refine ⟨_, rfl, (counted ..).trans ?_, fun m ne => (counted ..).trans ?_⟩
  · exact modCell_cell_self s n _ fitted
  · exact modCell_cell_ne ne ..

/-- An answer at the cell's end is for the frames that wait there (R29). -/
theorem ackCell_becomes (q : Nat) (ok : Bool) : CellBecomes (.ack n q false ok) s n
    { s.cell n with link := { (s.cell n).link with upWaits := answered q ok (s.cell n).link.upWaits } } := by
  change ∃ u, execAck n q false ok s = .next (settle s u) ∧ _
  rw [execAck, act_awake s _ awake, if_pos rfl]
  exact modCell_becomes fitted rfl

section
variable {k : Nat} {p : SetPoints} (armed : (s.cell n).armed = some (k, p))
include armed

/-- With its commit-go the armed set is taken (R34). -/
theorem applyArmed_go (go : goFor (s.cell n) k = true) : CellBecomes (.applyArmedSet n) s n
    (refreshLimit (takeCommitted p (armTaken k (s.cell n)))) := by
  change ∃ u, execApplyArmedSet n s = .next (settle s u) ∧ _
  rw [execApplyArmedSet, act_awake s _ awake]
  exact modCell_becomes fitted (by simp only [armed, go, if_true, armTaken])

/-- With SYNCs that carry no commit-go it is given up (R267). -/
theorem applyArmed_noGo (go : goFor (s.cell n) k = false) (heard : syncFor (s.cell n) k = true) :
    CellBecomes (.applyArmedSet n) s n { s.cell n with armed := none } := by
  change ∃ u, execApplyArmedSet n s = .next (settle s u) ∧ _
  rw [execApplyArmedSet, act_awake s _ awake]
  exact modCell_becomes fitted (by simp [armed, go, heard])

/-- Without either SYNC the cell trips on COMMIT_MISSED (R35). -/
theorem commitMissed_becomes (deaf : syncFor (s.cell n) k = false) : CellBecomes (.commitMissed n) s n
    (cellSends typEvent (tripCell .commitMissed { s.cell n with armed := none })) := by
  change ∃ u, execCommitMissed n s = .next (settle s u) ∧ _
  rw [execCommitMissed, act_awake s _ awake, commitMiss, armed]
  simp only [deaf]
  exact modCell_becomes fitted rfl
end
end

/-- A frame that waits alone and is acknowledged waits no longer. -/
theorem answered_alone {w : LinkWait} : answered w.seq true [w] = [] := by simp [answered]
/-- A frame that waits alone and is refused goes out again until it has been sent twice more. -/
theorem answered_alone_refused {w : LinkWait} (h : w.tries < 2) : answered w.seq false [w] = [{ w with tries := w.tries + 1 }] := by
  simp [answered, h]

/-- A slot is what its change makes of it. -/
theorem slotOf_modSlot (k : Nat) (c : Cell) (f : Mem → Mem) : slotOf (modSlot k c f) k = f (slotOf c k) := by
  unfold slotOf modSlot; split <;> rfl
/-- A READY cell begins its update with the spare slot erased (R69). -/
theorem beginUpdate_ready {c : Cell} (h : c.state = .ready) :
    (beginUpdate c).state = .update ∧ (beginUpdate c).ucFill = 0 ∧ (beginUpdate c).ucInto = spareSlot c ∧
      slotOf (beginUpdate c) (spareSlot c) = [] := by
  rw [beginUpdate, if_pos h]
  exact ⟨rfl, rfl, rfl, slotOf_modSlot ..⟩

section
variable (t : Trip) (c : Cell)

/-! Counting a trip writes its counter only. -/

@[simp] theorem countTrip_state : (countTrip t c).state = c.state := by cases t <;> rfl
@[simp] theorem countTrip_latched : (countTrip t c).latched = c.latched := by cases t <;> rfl
@[simp] theorem countTrip_trip : (countTrip t c).trip = c.trip := by cases t <;> rfl
@[simp] theorem countTrip_armed : (countTrip t c).armed = c.armed := by cases t <;> rfl
end

/-- A protection that does not condemn trips a cell that runs: switches off, latched, its bit set (Table 2-8). -/
theorem tripCell_run {t : Trip} {c : Cell} (h : c.state = .run) (spares : t ≠ .desat) :
    (tripCell t c).state = .tripped ∧ (tripCell t c).mode = .off ∧ (tripCell t c).armed = c.armed ∧ t ∈ (tripCell t c).latched ∧
      (tripCell t c).trip = putBit c.trip (tripBit t) true := by
  have held : t ∈ (if t ∈ c.latched then c.latched else t :: c.latched) := by split <;> simp [*]
  simpa [tripCell, switching, h, spares] using held

/-- Settles O24, frame by frame, then the armed tick. -/
theorem linkFrameRows : Obligations.LinkFrameRows := by
  refine ⟨fun s n awake fitted trained => ⟨fun x slot => ?sync,
      fun cores moded => ⟨fun p listed order standby free own mode port => ?setPortI, fun p listed order standby free port => ?setEngages,
        fun p listed order mode discharge valid low => ?setRefused, fun k p => ?arm⟩,
      fun cores => ⟨fun ready quiet => ?erase, fun bs updating room => ?body, fun updating => ?activate⟩,
      fun q d => ?rsp, fun q w waits hq => ?acked, fun q w waits hq tries => ?refused, fun q w waits hq => ?upAcked⟩,
    fun s n k p awake fitted armed => ⟨fun go trained loose free running own mode => ?applies, fun go engaged => ?limits,
      fun go heard => ?givesUp, fun deaf running => ?misses, fun heard => ?hears⟩⟩
  case sync =>
    obtain ⟨u, run, cell, -⟩ := sync_becomes awake fitted trained slot
    exact ⟨u, run, by simp [cell]⟩
  case setPortI =>
    have accepts : refusedLow (s.cell n) p = false :=
      port.elim (refusedLow_portI mode) refusedLow_of_port
    obtain ⟨sp, state, runs⟩ := takeSet_runs trained order accepts standby free own (by rw [mode]; rfl)
    obtain ⟨u, run, cell, others⟩ := set_becomes awake fitted trained cores moded listed p
    exact ⟨u, run, by rw [cell, sp], by rw [cell, state], by rw [cell, runs, mode], others⟩
  case setEngages =>
    have accepts : refusedLow (s.cell n) { p with mode := .caskV } = false :=
      port.elim (fun h => refusedLow_caskV rfl h) refusedLow_of_port
    obtain ⟨u, run, cell, -⟩ := set_becomes awake fitted trained cores moded listed p
    exact ⟨u, run, by simpa only [cell] using takeSet_engages order accepts standby free⟩
  case setRefused =>
    obtain ⟨u, run, cell, -⟩ := set_becomes awake fitted trained cores moded listed p
    exact ⟨u, run, by simpa only [cell] using takeSet_refused order (refusedLow_discharge mode discharge valid low)⟩
  case arm =>
    obtain ⟨u, run, cell, -⟩ := arm_becomes awake fitted trained cores moded k p
    exact ⟨u, run, by simp [cell]⟩
  case erase =>
    obtain ⟨u, run, cell, -⟩ := ucErase_becomes awake fitted trained cores quiet
    have begun := beginUpdate_ready (c := cmdHeard (s.cell n)) (by simp [ready])
    have spare : spareSlot (cmdHeard (s.cell n)) = spareSlot (s.cell n) := by simp [spareSlot]
    exact ⟨u, run, by simpa only [cell, spare] using begun⟩
  case body =>
    obtain ⟨u, run, cell, -⟩ := ucBody_becomes awake fitted trained cores updating room
    exact ⟨u, run, by rw [cell]⟩
  case activate =>
    obtain ⟨u, run, cell, -⟩ := ucActivate_becomes awake fitted trained cores updating
    exact ⟨u, run, by rw [cell]⟩
  case rsp =>
    obtain ⟨u, run, cell, -⟩ := rsp_becomes awake fitted trained q d
    exact ⟨u, run, by rw [cell]⟩
  case acked =>
    obtain ⟨u, run, cell, -⟩ := ackMerja_becomes awake fitted q true
    exact ⟨u, run, by rw [cell, waits, ← hq]; exact answered_alone⟩
  case refused =>
    obtain ⟨u, run, cell, -⟩ := ackMerja_becomes awake fitted q false
    exact ⟨u, run, by rw [cell, waits, ← hq]; exact answered_alone_refused tries⟩
  case upAcked =>
    obtain ⟨u, run, cell, -⟩ := ackCell_becomes awake fitted q true
    exact ⟨u, run, by rw [cell, waits, ← hq]; exact answered_alone⟩
  case applies =>
    obtain ⟨sp, state, runs⟩ := takeSp_runs (c := armTaken k (s.cell n)) trained (refusedLow_portV mode) (.inr running) free own
      (by rw [mode]; rfl)
    obtain ⟨u, run, cell, -⟩ := applyArmed_go awake fitted armed go
    rw [takeCommitted_free (c := armTaken k (s.cell n)) loose free] at cell
    exact ⟨u, run, by simp [cell, armTaken], by simp [cell, armTaken], by simp [cell, sp], by simp [cell, runs, mode], by simp [cell, state]⟩
  case limits =>
    obtain ⟨u, run, cell, -⟩ := applyArmed_go awake fitted armed go
    rw [takeCommitted_engaged (c := armTaken k (s.cell n)) engaged] at cell
    exact ⟨u, run, by simp [cell, limitsOnly, armTaken]⟩
  case givesUp =>
    obtain ⟨u, run, cell, -⟩ := applyArmed_noGo awake fitted armed go heard
    exact ⟨u, run, by rw [cell]; exact ⟨rfl, rfl, rfl⟩⟩
  case misses =>
    obtain ⟨u, run, cell, -⟩ := commitMissed_becomes awake fitted armed deaf
    obtain ⟨state, mode, dropped, held, -⟩ :=
      tripCell_run (t := .commitMissed) (c := { s.cell n with armed := none }) running (by decide)
    exact ⟨u, run, by simp [cell, state, mode, dropped, held]⟩
  case hears =>
    change execCommitMissed n s = _
    rw [execCommitMissed, act_awake s _ awake, commitMiss, armed]
    simp [heard]

end Sys2Proof.Laws
end

section
/-! SUPPORT. Telemetry and events of a cell: what follows a frame leaves the cells alone, and what each event starts. -/

namespace Sys2Proof.Laws
open Sys2Proof Sys2Proof.Machine

/-! ### Telemetry and events (R33, R37, R44, R57, R63, R123, R179, R207) -/

/-- A cell is read from the bank of cells alone. -/
theorem cell_of_cells {s t : State} (h : t.cells = s.cells) (m : Nat) : t.cell m = s.cell m := by
  rw [State.cell, h, State.cell]

section
variable (s : State)

/-- The completion of a changeover writes the power path only. -/
theorem coComplete_pwr : coComplete s = { s with pwr := (coComplete s).pwr } := by unfold coComplete; dsimp only; split <;> rfl
/-- The check of a consumer's cable writes the source table only. -/
theorem cableReading_pwr (n : Nat) : cableReading n s = { s with pwr := (cableReading n s).pwr } := by
  unfold cableReading; dsimp only; split <;> rfl
/-- The start of an episode writes the regeneration registers only. -/
theorem regenStart_ppt : regenStart s = { s with ppt := (regenStart s).ppt } := by unfold regenStart; dsimp only; split <;> rfl
/-- The end of an episode writes the regeneration registers only. -/
theorem regenTidy_ppt : regenTidy s = { s with ppt := (regenTidy s).ppt } := by
  unfold regenTidy
  dsimp only
  split
  · rfl
  · split <;> rfl
  · split <;> rfl
/-- A cask sample writes the regeneration registers only. -/
theorem regenSample_ppt (v : Nat) : regenSample v s = { s with ppt := (regenSample v s).ppt } := by
  unfold regenSample; dsimp only; rw [regenTidy_ppt]; split
  · rw [regenStart_ppt]
  · rfl
/-- What follows a telemetry frame leaves the cells and the inputs of the OR-ing bus. -/
theorem afterTelem_keeps (n v : Nat) :
    (coComplete (regenSample v (cableReading n s))).cells = s.cells ∧ (coComplete (regenSample v (cableReading n s))).orIn = s.orIn := by
  rw [coComplete_pwr, regenSample_ppt, cableReading_pwr]
  exact ⟨rfl, rfl⟩
end

/-- Telemetry of a trained cell: of the cells only its own changes, and the OR-ing bus reads its cask voltage (R33, R37). -/
theorem exec_telem {s : State} {n : Nat} (awake : Awake s) (trained : (s.cell n).link.trained = true) (f : Telem) :
    ∃ u, exec (.telem n f) s = .next (settle s u) ∧
      u.cells = (s.modCell n (fun c => takeTelem f (merjaGot typTelem c))).cells ∧ u.orIn.cask = f.vCask := by
  change ∃ u, execTelem n f s = _ ∧ _
  rw [execTelem, act_awake s _ awake, if_neg (by simp [trained])]
  refine ⟨_, rfl, (afterTelem_keeps _ n f.vCask).1.trans ?_, (congrArg OrInputs.cask (afterTelem_keeps _ n f.vCask).2).trans ?_⟩
  · split <;> rfl
  · split <;> rfl

/-- What the window of a cell shows after a telemetry frame. -/
theorem takeTelem_shows (f : Telem) (c : Cell) :
    (takeTelem f c).valid = true ∧ (takeTelem f c).seq = f.seq % 65536 ∧ (takeTelem f c).vPort = f.vPort ∧
      (takeTelem f c).vCask = f.vCask ∧ (takeTelem f c).iPort = f.iPort ∧ (takeTelem f c).pPort = (f.vPort : Int) * f.iPort / 10000 ∧
      (takeTelem f c).region = regionOf c.region f.vPort f.vCask ∧ (takeTelem f c).t1 = f.t1 ∧ (takeTelem f c).t2 = f.t2 :=
  ⟨rfl, rfl, rfl, rfl, rfl, rfl, rfl, rfl, rfl⟩

/-- A report of PORT_OV or OT sets the trip's bit and nothing else. -/
theorem tripReport_setsBit {t : Trip} (h : t = .portOv ∨ t = .ot) (n : Nat) (s : State) :
    tripReport n t s = s.modCell n (fun x => { x with trip := putBit x.trip (tripBit t) true }) := by
  rcases h with rfl | rfl <;> rfl

/-- Outside LIMP the latest report is the band of its path (R123). -/
theorem reportBand_band {s : State} {i : Nat} {b : Band} (known : 0 < i ∧ i ≤ 8) (mode : s.sys.mode ≠ .limp) (h : b ≠ .slope) :
    ((reportBand i b s).src i).band = b := by
  have own : ∀ (t : State) (f : Source → Source), (t.modSrc i f).src i = f (t.src i) := fun t f => by simp [modSrc_src, known]
  have reported : ¬ (b = .slope ∧ (s.src i).dvdt = 0) := fun k => h k.1
  have notLimp : ¬ (s.modSrc i (fun x => { x with band := b })).sys.mode = .limp := mode
  rw [reportBand, if_neg reported, if_neg notLimp]
  split <;> simp [own]

/-- The first event of an episode (R207, R211). -/
theorem regenOn_begins {s : State} (h : s.ppt.regen.state = .none) :
    (regenOn s).ppt.regen.state = .absorb ∧ (regenOn s).ppt.regen.episodes = satInc 65535 s.ppt.regen.episodes ∧
      (regenOn s).ppt.regen.brkTime = 0 ∧ (regenOn s).pwr.gate.closed = false := by
  obtain ⟨state, episodes, brk⟩ : (regenStart s).ppt.regen.state = .absorb ∧
      (regenStart s).ppt.regen.episodes = satInc 65535 s.ppt.regen.episodes ∧ (regenStart s).ppt.regen.brkTime = 0 := by
    simp [regenStart, h]
  unfold regenOn
  dsimp only
  split
  case isTrue => exact ⟨state, episodes, brk, rfl⟩
  case isFalse isOpen => exact ⟨state, episodes, brk, by simpa using isOpen⟩

/-- A port at its maximum clears the suspicion within 10 ms of the charge command (R179). -/
theorem portMaxSeen_maxSeen {s : State} {c : Nat} (role : (s.cordon c).e.role = .battery)
    (ix : 1 ≤ (s.cordon c).e.index ∧ (s.cordon c).e.index ≤ 4) (asked : (s.bat (s.cordon c).e.index).chargeAt ≠ 0)
    (early : s.now < (s.bat (s.cordon c).e.index).chargeAt + 10000) :
    ((portMaxSeen c s).bat (s.cordon c).e.index).maxSeen = true := by
  rw [portMaxSeen, if_neg (not_not.2 role), modBat_bat, if_pos ⟨rfl, ix⟩, if_pos ⟨asked, early⟩]

/-- Settles O25: the frame of telemetry, then event by event. -/
theorem telemetryRows : Obligations.TelemetryRows := by
  intro s n awake trained fitted
  have linked : ¬ (s.cell n).link.trained = false := by simp [trained]
  refine ⟨fun f => ?telem, fun t ht => ?trips, fun b known le mode hb => ?crossing, fun path first => ?engaged, fun none_ => ?regenOn,
    fun none_ => ?regenOff, fun m role lo hi asked early => ?portMax⟩
  case telem =>
    obtain ⟨u, run, cells, cask⟩ := exec_telem awake trained f
    have own : u.cell n = takeTelem f (merjaGot typTelem (s.cell n)) := (cell_of_cells cells n).trans (modCell_cell_self s n _ fitted)
    have shows := takeTelem_shows f (merjaGot typTelem (s.cell n))
    rw [← own] at shows
    obtain ⟨valid, seq, vPort, vCask, iPort, pPort, region, t1, t2⟩ := shows
    exact ⟨u, run, valid, seq, vPort, vCask, iPort, pPort, region, t1, t2, cask,
      fun m ne => (cell_of_cells cells m).trans (modCell_cell_ne ne ..)⟩
  case trips =>
    change execEvent n (.trips [t]) s = _
    rw [execEvent, act_awake s _ awake, if_neg linked]
    simp only [tripsReport, List.foldl, tripReport_setsBit ht]
    rfl
  case crossing =>
    have entry : srcOfCordon (s.modCell n (merjaGot typEvent)) (servedCordon s n) = srcOfCordon s (servedCordon s n) := by
      simp [srcOfCordon]
    change ∃ u, execEvent n (.crossing b) s = _ ∧ _
    rw [execEvent, act_awake s _ awake, if_neg linked]
    dsimp only
    rw [entry, if_neg known]
    exact ⟨_, rfl, reportBand_band ⟨Nat.pos_of_ne_zero known, le⟩ (by simpa using mode) hb⟩
  case engaged =>
    change ∃ u, execEvent n (.engaged .setFrame) s = _ ∧ _
    rw [execEvent, act_awake s _ awake, if_neg linked]
    simp only [engagedReport, modCell_pwr, path, first, and_self, if_true]
    exact ⟨_, rfl, rfl, rfl⟩
  case regenOn =>
    change ∃ u, execEvent n .regenOn s = _ ∧ _
    rw [execEvent, act_awake s _ awake, if_neg linked]
    refine ⟨_, rfl, ?_⟩
    simpa using regenOn_begins (s := s.modCell n (merjaGot typEvent)) (by simpa using none_)
  case regenOff =>
    change execEvent n .regenOff s = _
    rw [execEvent, act_awake s _ awake, if_neg linked]
    simp [regenTidy, none_]
  case portMax =>
    have seen := portMaxSeen_maxSeen (s := s.modCell n (merjaGot typEvent)) (c := servedCordon s n)
    simp only [modCell_cordon, modCell_bat, modCell_now] at seen
    change ∃ u, execEvent n (.portMax m) s = _ ∧ _
    rw [execEvent, act_awake s _ awake, if_neg linked]
    exact ⟨_, rfl, seen role ⟨lo, hi⟩ asked early⟩

end Sys2Proof.Laws
end

section
/-! SUPPORT. The cell's own protections, the commands of CEL_CMD, self-tests and microcode transfers: what each leaves of its cell. -/

namespace Sys2Proof.Laws
open Sys2Proof Sys2Proof.Machine

/-! ### Protections and their clearing (R60, R62, R63, Table 2-8) -/

/-- A bit just set reads set. -/
theorem getLsbD_putBit_true {n i : Nat} (v : BitVec n) (h : i < n) : (putBit v i true).getLsbD i = true := by
  rw [putBit, if_pos rfl, BitVec.getLsbD_or, BitVec.getLsbD_ofNat]
  simp [h]

@[simp] theorem cellSends_trip (c : Cell) (typ : Nat) : (cellSends typ c).trip = c.trip := by rw [cellSends_eq]

/-- The state in which a trip leaves a cell that runs: a desaturation condemns it (Table 2-8). -/
theorem tripCell_state {c : Cell} (h : c.state = .run) (t : Trip) :
    (tripCell t c).state = if t = .desat then .failed else .tripped := by
  simp [tripCell, switching, h]

/-- A desaturation turns the switches off and latches. -/
theorem tripCell_desat {c : Cell} (h : c.state = .run) : (tripCell .desat c).mode = .off ∧ Trip.desat ∈ (tripCell .desat c).latched := by
  have held : Trip.desat ∈ (if Trip.desat ∈ c.latched then c.latched else .desat :: c.latched) := by split <;> simp [*]
  simpa [tripCell, switching, h] using held

/-- A cell outside a test has none to abort. -/
theorem abortTest_of_ne {s : State} {n : Nat} (h : (s.cell n).state ≠ .selftest) : abortTest n s = s := if_pos h

/-- A tripped cell with nothing latched that ran before resumes PORT_V (R62). -/
theorem resume_portV {c : Cell} (tripped : c.state = .tripped) (held : c.sp.mode = .portV) (ran : c.runBefore = true) :
    resume c = { c with state := .run, mode := .portV } := by
  simp [resume, tripped, held, ran]

/-- Resuming writes the state and the mode only. -/
theorem resume_eq (c : Cell) : resume c = { c with state := (resume c).state, mode := (resume c).mode } := by
  unfold resume; split_ifs <;> rfl

/-- The cell once a RESTART has released its latching protections, before it resumes (R63). -/
def restartHeard (c : Cell) : Cell :=
  { c with latched := c.latched.filter (fun x => !tripLatching x || decide (x = .uvlo ∧ c.state ≠ .tripped)),
           portShort := false, restart := false, removed := if c.link.down then c.removed else false }

/-- The cell that a RESTART leaves. -/
def restarted (c : Cell) : Cell := if (restartHeard c).latched = [] then resume (restartHeard c) else restartHeard c

theorem restarted_latched (c : Cell) : (restarted c).latched = (restartHeard c).latched := by
  unfold restarted; split
  · rw [resume_eq]
  · rfl

theorem restarted_restart (c : Cell) : (restarted c).restart = false := by
  unfold restarted; split
  · rw [resume_eq]; rfl
  · rfl

/-- No latching protection is left on a tripped cell that is restarted, and none is new. -/
theorem restarted_releases {c : Cell} (tripped : c.state = .tripped) :
    ∀ t ∈ (restarted c).latched, tripLatching t = false ∧ t ∈ c.latched := by
  intro t ht
  simpa [restarted_latched, restartHeard, tripped, and_comm] using ht

/-- RESTART changes the core of its cell as `restarted` says; the cordon's part only decides how the cell runs. -/
theorem restartCell_core {s : State} {n : Nat} (spared : (s.cell n).state ≠ .failed) :
    CoreKept (s.modCell n restarted) (restartCell n s) := by
  rw [restartCell, if_neg spared]
  exact .ite (returnToCordon_core ..) (.refl _)

/-- What a RESTART leaves of a tripped cell (R63). -/
theorem restartCell_cell {s : State} {n : Nat} (fitted : cellFitted s n = true) (tripped : (s.cell n).state = .tripped) :
    ((restartCell n s).cell n).restart = false ∧
      ∀ t ∈ ((restartCell n s).cell n).latched, tripLatching t = false ∧ t ∈ (s.cell n).latched := by
  have kept := restartCell_core (s := s) (n := n) (by simp [tripped])
  rw [kept.restart, kept.latched, modCell_cell_self _ _ _ fitted]
  exact ⟨restarted_restart _, restarted_releases tripped⟩

/-! ### The overload account (R46, R47, R64) -/

/-- Derating never raises a limit. -/
theorem derate_le (c : Cell) (i : Nat) : derate c i ≤ i := by
  unfold derate
  dsimp only
  split_ifs with cool hot
  · exact le_rfl
  · exact Nat.zero_le i
  · have : (1450 - max c.t1 c.t2).toNat ≤ 200 := by omega
    exact Nat.div_le_of_le_mul (by rw [mul_comm]; exact Nat.mul_le_mul_right i this)

/-- The limit in effect is never above the rated one. -/
theorem limitOf_le_ratedOf (c : Cell) : limitOf c ≤ ratedOf c := by
  have spared : min (spLimit c) (derate c (ratedOf c)) ≤ ratedOf c := (min_le_right ..).trans (derate_le ..)
  unfold limitOf
  dsimp only
  split
  · exact (min_le_left ..).trans spared
  · exact spared

section
variable {c : Cell} (bound : boundToCont c = true)
include bound

/-- A bound cell carries no more than I_CONT. -/
theorem limitOf_le_iCont : limitOf c ≤ iCont c.vPort := by simpa [ratedOf, bound] using limitOf_le_ratedOf c
/-- A bound cell carries no more than 3 kW. -/
theorem powerLimitOf_le : powerLimitOf c ≤ 3000 := by simp [powerLimitOf, bound]
end

/-- An empty account binds the cell (R47). -/
theorem boundToCont_of_low {c : Cell} (h : c.ovldLow = true) : boundToCont c = true := by simp [boundToCont, h]

/-- A protection other than the lockout, before the test of its cell is judged (R60). -/
def protectionActs (n : Nat) (t : Trip) (s : State) : State :=
  rephaseDue n (s.modCell n (fun c => if c.state = .off then c else cellSends typEvent (tripCell t c)))

/-- What a protection does to a cell that runs. -/
theorem protectionActs_cell {s : State} {n : Nat} (fitted : cellFitted s n = true) (running : (s.cell n).state = .run) (t : Trip) :
    (protectionActs n t s).cell n = cellSends typEvent (tripCell t (s.cell n)) := by
  simp [protectionActs, rephaseDue, modCell_cell_self, fitted, running]

section
variable {s : State} {n : Nat} (awake : Awake s) (fitted : cellFitted s n = true)
include awake fitted

/-- A protection of a cell that runs acts on its own switches and sends an EVENT (R60). -/
theorem exec_protectionTrip (running : (s.cell n).state = .run) {t : Trip} (h : t ≠ .uvlo) :
    ∃ u, exec (.protectionTrip n t) s = .next (settle s u) ∧ u.cell n = cellSends typEvent (tripCell t (s.cell n)) := by
  have own := protectionActs_cell fitted running t
  have untested : ((protectionActs n t s).cell n).state ≠ .selftest := by
    rw [own, cellSends_state, tripCell_state running]; split <;> decide
  have meaning : exec (.protectionTrip n t) s = .next (settle s (abortTest n (protectionActs n t s))) := by
    change execProtectionTrip n t s = _
    rw [execProtectionTrip, act_awake s _ awake, if_neg h]
    rfl
  exact ⟨_, meaning.trans (by rw [abortTest_of_ne untested]), own⟩

/-- The end of the only condition that holds a tripped cell resumes it (R62). -/
theorem exec_tripCleared {t : Trip} (selfClearing : tripLatching t = false) (only : (s.cell n).latched = [t]) :
    ∃ u, exec (.tripCleared n t) s = .next (settle s u) ∧ u.cell n = resume { s.cell n with latched := [] } := by
  change ∃ u, execTripCleared n t s = _ ∧ _
  rw [execTripCleared, act_awake s _ awake, if_neg (by simp [selfClearing])]
  exact ⟨_, rfl, by simp [rephaseDue, modCell_cell_self, fitted, only]⟩

/-- An account that runs empty stays at zero and refreshes the limits in effect (R47). -/
theorem overloadAccountEmpty_becomes : CellBecomes (.overloadAccountEmpty n) s n
    (refreshLimit { s.cell n with ovld := 0, ovldLow := true }) := by
  change ∃ u, execOverloadAccountEmpty n s = .next (settle s u) ∧ _
  rw [execOverloadAccountEmpty, act_awake s _ awake]
  exact modCell_becomes fitted rfl
end

/-- An overcurrent restart that is due, of a cordon that is not stopped and of a cell that trips alone (R63). -/
theorem exec_ocRestart {s : State} {n : Nat} (awake : Awake s) (due : (s.cell n).restart = true)
    (serves : (s.cordon (servedCordon s n)).state ≠ .stopped) (alone : (s.cell n).portShort = false) :
    exec (.ocRestart n) s = .next (settle s (if 4 ≤ ocRetries (s.cell n) then
      loseCell n (s.modCell n (fun c => { c with state := .failed, restart := false })) else restartCell n s)) := by
  change execOcRestart n s = _
  rw [execOcRestart, act_awake s _ awake]
  simp [due, serves, alone, ocCondemned]

/-- Settles O26: protection by protection, then the overload account. -/
theorem protectionRows : Obligations.ProtectionRows := by
  refine ⟨fun s n awake fitted => ⟨fun t lockout spares running => ?trips, fun running => ?condemns,
    fun t selfClearing tripped only held ran => ?resumes, fun t latching => ?waits, fun due serves alone few tripped => ?restarts,
    fun due serves alone many => ?failed⟩, fun s n awake fitted => ?account⟩
  case trips =>
    obtain ⟨u, run, cell⟩ := exec_protectionTrip awake fitted running lockout
    obtain ⟨state, mode, -, held, bit⟩ := tripCell_run running spares
    have shown : (putBit (s.cell n).trip (tripBit t) true).getLsbD (tripBit t) = true :=
      getLsbD_putBit_true _ (by cases t <;> decide)
    exact ⟨u, run, by simp [cell, state, mode, held, bit, shown]⟩
  case condemns =>
    obtain ⟨u, run, cell⟩ := exec_protectionTrip awake fitted running (t := .desat) (by decide)
    obtain ⟨mode, held⟩ := tripCell_desat running
    exact ⟨u, run, by simp [cell, tripCell_state running, mode, held]⟩
  case resumes =>
    obtain ⟨u, run, cell⟩ := exec_tripCleared awake fitted selfClearing only
    rw [resume_portV (c := { s.cell n with latched := [] }) tripped held ran] at cell
    exact ⟨u, run, by simp [cell]⟩
  case waits =>
    change execTripCleared n t s = _
    rw [execTripCleared, act_awake s _ awake, if_pos latching]
  case restarts =>
    rw [exec_ocRestart awake due serves alone, if_neg few.not_ge]
    exact ⟨_, rfl, restartCell_cell fitted tripped⟩
  case failed =>
    rw [exec_ocRestart awake due serves alone, if_pos many]
  case account =>
    obtain ⟨u, run, cell, others⟩ := overloadAccountEmpty_becomes awake fitted
    have bound : boundToCont { s.cell n with ovld := 0, ovldLow := true } = true := boundToCont_of_low rfl
    refine ⟨u, run, ?_, ?_, ?_, ?_, others⟩ <;> rw [cell]
    · rfl
    · rfl
    · exact limitOf_le_iCont bound
    · exact powerLimitOf_le bound

/-! ### A cell leaves its cordon by plan (R70, R74) -/

/-- Fitting does not change where only the board does. -/
theorem BoardOnly.fitted {s t : State} (h : BoardOnly s t) (n : Nat) : cellFitted t n = cellFitted s n := by
  obtain ⟨_, _, _, _, rfl⟩ := h.elim; rfl

/-- A cell that leaves its cordon is in its new state with its switches off. -/
theorem leaveFor_cell {s : State} {n : Nat} (fitted : cellFitted s n = true) (st : CellState) :
    ((leaveFor n st s).cell n).state = st ∧ ((leaveFor n st s).cell n).mode = .off := by
  unfold leaveFor
  extract_lets c sp own t
  have board : BoardOnly s t := .ite (.ite (takeover_board ..) ((BoardOnly.refl s).modCordon ..)) (.refl s)
  rw [modCell_cell_self _ _ _ ((board.fitted n).trans fitted)]
  exact ⟨rfl, rfl⟩

/-- A cell that leaves its cordon stays fitted. -/
theorem leaveFor_fitted (s : State) (n m : Nat) (st : CellState) : cellFitted (leaveFor n st s) m = cellFitted s m := by
  unfold leaveFor
  extract_lets c sp own t
  have board : BoardOnly s t := .ite (.ite (takeover_board ..) ((BoardOnly.refl s).modCordon ..)) (.refl s)
  rw [modCell_fitted, board.fitted]

/-- A cell whose test begins. -/
theorem beginTest_cell {s : State} {n : Nat} (fitted : cellFitted s n = true) (byCmd : Bool) :
    ((beginTest n byCmd s).cell n).state = .selftest ∧ ((beginTest n byCmd s).cell n).mode = .off ∧
      ((beginTest n byCmd s).cell n).st.commanded = byCmd ∧ ((beginTest n byCmd s).cell n).st.waiting = false := by
  obtain ⟨state, mode⟩ := leaveFor_cell fitted .selftest
  rw [beginTest, modCell_cell_self _ _ _ ((leaveFor_fitted ..).trans fitted)]
  exact ⟨state, mode, rfl, rfl⟩

/-- A cell that can enter a test is none of those in trouble, in test or under update. -/
theorem testable_iff (x : CellState) : testable x = true ↔ x = .ready ∨ x = .standby ∨ x = .run := decide_eq_true_iff

theorem testable_excludes {x : CellState} (h : testable x = true) : x ≠ .failed ∧ x ≠ .selftest ∧ x ≠ .update := by
  rcases (testable_iff x).1 h with rfl | rfl | rfl <;> decide

/-! ### CEL_CMD (Tables 2-14 and 2-15) -/

/-- The refusal that every CEL_CMD code shares, once the module is awake. -/
theorem celRefusal_awake {s : State} (awake : Awake s) (n : Nat) : celRefusal s n =
    if cellFitted s n = false then 3 else if s.sys.mode = .limp ∨ s.sys.mode = .staging then 4 else 0 := by
  simp [celRefusal, awake.2]

section
variable {s : State} {n code : Nat} {f : State → State × Nat}

/-- A refused CEL_CMD answers its RESULT, and the cells stay. -/
theorem celCmd_refused (awake : Awake s) {r : Nat} (refused : celRefusal s n = r) (h : r ≠ 0) :
    ∃ u, act s (celCmd code n f) = .next (settle s u) ∧ u.cel.cmd.result = r ∧ u.cells = s.cells := by
  rw [act_awake s _ awake, celCmd, refused]
  exact ⟨_, rfl, by rw [if_pos h]; exact ⟨rfl, rfl⟩⟩

/-- A CEL_CMD that its block accepts has its effect, and answers its RESULT. -/
theorem celCmd_accepted (awake : Awake s) (accepts : celRefusal s n = 0) {t : State} {r : Nat} (effect : f s = (t, r)) :
    act s (celCmd code n f) = .next (settle s { t with cel := { t.cel with cmd := cmdRes code r } }) := by
  rw [act_awake s _ awake, celCmd, accepts, effect]
  rfl

/-- A CEL_CMD that finds its cell FAILED answers 5 (Table 2-15). -/
theorem celCmd_failed (awake : Awake s) (accepts : celRefusal s n = 0) (effect : f s = (s, 5)) :
    ∃ u, act s (celCmd code n f) = .next (settle s u) ∧ u.cel.cmd.result = 5 ∧ u.cells = s.cells :=
  ⟨_, celCmd_accepted awake accepts effect, rfl, rfl⟩
end

/-- Every CEL_CMD shares the refusals of `celRefusal`. -/
theorem cellCommands_refused {s : State} {n r : Nat} (awake : Awake s) (refused : celRefusal s n = r) (h : r ≠ 0) :
    ∀ c ∈ [Instr.startSelftest n, .restart n, .withdraw n, .returnCell n, .clearFailed n],
      ∃ u, exec c s = .next (settle s u) ∧ u.cel.cmd.result = r ∧ u.cells = s.cells := by
  simp only [List.forall_mem_cons, List.not_mem_nil, false_implies, implies_true, and_true]
  exact ⟨celCmd_refused awake refused h, celCmd_refused awake refused h, celCmd_refused awake refused h,
    celCmd_refused awake refused h, celCmd_refused awake refused h⟩

/-- A FAILED cell takes no CEL_CMD but CLEAR_FAILED. -/
theorem cellCommands_failed {s : State} {n : Nat} (awake : Awake s) (accepts : celRefusal s n = 0) (failed : (s.cell n).state = .failed) :
    ∀ c ∈ [Instr.startSelftest n, .restart n, .withdraw n, .returnCell n],
      ∃ u, exec c s = .next (settle s u) ∧ u.cel.cmd.result = 5 ∧ u.cells = s.cells := by
  simp only [List.forall_mem_cons, List.not_mem_nil, false_implies, implies_true, and_true]
  exact ⟨celCmd_failed awake accepts (if_pos failed), celCmd_failed awake accepts (if_pos failed),
    celCmd_failed awake accepts (if_pos failed), celCmd_failed awake accepts (if_pos failed)⟩

section
variable {s : State} {n : Nat} (awake : Awake s) (accepts : celRefusal s n = 0)
include awake accepts

/-- START_SELFTEST on a cell that can be relieved (R70). -/
theorem exec_startSelftest (ready : testable (s.cell n).state = true) (quiet : runOnCordon s n = false) (relieved : mayLeave s n = true) :
    exec (.startSelftest n) s = .next (settle s
      { beginTest n true s with cel := { (beginTest n true s).cel with cmd := cmdRes 1 0 } }) :=
  celCmd_accepted awake accepts (by simp [(testable_excludes ready).1, ready, quiet, relieved])

/-- RESTART of a tripped cell that has not reached the count of R63. -/
theorem exec_restart (spared : (s.cell n).state ≠ .failed) (few : ocCondemned (s.cell n) = false) :
    exec (.restart n) s = .next (settle s { restartCell n s with cel := { (restartCell n s).cel with cmd := cmdRes 2 0 } }) :=
  celCmd_accepted awake accepts (by simp [spared, few])

/-- WITHDRAW of a cell that can be relieved (R74). -/
theorem exec_withdraw (ready : testable (s.cell n).state = true) (inService : (s.cell n).withdrawn = false)
    (quiet : runOnCordon s n = false) (relieved : mayLeave s n = true) :
    let t := (leaveFor n .ready s).modCell n (fun x => { x with withdrawn := true })
    exec (.withdraw n) s = .next (settle s { t with cel := { t.cel with cmd := cmdRes 3 0 } }) := by
  obtain ⟨failed, test, update⟩ := testable_excludes ready
  exact celCmd_accepted awake accepts (by simp [failed, test, update, ready, inService, quiet, relieved])

/-- RETURN of a withdrawn cell (R74). -/
theorem exec_returnCell (spared : (s.cell n).state ≠ .failed) (withdrawn : (s.cell n).withdrawn = true) :
    let t := returnToCordon n (s.modCell n (fun x => { x with withdrawn := false }))
    exec (.returnCell n) s = .next (settle s { t with cel := { t.cel with cmd := cmdRes 4 0 } }) :=
  celCmd_accepted awake accepts (by simp [spared, withdrawn])
end

/-- A FAILED cell that is cleared: nothing latched, and its link trains anew. -/
def failureCleared (c : Cell) : Cell :=
  let d := linkLost { c with state := .training }
  { d with mode := .off, latched := [], portShort := false, restart := false, ocTimes := [], withdrawn := false, removed := false,
           engaged := false, link := { d.link with fails := 0, down := false, holding := false } }

/-- CLEAR_FAILED resets its cell and lets no other change. -/
theorem exec_clearFailed {s : State} {n : Nat} (awake : Awake s) (accepts : celRefusal s n = 0) (fitted : cellFitted s n = true)
    (failed : (s.cell n).state = .failed) :
    ∃ u, exec (.clearFailed n) s = .next (settle s u) ∧ u.cell n = failureCleared (s.cell n) ∧ u.cel.cmd = cmdRes 5 0 :=
  ⟨_, celCmd_accepted awake accepts rfl, (modCell_cell_self _ _ _ fitted).trans (if_pos failed), rfl⟩

/-- Settles O27: the shared refusals, then code by code. -/
theorem cellCommandRows : Obligations.CellCommandRows := by
  intro s n awake
  refine ⟨fun absent => ?absent, fun fitted mode => ?mode, fun fitted notLimp notStaging => ?takes⟩
  case absent =>
    exact cellCommands_refused awake (by rw [celRefusal_awake awake, if_pos absent]) (by decide)
  case mode =>
    exact cellCommands_refused awake (by simp [celRefusal_awake awake, fitted, mode]) (by decide)
  case takes =>
    have accepts : celRefusal s n = 0 := by simp [celRefusal_awake awake, fitted, notLimp, notStaging]
    refine ⟨fun ready quiet relieved => ?selftest, fun tripped few => ?restart, fun ready inService quiet relieved => ?withdraw,
      fun spared withdrawn => ?returned, fun failed => ?cleared, fun failed => cellCommands_failed awake accepts failed⟩
    case selftest =>
      obtain ⟨state, mode, byCmd, -⟩ := beginTest_cell fitted true
      exact ⟨_, exec_startSelftest awake accepts ready quiet relieved, state, mode, byCmd, rfl⟩
    case restart =>
      obtain ⟨due, released⟩ := restartCell_cell fitted tripped
      exact ⟨_, exec_restart awake accepts (by simp [tripped]) few, due, released, rfl⟩
    case withdraw =>
      obtain ⟨state, mode⟩ := leaveFor_cell fitted .ready
      have own := modCell_cell_self (leaveFor n .ready s) n (fun x => { x with withdrawn := true }) ((leaveFor_fitted ..).trans fitted)
      exact ⟨_, exec_withdraw awake accepts ready inService quiet relieved, (congrArg Cell.withdrawn own).trans rfl,
        (congrArg Cell.state own).trans state, (congrArg Cell.mode own).trans mode, rfl⟩
    case returned =>
      have own := modCell_cell_self s n (fun x => { x with withdrawn := false }) fitted
      exact ⟨_, exec_returnCell awake accepts spared withdrawn,
        ((returnToCordon_core ..).withdrawn n).trans (congrArg Cell.withdrawn own), rfl⟩
    case cleared =>
      obtain ⟨u, run, cell, answer⟩ := exec_clearFailed awake accepts fitted failed
      exact ⟨u, run, by simp [cell, failureCleared, linkLost], by simp [cell, failureCleared], by simp [cell, failureCleared],
        by simp [cell, failureCleared, linkLost], answer⟩

/-! ### Self-tests and microcode transfers (R69, R70, R71, R190) -/

section
variable {s : State} {n : Nat} (works : working s.sys.mode = true) (ready : testable (s.cell n).state = true)
  (inService : (s.cell n).withdrawn = false)
include works ready inService

/-- A test that is due begins once the cell can be relieved (R70). -/
theorem scheduledTest_begins (quiet : runOnCordon s n = false) (relieved : mayLeave s n = true) :
    scheduledTest n s = beginTest n (s.cell n).st.commanded s := by
  simp [scheduledTest, works, ready, inService, quiet, relieved]
/-- It waits for the end of an impedance run on the cordon (R190). -/
theorem scheduledTest_waits (busy : runOnCordon s n = true) :
    scheduledTest n s = s.modCell n (fun x => { x with st := { x.st with waiting := true } }) := by
  simp [scheduledTest, works, ready, inService, busy]
end

/-- The completion mark of a slot leaves where the transfer writes, and which slot runs. -/
theorem ucMark_keeps (c : Cell) : (ucMark c).ucInto = c.ucInto ∧ (ucMark c).activeSlot = c.activeSlot ∧ (ucMark c).state = c.state := by
  unfold ucMark modSlot; split_ifs <;> exact ⟨rfl, rfl, rfl⟩

/-- The slot that runs after a transfer: the slot written where the transfer succeeded and the slot verifies; else the one that ran,
unless the slot written is that one and does not verify (R69). -/
def slotAfter (ok : Bool) (c : Cell) : Nat :=
  let good := decide (slotCode (slotOf c c.ucInto) = 2)
  if ok && good && decide (c.ucInto ≠ 0) then c.ucInto else if c.activeSlot = c.ucInto ∧ good = false then 0 else c.activeSlot

/-- A transfer that is whole, into a slot that verifies with its mark, makes that slot active. -/
theorem slotAfter_ucMark {c : Cell} (into : c.ucInto ≠ 0) (good : slotCode (slotOf (ucMark c) c.ucInto) = 2) :
    slotAfter true (ucMark c) = c.ucInto := by
  simp [slotAfter, (ucMark_keeps c).1, good, into]
/-- A failed transfer leaves another active slot. -/
theorem slotAfter_failed {c : Cell} (other : c.activeSlot ≠ c.ucInto) : slotAfter false c = c.activeSlot := by
  simp [slotAfter, other]

/-- The cell after a transfer: reset, and its link trains anew (R69). -/
def transferEnded (ok : Bool) (c : Cell) : Cell :=
  { linkLost (if ok then ucMark c else c) with
    activeSlot := slotAfter ok (if ok then ucMark c else c), mode := .off, ucFill := 0, ucInto := 0 }

/-- The end of a transfer resets the cell (R69). -/
theorem microcodeTransferEnd_becomes {s : State} {n : Nat} (awake : Awake s) (fitted : cellFitted s n = true)
    (updating : (s.cell n).state = .update) (ok : Bool) : CellBecomes (.microcodeTransferEnd n ok) s n (transferEnded ok (s.cell n)) := by
  change ∃ u, execMicrocodeTransferEnd n ok s = .next (settle s u) ∧ _
  rw [execMicrocodeTransferEnd, act_awake s _ awake]
  exact modCell_becomes fitted (if_neg (not_not.2 updating))

/-- A cell under update trains anew. -/
theorem transferEnded_state {c : Cell} (updating : c.state = .update) (ok : Bool) : (transferEnded ok c).state = .training := by
  have still : (if ok then ucMark c else c).state = .update := by
    split
    · exact (ucMark_keeps c).2.2.trans updating
    · exact updating
  simp [transferEnded, linkLost, still]

/-- Settles O28: a test from its due instant to its end, then a microcode transfer. -/
theorem selfTestRows : Obligations.SelfTestRows := by
  refine ⟨fun s n awake fitted => ⟨fun works ready inService => ⟨fun quiet relieved => ?due, fun busy => ?waits,
      fun quiet relieved aborted => ?again⟩, fun testing => ⟨fun a => ?passes, fun a => ?fails, fun few => ?aborts⟩, fun idle => ?idle⟩,
    fun s n ok awake fitted updating => ?transfer⟩
  case due =>
    obtain ⟨state, mode, -, waiting⟩ := beginTest_cell fitted (s.cell n).st.commanded
    refine ⟨beginTest n (s.cell n).st.commanded s, ?_, state, mode, waiting⟩
    change execSelftestDue n s = _
    rw [execSelftestDue, act_awake s _ awake, scheduledTest_begins works ready inService quiet relieved]
  case waits =>
    change ∃ u, execSelftestDue n s = _ ∧ _
    rw [execSelftestDue, act_awake s _ awake, scheduledTest_waits works ready inService busy]
    exact ⟨_, rfl, by rw [modCell_cell_self _ _ _ fitted]; exact ⟨rfl, rfl⟩⟩
  case again =>
    obtain ⟨state, mode, -⟩ := beginTest_cell fitted (s.cell n).st.commanded
    refine ⟨beginTest n (s.cell n).st.commanded s, ?_, state, mode⟩
    change execSelftestReschedule n s = _
    rw [execSelftestReschedule, act_awake s _ awake, if_pos aborted, scheduledTest_begins works ready inService quiet relieved]
  case passes =>
    change execSelftestComplete n true a s = _
    rw [execSelftestComplete, act_awake s _ awake, if_neg (not_not.2 testing)]
    rfl
  case fails =>
    change execSelftestComplete n false a s = _
    rw [execSelftestComplete, act_awake s _ awake, if_neg (not_not.2 testing)]
    rfl
  case aborts =>
    have notThird : ¬ (s.cell n).st.aborts + 1 = 3 := by omega
    change act s (abortTest n) = _
    rw [act_awake s _ awake, abortTest, if_neg (not_not.2 testing), abortRecord]
    simp only [notThird, if_false]
  case idle =>
    change act s (abortTest n) = _
    rw [act_awake s _ awake, abortTest_of_ne idle]
  case transfer =>
    obtain ⟨u, run, cell, -⟩ := microcodeTransferEnd_becomes awake fitted updating ok
    refine ⟨u, run, ?_, ?_, ?_, ?_, ?_, fun h into good => ?_, fun h other => ?_⟩ <;> rw [cell]
    · exact transferEnded_state updating ok
    · rfl
    · rfl
    · rfl
    · rfl
    · rw [h]; exact slotAfter_ucMark into good
    · rw [h]; exact slotAfter_failed other

end Sys2Proof.Laws
end

section
/-! SUPPORT. What a cell and the module do on their own cask reading: the engage of a standby cell, absorption, the chopper gate and
the regeneration overvoltage. -/

namespace Sys2Proof.Laws
open Sys2Proof Sys2Proof.Machine

/-! ### Engage (R57, R134, R135) -/

/-- A change of a cell is what it makes of that cell. -/
theorem modCell_congr {s : State} {n : Nat} {f g : Cell → Cell} (h : f (s.cell n) = g (s.cell n)) : s.modCell n f = s.modCell n g := by
  unfold State.modCell
  split
  · congr 1
    unfold bankMod
    split
    next inBank =>
      have : f s.cells[n - 1] = g s.cells[n - 1] := by simpa [State.cell, bankGet, inBank] using h
      rw [this]
    next => rfl
  · rfl

/-- What an engage does beside the cells leaves the modes and the power path. -/
theorem cordonEngages_keeps (c r : Nat) (s : State) : (cordonEngages c r s).sys = s.sys ∧ (cordonEngages c r s).pwr = s.pwr := by
  unfold cordonEngages; dsimp only; split <;> exact ⟨rfl, rfl⟩

/-- The module on whose cell n engages on its own cask reading, at V_ENGAGE and down to its string's cut-off (R57, R166). -/
def selfEngaged (n : Nat) (s : State) : State :=
  s.modCell n (engageCell false (s.cell n).sp.vEngage (cutoffV s (servedCordon s n)))

/-- A cell that is not engaged runs in CASK_V at V_ENGAGE, its string's cut-off the least port voltage. -/
theorem selfEngaged_eq {s : State} {n : Nat} (free : (s.cell n).engaged = false) : selfEngaged n s =
    s.modCell n (fun y => { y with state := .run, mode := .caskV, engaged := true, engagedBySet := false, absorbing := false,
                                   regulating := false,
                                   sp := { y.sp with vSet := (s.cell n).sp.vEngage, vMin := max y.sp.vMin (cutoffV s (servedCordon s n)),
                                                     iAc := 0, mode := .caskV } }) :=
  modCell_congr (by simp [engageCell, free])

/-- How the module's path follows a cell that has engaged (R133, R134, R135). -/
def pathFollows (s : State) : State :=
  if s.sys.mode = .limp then limpSet s
  else match s.pwr.path with
    | .changeover => engageSets s
    | .fed => { s with pwr := { s.pwr with supplement := true } }
    | .unfed => { s with pwr := { s.pwr with path := .carried } }
    | _ => s

/-- A standby cell of a BATTERY cordon engages, its cordon with it, and the path follows. -/
theorem exec_engage {s : State} {n : Nat} (awake : Awake s) (role : (s.cordon (servedCordon s n)).e.role = .battery)
    (on : switching (s.cell n) = true) (free : (s.cell n).engaged = false) (level : (s.cell n).sp.vEngage ≠ 0)
    (standby : (s.cell n).mode = .standby) : exec (.engage n) s = .next (settle s (pathFollows
      (cordonEngages (servedCordon s n) (if s.pwr.path = .fed then 3 else 1) (selfEngaged n s)))) := by
  have path : (selfEngaged n s).pwr = s.pwr := modCell_pwr ..
  change execEngage n s = _
  rw [execEngage, act_awake s _ awake, if_pos ⟨role, on, free, level, .inr (.inl standby)⟩, ← path]
  rfl

section
variable {s t : State} (sys : t.sys = s.sys) (pwr : t.pwr = s.pwr)
include sys

/-- In LIMP the set of Table 4-6 is applied anew. -/
theorem pathFollows_limp (mode : s.sys.mode = .limp) : pathFollows t = limpSet t := if_pos (by rw [sys, mode])

include pwr

/-- Without a feeding path the strings carry the module. -/
theorem pathFollows_unfed (mode : s.sys.mode ≠ .limp) (path : s.pwr.path = .unfed) :
    pathFollows t = { t with pwr := { s.pwr with path := .carried } } := by
  simp [pathFollows, sys, pwr, mode, path]
/-- Beside a feeding path they supplement it (R133). -/
theorem pathFollows_fed (mode : s.sys.mode ≠ .limp) (path : s.pwr.path = .fed) :
    pathFollows t = { t with pwr := { s.pwr with supplement := true } } := by
  simp [pathFollows, sys, pwr, mode, path]
end

/-! ### Absorption (R207 to R210) -/

/-- What every change of a cell keeps holds of it after a change of several cells. -/
theorem modCells_cell_keeps {P : Cell → Prop} {f : Nat → Cell → Cell} (keeps : ∀ m c, P c → P (f m c)) (ns : List Nat) {s : State}
    {n : Nat} (h : P (s.cell n)) : P ((s.modCells ns f).cell n) := by
  unfold State.modCells
  induction ns generalizing s with
  | nil => exact h
  | cons m ns ih =>
    refine ih ?_
    rw [modCell_cell]
    split
    · exact keeps m _ h
    · exact h

/-- The cell takes the absorbed current with its cask held (R210). -/
def Absorbs (c : Cell) : Prop := c.absorbing = true ∧ c.mode = .caskV ∧ c.state = .run

/-- The change of a fitted cell that begins to absorb, whatever becomes of its string's impedance run. -/
theorem absorbs_begun {s : State} {n i : Nat} {f : EisRun → EisRun} (fitted : cellFitted s n = true) :
    Absorbs (((s.modCell n (fun x => { x with state := .run, mode := .caskV, absorbing := true })).modRun i f).cell n) := by
  rw [modRun_cell, modCell_cell_self _ _ _ fitted]
  exact ⟨rfl, rfl, rfl⟩

/-- A cell that may absorb takes the absorbed current with its cask held, and its charge is suspended (R210). -/
theorem exec_absorbEntry {s : State} {n : Nat} (awake : Awake s) (fitted : cellFitted s n = true) (share : (s.cell n).sp.share ≠ 0)
    (on : switching (s.cell n) = true) (free : (s.cell n).engaged = false) (idle : (s.cell n).absorbing = false)
    (role : (s.cordon (servedCordon s n)).e.role = .battery) : ∃ u, exec (.absorbEntry n) s = .next (settle s u) ∧
      Absorbs (u.cell n) := by
  change ∃ u, execAbsorbEntry n s = _ ∧ _
  rw [execAbsorbEntry, act_awake s _ awake, if_neg (by simp [share, on, free, idle, role])]
  refine ⟨_, rfl, ?_⟩
  dsimp only
  split
  · exact absorbs_begun fitted
  · rw [modChg_cell]
    refine modCells_cell_keeps ?_ _ ?_
    · exact fun _ _ ⟨absorbing, mode, state⟩ => ⟨absorbing, mode, state⟩
    · exact absorbs_begun fitted

/-! ### The chopper gate and the regeneration overvoltage (R207, R211, R213, R215) -/

section
variable (s : State)

/-- The start of an episode leaves the gate. -/
theorem regenStart_brk : (regenStart s).ppt.regen.brk = s.ppt.regen.brk := by
  unfold regenStart; dsimp only; split <;> rfl
/-- The end of an episode leaves the gate and its time. -/
theorem regenTidy_brk : (regenTidy s).ppt.regen.brk = s.ppt.regen.brk ∧ (regenTidy s).ppt.regen.brkTime = s.ppt.regen.brkTime := by
  unfold regenTidy
  dsimp only
  split
  · exact ⟨rfl, rfl⟩
  · split <;> exact ⟨rfl, rfl⟩
  · split <;> exact ⟨rfl, rfl⟩
/-- The start of an episode leaves the image in force. -/
theorem regenStart_boardImage : boardImage (regenStart s) = boardImage s := by rw [regenStart_ppt]; rfl
end

/-- The gate of a fitted chopper rises from low (R213). -/
theorem brkRise_rises {s : State} (fitted : chopperFitted (boardImage s) = true) (low : s.ppt.regen.brk = false) :
    (brkRise s).ppt.regen.brk = true ∧ (brkRise s).ppt.regen.state = .chop ∧ (brkRise s).ppt.regen.brkAt = s.now := by
  have now : (regenStart s).now = s.now := by rw [regenStart_ppt]
  simp [brkRise, regenStart_boardImage, regenStart_brk, fitted, low, now]
/-- A gate that is high rises no further. -/
theorem brkRise_high {s : State} (high : s.ppt.regen.brk = true) : brkRise s = regenStart s := by
  simp [brkRise, regenStart_brk, high]

/-- Settles O36: engage, absorption, gate and overvoltage. -/
theorem caskReadingRows : Obligations.CaskReadingRows := by
  refine ⟨fun s n awake => ?engages, fun s n awake => ⟨fun share on free idle role fitted => ?absorbs, fun share => ?noShare,
    fun absorbing standby on fitted => ?releases, fun fitted low => ?rises, fun high => ?falls, fun high => ?risen, fun low => ?fallen,
    fun high raised under => ?ovKnown, fun high first => ?ovRaised⟩⟩
  case engages =>
    intro c x t role on free level standby
    have cell : selfEngaged n s = t := selfEngaged_eq free
    have engages := exec_engage awake role on free level standby
    have keeps : ∀ r, (cordonEngages c r t).sys = s.sys ∧ (cordonEngages c r t).pwr = s.pwr := fun r =>
      ⟨(cordonEngages_keeps c r t).1.trans (modCell_sys ..), (cordonEngages_keeps c r t).2.trans (modCell_pwr ..)⟩
    refine ⟨fun mode path => ?carried, fun mode path => ?supplement, fun mode path => ?limp⟩
    case carried =>
      rw [engages, cell, if_neg (by simp [path]), pathFollows_unfed (keeps 1).1 (keeps 1).2 (by simp [mode]) path]
    case supplement =>
      rw [engages, cell, if_pos path, pathFollows_fed (keeps 3).1 (keeps 3).2 (by simp [mode]) path]
    case limp =>
      rw [engages, cell, if_neg path, pathFollows_limp (keeps 1).1 mode]
  case absorbs => exact exec_absorbEntry awake fitted share on free idle role
  case noShare =>
    change execAbsorbEntry n s = _
    rw [execAbsorbEntry, act_awake s _ awake, if_pos (.inl share)]
  case releases =>
    change execAbsorbRelease n s = _
    rw [execAbsorbRelease, act_awake s _ awake]
  case rises => exact ⟨_, act_awake s brkRise awake, brkRise_rises fitted low⟩
  case falls =>
    change ∃ u, execBrkGateFall s = _ ∧ _
    rw [execBrkGateFall, act_awake s _ awake, if_neg (by simp [high])]
    exact ⟨_, rfl, regenTidy_brk _⟩
  case risen =>
    change act s brkRise = _
    rw [act_awake s _ awake, brkRise_high high]
  case fallen =>
    change execBrkGateFall s = _
    rw [execBrkGateFall, act_awake s _ awake, if_pos (by simp [low])]
  case ovKnown =>
    change execRegenOv s = _
    rw [execRegenOv, act_awake s _ awake, if_neg (by simp [raised]), if_neg (by simp [under])]
  case ovRaised =>
    change execRegenOv s = _
    rw [execRegenOv, act_awake s _ awake, if_pos ⟨high, first⟩]

end Sys2Proof.Laws
end

section
/-! SUPPORT. The restart of a stopped cordon and the write of the last good copy. -/

namespace Sys2Proof.Laws
open Sys2Proof Sys2Proof.Machine

/-! ### RESTART_CORDON (R97, Table 3-11) -/

section
variable {s : State} {n : Nat}

/-- In LIMP a restart is refused before the cordon's state is asked. -/
theorem crdRestart_limp (mode : s.sys.mode = .limp) : crdRestart n s = { s with str := { s.str with cmd := cmdRes 1 2 } } :=
  if_pos (.inl mode)

variable (awake : Awake s) (mode : s.sys.mode ≠ .limp)
include awake mode

/-- Only a STOPPED cordon is restarted. -/
theorem crdRestart_notStopped (other : (s.cordon n).state ≠ .stopped) :
    crdRestart n s = { s with str := { s.str with cmd := cmdRes 1 1 } } := by
  unfold crdRestart
  rw [if_neg (not_or.mpr ⟨mode, awake.2⟩), if_pos other]

/-- A stopped SYSTEM cordon is IDLE again, the times of its short circuits gone. -/
theorem crdRestart_stopped (stopped : (s.cordon n).state = .stopped) (role : (s.cordon n).e.role = .system) (known : 0 < n ∧ n ≤ 7) :
    ((crdRestart n s).cordon n).state = .idle ∧ ((crdRestart n s).cordon n).shortTimes = [] ∧ (crdRestart n s).str.cmd = cmdRes 1 0 := by
  have window : ∀ (t : State) (f : Cordon → Cordon), (t.modCordon n f).cordon n = f (t.cordon n) := fun t f => by
    rw [modCordon_cordon, if_pos ⟨rfl, known⟩]
  unfold crdRestart
  rw [if_neg (not_or.mpr ⟨mode, awake.2⟩), if_neg (not_not.mpr stopped)]
  dsimp only
  rw [if_neg (by simp [role])]
  refine ⟨?_, ?_, rfl⟩
  · exact congrArg Cordon.state (window ..)
  · exact congrArg Cordon.shortTimes (window ..)
end

/-! ### The last good copy (R93) -/

/-- An image that the newer slot holds is not written again. -/
theorem lgcWrite_held {im : Image} {s : State} (held : (lgcPick s).map (lgcBytes s) = some im) : lgcWrite im s = s := if_pos held

/-- The command on a module that is awake: the image that waits is written, and no longer waits. -/
theorem exec_lastGoodCopyWrite {s : State} (awake : Awake s) (due : s.str.copyDue = true) : exec .lastGoodCopyWrite s =
    .next (settle s { lgcWrite s.str.image s with str := { (lgcWrite s.str.image s).str with copyDue := false } }) := by
  change execLastGoodCopyWrite s = _
  rw [execLastGoodCopyWrite, act_awake s _ awake, if_pos due]

/-- Settles O29: a restart by the mode and the cordon's state, a copy by what the newer slot holds (`lgcWrite_holds`). -/
theorem cordonAndCopyRows : Obligations.CordonAndCopyRows := by
  refine ⟨fun s n awake => ⟨fun mode => ?limp, fun mode other => ?notStopped, fun mode stopped role low high => ?restarts⟩,
    fun s awake => ⟨fun due held => ?held, fun due differs => ?written, fun idle => ?notDue⟩⟩
  case limp => exact (act_awake s _ awake).trans (by rw [crdRestart_limp mode])
  case notStopped => exact (act_awake s _ awake).trans (by rw [crdRestart_notStopped awake mode other])
  case restarts => exact ⟨_, act_awake s _ awake, crdRestart_stopped awake mode stopped role ⟨low, high⟩⟩
  case held => rw [exec_lastGoodCopyWrite awake due, lgcWrite_held held]
  case written =>
    obtain ⟨⟨m, b, u, cellarOnly⟩, holds⟩ := lgcWrite_holds s.str.image s differs
    refine ⟨_, exec_lastGoodCopyWrite awake due, rfl, ?_, ?_, ?_, holds⟩ <;> rw [cellarOnly]
  case notDue =>
    change execLastGoodCopyWrite s = _
    rw [execLastGoodCopyWrite, act_awake s _ awake, if_neg (by simp [idle])]

end Sys2Proof.Laws
end

section
/-! SUPPORT. The modes and the start: what a module without logic rail, or in SHIP, keeps; SERVICE, CORE_RESET and the LIMP lock; READY
and its timeout; LIMP, its warm restart and its sources; the cold start, the loss of the logic rail and the crystal. -/

namespace Sys2Proof.Laws
open Sys2Proof Sys2Proof.Machine

/-! ### Without a logic rail and in SHIP (R39, R98, R204) -/

/-- Settles O4: every command but the four of the always-on and wake logic acts through the frame `act`, whose condition fails. -/
theorem asleepKeepsAll : Obligations.AsleepKeepsAll := by
  intro c s asleep
  cases c
  case powerOnReset | logicRailFail | shipWake | longPressHoldEnd => exact trivial
  all_goals exact congrArg Host.Outcome.next (if_neg asleep)

/-! ### What a LIMP cause does to the core (R107, R118) -/

/-- A core reset stops the main image; its code, where Table 4-9 has one, is the cause shown. -/
theorem coreReset_stops {k : Nat} (code : k ≠ 0) (a : Word) (s : State) :
    (coreReset k a s).sys.mainRuns = false ∧ (coreReset k a s).sys.coreCause = k := by
  unfold coreReset
  simp only [queueRecord_sys]
  exact ⟨rfl, if_neg code⟩

/-- Every LIMP cause but a watchdog expiry ends in a core reset. -/
theorem limpEntry_coreReset {c : Nat} (cause : c ≠ 1) (k : Nat) (a : Word) {s : State} (awake : Awake s) :
    ∃ t, limpEntry c k a s = coreReset k a t := by
  unfold limpEntry
  rw [if_neg (by simp [awake.1, awake.2])]
  exact ⟨_, if_neg cause⟩

/-- The module is in HELD with cause `c`, the main image stopped by a core reset of code `k`. -/
structure HeldByReset (c k : Nat) (u : State) : Prop where
  mode : u.sys.mode = .limp
  sub : u.sys.sub = .held
  reason : u.sys.reason = c
  mainRuns : u.sys.mainRuns = false
  coreCause : u.sys.coreCause = k

theorem limpEntry_heldByReset {c k : Nat} (cause : c ≠ 1) (code : k ≠ 0) (a : Word) {s : State} (awake : Awake s) :
    HeldByReset c k (limpEntry c k a s) := by
  obtain ⟨mode, sub, reason⟩ := limpEntry_enters c k a s awake.2 awake.1
  obtain ⟨t, reset⟩ := limpEntry_coreReset cause k a awake
  obtain ⟨mainRuns, coreCause⟩ := coreReset_stops code a t
  exact ⟨mode, sub, reason, reset ▸ mainRuns, reset ▸ coreCause⟩

/-! ### SERVICE (R99, R116, R117) -/

/-- A record queued leaves the fault collector. -/
theorem queueRecord_flt (k n a : Nat) (ad w : Word) (x y : Bool) (s : State) : (queueRecord k n a ad w x y s).flt = s.flt := by
  unfold queueRecord; split <;> rfl
/-- A change of mode leaves the fault collector. -/
theorem setMode_flt (m : Mode) (s : State) : (setMode m s).flt = s.flt := by
  unfold setMode
  split
  · rfl
  · exact queueRecord_flt ..
/-- A change of mode leaves the result of the last command. -/
theorem setMode_cmd (m : Mode) (s : State) : (setMode m s).sys.cmd = s.sys.cmd := by
  unfold setMode
  split
  · rfl
  · simp only [record, queueRecord_sys]
/-- Entering SERVICE keeps the end of the lease. -/
theorem setMode_service_leaseEnd (s : State) : (setMode .service s).sys.leaseEnd = s.sys.leaseEnd := by
  unfold setMode
  split
  · rfl
  · simp only [record, queueRecord_sys, if_true]
/-- A change to any other mode ends the lease. -/
theorem setMode_leaseEnd {m : Mode} {s : State} (change : s.sys.mode ≠ m) (other : m ≠ .service) : (setMode m s).sys.leaseEnd = 0 := by
  unfold setMode
  rw [if_neg change]
  simp only [record, queueRecord_sys, if_neg other]
/-- The mode that a feed gives is not SERVICE. -/
theorem feedMode_ne_service (s : State) : feedMode s ≠ .service := by unfold feedMode; split <;> decide

section
variable {s : State}

/-- ENTER_SERVICE with a lease that Table 4-11 allows, from a working mode (R116). -/
theorem sysEnterService_enters {l : Nat} (mode : working s.sys.mode = true) (stays : s.eis.shipRun = false) (low : 1 ≤ l) (high : l ≤ 60) :
    (sysEnterService l s).sys.mode = .service ∧ (sysEnterService l s).sys.leaseEnd = s.now + l * 60000000 ∧
    (sysEnterService l s).sys.cmd = cmdRes 1 0 := by
  unfold sysEnterService
  rw [if_neg (by simp [mode, stays]), if_neg (by omega)]
  exact ⟨setMode_mode .., setMode_service_leaseEnd _, rfl⟩
/-- A lease outside 1 to 60 min is refused. -/
theorem sysEnterService_lease {l : Nat} (mode : working s.sys.mode = true) (stays : s.eis.shipRun = false) (lease : l = 0 ∨ 60 < l) :
    sysEnterService l s = sysRes 1 5 s := by
  unfold sysEnterService
  rw [if_neg (by simp [mode, stays]), if_pos lease]
/-- Outside the working modes, and while SHIP is entered, ENTER_SERVICE is refused. -/
theorem sysEnterService_refused (l : Nat) (refused : working s.sys.mode = false ∨ s.eis.shipRun = true) :
    sysEnterService l s = sysRes 1 3 s := by
  unfold sysEnterService
  rw [if_pos (by simpa using refused)]

/-- The end of SERVICE: the mode follows the feeds, the lease and a force of a fault source end (R117). -/
theorem leaveServiceNow_leaves (mode : s.sys.mode = .service) :
    (leaveServiceNow s).sys.mode = (if ownPathUsable (serviceEnds s) then .normal else .reserve) ∧
    (leaveServiceNow s).sys.leaseEnd = 0 ∧ (leaveServiceNow s).sys.cmd = s.sys.cmd ∧ (leaveServiceNow s).flt.force = none := by
  have change : (serviceEnds s).sys.mode ≠ feedMode (serviceEnds s) := fun same => feedMode_ne_service _ (same.symm.trans mode)
  exact ⟨setMode_mode .., setMode_leaseEnd change (feedMode_ne_service _), setMode_cmd .., congrArg Flt.force (setMode_flt ..)⟩

/-! ### CORE_RESET and CLEAR_LIMP_LOCK (R106, R115) -/

/-- CORE_RESET with its key is a LIMP cause in a working mode and refused in the others. -/
theorem sysCoreReset_key : sysCoreReset 0x5A s = if working s.sys.mode then limpEntry 6 2 0 (sysRes 3 0 s) else sysRes 3 3 s := by
  unfold sysCoreReset
  rw [if_neg (not_not.mpr rfl)]
  cases working s.sys.mode <;> rfl
/-- CORE_RESET with a wrong key is refused in every mode. -/
theorem sysCoreReset_wrongKey {k : Nat} (key : k ≠ 0x5A) : sysCoreReset k s = sysRes 3 2 s := if_pos key
/-- In LOCKED the LIMP count and the lock are cleared. -/
theorem sysClearLock_locked (mode : s.sys.mode = .limp) (sub : s.sys.sub = .locked) : sysClearLock s =
    sysRes 5 0 { s with sys := { s.sys with sub := .rom, entries := [] }, limp := { s.limp with locked := false } } :=
  if_neg (by simp [mode, sub])
/-- In another sub-state there is no lock to clear. -/
theorem sysClearLock_refused (sub : s.sys.sub ≠ .locked) : sysClearLock s = sysRes 5 6 s := if_pos (.inr sub)
end

/-- Settles O30: each command by its refusals in their order, then by what it does. -/
theorem serviceRows : Obligations.ServiceRows := by
  refine ⟨fun s awake => ⟨fun l mode stays low high => ?enters, fun l mode stays lease => ?lease, fun l refused => ?refused,
      fun mode stays => ⟨?leaves, ?expires⟩, fun mode => ⟨?notInService, ?noLease⟩⟩,
    fun s awake => ⟨fun mode => ?resets, fun k key => ?wrongKey, fun mode => ?wrongMode, fun mode sub => ?unlocks, fun sub => ?unlocked⟩⟩
  case enters => exact ⟨_, act_awake s _ awake, sysEnterService_enters mode stays low high⟩
  case lease => exact (act_awake s _ awake).trans (by rw [sysEnterService_lease mode stays lease, sysRes])
  case refused => exact (act_awake s _ awake).trans (by rw [sysEnterService_refused l refused, sysRes])
  case leaves =>
    obtain ⟨newMode, leaseEnd, _, force⟩ := leaveServiceNow_leaves mode
    refine ⟨sysRes 2 0 (leaveServiceNow s), (act_awake s _ awake).trans ?_, newMode, leaseEnd, rfl, force⟩
    rw [sysLeaveService, if_neg (by simp [mode, stays])]
  case expires =>
    refine ⟨leaveServiceNow s, ?_, leaveServiceNow_leaves mode⟩
    change execServiceLeaseExpiry s = _
    rw [execServiceLeaseExpiry, act_awake s _ awake, if_pos ⟨mode, stays⟩]
  case notInService => exact (act_awake s _ awake).trans (by rw [sysLeaveService, if_pos (.inl mode), sysRes])
  case noLease =>
    change execServiceLeaseExpiry s = _
    rw [execServiceLeaseExpiry, act_awake s _ awake, if_neg fun h => mode h.1]
  case resets =>
    obtain ⟨limp, sub, reason, mainRuns, coreCause⟩ :=
      limpEntry_heldByReset (c := 6) (k := 2) (by decide) (by decide) 0 (s := sysRes 3 0 s) awake
    exact ⟨_, (act_awake s _ awake).trans (by rw [sysCoreReset_key, if_pos mode]), limp, sub, reason, mainRuns, coreCause⟩
  case wrongKey => exact (act_awake s _ awake).trans (by rw [sysCoreReset_wrongKey key, sysRes])
  case wrongMode => exact (act_awake s _ awake).trans (by rw [sysCoreReset_key, if_neg (by simp [mode]), sysRes])
  case unlocks => exact (act_awake s _ awake).trans (by rw [sysClearLock_locked mode sub, sysRes])
  case unlocked => exact (act_awake s _ awake).trans (by rw [sysClearLock_refused sub, sysRes])

/-! ### READY and its timeout (R103, R113) -/

section
variable {s : State} (env : ColdEnv)

/-- Only the main image gives READY. -/
theorem sysReady_other {a : Agent} (other : a ≠ .mainImage) : sysReady a env s = sysRes 0x10 8 s := if_pos other
/-- READY that is not awaited is refused. -/
theorem sysReady_notAwaited (idle : s.sys.awaitReady = false) : sysReady .mainImage env s = sysRes 0x10 3 s := by
  rw [sysReady, if_neg (not_not.mpr rfl), if_pos idle]
/-- READY that is awaited: the start goes on, or LIMP checks its copy. -/
theorem sysReady_awaited (awaited : s.sys.awaitReady = true) : sysReady .mainImage env s =
    if s.sys.mode = .staging then finishStart env 0 0 (stepDone 8 (sysRes 0x10 0 s)) else warmReady (sysRes 0x10 0 s) := by
  rw [sysReady, if_neg (not_not.mpr rfl), if_neg (by simp [awaited])]

/-- The wait ends without READY: the start ends with LIMP cause 7, or LIMP begins anew with it (R103). -/
theorem exec_readyTimeout (awake : Awake s) (awaited : s.sys.awaitReady = true) : exec (.readyTimeout env) s = .next (settle s
    (if s.sys.mode = .staging then finishStart env 7 6 { s with sys := { s.sys with mainRuns := false, mainVintage := 0 } }
      else limpEntry 7 6 0 s)) := by
  change execReadyTimeout env s = _
  rw [execReadyTimeout, act_awake s _ awake, if_neg (by simp [awaited])]
end

/-- Settles O32: READY by who gives it, whether it is awaited and the mode; the timeout by the last two. -/
theorem readyRows : Obligations.ReadyRows := by
  refine fun s awake => ⟨fun a env other => ?other, fun env idle => ?notAwaited, fun env awaited mode => ?starts,
    fun env awaited mode => ?limp, fun env awaited mode => ?startFails, fun env awaited mode => ?heldAgain, fun env idle => ?noWait⟩
  case other => exact (act_awake s _ awake).trans (by rw [sysReady_other env other, sysRes])
  case notAwaited => exact (act_awake s _ awake).trans (by rw [sysReady_notAwaited env idle, sysRes])
  case starts => exact (act_awake s _ awake).trans (by rw [sysReady_awaited env awaited, if_pos mode, stepDone, sysRes])
  case limp => exact (act_awake s _ awake).trans (by rw [sysReady_awaited env awaited, if_neg (by simp [mode]), warmReady, sysRes])
  case startFails => rw [exec_readyTimeout env awake awaited, if_pos mode]
  case heldAgain =>
    obtain ⟨limp, sub, reason, mainRuns, coreCause⟩ := limpEntry_heldByReset (c := 7) (k := 6) (by decide) (by decide) 0 awake
    refine ⟨limpEntry 7 6 0 s, ?_, limp, sub, reason, mainRuns, coreCause⟩
    rw [exec_readyTimeout env awake awaited, if_neg (by simp [mode])]
  case noWait =>
    change execReadyTimeout env s = _
    rw [execReadyTimeout, act_awake s _ awake, if_pos idle]

/-! ### LIMP: causes, sub-states and warm restart (R106, R108, R113, R115) -/

/-- A LIMP cause from a working mode or within LIMP enters HELD with it, the watchdog's at once (R106). -/
theorem exec_limpCause_enters {s : State} {c : Nat} (awake : Awake s) (low : 1 ≤ c) (high : c ≤ 8) (mode : s.sys.mode ≠ .staging) :
    ∃ u, exec (.limpCause c) s = .next (settle s u) ∧ u.sys.mode = .limp ∧ u.sys.sub = .held ∧ u.sys.reason = c := by
  change ∃ u, execLimpCause c s = _ ∧ _
  rw [execLimpCause, act_awake s _ awake, if_neg (by simp [mode]; omega)]
  refine ⟨_, rfl, ?_⟩
  split
  next watchdog =>
    subst watchdog
    split <;> exact limpEntry_enters 1 _ _ _ awake.2 awake.1
  next => rw [warmAtOnceFrom, if_neg mode]; exact limpEntry_enters c _ _ s awake.2 awake.1

/-- The watchdog's start writes the watchdog alone; whether a written period has crossed may take a free value. -/
theorem wdgStart_eq (s : State) : ∃ w f, wdgStart s = { s with wdg := w, freeIx := f } := by
  have crossed : ∃ f, (periodCrossed s).2 = { s with freeIx := f } := by
    unfold periodCrossed
    dsimp only
    split
    · exact ⟨_, rfl⟩
    · split <;> exact ⟨_, rfl⟩
  obtain ⟨f, free⟩ := crossed
  unfold wdgStart wdgPeriod
  by_cases written : s.wdg.newPeriod.isSome
  · simp only [written, if_true, free]
    exact ⟨_, _, rfl⟩
  · simp only [written]
    exact ⟨_, _, rfl⟩

/-- The cores are released into the boot ROM: the host interface serves and the generator starts anew. -/
theorem releaseCores_opens (s : State) : (releaseCores s).sys = s.sys ∧ (releaseCores s).limp = s.limp ∧
    (releaseCores s).spi.serving = true ∧ (releaseCores s).cry.rng = .notReady := by
  unfold releaseCores
  obtain ⟨w, f, started⟩ := wdgStart_eq (rngStart s)
  rw [started]
  exact ⟨rfl, rfl, rfl, rfl⟩

/-- The state in which HELD ends: LOCKED from the fourth entry on or where the lock stands, else ROM (R108, R115). -/
def heldEnds (s : State) : State :=
  let lock := s.limp.locked || decide (4 ≤ limpCount s)
  { s with sys := { s.sys with sub := if lock then .locked else .rom }, limp := { s.limp with locked := lock } }

/-- HELD ends with the cores released, outside a trial of an image. -/
theorem exec_heldExpiry_released {s : State} (awake : Awake s) (mode : s.sys.mode = .limp) (sub : s.sys.sub = .held)
    (ends : s.limp.stayHeld = false) (trial : s.fls.trial = false) :
    exec .heldExpiry s = .next (settle s (releaseCores (heldEnds s))) := by
  change execHeldExpiry s = _
  rw [execHeldExpiry, act_awake s _ awake, if_neg (by simp [mode, sub, ends])]
  simp [trial, heldEnds]

/-- Settles O33: the causes and the sub-states of LIMP, then its sources and the cask. -/
theorem limpRows : Obligations.LimpRows := by
  refine ⟨fun s awake => ⟨fun c low high mode => exec_limpCause_enters awake low high mode, fun mode sub ends trial => ?released,
      fun stays => ?stays, fun mode sub warm count quiet copy => ?warmRestart, fun t => ⟨rfl, rfl, rfl, rfl, rfl⟩, fun unmet => ?unmet, ?ages⟩,
    fun s awake => ⟨fun mode power => ⟨fun r cordon role runs => ?readmits, fun none fitted => ?gate⟩, fun r mode => ?notLimp,
      fun held => ?held, fun mode => ?staging⟩⟩
  case released =>
    obtain ⟨sys, limp, serving, rng⟩ := releaseCores_opens (heldEnds s)
    refine ⟨_, exec_heldExpiry_released awake mode sub ends trial, ?_, ?_, serving, rng, ?_⟩
    · rw [sys]; simp [heldEnds]
    · rw [limp]; rfl
    · rw [sys]; exact mode
  case stays =>
    change execHeldExpiry s = _
    rw [execHeldExpiry, act_awake s _ awake, if_pos (.inr stays)]
  case warmRestart =>
    have met : warmMet s = true := by simp [warmMet, count, quiet, copy]
    change execWarmRestart s = _
    rw [execWarmRestart, act_awake s _ awake, if_neg (by simp [mode, sub, warm, met])]
  case unmet =>
    have refused : s.sys.sub ≠ .rom ∨ s.limp.warm ≠ 0 ∨ warmMet s = false := by
      rcases unmet with sub | warm | count | live
      · exact .inl sub
      · exact .inr (.inl warm)
      · exact .inr (.inr (by simp [warmMet, count]))
      · exact .inr (.inr (by simp [warmMet, live]))
    change execWarmRestart s = _
    rw [execWarmRestart, act_awake s _ awake, if_pos (.inr refused)]
  case ages =>
    change execLimpCountAge s = _
    rw [execLimpCountAge, act_awake s _ awake]
  case readmits =>
    change execLimpSourceReadmit r s = _
    rw [execLimpSourceReadmit, act_awake s _ awake, if_neg (by simp [mode, power]), if_neg cordon, if_pos ⟨role, runs⟩]
  case gate =>
    change execLimpSourceReadmit 0 s = _
    rw [execLimpSourceReadmit, act_awake s _ awake, if_neg (by simp [mode, power]), if_pos rfl, if_pos ⟨none, fitted⟩]
  case notLimp =>
    change execLimpSourceReadmit r s = _
    rw [execLimpSourceReadmit, act_awake s _ awake, if_pos (.inl mode)]
  case held =>
    change execCaskHeld s = _
    rw [execCaskHeld, act_awake s _ awake, if_pos held]
  case staging =>
    change execCaskHeld s = _
    rw [execCaskHeld, act_awake s _ awake, if_neg (by simp [mode, working])]

/-! ### The cold start (R37, R101, R118) -/

/-- What a cold start writes of the register groups of `Group`. -/
def ColdStartWrites : Group → Prop
  | .cellar | .otp | .inputs | .wakeCause | .settings | .badWords | .crystal | .address | .question | .life | .rng | .failed | .button |
    .ship | .changeover | .graft => True
  | _ => False
/-- What the loss of the logic rail may change; the array, the wake cause and the inputs outlast it. -/
def RailFailWrites : Group → Prop
  | .otp | .wakeCause | .inputs => False
  | _ => True
/-- What a sag of the logic rail may cut short. -/
def SagWrites : Group → Prop
  | .cellar | .flash | .flashOp => True
  | _ => False

/-- A cold reset starts from `coldState` and keeps what the start does not write. -/
theorem coldReset_keeps (was : Option Mode) (env : ColdEnv) (s : State) : Good ColdStartWrites (coldState s) (coldReset was env s) :=
  have allowed : True := trivial
  settle_good _ _ _ (coldStart_good was env _ _ (.refl _))

/-- With no operation under way the flash stays whole. -/
theorem flashCut_idle {s : State} (idle : s.fls.op = none) : flashCut s = s := by simp only [flashCut, idle]
/-- After a cut no operation is under way. -/
theorem flashCut_op (s : State) : (flashCut s).fls.op = none := by
  unfold flashCut
  split
  next idle => exact idle
  next => rfl

/-- With no flash operation cut a cold reset keeps both banks, whatever becomes of the Cellar (R118). -/
theorem coldState_banks {s r : State} (cellar : Good (· = .cellar) s r) (idle : s.fls.op = none) :
    (coldState r).fls.bank0 = s.fls.bank0 ∧ (coldState r).fls.bank1 = s.fls.bank1 := by
  have op : r.fls.op = none := (cellar.keeps.flashOp nofun).trans idle
  rw [coldState, flashCut_idle op]
  exact cellar.keeps.flash nofun

/-- What the Cellar was writing is cut short, and nothing else (R402). -/
theorem cellarCut_keeps (s : State) : Good (· = .cellar) s (cellarCut s) := cellarCut_good _ _ (.refl s) rfl

/-- A power-on reset is a cold reset of the state that stood, its Cellar perhaps cut short. -/
theorem exec_powerOnReset (env : ColdEnv) (s : State) :
    ∃ was r, exec (.powerOnReset env) s = .next (coldReset was env r) ∧ Good (· = .cellar) s r := by
  by_cases wake : s.wake = .none
  · exact ⟨none, cellarCut s, congrArg Host.Outcome.next (if_neg (not_not.mpr wake)), cellarCut_keeps s⟩
  · exact ⟨some .ship, s, congrArg Host.Outcome.next (if_pos wake), .refl s⟩

/-- What a cold reset starts anew (R118), and what it keeps of the stores. -/
structure StartsAnew (s t : State) : Prop where
  powered : t.powered = true
  now : t.now = 0
  bank0 : t.fls.bank0 = (coldState s).fls.bank0
  bank1 : t.fls.bank1 = (coldState s).fls.bank1
  applied : t.stg.applied = 0
  expiries : t.wdg.expiries = 0
  last : t.flt.last = 0
  lastAddr : t.flt.lastAddr = 0
  irqEn : t.spi.irqEn = 0

theorem coldReset_startsAnew (was : Option Mode) (env : ColdEnv) (s : State) : StartsAnew s (coldReset was env s) := by
  have kept := (coldReset_keeps was env s).keeps
  have powered := kept.powered id
  have flash := kept.flash id
  have clock := kept.clock id
  have applied := kept.applied id
  have expiry := kept.expiry id
  have lastEvent := kept.lastEvent id
  have irqEn := kept.irq id
  simp only [store, Prod.mk.injEq] at powered flash clock applied expiry lastEvent irqEn
  obtain ⟨bank0, bank1⟩ := flash
  obtain ⟨now, -⟩ := clock
  obtain ⟨applied, -⟩ := applied
  obtain ⟨expiries, -⟩ := expiry
  obtain ⟨last, lastAddr⟩ := lastEvent
  exact ⟨powered.trans rfl, now.trans rfl, bank0, bank1, applied.trans rfl, expiries.trans rfl, last.trans rfl, lastAddr.trans rfl,
    irqEn.trans rfl⟩

/-! ### The loss of the logic rail (R39, R42) -/

/-- The module once its logic rail has failed and its reset has re-armed. -/
def railLost (s : State) : State := { coldState (cellarCut s) with powered := false }

section
variable {s : State} {low : OrInputs}

/-- The inputs alone are noted where the rail has not failed. -/
theorem exec_logicRailFail_stays (r : Bool) (stays : s.powered = false ∨ railsUp low = true) :
    exec (.logicRailFail low r) s = .next { s with orIn := low } := congrArg Host.Outcome.next (if_pos stays)
/-- The rail has failed: by the re-arming of its reset and by the mode. -/
theorem exec_logicRailFail_fails (r : Bool) (powered : s.powered = true) (fails : railsUp low = false) :
    exec (.logicRailFail low r) s = .next (
      if r then railLost { s with orIn := low } else if s.sys.mode = .ship then { s with orIn := low }
      else settle { s with orIn := low } (sagTurnsBack { s with orIn := low })) :=
  congrArg Host.Outcome.next (if_neg (by simp [powered, fails]))
end

/-- What outlasts the logic rail. -/
theorem railLost_outlasts (s : State) : (railLost s).orIn = s.orIn ∧ (railLost s).hw = s.hw ∧ (railLost s).pending = s.pending ∧
    (railLost s).wake = s.wake ∧ (railLost s).lcs.otp = s.lcs.otp := by
  have kept : Keeps RailFailWrites (store s) (store (coldState (cellarCut s))) :=
    have allowed : True := trivial
    (coldState_good _ s (cellarCut_good _ _ (.refl s))).keeps
  exact ⟨kept.inputs id, kept.hw, kept.pending, kept.wakeCause id, kept.otp id⟩
/-- With no flash operation cut both banks outlast the logic rail. -/
theorem railLost_banks {s : State} (idle : s.fls.op = none) :
    (railLost s).fls.bank0 = s.fls.bank0 ∧ (railLost s).fls.bank1 = s.fls.bank1 := coldState_banks (cellarCut_keeps s) idle

/-- A sag that turns back leaves the module powered and marked (R465). -/
theorem sagTurnsBack_marked (s : State) : (sagTurnsBack s).upset = true ∧ (sagTurnsBack s).fls.op = none ∧
    (sagTurnsBack s).powered = s.powered ∧ (sagTurnsBack s).orIn = s.orIn := by
  have allowed : True := trivial
  have kept : Keeps SagWrites (store s) (store (sagTurnsBack s)) := (sagTurnsBack_good s s (.refl s)).keeps
  exact ⟨rfl, flashCut_op _, kept.powered id, kept.inputs id⟩

/-- Settles O22: the cold start by what a cold reset starts anew, the rail by whether it fails, re-arms and the mode; the crystal by the
mode and by what holds the clock. -/
theorem powerAndClockRows : Obligations.PowerAndClockRows := by
  refine ⟨fun s => ⟨fun env => ?coldStart, fun low r stays => exec_logicRailFail_stays r stays, fun low powered fails => ?railLost,
      fun low powered fails mode => ?inShip, fun low powered fails mode => ?sag⟩,
    fun s awake => ⟨fun mode => ?qualified, fun mode => ?late, fun crystal => ?lost, fun crystal => ?none⟩⟩
  case coldStart =>
    obtain ⟨was, r, answer, cellar⟩ := exec_powerOnReset env s
    obtain ⟨pending, hw⟩ := queueAndPartKept _ _ _ answer
    have anew := coldReset_startsAnew was env r
    exact ⟨_, answer, anew.powered, anew.now, hw, pending,
      fun idle => ⟨anew.bank0.trans (coldState_banks cellar idle).1, anew.bank1.trans (coldState_banks cellar idle).2⟩,
      anew.applied, anew.expiries, anew.last, anew.lastAddr, anew.irqEn⟩
  case railLost =>
    obtain ⟨inputs, hw, pending, wake, otp⟩ := railLost_outlasts { s with orIn := low }
    exact ⟨railLost { s with orIn := low }, exec_logicRailFail_fails true powered fails, rfl, inputs, rfl, rfl, hw, pending, wake, otp,
      fun idle => railLost_banks idle⟩
  case inShip => rw [exec_logicRailFail_fails false powered fails, if_neg Bool.false_ne_true, if_pos mode]
  case sag =>
    obtain ⟨upset, op, stillPowered, inputs⟩ := sagTurnsBack_marked { s with orIn := low }
    refine ⟨_, ?_, upset, op, stillPowered.trans powered, inputs⟩
    rw [exec_logicRailFail_fails false powered fails, if_neg Bool.false_ne_true, if_neg mode]
  case qualified =>
    change execCrystalQualified s = _
    rw [execCrystalQualified, act_awake s _ awake, if_pos mode]
  case late =>
    change execCrystalQualified s = _
    rw [execCrystalQualified, act_awake s _ awake, if_neg mode]
  case lost =>
    change execCrystalLost s = _
    rw [execCrystalLost, act_awake s _ awake, if_pos crystal]
  case none =>
    change execCrystalLost s = _
    rw [execCrystalLost, act_awake s _ awake, if_neg (by simp [crystal])]

end Sys2Proof.Laws
end

section
/-! SUPPORT. The power path: the reports, the qualification and the drop of a source path, then changeover, hand-back, supplement and
test drop. -/

namespace Sys2Proof.Laws
open Sys2Proof Sys2Proof.Machine

/-! ### Reports, qualification and drops (R122 to R125, R129, R140) -/

/-- An entry after its own change. -/
theorem modSrc_src_self {i : Nat} (low : 1 ≤ i) (high : i ≤ 8) (s : State) (f : Source → Source) :
    (s.modSrc i f).src i = f (s.src i) := by rw [modSrc_src, if_pos ⟨rfl, low, high⟩]

/-- A change of an entry leaves the state of the power path. -/
theorem modSrc_path (s : State) (i : Nat) (f : Source → Source) : (s.modSrc i f).pwr.path = s.pwr.path := rfl

section
variable {s : State} {i : Nat}

/-- Outside LIMP a report on a usable path gives its band alone, and a slope report nothing where the entry has no threshold (R123). -/
theorem reportBand_usable (low : 1 ≤ i) (high : i ≤ 8) (state : (s.src i).state = .usable) (mode : s.sys.mode ≠ .limp) (b : Band) :
    reportBand i b s = if b = .slope ∧ (s.src i).dvdt = 0 then s else s.modSrc i (fun x => { x with band := b }) := by
  by_cases noFailure : b = .slope ∧ (s.src i).dvdt = 0
  · simp [reportBand, noFailure, mode, state]
  · simp [reportBand, if_neg noFailure, mode, modSrc_src_self low high, state]

/-- The gate's path, which has no cordon, is valid as its latest report finds it (R122). -/
theorem pathValid_gate (present : (s.src i).state ≠ .absent) (gate : (s.src i).ref = 0) :
    pathValid s i = decide ((s.src i).band = .inside) := by simp [pathValid, present, gate]
/-- The gate's path has no SRC_ID pin to read (R129). -/
theorem readSrcId_gate (gate : (s.src i).ref = 0) (mv : Nat) : readSrcId i mv s = s := by simp [readSrcId, gate]
/-- The gate's path is of the type its entry declares (R130). -/
theorem findType_gate (gate : (s.src i).ref = 0) (declared : (s.src i).declared ≠ 0) : findType s i = ((s.src i).declared, 3) := by
  simp [findType, gate, declared]

/-- The module whose SRC_ID pin of entry i is yet to be read (R129). -/
def pinUnread (i : Nat) (s : State) : State := s.modSrc i (fun x => { x with srcIdShort := false })
/-- The entry whose qualification window opens for `ms` with a declared type (R124, R129). -/
def windowOpens (now ms type : Nat) (x : Source) : Source :=
  { x with state := .qualifying, tQualEff := ms, qualEnd := now + 1000 * ms, type_ := type, origin := 3 }

/-- A valid path of the gate that stands INVALID opens its window of the effective length (R124, R125). -/
theorem exec_sourceQualifyStart_gate (awake : Awake s) (low : 1 ≤ i) (high : i ≤ 8) (mv : Nat) (mode : working s.sys.mode = true)
    (state : (s.src i).state = .invalid) (gate : (s.src i).ref = 0) (inBand : (s.src i).band = .inside)
    (declared : (s.src i).declared ≠ 0) : exec (.sourceQualifyStart i mv) s =
      .next (settle s ((pinUnread i s).modSrc i (windowOpens s.now (qualTime s i) (s.src i).declared))) := by
  have entry : (pinUnread i s).src i = { s.src i with srcIdShort := false } := modSrc_src_self low high s _
  have noCordon : ((pinUnread i s).src i).ref = 0 := by rw [entry]; exact gate
  have valid : pathValid (pinUnread i s) i = true := by
    rw [pathValid_gate (by simp [entry, state]) noCordon]; simp [entry, inBand]
  have type : findType (pinUnread i s) i = ((s.src i).declared, 3) := by
    rw [findType_gate noCordon (by rw [entry]; exact declared), entry]
  have length : qualTime (pinUnread i s) i = qualTime s i := by simp only [qualTime, recentDrops, entry]; rfl
  change execSourceQualifyStart i mv s = _
  rw [execSourceQualifyStart, act_awake s _ awake]
  dsimp only
  rw [← pinUnread, readSrcId_gate noCordon, if_neg (by simp [mode]), if_pos state, if_pos valid, type, length,
    if_neg (by simp [declared])]
  rfl
end

/-- Settles O34: a report by the path's state, a window from its start to its end, a drop from its sample to its age. -/
theorem sourceRows : Obligations.SourceRows := by
  refine fun s i awake low high => ⟨fun b state mode noSlope => ?band, fun state mode noThreshold => ?slope, fun b state => ?absent,
    fun mv mode state gate inBand declared => ?opens, fun state valid mode path => ?carried, fun state valid mode path => ?fed,
    fun invalid => ?notQualified, fun mode usable invalid => ?drops, fun valid => ?stays, ?ages⟩
  case band =>
    change execSourceCrossingReport i b s = _
    rw [execSourceCrossingReport, act_awake s _ awake, if_neg (by simp [state]), reportBand_usable low high state mode,
      if_neg fun slope => noSlope slope.1]
  case slope =>
    change execSourceCrossingReport i .slope s = _
    rw [execSourceCrossingReport, act_awake s _ awake, if_neg (by simp [state]), reportBand_usable low high state mode,
      if_pos ⟨rfl, noThreshold⟩]
  case absent =>
    change execSourceCrossingReport i b s = _
    rw [execSourceCrossingReport, act_awake s _ awake, if_pos state]
  case opens =>
    refine ⟨_, exec_sourceQualifyStart_gate awake low high mv mode state gate inBand declared, ?_⟩
    rw [modSrc_src_self low high]
    exact ⟨rfl, rfl, rfl, rfl, rfl⟩
  case carried | fed =>
    change execQualificationEnd i s = _
    rw [execQualificationEnd, act_awake s _ awake, if_neg (by simp [state, valid])]
    simp [mode, modSrc_path, path]
  case notQualified =>
    change execQualificationEnd i s = _
    rw [execQualificationEnd, act_awake s _ awake, if_pos (.inr invalid)]
  case drops =>
    change execSourceDrop i s = _
    rw [execSourceDrop, act_awake s _ awake, if_pos ⟨mode, usable, invalid⟩]
    rfl
  case stays =>
    change execSourceDrop i s = _
    rw [execSourceDrop, act_awake s _ awake, if_neg (by simp [valid])]
  case ages =>
    change execDropCountAge i s = _
    rw [execDropCountAge, act_awake s _ awake]

/-! ### Changeover, hand-back, supplement and test drop (R133, R137 to R139) -/

/-- A hand-back that begins takes the path to HANDBACK towards its entry, and leaves the module's state and the supplement (R138). -/
theorem handSet_begins (i : Nat) (s : State) : (handSet i s).pwr.path = .handback ∧ (handSet i s).pwr.handTo = i ∧
    (handSet i s).pwr.handSet = true ∧ (handSet i s).pwr.supplement = s.pwr.supplement ∧ (handSet i s).sys = s.sys :=
  have fed := handSet_feed i s
  ⟨fed.path, fed.handTo, fed.handSet, fed.supplement, fed.sys⟩

section
variable {s : State}

/-- Outside LIMP a hand-back from CARRIED goes to the highest usable path, and waits for one (R138). -/
theorem exec_handback_carried (awake : Awake s) (mode : s.sys.mode ≠ .limp) (path : s.pwr.path = .carried) :
    exec .handback s = .next (settle s (((usableRanks s).head?.map (handSet · s)).getD s)) := by
  change execHandback s = _
  rw [execHandback, act_awake s _ awake, if_neg mode, if_pos path]
  cases usableRanks s <;> rfl

/-- Outside LIMP a hand-back that is done leaves the path FED, with no hand-back and no supplement (R138, Table 5-8). -/
theorem handbackDone_fed (mode : s.sys.mode ≠ .limp) : (handbackDone s).pwr.path = .fed ∧ (handbackDone s).pwr.handTo = 0 ∧
    (handbackDone s).pwr.handSet = false ∧ (handbackDone s).pwr.supplement = false := by
  rw [handbackDone, if_neg mode]
  generalize releaseEngaged s = t
  have fed := applyPriority_feed { t with pwr := fedAgain t.pwr }
  exact ⟨fed.path, fed.handTo, fed.handSet, fed.supplement⟩

/-- The module whose hand-back has been given up: the strings carry it on. -/
def handbackGivenUp (s : State) : State := { s with pwr := { s.pwr with path := .carried, handTo := 0, handSet := false } }

/-- A hand-back that runs out of time: outside LIMP its path is dropped for cause 7, and the engaged strings rise again (Table 5-8). -/
theorem exec_handbackTimeout (awake : Awake s) (path : s.pwr.path = .handback) : exec .handbackTimeout s =
    let t := if s.sys.mode = .limp then handbackGivenUp s
      else raise 129 s.pwr.handTo (dropPath s.pwr.handTo 7 false (handbackGivenUp s))
    .next (settle s (engagedSet (fun _ => vCaskSet (boardImage t) * 10) t)) := by
  change execHandbackTimeout s = _
  rw [execHandbackTimeout, act_awake s _ awake, if_neg (not_not.mpr path)]
  rfl

/-- The module whose supplement has ended. -/
def supplementOver (s : State) : State := { s with pwr := { s.pwr with supplement := false, suppPower := 0, suppOk := 0 } }

/-- A supplement of engaged strings ends by hand-back to the highest usable path (R133). -/
theorem exec_supplementEnd_engaged {i : Nat} {r : List Nat} (awake : Awake s) (supplement : s.pwr.supplement = true)
    (engaged : anyEngaged s = true) (ranks : usableRanks s = i :: r) :
    exec .supplementEnd s = .next (settle s (handSet i (supplementOver s))) := by
  change execSupplementEnd s = _
  rw [execSupplementEnd, act_awake s _ awake, if_neg (by simp [supplement])]
  extract_lets p t
  rw [if_pos (show anyEngaged t = true from engaged), show usableRanks t = i :: r from ranks]
  rfl

/-- TEST_DROP in SERVICE, with no test under way and a hold that Table 5-11 allows, drops a usable path for cause 6 (R139). -/
theorem pwrTestDrop_drops {i h : Nat} (mode : s.sys.mode = .service) (idle : s.pwr.testEntry = 0) (least : 1 ≤ h) (most : h ≤ 60000)
    (usable : usableState (s.src i).state = true) :
    let t := dropPath i 6 true { s with pwr := { s.pwr with testEntry := i } }
    pwrTestDrop i h s = { t with pwr := { t.pwr with cmd := cmdRes 1 0 } } := by
  rw [pwrTestDrop, if_neg (by simp [mode]), if_neg (by simp [idle]), if_neg (by omega), if_neg (by simp [usable])]
/-- Outside SERVICE there is no test drop. -/
theorem pwrTestDrop_mode (i h : Nat) (mode : s.sys.mode ≠ .service) :
    pwrTestDrop i h s = { s with pwr := { s.pwr with cmd := cmdRes 1 2 } } := if_pos mode
/-- A hold outside 1 to 60000 ms is refused. -/
theorem pwrTestDrop_hold {i h : Nat} (mode : s.sys.mode = .service) (idle : s.pwr.testEntry = 0) (hold : h = 0 ∨ 60000 < h) :
    pwrTestDrop i h s = { s with pwr := { s.pwr with cmd := cmdRes 1 4 } } := by
  rw [pwrTestDrop, if_neg (by simp [mode]), if_neg (by simp [idle]), if_pos hold]

/-- The module whose path of entry i is no longer held out by a test drop (R139). -/
def holdEnds (i : Nat) (s : State) : State :=
  s.modSrc i (fun x => if x.state = .testDropped then { x with state := .invalid } else x)
/-- The end of the hold of a test drop leaves its path INVALID, and no test under way (R139). -/
theorem exec_testDropHoldEnd_own {i : Nat} (awake : Awake s) (low : 1 ≤ i) (high : i ≤ 8) (held : (s.src i).state = .testDropped)
    (own : s.pwr.testEntry = i) : ∃ u, exec (.testDropHoldEnd i) s = .next (settle s u) ∧ (u.src i).state = .invalid ∧
      u.pwr.testEntry = 0 := by
  have entry : ((holdEnds i s).src i).state = .invalid := by rw [holdEnds, modSrc_src_self low high, if_pos held]
  refine ⟨{ holdEnds i s with pwr := { (holdEnds i s).pwr with testEntry := 0 } }, ?_, entry, rfl⟩
  change execTestDropHoldEnd i s = _
  rw [execTestDropHoldEnd, act_awake s _ awake]
  exact congrArg (fun u => Host.Outcome.next (settle s u)) (if_pos own)
end

/-- Settles O35: the changeover and the hand-back by the path's state, then the supplement and the test drop. -/
theorem changeoverRows : Obligations.ChangeoverRows := by
  refine ⟨fun s awake => ⟨fun path first => ?late, fun known => ?notLate, fun i r mode path ranks => ?begins,
      fun mode path ranks => ?waits, fun path mode => ?completes, fun path => ?noHandback, fun path mode => ?timesOut,
      fun path mode => ?limpTimesOut, fun mode path => ?caskLow, ?caskLowClear⟩,
    fun s awake => ⟨fun i r supplement engaged ranks => ?handsBack, fun none => ?noSupplement,
      fun i h mode idle least most usable => ?tests, fun i h mode => ?notService, fun i h mode idle hold => ?badHold,
      fun i low high held own => exec_testDropHoldEnd_own awake low high held own⟩⟩
  case late =>
    change execCoLate s = _
    rw [execCoLate, act_awake s _ awake, if_pos ⟨path, first⟩]
  case notLate =>
    change execCoLate s = _
    rw [execCoLate, act_awake s _ awake, if_neg (by rcases known with path | late <;> simp [*])]
  case begins =>
    obtain ⟨handback, handTo, given, _, sys⟩ := handSet_begins i s
    exact ⟨handSet i s, by rw [exec_handback_carried awake mode path, ranks]; rfl, handback, handTo, given, sys⟩
  case waits => rw [exec_handback_carried awake mode path, ranks]; rfl
  case completes =>
    refine ⟨handbackDone s, ?_, handbackDone_fed mode⟩
    change execHandbackComplete s = _
    rw [execHandbackComplete, act_awake s _ awake, if_pos path]
  case noHandback =>
    change execHandbackComplete s = _
    rw [execHandbackComplete, act_awake s _ awake, if_neg path]
  case timesOut => rw [exec_handbackTimeout awake path, if_neg mode]; rfl
  case limpTimesOut =>
    refine ⟨_, exec_handbackTimeout awake path, ?_⟩
    rw [if_pos mode, (engagedSet_board ..).pwr]
    exact ⟨rfl, rfl, rfl⟩
  case caskLow =>
    change execCaskLow s = _
    rw [execCaskLow, act_awake s _ awake, if_pos ⟨mode, path⟩]
  case caskLowClear =>
    change execCaskLowClear s = _
    rw [execCaskLowClear, act_awake s _ awake]
  case handsBack =>
    obtain ⟨handback, handTo, _, supplementEnds, _⟩ := handSet_begins i (supplementOver s)
    exact ⟨_, exec_supplementEnd_engaged awake supplement engaged ranks, supplementEnds, handback, handTo⟩
  case noSupplement =>
    change execSupplementEnd s = _
    rw [execSupplementEnd, act_awake s _ awake, if_pos (by simp [none])]
  case tests =>
    intro t
    exact (act_awake s _ awake).trans (by rw [pwrTestDrop_drops mode idle least most usable]; rfl)
  case notService => exact (act_awake s _ awake).trans (by rw [pwrTestDrop_mode i h mode])
  case badHold => exact (act_awake s _ awake).trans (by rw [pwrTestDrop_hold mode idle hold])

end Sys2Proof.Laws
end

section
/-! SUPPORT. The charge engine: the tick, the end of the rest, the timers and the NICD pulse, then CHG_CMD. -/

namespace Sys2Proof.Laws
open Sys2Proof Sys2Proof.Machine

section
variable {s : State} {i : Nat}

/-- A string in use has its number in the banks. -/
theorem batUsed_bounds (used : batUsed s i = true) : 0 < i ∧ i ≤ 4 := by
  obtain ⟨low, high, _⟩ := of_decide_eq_true used
  have most : batMax s.hw.variant ≤ 4 := by cases s.hw.variant <;> decide
  exact ⟨low, high.trans most⟩
/-- The charge state of a string after its own change. -/
theorem modChg_chgI_self (bounds : 0 < i ∧ i ≤ 4) (s : State) (f : Chg → Chg) : (s.modChg i f).chgI i = f (s.chgI i) := by
  rw [modChg_chgI, if_pos ⟨rfl, bounds⟩]
/-- A string's supervision after its own change. -/
theorem modBat_bat_self (bounds : 0 < i ∧ i ≤ 4) (s : State) (f : Bat → Bat) : (s.modBat i f).bat i = f (s.bat i) := by
  rw [modBat_bat, if_pos ⟨rfl, bounds⟩]
/-- A change of a string's run leaves its coulomb book. -/
theorem modRun_book (i : Nat) (s : State) (f : EisRun → EisRun) : ((s.modRun i f).bat i).book = (s.bat i).book := by
  rw [State.modRun, modBat_bat]; split <;> rfl

/-! ### The tick, the rest, the timers and the pulse (R149, R153, R156, R160 to R162) -/

/-- The tick counts itself and evaluates every string; each hundredth closes a second (R149). -/
theorem exec_chargeEvaluation_evaluates (awake : Awake s) (mode : working s.sys.mode = true) (stays : s.eis.shipRun = false)
    (short : s.eis.btn.longRun = false) : exec .chargeEvaluation s =
      .next (settle s (four.foldl (fun t j => evalString (decide ((s.chg.evals + 1) % 100 = 0)) j t)
        { s with chg := { s.chg with evals := s.chg.evals + 1 } })) := by
  change execChargeEvaluation s = _
  rw [execChargeEvaluation, act_awake s _ awake, if_neg (by simp [mode, stays, short])]

/-- The end of a rest without a reading: the latest voltage stands for it, and one of a deeply discharged string starts TRICKLE (R153). -/
theorem exec_qualifyRestEnd_trickle {v : Nat} (awake : Awake s) (runs : runningIn s i = true) (phase : (s.chgI i).phase = .qualify)
    (rests : (s.chgI i).restRuns = true) (noReading : (s.chgI i).rest.count = 0) (latest : (s.chgI i).vNow = some v)
    (deep : v * 1000 < (prof s i).cells * (prof s i).vDeep * 100) : exec (.qualifyRestEnd i) s =
      .next (settle s (commandString i (demands i (s.modChg i (enterPhase .trickle))))) := by
  change execQualifyRestEnd i s = _
  rw [execQualifyRestEnd, act_awake s _ awake, if_neg (by simp [runs, phase, rests])]
  simp [noReading, latest, deep]

/-- The safety timer halts a charging phase before MAINT (R160). -/
theorem exec_safeTimeout_halts (awake : Awake s) (runs : runningIn s i = true) (charging : chargingPhase (s.chgI i).phase = true)
    (before : (s.chgI i).phase ≠ .maint) : exec (.safeTimeout i) s =
      .next (settle s (commandString i (s.modChg i (fun g => halt 0 { g with safe := max g.safe (g.setSafe * 12000) })))) := by
  change execSafeTimeout i s = _
  rw [execSafeTimeout, act_awake s _ awake, if_pos ⟨runs, charging, before⟩]

/-- The pre-charge timer halts TRICKLE and PRE (R161). -/
theorem exec_preTimeout_halts (awake : Awake s) (runs : runningIn s i = true)
    (phase : (s.chgI i).phase = .trickle ∨ (s.chgI i).phase = .pre) : exec (.preTimeout i) s =
      .next (settle s (commandString i (s.modChg i (fun g => halt 1 { g with pre := max g.pre (g.setPre * 12000) })))) := by
  change execPreTimeout i s = _
  rw [execPreTimeout, act_awake s _ awake, if_pos ⟨runs, phase⟩]

/-- The CV timer ends the cycle of a string in CV by rule 2, unless its cells are NICD (R162). -/
theorem exec_cvTimerExpiry_terminates (awake : Awake s) (runs : runningIn s i = true) (phase : (s.chgI i).phase = .cv)
    (chem : (prof s i).chem ≠ 3) : exec (.cvTimerExpiry i) s = .next (settle s (commandString i (demands i (terminate i 2
      (s.modChg i (fun g => { g with cv := max g.cv (g.setCv * 6000) })))))) := by
  change execCvTimerExpiry i s = _
  rw [execCvTimerExpiry, act_awake s _ awake, if_pos ⟨runs, .inl ⟨phase, decide_eq_false chem⟩⟩, if_neg (by simp [chem])]

/-- A NICD pulse that runs ends, and the wait for the next begins (R156). -/
theorem exec_nicdPulseEnd_ends (awake : Awake s) (pulse : (s.chgI i).pulse = true) (mode : working s.sys.mode = true) :
    exec (.nicdPulseEnd i) s =
      .next (settle s (commandString i (s.modChg i (fun g => { g with pulse := false, pulseAt := s.now })))) := by
  change execNicdPulseEnd i s = _
  rw [execNicdPulseEnd, act_awake s _ awake, if_pos ⟨pulse, mode⟩]

/-! ### CHG_CMD (Table 6-9) -/

/-- CHG_CMD on a string in use, in a working mode, has its effect and answers its RESULT. -/
theorem chgCmd_accepted {code r : Nat} {f : State → State × Nat} {t : State} (awake : Awake s) (mode : working s.sys.mode = true)
    (used : batUsed s i = true) (effect : f s = (t, r)) :
    act s (chgCmd code i f) = .next (settle s { t with chg := { t.chg with cmd := cmdRes code r } }) := by
  have accepts : (if !working s.sys.mode then 3 else if !batUsed s i then 4 else 0) = 0 := by simp [mode, used]
  rw [act_awake s _ awake, chgCmd, accepts, effect]
  rfl

section
variable (awake : Awake s) (mode : working s.sys.mode = true) (used : batUsed s i = true)
include awake mode used

/-- RESTART leaves HOLD for a new cycle at once (R171). -/
theorem exec_chgRestart_hold (phase : (s.chgI i).phase = .hold) (live : (s.chgI i).susp = 0) :
    let t := commandString i (s.modChg i (newCycle s i false))
    exec (.chgRestart i) s = .next (settle s { t with chg := { t.chg with cmd := cmdRes 1 0 } }) :=
  chgCmd_accepted awake mode used (by rw [if_pos phase, if_pos live])

/-- RESTART in HOLD of a suspended string marks the cycle as waiting for the end of the suspension (R163, log entry 72). -/
theorem exec_chgRestart_suspended (phase : (s.chgI i).phase = .hold) (suspended : (s.chgI i).susp ≠ 0) :
    let t := s.modChg i (fun g => { g with cycleWait := 1 })
    exec (.chgRestart i) s = .next (settle s { t with chg := { t.chg with cmd := cmdRes 1 0 } }) :=
  chgCmd_accepted awake mode used (by rw [if_pos phase, if_neg suspended])

/-- RESTART outside HOLD and HALTED answers 2. -/
theorem exec_chgRestart_otherPhase (running : (s.chgI i).phase ≠ .hold) (sound : (s.chgI i).phase ≠ .halted) :
    exec (.chgRestart i) s = .next (settle s { s with chg := { s.chg with cmd := cmdRes 1 2 } }) :=
  chgCmd_accepted awake mode used (by rw [if_neg running, if_pos sound])

/-- HOLD suspends a cycle: its run is aborted unless it is a deep one, and the cordon gets its command anew (R171, R188). -/
theorem exec_hold_holds (running : ¬((s.chgI i).phase = .halted ∨ (s.chgI i).phase = .hold ∨ (s.chgI i).phase = .none)) :
    let t := commandString i ((s.modChg i (fun g => { g with
      phase := .hold, pulse := false, grant := 0, demand := 0, half := false, lim := 0, restRuns := false, cycleWait := 0 })).modRun i
        (fun r => if r.kind = 3 then r else runAbort s.now 5 r))
    exec (.hold i) s = .next (settle s { t with chg := { t.chg with cmd := cmdRes 2 0 } }) :=
  chgCmd_accepted awake mode used (if_neg running)
end

/-- The string whose book starts from NET zero (R185). -/
def netCleared (i : Nat) (s : State) : State := s.modBook i (fun b => { b with net := 0 })
/-- The string that has begun a recharge cycle on order: QUALIFY, NET at zero, and no run that goes on. -/
def recharges (i : Nat) (s : State) : State :=
  ((netCleared i s).modChg i (newCycle (netCleared i s) i true)).modRun i (runAbort s.now 5)

/-- NEW_CYCLE in MAINT begins a recharge cycle (R170, R185). -/
theorem exec_newCycle_maint (awake : Awake s) (mode : working s.sys.mode = true) (used : batUsed s i = true)
    (phase : (s.chgI i).phase = .maint) (live : (s.chgI i).susp = 0) : exec (.newCycle i) s =
      .next (settle s { recharges i s with chg := { (recharges i s).chg with cmd := cmdRes 3 0 } }) :=
  chgCmd_accepted awake mode used (by
    rw [if_neg (not_not.mpr phase)]
    exact if_neg (not_not.mpr live))

/-- A recharge cycle begins in QUALIFY with its safety timer and NET at zero (R150, R169, R185). -/
theorem recharges_begins (bounds : 0 < i ∧ i ≤ 4) (s : State) : ((recharges i s).chgI i).phase = .qualify ∧
    ((recharges i s).chgI i).recharge = true ∧ ((recharges i s).chgI i).safe = 0 ∧ ((recharges i s).bat i).book.net = 0 := by
  have cycle : (recharges i s).chgI i = newCycle (netCleared i s) i true ((netCleared i s).chgI i) := modChg_chgI_self bounds _ _
  have book : ((recharges i s).bat i).book = ((netCleared i s).bat i).book := modRun_book i _ _
  have cleared : ((netCleared i s).bat i).book.net = 0 := by rw [netCleared, State.modBook, modBat_bat_self bounds]
  rw [cycle, book]
  exact ⟨rfl, rfl, rfl, cleared⟩
end

/-- Settles O37: the engine's events on a running string, then CHG_CMD by the phase it finds. -/
theorem chargeRows : Obligations.ChargeRows := by
  refine ⟨fun s i awake => ⟨exec_chargeEvaluation_evaluates awake, fun runs => ⟨?rests, fun phase => ?safe,
      fun phase => exec_preTimeout_halts awake runs (.inr phase), exec_cvTimerExpiry_terminates awake runs⟩,
      exec_nicdPulseEnd_ends awake⟩,
    fun s i awake mode used => ⟨exec_chgRestart_hold awake mode used, fun phase suspended => ?waits, fun phase => ?otherPhase,
      fun phase => exec_hold_holds awake mode used (by simp [phase]), fun phase live => ?newCycle⟩⟩
  case rests => exact fun phase rests v noReading latest deep => exec_qualifyRestEnd_trickle awake runs phase rests noReading latest deep
  case safe => exact exec_safeTimeout_halts awake runs (by rw [phase]; rfl) (by simp [phase])
  case waits =>
    have waiting := modChg_chgI_self (batUsed_bounds used) s (fun g => { g with cycleWait := 1 })
    exact ⟨_, exec_chgRestart_suspended awake mode used phase suspended, congrArg Chg.cycleWait waiting,
      (congrArg Chg.phase waiting).trans phase, rfl⟩
  case otherPhase => exact exec_chgRestart_otherPhase awake mode used (by simp [phase]) (by simp [phase])
  case newCycle =>
    obtain ⟨qualify, recharge, safe, net⟩ := recharges_begins (batUsed_bounds used) s
    exact ⟨_, exec_newCycle_maint awake mode used phase live, qualify, recharge, safe, net, rfl⟩

end Sys2Proof.Laws
end

section
/-! SUPPORT. SHIP and the long press: the Cellar's writes, the stop of the ALIVE exchange, the entry of SHIP and its end, the wake, and
the long press. -/

namespace Sys2Proof.Laws
open Sys2Proof Sys2Proof.Machine

/-! ### The Cellar's writes (R400 to R409) -/

/-- Only the Cellar and its queue of records differ. -/
def CellarOnly (s t : State) : Prop := t = { s with clr := t.clr }

theorem CellarOnly.elim {s t : State} (h : CellarOnly s t) : ∃ c, t = { s with clr := c } := ⟨t.clr, h⟩
theorem CellarOnly.refl (s : State) : CellarOnly s s := rfl
theorem CellarOnly.trans {s t u : State} (h : CellarOnly s t) (k : CellarOnly t u) : CellarOnly s u := by
  obtain ⟨_, rfl⟩ := h.elim; obtain ⟨_, rfl⟩ := k.elim; rfl
theorem CellarOnly.sys {s t : State} (h : CellarOnly s t) : t.sys = s.sys := by obtain ⟨_, rfl⟩ := h.elim; rfl
theorem CellarOnly.eis {s t : State} (h : CellarOnly s t) : t.eis = s.eis := by obtain ⟨_, rfl⟩ := h.elim; rfl

/-- A record queued. -/
theorem queueRecord_cellar (k n a : Nat) (ad w : Word) (x y : Bool) (s : State) : CellarOnly s (queueRecord k n a ad w x y s) := by
  unfold queueRecord; split <;> rfl
/-- Bytes put to the Cellar. -/
theorem clrPut_cellar (o : Nat) (bs : List Byte) (s : State) : CellarOnly s (clrPut o bs s) := rfl
/-- Bytes put to the Cellar after other writes of it. -/
theorem CellarOnly.put {s t : State} (h : CellarOnly s t) (o : Nat) (bs : List Byte) : CellarOnly s (clrPut o bs t) :=
  h.trans (clrPut_cellar o bs t)
/-- A protected block written. -/
theorem blockWrite_cellar (base size : Nat) (body : List Byte) (s : State) : CellarOnly s (blockWrite base size body s) :=
  ((((CellarOnly.refl s).put ..).put ..).put ..).put ..
/-- A unit of the Cellar written after other writes of it. -/
theorem CellarOnly.unit {s t : State} (h : CellarOnly s t) (u : Nat) (body : List Byte) : CellarOnly s (unitWrite u body t) :=
  ((h.put ..).put ..).put ..
/-- A record written, to the first-fault region too where its kind asks for it. -/
theorem writeRecord_cellar (r : Record) (s : State) : CellarOnly s (writeRecord r s) := by
  unfold writeRecord
  extract_lets u seq ffu flags body circular both
  have written : CellarOnly s both := by
    have first : CellarOnly s circular := (CellarOnly.refl s).unit ..
    clear_value circular ffu
    simp only [both]
    split
    next => exact first
    next => exact first.unit ..
  exact written.trans rfl
/-- The head of the queue served. -/
theorem serveQueue_cellar (s : State) : CellarOnly s (serveQueue s) := by
  unfold serveQueue
  split
  next => rfl
  next r q _ => exact (writeRecord_cellar r { s with clr := { s.clr with queue := q } }).trans rfl
/-- The queue served several times. -/
theorem serveMany_cellar (n : Nat) (s : State) : CellarOnly s (serveMany n s) := by
  induction n generalizing s with
  | zero => exact .refl s
  | succ n ih => exact (serveQueue_cellar s).trans (ih _)

/-- The whole queue served. -/
theorem flushQueue_cellar (s : State) : CellarOnly s (flushQueue s) := by
  unfold flushQueue; exact serveMany_cellar 32 s
/-- The state of the update engine saved. -/
theorem saveState_cellar (s : State) : CellarOnly s (saveState s) := by
  unfold saveState; exact blockWrite_cellar ..

/-- A change of mode leaves the supervision of the strings. -/
theorem setMode_eis (m : Mode) (s : State) : (setMode m s).eis = s.eis := by
  unfold setMode
  split
  next => rfl
  next => exact (queueRecord_cellar ..).eis

/-! ### The entry of SHIP (R202, R203, Tables 7-5 and 7-6) -/

/-- A stop of the ALIVE exchange leaves it stopped. -/
theorem aliveStop_alive (k : Nat) (s : State) : (aliveStop k s).flt.alive = false := by
  unfold aliveStop
  split
  next => rfl
  next stopped => simpa using stopped
/-- A stop of the ALIVE exchange leaves the supervision of the strings. -/
theorem aliveStop_eis (k : Nat) (s : State) : (aliveStop k s).eis = s.eis := by
  unfold aliveStop; split <;> rfl

/-- An accepted ENTER_SHIP begins the entry and stops the ALIVE exchange. -/
theorem shipBegins_begins (s : State) : (shipBegins s).eis.shipRun = true ∧ (shipBegins s).flt.alive = false :=
  ⟨congrArg EisBlock.shipRun (aliveStop_eis ..), aliveStop_alive ..⟩

section
variable {s : State}

/-- ENTER_SHIP with a wrong key is refused before anything else. -/
theorem sysEnterShip_wrongKey {k : Nat} (key : k ≠ 0x5A) (high : Bool) : sysEnterShip k high s = sysRes 4 2 s := if_pos key

variable (mode : shipMode s = true) (first : s.eis.shipRun = false)
include mode first

/-- ENTER_SHIP with its key, in a mode that permits it, by whether a wake input stands high or an update runs (R202). -/
theorem sysEnterShip_key (high : Bool) :
    sysEnterShip 0x5A high s = if high || updating s then sysRes 4 7 s else sysRes 4 1 (shipBegins s) := by
  rw [sysEnterShip, if_neg (not_not.mpr rfl), if_neg (by simp [mode]), if_neg (by simp [first])]
end

/-! ### The end of the entry (R203, R186, R187) -/

/-- The gap that LIMP leaves in the books changes the strings' books alone (R186). -/
theorem limpGaps_strings (s : State) : ∃ b, limpGaps s = { s with eis := { s.eis with bat := b } } := by
  have each : ∀ (l : List Nat) (t : State), ∃ b, l.foldl (fun t i => if batUsed t i then
      t.modBook i (fun b => { bookGap (t.now - b.lastAt) b with lastAt := t.now }) else t) t = { t with eis := { t.eis with bat := b } } := by
    intro l
    induction l with
    | nil => exact fun t => ⟨_, rfl⟩
    | cons i l ih =>
      intro t
      rw [List.foldl_cons]
      obtain ⟨b, rest⟩ := ih (if batUsed t i then t.modBook i (fun b => { bookGap (t.now - b.lastAt) b with lastAt := t.now }) else t)
      refine ⟨b, rest.trans ?_⟩
      split <;> rfl
  unfold limpGaps
  split
  next => exact each four s
  next => exact ⟨_, rfl⟩

/-- What the end of the entry leaves: SHIP with the core and the watchdog stopped and the host interface closed. -/
structure InShip (s u : State) : Prop where
  mode : u.sys.mode = .ship
  cmd : u.sys.cmd = cmdRes 4 0
  mainRuns : u.sys.mainRuns = false
  shipRun : u.eis.shipRun = false
  entries : u.eis.entries = satInc 255 s.eis.entries
  wdg : u.wdg.state = .reset
  serving : u.spi.serving = false
  caskHeld : u.sys.caskHeld = false

theorem shipDone_inShip (s : State) : InShip s (shipDone s) := by
  unfold shipDone
  extract_lets gaps latched inMode _ counted queued _ entered saved
  have mode : counted.sys.mode = .ship := setMode_mode ..
  have cmd : counted.sys.cmd = cmdRes 4 0 := rfl
  have entries : counted.eis.entries = satInc 255 s.eis.entries := by
    obtain ⟨b, strings⟩ := limpGaps_strings s
    have kept : inMode.eis = (openSwitches gaps).eis := setMode_eis ..
    rw [show counted.eis.entries = satInc 255 inMode.eis.entries from rfl, kept, show gaps = _ from strings]
    rfl
  have books : CellarOnly counted queued := (blockWrite_cellar ..).trans (queueRecord_cellar ..)
  have stored : CellarOnly entered saved := (flushQueue_cellar _).trans (saveState_cellar _)
  have sys : saved.sys = counted.sys := stored.sys.trans books.sys
  exact {
    mode := (congrArg Sys.mode sys).trans mode
    cmd := (congrArg Sys.cmd sys).trans cmd
    mainRuns := rfl
    shipRun := congrArg EisBlock.shipRun stored.eis
    entries := (congrArg EisBlock.entries stored.eis).trans ((congrArg EisBlock.entries books.eis).trans entries)
    wdg := rfl
    serving := rfl
    caskHeld := rfl }

/-! ### The wake (R204) -/

/-- A press of 100 ms, after as long released, always wakes. -/
theorem wakeByButton_full {r : WakeReport} (armed : 100 ≤ r.highMs) (press : 100 ≤ r.pressMs) (free : Bool) : wakeByButton r free = true := by
  simp [wakeByButton, passes, armed, press]

section
variable {s : State} {r : WakeReport} (powered : s.powered = true) (mode : s.sys.mode = .ship)
include powered mode

/-- A wake by the button, with an input that carries the housekeeping, leads to STAGING with its cause latched. -/
theorem exec_shipWake_button (armed : 100 ≤ r.highMs) (press : 100 ≤ r.pressMs) (rails : railsUp r.inputs = true) :
    exec (.shipWake r) s =
      .next (stepDone 1 { coldState (freeNat 2 s).2 with wake := .button, orIn := r.inputs }) := by
  change execShipWake r s = _
  simp [execShipWake, powered, mode, wakeByButton_full armed press, rails]
/-- A wake whose housekeeping cannot start leaves the module in SHIP. -/
theorem exec_shipWake_noRail (rails : railsUp r.inputs = false) : exec (.shipWake r) s = .next (freeNat 2 s).2 := by
  change execShipWake r s = _
  simp [execShipWake, powered, mode, rails]
end

/-! ### The long press (R205, Table 7-8) -/

/-- A long press begins its entry and stops the ALIVE exchange. -/
theorem longPress_begins (s : State) : (longPress s).eis.btn.longRun = true ∧ (longPress s).flt.alive = false := by
  unfold longPress
  extract_lets gaps stored off
  refine ⟨?_, aliveStop_alive ..⟩
  rw [aliveStop_eis]

/-- Settles O31: ENTER_SHIP by its refusals, then the end of the entry, the wake, and the long press by its cold reset. -/
theorem shipRows : Obligations.ShipRows := by
  refine fun s => ⟨fun l awake mode first low idle => ?begins, fun l awake mode first busy => ?busy, fun l k awake key => ?wrongKey,
    fun awake runs => ?done, fun awake idle => ?noEntry, fun r powered mode armed press rails => ?wakes,
    fun r powered mode rails => ?staysInShip, fun awake low counts enabled first => ?longPress, fun env powered runs => ?coldReset,
    fun env idle => ?noLongPress⟩
  case begins =>
    obtain ⟨runs, stopped⟩ := shipBegins_begins s
    refine ⟨sysRes 4 1 (shipBegins s), (act_awake s _ awake).trans ?_, rfl, runs, stopped⟩
    rw [sysEnterShip_key mode first, if_neg (by simp [low, idle])]
  case busy =>
    exact (act_awake s _ awake).trans (by rw [sysEnterShip_key mode first, if_pos (by simpa using busy), sysRes])
  case wrongKey => exact (act_awake s _ awake).trans (by rw [sysEnterShip_wrongKey key, sysRes])
  case done =>
    have ship := shipDone_inShip s
    refine ⟨shipDone s, ?_, ship.mode, ship.cmd, ship.mainRuns, ship.shipRun, ship.entries, ship.wdg, ship.serving, ship.caskHeld⟩
    change execShipEntryDone s = _
    rw [execShipEntryDone, act_awake s _ awake, if_pos runs]
  case noEntry =>
    change execShipEntryDone s = _
    rw [execShipEntryDone, act_awake s _ awake, if_neg (by simp [idle])]
  case wakes => exact ⟨_, exec_shipWake_button powered mode armed press rails, rfl, rfl, rfl, rfl, rfl⟩
  case staysInShip => exact ⟨_, exec_shipWake_noRail powered mode rails, rfl⟩
  case longPress =>
    refine ⟨longPress s, ?_, longPress_begins s⟩
    change execLongPressReset s = _
    rw [execLongPressReset, act_awake s _ awake, if_pos (by simp [low, counts, enabled, first])]
  case coldReset =>
    have answer : exec (.longPressHoldEnd env) s = .next (coldReset (some s.sys.mode) env (cellarCut s)) :=
      congrArg Host.Outcome.next (if_pos ⟨powered, runs⟩)
    obtain ⟨pending, hw⟩ := queueAndPartKept _ _ _ answer
    have anew := coldReset_startsAnew (some s.sys.mode) env (cellarCut s)
    exact ⟨_, answer, anew.powered, anew.now, hw, pending, anew.expiries, anew.last, anew.irqEn⟩
  case noLongPress => exact congrArg Host.Outcome.next (if_neg (by simp [idle]))

end Sys2Proof.Laws
end

section
/-! SUPPORT. Battery supervision: the switches, a string that is missing, EIS_CMD, the coulomb books, the impedance runs and the button. -/

namespace Sys2Proof.Laws
open Sys2Proof Sys2Proof.Machine

/-- What drives the cordons leaves the supervision of the strings. -/
theorem BoardOnly.bat {s t : State} (h : BoardOnly s t) (i : Nat) : t.bat i = s.bat i :=
  congrArg (fun e : EisBlock => bankGet ({} : Bat) e.bat i) h.eis

section
variable {s : State} {i : Nat}

/-! ### Battery switches (R176, R177) -/

/-- A port that still moves leaves its switch as it is. -/
theorem exec_batswSettled_moving {v w : Nat} (awake : Awake s) (moving : portStill v w = false) :
    exec (.batswSettled i v w) s = .next (settle s s) := by
  change execBatswSettled i v w s = _
  rw [execBatswSettled, act_awake s _ awake, if_pos (.inr (.inr (.inr moving)))]

/-- Outside LIMP a switch that settles closes alone once its port has been still for its time, with the string the right way round. -/
theorem exec_batswSettled_closes {v w : Nat} (awake : Awake s) (settles : (s.bat i).sw = .settle)
    (polarity : polarityOk s (s.bat i) = true) (mode : s.sys.mode ≠ .limp) (waited : (s.bat i).settleAt + 20000 ≤ s.now)
    (still : portStill v w = true) :
    exec (.batswSettled i v w) s = .next (settle s (s.modBat i (fun b => { b with sw := .closed }))) := by
  change execBatswSettled i v w s = _
  rw [execBatswSettled, act_awake s _ awake, if_neg (by simp [settles, polarity, waited, still])]
  exact congrArg (fun u => Host.Outcome.next (settle s u)) (if_neg mode)

/-- A switch that does not settle in time opens and is tried again, with its fault raised. -/
theorem exec_batswSettleTimeout_opens (awake : Awake s) (settles : (s.bat i).sw = .settle) : exec (.batswSettleTimeout i) s =
    .next (settle s (raise (128 + 16 * i + 14) 0 (s.modBat i (fun b => { b with sw := .open_, retry := true })))) := by
  change execBatswSettleTimeout i s = _
  rw [execBatswSettleTimeout, act_awake s _ awake, if_neg (not_not.mpr settles)]

/-- In a working mode the retry lets the switch settle anew. -/
theorem exec_batswRetry_settles (awake : Awake s) (mode : working s.sys.mode = true) : exec (.batswRetry i) s =
    .next (settle s (settleStart i (s.modBat i (fun b => { b with retry := false })))) := by
  change execBatswRetry i s = _
  rw [execBatswRetry, act_awake s _ awake]
  exact congrArg (fun u => Host.Outcome.next (settle s u)) (if_pos mode)

/-! ### A string that is missing (R180, R182) -/

/-- A string confirmed missing: its suspicions are over and no probe runs. -/
theorem confirmMissing_confirms (bounds : 0 < i ∧ i ≤ 4) (s : State) : ((confirmMissing i s).bat i).miss = .confirmed ∧
    ((confirmMissing i s).bat i).suspicions = 0 ∧ ((confirmMissing i s).bat i).probing = false := by
  unfold confirmMissing
  extract_lets confirmed suspended aborted
  have supervised : confirmed.bat i = { s.bat i with miss := .confirmed, probes := 0, suspicions := 0, probing := false } :=
    modBat_bat_self bounds s _
  have run : aborted.bat i = { confirmed.bat i with run := runAbort suspended.now 4 (confirmed.bat i).run } :=
    modBat_bat_self bounds suspended _
  rw [(driveCordon_board ..).bat, run, supervised]
  exact ⟨rfl, rfl, rfl⟩

/-- The end of a missing-string pulse: a voltage that fell below nine tenths confirms the string missing, another clears it (R180). -/
theorem exec_missingPulseEnd_pulse (awake : Awake s) (pulse : (s.bat i).miss = .pulse) (v w : Nat) : exec (.missingPulseEnd i v w) s =
    .next (settle s (if 10 * w < 9 * v then confirmMissing i s
      else commandString i (driveCordon (batCordon s i) .standby 0 0 (thr10 (chgThr s i))
        (s.modBat i (fun b => { b with miss := .none, suspicions := 0 }))))) := by
  change execMissingPulseEnd i v w s = _
  rw [execMissingPulseEnd, act_awake s _ awake, if_neg (not_not.mpr pulse)]

/-- A missing string, its switch closed and its cordon not discharging, is probed with the probe current (R182). -/
theorem exec_presenceProbe_probes (awake : Awake s) (missing : (s.bat i).miss = .confirmed) (idle : (s.bat i).probing = false)
    (closed : (s.bat i).sw = .closed) (mode : working s.sys.mode = true) (charges : discharging s (batCordon s i) = false) :
    let t := s.modBat i (fun b => { b with probing := true, probes := satInc 255 b.probes })
    exec (.presenceProbe i) s = .next (settle s (driveCordon (batCordon t i) .portI (probeCurrent t i) 0 (thr10 (chgThr t i)) t)) := by
  change execPresenceProbe i s = _
  rw [execPresenceProbe, act_awake s _ awake]
  exact congrArg (fun u => Host.Outcome.next (settle s u)) (if_pos ⟨missing, idle, closed, mode, charges⟩)

/-- The string whose probe has ended without finding it. -/
def probeOver (i : Nat) (s : State) : State :=
  let t := s.modBat i (fun b => { b with probing := false })
  driveCordon (batCordon t i) .standby 0 0 (thr10 (chgThr t i)) t

/-- A probe whose string did not stay below its voltage ends without finding it (R182). -/
theorem exec_presenceProbeEnd_rose (awake : Awake s) (probing : (s.bat i).probing = true) :
    exec (.presenceProbeEnd i false) s = .next (settle s (probeOver i s)) := by
  change execPresenceProbeEnd i false s = _
  rw [execPresenceProbeEnd, act_awake s _ awake, if_neg (by simp [probing])]
  rfl
/-- Such an end leaves the rest of the string's supervision as it was. -/
theorem probeOver_bat (bounds : 0 < i ∧ i ≤ 4) (s : State) : (probeOver i s).bat i = { s.bat i with probing := false } := by
  rw [probeOver, (driveCordon_board ..).bat, modBat_bat_self bounds]

/-! ### EIS_CMD (Table 7-9) -/

/-- EIS_CMD on a string in use, in a working mode, has its effect and answers its RESULT. -/
theorem eisCmd_accepted {code r : Nat} {f : State → State × Nat} {t : State} (awake : Awake s) (mode : working s.sys.mode = true)
    (used : batUsed s i = true) (effect : f s = (t, r)) :
    act s (eisCmd code i f) = .next (settle s { t with eis := { t.eis with cmd := cmdRes code r } }) := by
  have accepts : (if !working s.sys.mode then 2 else if !batUsed s i then 5 else 0) = 0 := by simp [mode, used]
  rw [act_awake s _ awake, eisCmd, accepts, effect]
  rfl

/-- The string whose switch has been opened by command, and held: its run aborted, its cordon off. -/
def switchOpened (i : Nat) (s : State) : State :=
  let off := driveCordon (batCordon s i) .off 0 0 0 s
  off.modBat i (fun b => { b with holdCmd := true, sw := .open_, run := runAbort off.now 4 b.run, probing := false,
                                  miss := if b.miss = .confirmed then .confirmed else .none })

section
variable (awake : Awake s) (mode : working s.sys.mode = true) (used : batUsed s i = true)
include awake mode used

/-- SWITCH_OPEN is refused while the cordon discharges. -/
theorem exec_switchOpen_discharging (discharges : discharging s (batCordon s i) = true) :
    exec (.switchOpen i) s = .next (settle s { s with eis := { s.eis with cmd := cmdRes 1 8 } }) :=
  eisCmd_accepted awake mode used (if_pos discharges)
/-- SWITCH_OPEN opens and holds the switch. -/
theorem exec_switchOpen_opens (charges : discharging s (batCordon s i) = false) : exec (.switchOpen i) s =
    .next (settle s { switchOpened i s with eis := { (switchOpened i s).eis with cmd := cmdRes 1 0 } }) :=
  eisCmd_accepted awake mode used (if_neg (by simp [charges]))
/-- SWITCH_RELEASE lets the switch settle. -/
theorem exec_switchRelease_settles : let t := settleStart i (s.modBat i (fun b => { b with holdCmd := false }))
    exec (.switchRelease i) s = .next (settle s { t with eis := { t.eis with cmd := cmdRes 2 0 } }) :=
  eisCmd_accepted awake mode used rfl
/-- RUN starts a run with the parameters of the schedule (R188). -/
theorem exec_run_starts {e : EisSched} (sched : eisSched s.str.image i = some e) (permitted : e.mode = 1 ∨ s.sys.mode = .service)
    (free : pairFree s i e.pair = true) (phase : runPhaseOk s i 2 = true) :
    let t := startRun i 2 e.f0 e.f1 e.ppd e.ampl e.pair s
    exec (.run i) s = .next (settle s { t with eis := { t.eis with cmd := cmdRes 3 0 } }) := by
  refine eisCmd_accepted awake mode used ?_
  simp only [sched]
  rw [if_neg (by tauto), if_neg (by simp [free]), if_neg (by simp [phase])]
/-- RUN_DEEP starts a deep run in SERVICE, within the budget (R189). -/
theorem exec_runDeep_starts (service : s.sys.mode = .service) (ranges : deepOk s = true) (free : pairFree s i s.eis.deepPair = true)
    (phase : runPhaseOk s i 3 = true) (budget : deepBudgetOk s = true) :
    let t := startRun i 3 s.eis.deepF0 s.eis.deepF1 s.eis.deepPpd s.eis.deepAmpl s.eis.deepPair s
    exec (.runDeep i) s = .next (settle s { t with eis := { t.eis with cmd := cmdRes 4 0 } }) := by
  refine eisCmd_accepted awake mode used ?_
  rw [if_neg (not_not.mpr service), if_neg (by simp [ranges]), if_neg (by simp [free]), if_neg (by simp [phase]),
    if_neg (by simp [budget])]
/-- ABORT ends a run with reason 9. -/
theorem exec_eisAbort_aborts : let t := commandString i (s.modRun i (runAbort s.now 9))
    exec (.eisAbort i) s = .next (settle s { t with eis := { t.eis with cmd := cmdRes 5 0 } }) :=
  eisCmd_accepted awake mode used rfl
/-- SET_REF takes R_25 of the last run as the reference. -/
theorem exec_setRef_takes (ran : (s.bat i).run.lastRun ≠ none) : ∃ u, exec (.setRef i) s = .next (settle s u) ∧
    (u.bat i).run.rRef = (s.bat i).run.r25 ∧ (u.bat i).run.refAuto = false ∧ u.eis.cmd = cmdRes 6 0 := by
  have string := modBat_bat_self (batUsed_bounds used) s (fun b => { b with run := { b.run with rRef := b.run.r25, refAuto := false } })
  exact ⟨_, eisCmd_accepted awake mode used (if_neg ran), congrArg (fun b : Bat => b.run.rRef) string,
    congrArg (fun b : Bat => b.run.refAuto) string, rfl⟩
end

/-- The string whose book has been cleared, and its reference and count of runs with it (R185). -/
def bookCleared (i : Nat) (s : State) : State := s.modBat i (fun b =>
  { b with book := { b.book with net := 0, chgIn := 0, chgOut := 0, gapMs := 0, uncertain := false },
           run := { b.run with rRef := 0, refAuto := false, runs := 0 } })
/-- BOOK_RESET clears the book. -/
theorem exec_bookReset_clears (awake : Awake s) (mode : working s.sys.mode = true) (used : batUsed s i = true) :
    exec (.bookReset i) s = .next (settle s { bookCleared i s with eis := { (bookCleared i s).eis with cmd := cmdRes 7 0 } }) :=
  eisCmd_accepted awake mode used rfl
/-- An abort stops a run and keeps its reason. -/
theorem runAbort_stops (now k : Nat) {r : EisRun} (runs : r.running = true) :
    (runAbort now k r).running = false ∧ (runAbort now k r).abort = k := by
  rw [runAbort, if_pos runs]; exact ⟨rfl, rfl⟩
end

/-- Settles O38: the switch, the missing string and its probe, then each EIS_CMD. -/
theorem batteryRows : Obligations.BatteryRows := by
  refine ⟨fun s i awake low high => ⟨fun settles polarity mode v w waited still =>
        exec_batswSettled_closes awake settles polarity mode waited still,
      fun v w moving => exec_batswSettled_moving awake moving, fun settles => exec_batswSettleTimeout_opens awake settles,
      fun mode => exec_batswRetry_settles awake mode, fun v w pulse fell => ?missing, fun v w pulse held => ?present,
      fun missing idle closed mode charges => exec_presenceProbe_probes awake missing idle closed mode charges, fun probing => ?probeEnds⟩,
    fun s i awake mode used => ⟨fun charges => ?opens, fun discharges => exec_switchOpen_discharging awake mode used discharges,
      exec_switchRelease_settles awake mode used,
      fun e sched permitted free phase => exec_run_starts awake mode used sched permitted free phase,
      fun service ranges free phase budget => exec_runDeep_starts awake mode used service ranges free phase budget,
      exec_eisAbort_aborts awake mode used, fun now k r runs => runAbort_stops now k runs,
      fun ran => exec_setRef_takes awake mode used ran, ?clears⟩⟩
  case missing =>
    refine ⟨confirmMissing i s, ?_, confirmMissing_confirms ⟨low, high⟩ s⟩
    rw [exec_missingPulseEnd_pulse awake pulse, if_pos fell]
  case present => rw [exec_missingPulseEnd_pulse awake pulse, if_neg (by omega)]
  case probeEnds =>
    have string := probeOver_bat ⟨low, high⟩ s
    exact ⟨probeOver i s, exec_presenceProbeEnd_rose awake probing, by rw [string], by rw [string]⟩
  case opens =>
    have string : (switchOpened i s).bat i = _ := modBat_bat_self (batUsed_bounds used) _ _
    exact ⟨_, exec_switchOpen_opens awake mode used charges, congrArg Bat.sw string, congrArg Bat.holdCmd string, rfl⟩
  case clears =>
    have string : (bookCleared i s).bat i = _ := modBat_bat_self (batUsed_bounds used) _ _
    have book := congrArg Bat.book string
    exact ⟨_, exec_bookReset_clears awake mode used, congrArg Book.net book, congrArg Book.chgIn book, congrArg Book.chgOut book,
      congrArg Book.gapMs book, congrArg Book.uncertain book, rfl⟩

/-! ### The books, the impedance points and the button (R187, R188, R195, R201) -/

section
variable {s : State} {i : Nat} {l : List (Int × Int)}

/-- A scheduled run of a string in use falls due: it waits from that instant, or starts (R188). -/
theorem exec_eisScheduledDue_used (awake : Awake s) (used : batUsed s i = true) (sched : (eisSched s.str.image i).isSome = true) :
    exec (.eisScheduledDue i) s = .next (settle s (startScheduled i (s.modRun i (fun r =>
      { r with due := match r.due with | none => some s.now | some t => some t })))) := by
  change execEisScheduledDue i s = _
  rw [execEisScheduledDue, act_awake s _ awake]
  exact congrArg (fun u => Host.Outcome.next (settle s u)) (if_pos (by simp [used, sched]))
/-- A string that is not in use has no scheduled run. -/
theorem exec_eisScheduledDue_unused (awake : Awake s) (unused : batUsed s i = false) :
    exec (.eisScheduledDue i) s = .next (settle s s) := by
  change execEisScheduledDue i s = _
  rw [execEisScheduledDue, act_awake s _ awake, if_neg (by simp [unused])]

/-- Without a run there is no point to complete. -/
theorem exec_eisPointComplete_idle (awake : Awake s) (idle : (s.bat i).run.running = false) :
    exec (.eisPointComplete i l) s = .next (settle s s) := by
  change execEisPointComplete i l s = _
  rw [execEisPointComplete, act_awake s _ awake, if_pos (.inl (by simp [idle]))]

section
variable (awake : Awake s) (runs : (s.bat i).run.running = true) (complete : 64 * (1 + pointPeriods (runFreq s i)) ≤ l.length)
include awake runs complete

/-- A point disturbed for the first time is taken once more (R195). -/
theorem exec_eisPointComplete_disturbed (disturbed : (s.bat i).run.dirty = true) (first : (s.bat i).run.repeating = false) :
    exec (.eisPointComplete i l) s =
      .next (settle s (commandString i (s.modRun i (fun r => { nextPoint r with repeating := true })))) := by
  change execEisPointComplete i l s = _
  rw [execEisPointComplete, act_awake s _ awake, if_neg (by simp [runs, complete]), if_pos (by simp [disturbed]), if_neg (by simp [first])]

/-- A point taken under the set points it began with is kept with its impedance, and the next one is armed (R195). -/
theorem exec_eisPointComplete_kept {z : Int × Int} (calm : (s.bat i).run.dirty = false) (same : (s.bat i).run.snap = [])
    (impedance : pointZ (pointSamples (runFreq s i) (l.map (·.1))) (pointSamples (runFreq s i) (l.map (·.2))) = some z)
    (more : (s.bat i).run.cur + 1 < (s.bat i).run.points) :
    exec (.eisPointComplete i l) s = .next (settle s (commandString i (s.modRun i (fun r => { nextPoint r with
      pts := { f := runFreq s i, re := z.1, im := z.2, clipped := l.any (fun p => decide (((chargeCommand s i).2.2.2 : Int) * 9990 ≤ p.1)),
               lowAmp := lowAmplitude s i, noisy := pointNoisy (pointSamples (runFreq s i) (l.map (·.1))),
               repeated := (s.bat i).run.repeating } :: r.pts,
      cur := r.cur + 1, repeating := false })))) := by
  change execEisPointComplete i l s = _
  rw [execEisPointComplete, act_awake s _ awake, if_neg (by simp [runs, complete]), if_neg (by simp [calm, same])]
  simp only [impedance]
  rw [if_neg (by omega)]
  rfl
end
end

/-- Settles O39: the books, the scheduled run, the point by whether it was disturbed, then the button by its level. -/
theorem booksRunsAndButtonRows : Obligations.BooksRunsAndButtonRows := by
  refine fun s i awake => ⟨fun mode => ?books, fun used sched _ => exec_eisScheduledDue_used awake used sched,
    fun unused => exec_eisScheduledDue_unused awake unused, fun _ _ _ => ?skips,
    fun l z _ _ runs complete calm same impedance more => exec_eisPointComplete_kept awake runs complete calm same impedance more,
    fun l runs complete disturbed first => exec_eisPointComplete_disturbed awake runs complete disturbed first,
    fun l idle => exec_eisPointComplete_idle awake idle, fun high => ?press, fun l low => ?release⟩
  case books =>
    change execBookCellarWrite s = _
    rw [execBookCellarWrite, act_awake s _ awake, if_pos mode]
  case skips =>
    change execEisScheduledSkip i s = _
    rw [execEisScheduledSkip, act_awake s _ awake]
  case press =>
    change execBtnPress s = _
    rw [execBtnPress, act_awake s _ awake, if_neg (by simp [high])]
  case release =>
    change execBtnRelease l s = _
    rw [execBtnRelease, act_awake s _ awake, if_pos low]

end Sys2Proof.Laws
end

section
/-! SUPPORT. The peer ports: attachment, moisture and transport, the messages of an attached partner, then the swap, the loss of a
partner and PPT_CMD. -/

namespace Sys2Proof.Laws
open Sys2Proof Sys2Proof.Machine

/-- A peer port after its own change. -/
theorem modPeer_peerI_self {i : Nat} (low : 1 ≤ i) (high : i ≤ 4) (s : State) (f : Peer → Peer) :
    (s.modPeer i f).peerI i = f (s.peerI i) := by
  rw [modPeer_peerI, if_pos ⟨rfl, low, high⟩]
/-- Only what a change makes of the port as it stands matters. -/
theorem modPeer_congr {s : State} {i : Nat} {f g : Peer → Peer} (same : f (s.peerI i) = g (s.peerI i)) :
    s.modPeer i f = s.modPeer i g := by
  have bank : bankMod s.ppt.peer i f = bankMod s.ppt.peer i g := by
    unfold bankMod
    split
    next inside =>
      rw [State.peerI, bankGet, dif_pos inside] at same
      rw [same]
    next => rfl
  rw [State.modPeer, bank, ← State.modPeer]
/-- What drives the cordons leaves the peer ports. -/
theorem BoardOnly.peerI {s t : State} (h : BoardOnly s t) (i : Nat) : t.peerI i = s.peerI i :=
  congrArg (fun p : PptBlock => bankGet ({} : Peer) p.peer i) h.ppt
/-- A port that is neither disabled, nor seeking, nor in BACKOFF is attached. -/
theorem attached_of_state {p : Peer} {x : PeerState} (state : p.state = x) (apart : x ∉ [.disabled, .seek, .backoff]) :
    attached p = true := by
  subst state
  unfold attached
  cases h : p.state <;> simp_all

/-- A port that has just recognised its partner: CHECK, its presentation frozen, the pull-up on the upper side. -/
def recognised (now : Nat) (p : Peer) : Peer :=
  { p with state := .check, frozen := true, upper := decide (p.present = .pullUp), ownChecked := false, partnerChecked := false,
           capsSent := false, caps := none, statusAt := now, waits := none }
/-- A port that checks for moisture anew: the upper side sends QUIET and opens the window. -/
def checksMoisture (p : Peer) : Peer := if p.upper then openQuiet (say 7 [] p) else p
/-- A check for moisture changes neither the attachment nor the partner's CAPS, and no result of this side stands. -/
theorem checksMoisture_keeps (p : Peer) : (checksMoisture p).state = p.state ∧ (checksMoisture p).frozen = p.frozen ∧
    (checksMoisture p).upper = p.upper ∧ (checksMoisture p).caps = p.caps ∧
    (p.ownChecked = false → (checksMoisture p).ownChecked = false) ∧
    (p.partnerChecked = false → (checksMoisture p).partnerChecked = false) := by
  unfold checksMoisture
  split
  case isTrue => exact ⟨rfl, rfl, rfl, rfl, fun _ => rfl, fun _ => rfl⟩
  case isFalse => exact ⟨rfl, rfl, rfl, rfl, id, id⟩

section
variable {s : State} {i : Nat}

/-- A command that changes one port answers with what the change makes of the port as it stands. -/
theorem act_port {f : State → Peer → Peer} {g : Peer → Peer} (awake : Awake s) (same : f s (s.peerI i) = g (s.peerI i)) :
    act s (fun t => t.modPeer i (f t)) = .next (settle s (s.modPeer i g)) := by
  rw [act_awake s _ awake, modPeer_congr same]

section
variable (awake : Awake s)
include awake

/-! ### Attachment and moisture (R218, R219, R226, Table 8-7) -/

/-- In the idle band a seeking port that alternates freezes its presentation. -/
theorem exec_presentationToggle_idle (seeks : (s.peerI i).state = .seek) (exports : (bounds s i).mayExport = true)
    (imports : (bounds s i).mayImport = true) :
    exec (.presentationToggle i true) s = .next (settle s (s.modPeer i (fun p => { p with frozen := true }))) := by
  change execPresentationToggle i true s = _
  exact act_port awake (if_pos ⟨seeks, exports, imports⟩)
/-- Out of the idle band it alternates. -/
theorem exec_presentationToggle_alternates (seeks : (s.peerI i).state = .seek) (exports : (bounds s i).mayExport = true)
    (imports : (bounds s i).mayImport = true) :
    exec (.presentationToggle i false) s = .next (settle s (s.modPeer i (fun p =>
      { p with frozen := false, present := if p.present = .pullUp then .pullDown else .pullUp }))) := by
  change execPresentationToggle i false s = _
  exact act_port awake (if_pos ⟨seeks, exports, imports⟩)

/-- A seeking port that presents recognises its partner and checks for moisture. -/
theorem exec_partnerRecognised_checks (seeks : (s.peerI i).state = .seek) (presents : (s.peerI i).present ≠ .released) :
    exec (.partnerRecognised i) s = .next (settle s (s.modPeer i (fun p => checksMoisture (recognised s.now p)))) := by
  change execPartnerRecognised i s = _
  exact act_port awake (if_pos ⟨seeks, presents⟩)
/-- A wet port returns to CHECK. -/
theorem exec_wetRetry_checks (wet : (s.peerI i).state = .wet) : exec (.wetRetry i) s = .next (settle s (s.modPeer i (fun p =>
    checksMoisture { p with state := .check, ownChecked := false, partnerChecked := false }))) := by
  change execWetRetry i s = _
  exact act_port awake (if_pos wet)
/-- In CONTRACT the upper side checks for moisture at its interval. -/
theorem exec_moisturePeriodic_opens (upper : (s.peerI i).upper = true) (contract : (s.peerI i).state = .contract) :
    exec (.moisturePeriodic i) s = .next (settle s (s.modPeer i (fun p => openQuiet (say 7 [] p)))) := by
  change execMoisturePeriodic i s = _
  exact act_port awake (if_pos ⟨upper, contract⟩)
/-- A port leaves BACKOFF for SEEK. -/
theorem exec_backoffEnd_seeks (backoff : (s.peerI i).state = .backoff) : exec (.backoffEnd i) s = .next (settle s (s.modPeer i (fun p =>
    { p with state := .seek, frozen := false, present := seekPresent (bounds s i), fromBalance := false, upper := false }))) := by
  change execBackoffEnd i s = _
  exact act_port awake (if_pos backoff)

/-- The result of a quiet window in CHECK: a dry one is judged with the partner's, a wet one makes the port wet. -/
theorem exec_quietWindowEnd_check (low : 1 ≤ i) (high : i ≤ 4) {k : Nat} {dry : Bool} (quiet : (s.peerI i).quiet = true)
    (checks : (s.peerI i).state = .check) (result : decide (200 ≤ k) = dry) :
    let t := s.modPeer i (fun p => { p with quiet := false, present := heldPresent p, ownK := sat 16 k, ownChecked := true, ownDry := dry })
    exec (.quietWindowEnd i k) s = .next (settle s (if dry then checkResult i t else foundWet i t)) := by
  intro t
  have live : attached (t.peerI i) = true := by
    rw [modPeer_peerI_self low high]
    exact attached_of_state checks (by decide)
  change execQuietWindowEnd i k s = _
  rw [execQuietWindowEnd, act_awake s _ awake, if_neg (by simp [quiet]), result]
  have stays : ¬(!attached (t.peerI i)) = true := by simp [live]
  exact congrArg (fun u => Host.Outcome.next (settle s u)) (if_neg stays)
/-- Without a quiet window there is none to end. -/
theorem exec_quietWindowEnd_none (k : Nat) (closed : (s.peerI i).quiet = false) : exec (.quietWindowEnd i k) s = .next (settle s s) := by
  change execQuietWindowEnd i k s = _
  rw [execQuietWindowEnd, act_awake s _ awake, if_pos closed]

/-! ### Transport (R220 to R223) -/

/-- An acknowledgement ends the wait of a message that has no effect of its own. -/
theorem exec_peerAck_ends {w : PeerWait} (waits : (s.peerI i).waits = some w) (notEnd : w.typ ≠ 6) (notTest : w.typ ≠ 8) :
    exec (.peerAck i w.seq) s = .next (settle s (s.modPeer i (fun p => { p with waits := none }))) := by
  change execPeerAck i w.seq s = _
  rw [execPeerAck, act_awake s _ awake]
  simp only [waits]
  rw [if_neg (not_not.mpr rfl), if_neg notEnd, if_neg notTest]
/-- With nothing waiting an acknowledgement does nothing. -/
theorem exec_peerAck_none (q : Nat) (waits : (s.peerI i).waits = none) : exec (.peerAck i q) s = .next (settle s s) := by
  change execPeerAck i q s = _
  rw [execPeerAck, act_awake s _ awake]
  simp only [waits]
/-- The upper side of an attached port sends STATUS with its port power since the last one. -/
theorem exec_peerStatusSend_sends (i : Nat) : exec (.peerStatusSend i) s = .next (settle s (s.modPeer i (fun p =>
    if p.upper ∧ attached p then say 5 (statusPayload s i (takePower s i p)) (takePower s i p) else p))) := by
  change execPeerStatusSend i s = _
  exact act_port awake rfl
/-- A message with a bad CRC is counted. -/
theorem exec_peerMessageCrcFail_counts (i : Nat) :
    exec (.peerMessageCrcFail i) s = .next (settle s (s.modPeer i (fun p => { p with crcErr := satInc 255 p.crcErr }))) := by
  change execPeerMessageCrcFail i s = _
  exact act_port awake rfl
/-- A message without reply goes out again, up to three sends. -/
theorem exec_peerReplyTimeout_repeats {w : PeerWait} (waits : (s.peerI i).waits = some w) (notEnd : w.typ ≠ 6) (sends : w.sends < 3) :
    exec (.peerReplyTimeout i) s =
      .next (settle s (s.modPeer i (fun p => { p with waits := some { w with sends := w.sends + 1 }, sent := w.frame }))) := by
  change execPeerReplyTimeout i s = _
  rw [execPeerReplyTimeout, act_awake s _ awake]
  simp only [waits]
  rw [if_neg notEnd, if_pos sends]
/-- The third OFFER without reply ends the negotiation: BACKOFF with the fault of a silent partner. -/
theorem exec_peerReplyTimeout_silent (low : 1 ≤ i) (high : i ≤ 4) {w : PeerWait} (waits : (s.peerI i).waits = some w)
    (offer : w.typ = 2) (sends : 3 ≤ w.sends) (negotiates : (s.peerI i).state = .negotiate) :
    exec (.peerReplyTimeout i) s = .next (settle s ((s.modPeer i (fun p => { p with waits := none })).modPeer i
      (fun p => pptFlt 4 { p with state := .backoff }))) := by
  have state : ((s.modPeer i (fun p => { p with waits := none })).peerI i).state = .negotiate := by
    rw [modPeer_peerI_self low high]; exact negotiates
  change execPeerReplyTimeout i s = _
  rw [execPeerReplyTimeout, act_awake s _ awake]
  simp only [waits]
  rw [if_neg (by omega), if_neg (by omega), if_neg (by omega), if_neg (by omega)]
  simp only [state]
/-- A frame that collides is aborted, and goes again after 100 µs from the upper side and after 300 µs from the other. -/
theorem exec_peerTransmitCollision_aborts (sent : (s.peerI i).sent ≠ []) : exec (.peerTransmitCollision i) s =
    .next (settle s (s.modPeer i (fun p =>
      { p with aborted := p.sent, sent := [], resendAt := some (s.now + if p.upper then 100 else 300) }))) := by
  change execPeerTransmitCollision i s = _
  exact act_port awake (if_neg sent)
end
end

/-- Settles O40: the states of an attachment one by one, then the transport of a message. -/
theorem peerAttachRows : Obligations.PeerAttachRows := by
  refine ⟨fun s i awake low high => ⟨fun seeks exports imports => ⟨?alternates, ?freezes⟩, fun seeks presents => ?recognises,
      fun k quiet checks dry => ?dry, fun k quiet checks wet => ?wet,
      fun k closed => exec_quietWindowEnd_none awake k closed, fun upper contract => ?periodic, fun wet => ?retries, fun backoff => ?seeks⟩,
    fun s i awake low high => ⟨fun w waits notEnd notTest => exec_peerAck_ends awake waits notEnd notTest,
      fun _ _ => exec_peerStatusSend_sends awake i, fun _ _ _ => ⟨rfl, rfl, rfl⟩,
      fun w waits notEnd sends => exec_peerReplyTimeout_repeats awake waits notEnd sends,
      fun w waits offer sends negotiates => ?silent, exec_peerMessageCrcFail_counts awake i, fun sent => ?collides,
      fun q waits => exec_peerAck_none awake q waits⟩⟩
  case alternates =>
    refine ⟨_, exec_presentationToggle_alternates awake seeks exports imports, ?_⟩
    rw [modPeer_peerI_self low high]; exact ⟨rfl, rfl⟩
  case freezes =>
    refine ⟨_, exec_presentationToggle_idle awake seeks exports imports, ?_⟩
    rw [modPeer_peerI_self low high]; exact ⟨rfl, rfl⟩
  case recognises =>
    refine ⟨_, exec_partnerRecognised_checks awake seeks presents, ?_⟩
    rw [modPeer_peerI_self low high]
    obtain ⟨state, frozen, upper, caps, own, -⟩ := checksMoisture_keeps (recognised s.now (s.peerI i))
    exact ⟨state, frozen, upper, own rfl, caps⟩
  case dry => rw [exec_quietWindowEnd_check awake low high quiet checks (decide_eq_true dry), if_pos rfl]
  case wet => rw [exec_quietWindowEnd_check awake low high quiet checks (decide_eq_false (by omega)), if_neg Bool.false_ne_true]
  case periodic =>
    refine ⟨_, exec_moisturePeriodic_opens awake upper contract, ?_⟩
    rw [modPeer_peerI_self low high]; exact ⟨rfl, rfl, rfl, rfl⟩
  case retries =>
    refine ⟨_, exec_wetRetry_checks awake wet, ?_⟩
    rw [modPeer_peerI_self low high]
    obtain ⟨state, -, -, -, own, partner⟩ := checksMoisture_keeps
      { s.peerI i with state := .check, ownChecked := false, partnerChecked := false }
    exact ⟨state, own rfl, partner rfl⟩
  case seeks =>
    refine ⟨_, exec_backoffEnd_seeks awake backoff, ?_⟩
    rw [modPeer_peerI_self low high]; exact ⟨rfl, rfl, rfl⟩
  case silent =>
    refine ⟨_, exec_peerReplyTimeout_silent awake low high waits offer sends negotiates, ?_⟩
    rw [modPeer_peerI_self low high, modPeer_peerI_self low high]
    exact ⟨rfl, getLsbD_putBit_true _ (by decide), rfl⟩
  case collides =>
    refine ⟨_, exec_peerTransmitCollision_aborts awake sent, ?_⟩
    rw [modPeer_peerI_self low high]; exact ⟨rfl, rfl, rfl⟩

/-! ### The messages of an attached partner (R222, R224 to R229) -/

/-- A port that has heard its partner's CAPS: they end the wait of this side's. -/
def capsHeard (c : Caps) (p : Peer) : Peer :=
  { p with caps := some c, unitId := c.unitId, addr := c.addr, partnerExport := c.mayExport, partnerFeed := c.ownFeed,
           partnerLimp := c.limp, waits := if p.waits.any (fun w => decide (w.typ = 1)) then none else p.waits }
/-- A port that has heard its partner's STATUS; the moisture result counts only after this side's window. -/
def statusHeard (now : Nat) (st : PeerStatus) (p : Peer) : Peer :=
  { p with partnerFeed := st.ownFeed, partnerLimp := st.limp, partnerExport := st.mayExport, partnerK := sat 16 st.leakK,
           partnerChecked := p.ownChecked && !p.quiet, pPartner := st.power, statusAt := now,
           caps := p.caps.map (fun c => { c with mayExport := st.mayExport, mayImport := st.mayImport, ownFeed := st.ownFeed, limp := st.limp }),
           waits := if p.waits.any (fun w => decide (w.typ = 5)) then none else p.waits }

section
variable {s : State} {i : Nat} (awake : Awake s)
include awake

/-- The upper side keeps the CAPS it hears in CONTRACT, and no new negotiation begins. -/
theorem exec_caps_contract (low : 1 ≤ i) (high : i ≤ 4) (q : Nat) (c : Caps) (contract : (s.peerI i).state = .contract)
    (upper : (s.peerI i).upper = true) : exec (.caps i q c) s = .next (settle s (s.modPeer i (capsHeard c))) := by
  have live : ¬(!attached (s.peerI i) ∨ (s.peerI i).state = .check ∨ (s.peerI i).state = .wet) := by
    simp [attached_of_state contract (by decide), contract]
  have stays : ¬(((s.modPeer i (capsHeard c)).peerI i).state = .negotiate ∧ ((s.modPeer i (capsHeard c)).peerI i).capsSent) := by
    simp [modPeer_peerI_self low high, capsHeard, contract]
  change execCaps i q c s = _
  rw [execCaps, act_awake s _ awake, if_neg live]
  extract_lets t
  have heard : t = s.modPeer i (capsHeard c) := modPeer_congr (if_pos upper)
  rw [heard, if_neg stays]

/-- An offer that equals this side's terms forms the contract, this side the consumer. -/
theorem exec_offer_accepted {t : Terms} (q : Nat) (negotiates : (s.peerI i).state = .negotiate) (verdict : offerVerdict s i t = 0) :
    exec (.offer i q t) s = .next (settle s (formContract i .consumer t (s.modPeer i (tell 3 (le 1 q))))) := by
  change execOffer i q t s = _
  rw [execOffer, act_awake s _ awake, if_neg (by simp [attached_of_state negotiates (by decide), negotiates]), if_pos verdict]
/-- An offer of other terms ends the negotiation with REJECT reason 3. -/
theorem exec_offer_otherTerms {t : Terms} (q : Nat) (negotiates : (s.peerI i).state = .negotiate) (verdict : offerVerdict s i t = 3) :
    exec (.offer i q t) s =
      .next (settle s (s.modPeer i (fun p => { tell 4 (le 1 3) p with lastReject := 3, state := .backoff }))) := by
  change execOffer i q t s = _
  rw [execOffer, act_awake s _ awake, if_neg (by simp [attached_of_state negotiates (by decide), negotiates]), verdict,
    if_neg (by decide)]
  refine congrArg (fun u => Host.Outcome.next (settle s u)) (modPeer_congr ?_)
  simp [negotiates]
/-- The acknowledged offer forms the contract, this side the supplier. -/
theorem exec_accept_forms {c : Caps} {w : PeerWait} (negotiates : (s.peerI i).state = .negotiate)
    (waits : (s.peerI i).waits = some w) (offer : w.typ = 2) (caps : (s.peerI i).caps = some c) :
    exec (.accept i w.seq) s = .next (settle s (formContract i .supplier (termsOf s i c true) s)) := by
  change execAccept i w.seq s = _
  rw [execAccept, act_awake s _ awake, if_pos ⟨.inl negotiates, by simp [waits, offer]⟩]
  simp only [caps]
/-- A rejected offer ends the negotiation. -/
theorem exec_reject_ends {w : PeerWait} {r : Nat} (waits : (s.peerI i).waits = some w) (offer : w.typ = 2)
    (negotiates : (s.peerI i).state = .negotiate) (volts : r ≠ 2) : exec (.reject i r) s =
      .next (settle s (s.modPeer i (fun p => { p with waits := none, lastReject := r, state := .backoff }))) := by
  change execReject i r s = _
  rw [execReject, act_awake s _ awake, if_neg (by simp [waits, offer]), if_pos (by simp [waits, offer])]
  refine congrArg (fun u => Host.Outcome.next (settle s u)) (modPeer_congr ?_)
  simp [negotiates, volts]

/-- In SWAP the upper side only keeps the STATUS it hears before its own window. -/
theorem exec_status_swap (low : 1 ≤ i) (high : i ≤ 4) (q : Nat) (st : PeerStatus) (swap : (s.peerI i).state = .swap)
    (unchecked : (s.peerI i).ownChecked = false) (upper : (s.peerI i).upper = true) (noRecheck : (s.peerI i).recheck = false) :
    exec (.status i q st) s = .next (settle s (s.modPeer i (statusHeard s.now st))) := by
  have port := modPeer_peerI_self low high s (statusHeard s.now st)
  have state : ((s.modPeer i (statusHeard s.now st)).peerI i).state = .swap := by rw [port]; exact swap
  have partner : ((s.modPeer i (statusHeard s.now st)).peerI i).partnerChecked = false := by
    rw [port]; exact congrArg (fun b => b && !(s.peerI i).quiet) unchecked
  change execStatus i q st s = _
  rw [execStatus, act_awake s _ awake, if_neg (by simp [attached_of_state swap (by decide)])]
  extract_lets t p
  have heard : t = s.modPeer i (statusHeard s.now st) := by
    refine modPeer_congr ?_
    simp [statusHeard, upper, noRecheck]
  rw [show p = t.peerI i from rfl, heard, if_neg (by simp [partner])]
  simp only [state]

/-- END with reason 1 is acknowledged and ends the contract. -/
theorem exec_peerEnd_command (q : Nat) (contract : (s.peerI i).state = .contract) : exec (.peerEnd i q 1) s =
    .next (settle s (endHeard i 1 (afterEnd 1) (s.modPeer i (tell 9 (le 1 q))))) := by
  change execPeerEnd i q 1 s = _
  rw [execPeerEnd, act_awake s _ awake, if_neg (by simp [attached_of_state contract (by decide)]), if_neg (by simp [contract]),
    if_neg (by decide), if_neg (by decide)]
/-- QUIET to an attached port is acknowledged, and the window opens here too. -/
theorem exec_quiet_opens (q : Nat) (live : attached (s.peerI i) = true) :
    exec (.quiet i q) s = .next (settle s (s.modPeer i (fun p => openQuiet (tell 9 (le 1 q) p)))) := by
  change execQuiet i q s = _
  exact act_port awake (if_pos live)
end

/-- Settles O41: each message of the partner by what it makes of the port. -/
theorem peerMessageRows : Obligations.PeerMessageRows := by
  refine fun s i q awake low high => ⟨fun c contract upper => ?caps,
    fun t negotiates verdict => exec_offer_accepted awake q negotiates verdict, fun t negotiates verdict => ?rejects,
    fun c w negotiates waits offer number caps => ?accepts, fun w r waits offer negotiates volts => ?rejected,
    fun st swap unchecked upper noRecheck => ?status, fun contract => exec_peerEnd_command awake q contract, fun contract => ?quiet⟩
  case caps =>
    refine ⟨_, exec_caps_contract awake low high q c contract upper, ?_⟩
    rw [modPeer_peerI_self low high]; exact ⟨rfl, rfl, rfl⟩
  case rejects =>
    refine ⟨_, exec_offer_otherTerms awake q negotiates verdict, ?_⟩
    rw [modPeer_peerI_self low high]; exact ⟨rfl, rfl, rfl⟩
  case accepts =>
    subst number
    exact exec_accept_forms awake negotiates waits offer caps
  case rejected =>
    refine ⟨_, exec_reject_ends awake waits offer negotiates volts, ?_⟩
    rw [modPeer_peerI_self low high]; exact ⟨rfl, rfl, rfl⟩
  case status =>
    refine ⟨_, exec_status_swap awake low high q st swap unchecked upper noRecheck, ?_⟩
    rw [modPeer_peerI_self low high]; exact ⟨rfl, rfl, rfl, rfl⟩
  case quiet =>
    refine ⟨_, exec_quiet_opens awake q (attached_of_state contract (by decide)), ?_⟩
    rw [modPeer_peerI_self low high]; exact ⟨rfl, rfl, rfl, rfl⟩

/-! ### The swap, the loss of a partner and PPT_CMD (R227 to R230, R233, Tables 8-9 and 8-12) -/

/-- A port without a contract has none that its partner's END or its loss could end. -/
theorem endHeard_noContract {s : State} {i : Nat} (contract : (s.peerI i).state ≠ .contract) (swap : (s.peerI i).state ≠ .swap)
    (r : Nat) (next : PeerState) : endHeard i r next s = s := if_pos ⟨contract, swap⟩
/-- The terms of the swap that this side offers: those of the two CAPS, or else those of the contract. -/
def swapOffer (s : State) (i : Nat) (p : Peer) : Terms :=
  match p.caps with
  | none => { vC := p.vC, pC := p.pC, pS := p.pS, rC := p.rC }
  | some c => termsOf s i c true
/-- A port whose partner is lost: BACKOFF, the loss counted, nothing of the partner kept (R229). -/
def partnerGone (p : Peer) : Peer :=
  pptFlt 3 { p with state := .backoff, fromBalance := false, losses := satInc 255 p.losses, waits := none, caps := none, quiet := false }

section
variable {s : State} {i : Nat} (awake : Awake s)
include awake

/-- The pulse at a consumer with its own feed: it supplies the cable within P_S and offers its terms (R227). -/
theorem exec_swapPulse_supplies (contract : (s.peerI i).state = .contract) (consumes : (s.peerI i).role = .consumer)
    (feed : ownFeed s = true) :
    let d := dropPeerPath i s
    exec (.swapPulse i) s = .next (settle s (supply i (s.peerI i).pS (d.modPeer i (fun p =>
      { say 2 (offerPayload (swapOffer d i (s.peerI i))) p with
        state := .swap, role := .supplier, swapTerms := true, swaps := satInc 255 p.swaps, swapAt := d.now,
        test := false, testImport := false })))) := by
  change execSwapPulse i s = _
  rw [execSwapPulse, act_awake s _ awake, if_neg (by simp [contract, consumes, feed])]
  rfl
/-- Elsewhere the pulse does nothing. -/
theorem exec_swapPulse_other (other : (s.peerI i).state ≠ .contract ∨ (s.peerI i).role ≠ .consumer) :
    exec (.swapPulse i) s = .next (settle s s) := by
  change execSwapPulse i s = _
  rw [execSwapPulse, act_awake s _ awake, if_pos (by tauto)]
/-- A swap that fails while this side drives the pulse ends with END reason 10 and source 213. -/
theorem exec_swapFail_ends (swap : (s.peerI i).state = .swap) (pulse : (s.peerI i).pulse = true) :
    exec (.swapFail i) s = .next (settle s (raise 213 i ((endSent i 10 s).modPeer i (pptFlt 5)))) := by
  change execSwapFail i s = _
  rw [execSwapFail, act_awake s _ awake, if_pos ⟨swap, .inl pulse⟩]
/-- A swap without an OFFER in its time ends with END reason 10 (log entry 43). -/
theorem exec_swapOfferTimeout_ends (swap : (s.peerI i).state = .swap) :
    exec (.swapOfferTimeout i) s = .next (settle s (endSent i 10 s)) := by
  change execSwapOfferTimeout i s = _
  rw [execSwapOfferTimeout, act_awake s _ awake, if_pos swap]
/-- At the end of its pulse the former supplier consumes under the swap terms. -/
theorem exec_swapPulseEnd_consumes (swap : (s.peerI i).state = .swap) (pulse : (s.peerI i).pulse = true) :
    exec (.swapPulseEnd i) s =
      .next (settle s (s.modPeer i (fun p => { p with pulse := false, role := .consumer, swapTerms := true }))) := by
  change execSwapPulseEnd i s = _
  exact act_port awake (if_pos ⟨swap, pulse⟩)
/-- A partner lost from IDLE, outside a quiet window, puts the port into BACKOFF with source 214. -/
theorem exec_partnerLost_idle (idle : (s.peerI i).state = .idle) (noWindow : (s.peerI i).quiet = false) :
    exec (.partnerLost i) s = .next (settle s (raise 214 i (s.modPeer i partnerGone))) := by
  change execPartnerLost i s = _
  rw [execPartnerLost, act_awake s _ awake, if_neg (by simp [attached_of_state idle (by decide), noWindow]),
    endHeard_noContract (by simp [idle]) (by simp [idle])]
  rfl

/-- TEST at a consumer that may import and has its own feed is acknowledged, and its cordon imports the stated power (R233). -/
theorem exec_peerTest_imports (q w d : Nat) (contract : (s.peerI i).state = .contract) (consumes : (s.peerI i).role = .consumer)
    (imports : (bounds s i).mayImport = true) (feed : ownFeed s = true) :
    let t := s.modPeer i (fun p => { tell 9 (le 1 q) p with test := true, testImport := true, testPower := w })
    let c := peerCordon t i
    exec (.peerTest i q w d) s = .next (settle s
      (driveCordon c .portI (-(fromCredits w ((s.peerI i).vC * 10) : Int)) 0 ((t.cordon c).e.vMax * 10) t)) := by
  change execPeerTest i q w d s = _
  rw [execPeerTest, act_awake s _ awake, if_neg (by simp [contract, consumes]), if_pos (by simp [imports, feed])]
/-- The test of the exporting side ends with its record alone. -/
theorem exec_exportTestEnd_exporter (test : (s.peerI i).test = true) (exports : (s.peerI i).testImport = false) :
    exec (.exportTestEnd i) s =
      .next (settle s (s.modPeer i (fun p => { p with test := false, testImport := false, testPower := 0 }))) := by
  change execExportTestEnd i s = _
  rw [execExportTestEnd, act_awake s _ awake, if_neg (by simp [test]), if_pos (by simp [exports])]

/-- PPT_CMD on a port in use, in a working mode, has its effect and answers its RESULT. -/
theorem pptCmd_accepted {code r : Nat} {f : State → State × Nat} {t : State} (mode : working s.sys.mode = true)
    (used : peerUsed s i = true) (effect : f s = (t, r)) :
    act s (pptCmd code i f) = .next (settle s { t with ppt := { t.ppt with cmd := cmdRes code r } }) := by
  have accepts : (if !working s.sys.mode then 2 else if !peerUsed s i then 6 else 0) = 0 := by simp [mode, used]
  rw [act_awake s _ awake, pptCmd, accepts, effect]
  rfl
/-- EXPORT_TEST on a supplier in SERVICE sends TEST and answers 1 until the partner replies (R233, log entry 43). -/
theorem exec_exportTest_sends {w d : Nat} (service : s.sys.mode = .service) (used : peerUsed s i = true)
    (power : 1 ≤ w ∧ w ≤ 960) (duration : 1 ≤ d ∧ d ≤ 60) (contract : (s.peerI i).state = .contract)
    (supplies : (s.peerI i).role = .supplier) (idle : (s.peerI i).test = false) (free : (s.peerI i).waits = none) :
    let t := s.modPeer i (fun p => say 8 (le 2 w ++ le 2 d) { p with testPower := w })
    exec (.exportTest i w d) s = .next (settle s { t with ppt := { t.ppt with cmd := cmdRes 1 1 } }) := by
  refine pptCmd_accepted awake (by simp [working, service]) used ?_
  rw [if_neg (not_not.mpr service), if_neg (by omega), if_neg (by simp [contract, supplies]), if_neg (by simp [idle, free])]
/-- END_CONTRACT ends a contract with END reason 1. -/
theorem exec_endContract_ends (mode : working s.sys.mode = true) (used : peerUsed s i = true)
    (contract : (s.peerI i).state = .contract) : let t := endSent i 1 s
    exec (.endContract i) s = .next (settle s { t with ppt := { t.ppt with cmd := cmdRes 2 0 } }) :=
  pptCmd_accepted awake mode used (if_pos contract)
/-- RECHECK_MOISTURE on an attached port marks the window that the next exchange opens. -/
theorem exec_recheckMoisture_marks (mode : working s.sys.mode = true) (used : peerUsed s i = true)
    (live : attached (s.peerI i) = true) : let t := s.modPeer i (fun p => { p with recheck := true })
    exec (.recheckMoisture i) s = .next (settle s { t with ppt := { t.ppt with cmd := cmdRes 3 0 } }) :=
  pptCmd_accepted awake mode used (if_pos live)
end

/-- Settles O42: the swap by its stage, the loss of a partner, the two sides of a test, then PPT_CMD. -/
theorem peerSwapAndTestRows : Obligations.PeerSwapAndTestRows := by
  refine fun s i awake low high => ⟨fun contract consumes feed => exec_swapPulse_supplies awake contract consumes feed,
    fun other => exec_swapPulse_other awake other, fun swap pulse => exec_swapFail_ends awake swap pulse,
    fun swap => exec_swapOfferTimeout_ends awake swap, fun swap pulse => ?pulseEnds, fun idle noWindow => ?lost,
    fun w d service used lowPower highPower short long contract supplies idle free => ?sendsTest,
    fun contract consumes imports feed q w d => ?imports, fun test exports => exec_exportTestEnd_exporter awake test exports,
    fun mode used contract => exec_endContract_ends awake mode used contract, fun mode used contract => ?rechecks⟩
  case pulseEnds =>
    refine ⟨_, exec_swapPulseEnd_consumes awake swap pulse, ?_⟩
    rw [modPeer_peerI_self low high]; exact ⟨rfl, rfl, rfl⟩
  case lost =>
    refine ⟨_, exec_partnerLost_idle awake idle noWindow, ?_⟩
    rw [modPeer_peerI_self low high]; exact ⟨rfl, rfl, getLsbD_putBit_true _ (by decide), rfl⟩
  case sendsTest =>
    have port := modPeer_peerI_self low high s (fun p => say 8 (le 2 w ++ le 2 d) { p with testPower := w })
    exact ⟨_, exec_exportTest_sends awake service used ⟨lowPower, highPower⟩ ⟨short, long⟩ contract supplies idle free,
      congrArg Peer.testPower port, congrArg Peer.sent port, rfl⟩
  case imports =>
    refine ⟨_, exec_peerTest_imports awake q w d contract consumes imports feed, ?_⟩
    rw [(driveCordon_board ..).peerI, modPeer_peerI_self low high]; exact ⟨rfl, rfl, rfl, rfl⟩
  case rechecks =>
    have port := modPeer_peerI_self low high s (fun p => { p with recheck := true })
    exact ⟨_, exec_recheckMoisture_marks awake mode used (attached_of_state contract (by decide)), congrArg Peer.recheck port, rfl⟩

end Sys2Proof.Laws
end

section
/-! SUPPORT. The measurement converters: conversions of slots and of trigger tracks, triggers and their sources, then the reference,
the rotation of the slices, the diagnosis and CLEAR_FAILED. -/

namespace Sys2Proof.Laws
open Sys2Proof Sys2Proof.Machine

/-- A converter after its own change. -/
theorem modConv_convX_self {x : Nat} (low : x < 4) (s : State) (f : Conv → Conv) : (s.modConv x f).convX x = f (s.convX x) := by
  rw [modConv_convX, if_pos ⟨rfl, low⟩]

/-- A slot of a converter's layout. -/
def slotOf (s : State) (x k : Nat) : AdcSlot := bankGet {} (s.convX x).slots (k + 1)
/-- The result of a slot's conversion with its tags. -/
def slotTag (s : State) (x k : Nat) (raw : BitVec 24) : AdcResult :=
  tagged s x (slotOf s x k).left (slotOf s x k).channel false raw
/-- The slot's register after its conversion: the result, and one invalid result less to follow once the reference has settled. -/
def slotWritten (s : State) (x k : Nat) (raw : BitVec 24) : State :=
  s.modConv x (fun c => { c with slots := bankMod c.slots (k + 1) (fun a =>
    { a with res := slotTag s x k raw, left := if s.adc.settled.getLsbD x then a.left - 1 else a.left }) })

/-- The result of a triggered conversion: its tags, the source of its trigger, and whether it overruns an unread one. -/
def trackTag (s : State) (x : Nat) (h : AdcHold) (raw : BitVec 24) : AdcResult :=
  let channel := if h.trig = 5 then s.adc.diagChan else (s.convX x).channel
  { tagged s x (s.convX x).left channel true raw with trig := h.trig, ovr := (s.convX x).unread }
/-- A converter after a triggered conversion: ADC_RES is written and unread, and the track takes the sample of a displaced trigger. -/
def trackTaken (s : State) (x : Nat) (r : AdcResult) (c : Conv) : Conv :=
  { c with res := r, unread := true, left := if s.adc.settled.getLsbD x then c.left - 1 else c.left, held := c.displaced,
           displaced := none, lastStart := some s.now }
/-- The counter of deferred samples and the overrun interrupt after a triggered conversion. -/
def trackCounted (x : Nat) (deferred overrun : Bool) (s : State) : State :=
  let t := if deferred then { s with adc := { s.adc with deferred := satInc 255 s.adc.deferred } } else s
  if overrun then { t with adc := { t.adc with irq := putBit t.adc.irq (8 + x) true } } else t
/-- The state after a triggered conversion that no window judges. -/
def trackConverted (s : State) (x : Nat) (h : AdcHold) (raw : BitVec 24) : State :=
  trackCounted x (s.convX x).displaced.isSome (s.convX x).unread (s.modConv x (trackTaken s x (trackTag s x h raw)))

/-- Counting leaves the converters. -/
@[simp] theorem trackCounted_convX (x y : Nat) (deferred overrun : Bool) (s : State) :
    (trackCounted x deferred overrun s).convX y = s.convX y := by
  cases deferred <;> cases overrun <;> rfl
/-- What a triggered conversion makes of its converter. -/
theorem trackConverted_convX {x : Nat} (low : x < 4) (s : State) (h : AdcHold) (raw : BitVec 24) :
    (trackConverted s x h raw).convX x = trackTaken s x (trackTag s x h raw) (s.convX x) := by
  rw [trackConverted, trackCounted_convX, modConv_convX_self low]
/-- A window comparator that is not enabled judges nothing (R249). -/
theorem windowJudge_disabled {x : Nat} {s : State} (r : BitVec 24) (off : (s.convX x).en = false) : windowJudge x r s = s :=
  if_pos (by simp [off])

/-- A free trigger track holds its input for the trigger (R246). -/
theorem holdOn_free {x : Nat} {s : State} (trig : Nat) (low : x < 4) (free : (s.convX x).held = none) :
    ((holdOn trig x s).convX x).held = some { trig := trig } := by
  unfold holdOn
  simp only [free]
  exact congrArg Conv.held (modConv_convX_self low s _)
/-- An enabled route of converter 0 alone triggers that converter's track. -/
theorem fireRoute_first {r : Route} {s : State} (enabled : r.en = true) (first : r.conv = 1) (source : trigCode r.src ≠ 0)
    (runs : adcRuns s = true) : fireRoute r s = holdOn (trigCode r.src) 0 s := by
  have fires : ¬(!r.en || decide (trigCode r.src = 0) || !adcRuns s) = true := by simp [enabled, source, runs]
  rw [fireRoute, if_neg fires, first]
  rfl

/-- A slice that fails its self-test again stays FAILED (R253, log 45). -/
theorem adcClearFailed_failing {s : State} {k : Nat} (works : working s.sys.mode = true) (slice : k ≤ 4)
    (failed : s.adc.failed.getLsbD k = true) : adcClearFailed k false s = { s with adc := { s.adc with cmd := cmdRes 2 0 } } := by
  rw [adcClearFailed, if_neg (by simp [works]), if_neg (by omega), if_neg (by simp [failed]), if_pos (by decide)]
  rfl
/-- A slice that passes its self-test is no longer FAILED (R253). -/
theorem adcClearFailed_passed {s : State} {k : Nat} (works : working s.sys.mode = true) (slice : k ≤ 4)
    (failed : s.adc.failed.getLsbD k = true) :
    (adcClearFailed k true s).adc.failed = putBit s.adc.failed k false ∧ (adcClearFailed k true s).adc.cmd = cmdRes 2 0 := by
  rw [adcClearFailed, if_neg (by simp [works]), if_neg (by omega), if_neg (by simp [failed]), if_neg (by decide)]
  extract_lets src a dead b
  refine ⟨?_, rfl⟩
  change b.failed = a.failed
  unfold b
  split
  case isTrue => split <;> rfl
  case isFalse => split <;> rfl

section
variable {s : State} (awake : Awake s)
include awake

/-! ### Conversions (R241, R242, R246) -/

/-- Converters that do not run convert no slot. -/
theorem exec_slotConversionDone_stopped (x k : Nat) (raw : BitVec 24) (stopped : adcRuns s = false) :
    exec (.slotConversionDone x k raw) s = .next (settle s s) := by
  change execSlotConversionDone x k raw s = _
  rw [execSlotConversionDone, act_awake s _ awake, if_pos (.inl (by simp [stopped]))]
/-- A slot's result is written with its tag; one that no window judges goes to the engine if the slot serves it. -/
theorem exec_slotConversionDone_unjudged {x k : Nat} {raw : BitVec 24} (runs : adcRuns s = true) (used : (slotOf s x k).used = true)
    (unjudged : (slotTag s x k raw).valid = true → ((slotWritten s x k raw).convX x).wsrc ≠ k + 1)
    (valid : servingSlot (slotWritten s x k raw) (slotOf s x k).channel = some (x, k) → (slotTag s x k raw).valid = true) :
    exec (.slotConversionDone x k raw) s = .next (settle s
      (if servingSlot (slotWritten s x k raw) (slotOf s x k).channel = some (x, k) then
        slotServe (slotOf s x k).channel (slotOf s x k).range (slotTag s x k raw).result (slotWritten s x k raw)
      else slotWritten s x k raw)) := by
  change execSlotConversionDone x k raw s = _
  rw [execSlotConversionDone, act_awake s _ awake]
  extract_lets a r settled t u
  rw [if_neg (by simp [runs, show a.used = true from used])]
  refine congrArg (fun u => Host.Outcome.next (settle s u)) ?_
  split
  case isTrue invalid =>
    have idle : servingSlot t a.channel ≠ some (x, k) := fun serves => by simp [show r.valid = true from valid serves] at invalid
    rw [if_neg idle]
    exact (if_neg idle).symm
  case isFalse holds =>
    have same : u = t := if_neg (unjudged (by rw [Bool.not_eq_true', Bool.not_eq_false] at holds; exact holds))
    rw [same]
    rfl

/-- A triggered conversion of a converter without window comparator writes ADC_RES for the trigger it held. -/
theorem exec_triggeredConversionDone_held {x : Nat} {h : AdcHold} (raw : BitVec 24) (low : x < 4) (runs : adcRuns s = true)
    (held : (s.convX x).held = some h) (off : (s.convX x).en = false) :
    exec (.triggeredConversionDone x raw) s = .next (settle s (trackConverted s x h raw)) := by
  have unjudged : windowJudge x (trackTag s x h raw).result (trackConverted s x h raw) = trackConverted s x h raw :=
    windowJudge_disabled _ (by rw [trackConverted_convX low]; exact off)
  change execTriggeredConversionDone x raw s = _
  rw [execTriggeredConversionDone, act_awake s _ awake, if_neg (by simp [runs, held])]
  simp only [held]
  exact congrArg (fun u => Host.Outcome.next (settle s u)) (ite_eq_right_iff.mpr fun _ => unjudged)

/-! ### Triggers and their sources (R245 to R247) -/

/-- A trigger fires its route. -/
theorem exec_trigger_fires (r : Nat) : exec (.trigger r) s = .next (settle s (fireRoute (bankGet {} s.adc.routes (r + 1)) s)) := by
  change execTrigger r s = _
  rw [execTrigger, act_awake s _ awake]
/-- A timer that runs fires the routes of its source. -/
theorem exec_adcTimerExpiry_fires {t : Nat} (on : timerOn (bankGet {} s.adc.timers (t + 1)) = true) :
    exec (.adcTimerExpiry t) s = .next (settle s (fireSource (0x10 + t) s)) := by
  change execAdcTimerExpiry t s = _
  rw [execAdcTimerExpiry, act_awake s _ awake, if_pos on]
/-- A comparator that leaves its active state fires nothing. -/
theorem exec_comparatorTransition_inactive {c : Nat} (enabled : (bankGet {} s.adc.cmps (c + 1)).en = true)
    (low : 1 ≤ (bankGet {} s.adc.cmps (c + 1)).mode) (high : (bankGet {} s.adc.cmps (c + 1)).mode ≤ 4) :
    exec (.comparatorTransition c false) s = .next (settle s
      { s with adc := { s.adc with cmps := bankMod s.adc.cmps (c + 1) (fun c => { c with out := false }) } }) := by
  have judges : ¬((!(bankGet {} s.adc.cmps (c + 1)).en) = true ∨ (bankGet {} s.adc.cmps (c + 1)).mode = 0 ∨
      4 < (bankGet {} s.adc.cmps (c + 1)).mode) := by simp [enabled]; omega
  change execComparatorTransition c false s = _
  rw [execComparatorTransition, act_awake s _ awake, if_neg judges]
  rfl
/-- A write of ADC_SWTRG fires the software routes of its mask. -/
theorem exec_adcSwtrgWrite_fires (m : BitVec 8) : exec (.adcSwtrgWrite m) s = .next (settle s (swTrigger m s)) := by
  change execAdcSwtrgWrite m s = _
  rw [execAdcSwtrgWrite, act_awake s _ awake]

/-! ### Reference, rotation and the ADC commands (R250 to R255) -/

/-- While the converters do not run no reference settles. -/
theorem exec_referenceSettled_stopped (x : Nat) (stopped : adcRuns s = false) : exec (.referenceSettled x) s = .next (settle s s) := by
  change execReferenceSettled x s = _
  rw [execReferenceSettled, act_awake s _ awake, if_pos (.inl (by simp [stopped]))]
/-- A reference settles, REFIN within its band. -/
theorem exec_referenceSettled_settles {x : Nat} (runs : adcRuns s = true) (low : x < 4) (inBand : s.adc.refinBad = false) :
    exec (.referenceSettled x) s = .next (settle s { s with adc := { s.adc with settled := putBit s.adc.settled x true } }) := by
  change execReferenceSettled x s = _
  rw [execReferenceSettled, act_awake s _ awake, if_neg (by simp [runs, low, inBand])]
/-- A frame boundary at which the slices agree turns the rotation. -/
theorem exec_calibrationFrameBoundary_agrees {d : Nat} {p : Bool} (works : working s.sys.mode = true)
    (agrees : (rotate s.now d p s.adc).2 = none) :
    exec (.calibrationFrameBoundary d p) s = .next (settle s { s with adc := (rotate s.now d p s.adc).1 }) := by
  change execCalibrationFrameBoundary d p s = _
  rw [execCalibrationFrameBoundary, act_awake s _ awake, if_neg (by simp [works])]
  simp only [agrees]
/-- One at which a slice differs from its shadow reports it with source 208. -/
theorem exec_calibrationFrameBoundary_differs {d k : Nat} {p : Bool} (works : working s.sys.mode = true)
    (differs : (rotate s.now d p s.adc).2 = some k) : exec (.calibrationFrameBoundary d p) s =
      .next (settle s (raiseSrc 208 k (blockAddr 0 3 k) { s with adc := (rotate s.now d p s.adc).1 })) := by
  change execCalibrationFrameBoundary d p s = _
  rw [execCalibrationFrameBoundary, act_awake s _ awake, if_neg (by simp [works])]
  simp only [differs]
/-- DIAG in SERVICE, of a channel that no comparator of the module reserves, begins a diagnosis. -/
theorem exec_diag_begins {x c : Nat} (service : s.sys.mode = .service) (conv : x ≤ 3) (channel : c ≤ 31)
    (free : s.adc.cmps.toList.any (fun k => k.module_ && decide (k.channel = c)) = false) (idle : s.adc.diagState ≠ 1) :
    exec (.diag x c) s = .next (settle s { s with adc :=
      { s.adc with diagState := 1, diagChan := c, diagConv := x, diagOpen := false, diagShort := false, cmd := cmdRes 1 1 } }) := by
  change execDiag x c s = _
  rw [execDiag, act_awake s _ awake, adcDiag, if_neg (not_not.mpr service), if_neg (by omega), if_neg (by simp [free]), if_neg idle]
  rfl
/-- A diagnosis ends with the source resistance, and with what it says of an open or a shorted input. -/
theorem exec_diagComplete_measures {v w n : Nat} (runs : s.adc.diagState = 1) (resistance : rSrc v w = some n)
    (follows : w - v < 1250000) : exec (.diagComplete v w) s = .next (settle s { s with adc := { s.adc with
      diagState := 2, rSrc := sat 22 n,
      diagOpen := decide (10 * (1250000 - (w - v)) < w - v), diagShort := decide (n < 10), cmd := cmdRes 1 0 } }) := by
  have notFull : decide (1250000 ≤ w - v) = false := decide_eq_false (by omega)
  change execDiagComplete v w s = _
  rw [execDiagComplete, act_awake s _ awake, if_neg (not_not.mpr runs)]
  simp only [resistance, notFull, Bool.false_or]
  rfl
/-- Without a diagnosis there is none to complete. -/
theorem exec_diagComplete_none (v w : Nat) (idle : s.adc.diagState ≠ 1) : exec (.diagComplete v w) s = .next (settle s s) := by
  change execDiagComplete v w s = _
  rw [execDiagComplete, act_awake s _ awake, if_pos idle]
/-- CLEAR_FAILED acts with the result of the slice's self-test. -/
theorem exec_adcClearFailed (k : Nat) (pass : Bool) :
    exec (.adcClearFailed k pass) s = .next (settle s (adcClearFailed k pass s)) := by
  change execAdcClearFailed k pass s = _
  rw [execAdcClearFailed, act_awake s _ awake]
end

/-- Settles O43: the conversions of slots and tracks with their triggers, then the reference, the rotation and the ADC commands. -/
theorem adcRows : Obligations.AdcRows := by
  refine ⟨fun s awake => ⟨fun x k raw => ?slot, fun x k raw stopped => exec_slotConversionDone_stopped awake x k raw stopped,
      fun x raw h low runs held off => ?track, fun r => exec_trigger_fires awake r,
      fun r enabled first runs source free => ?holds, fun t on => exec_adcTimerExpiry_fires awake on, fun c => ?inactive,
      fun m => exec_adcSwtrgWrite_fires awake m⟩,
    fun s awake => ⟨fun x stopped => exec_referenceSettled_stopped awake x stopped,
      fun x runs low inBand => exec_referenceSettled_settles awake runs low inBand,
      fun d p works agrees => exec_calibrationFrameBoundary_agrees awake works agrees,
      fun d p k works differs => exec_calibrationFrameBoundary_differs awake works differs,
      fun x c service conv channel free idle => exec_diag_begins awake service conv channel free idle,
      fun v w n runs resistance follows => exec_diagComplete_measures awake runs resistance follows,
      fun v w idle => exec_diagComplete_none awake v w idle,
      fun k works slice failed => ?failsAgain,
      fun k works slice failed => ⟨_, exec_adcClearFailed awake k true, adcClearFailed_passed works slice failed⟩⟩⟩
  case slot =>
    intro a r t runs used
    constructor
    · intro idle unjudged
      rw [exec_slotConversionDone_unjudged awake runs used unjudged (fun serves => absurd serves idle)]
      exact congrArg (fun u => Host.Outcome.next (settle s u)) (if_neg idle)
    · intro serves valid unjudged
      rw [exec_slotConversionDone_unjudged awake runs used (fun _ => unjudged) (fun _ => valid)]
      exact congrArg (fun u => Host.Outcome.next (settle s u)) (if_pos serves)
  case track =>
    refine ⟨_, exec_triggeredConversionDone_held awake raw low runs held off, ?_⟩
    rw [trackConverted_convX low]; exact ⟨rfl, rfl, rfl, rfl, rfl, rfl⟩
  case holds =>
    refine ⟨_, exec_trigger_fires awake r, ?_⟩
    rw [fireRoute_first enabled first source runs]; exact holdOn_free _ (by decide) free
  case inactive =>
    intro k enabled low high _
    exact exec_comparatorTransition_inactive awake enabled low high
  case failsAgain => rw [exec_adcClearFailed awake k false, adcClearFailed_failing works slice failed]

end Sys2Proof.Laws
end

section
/-! SUPPORT. The frames of the status registers, from what each command may write. -/

namespace Sys2Proof.Laws
open Sys2Proof Sys2Proof.Machine

/-- Settles O15, group by group: a command that the group's list does not name may not write the group (`MayWrite`), so it is kept
(`exec_good`); of one that is named there is nothing to show. -/
theorem statusFrame : Obligations.StatusFrame := by
  intro c s t h
  have ⟨_, _, _, _, _, _, _, _, _, _, _, _, _, clock, badWords, crystal, verdict, staged, applied, timing, address, expiry, question,
    life, arming, flashOp, rng, diag, failed, button, ship, changeover, graft, irq, lastEvent⟩ := (exec_good c h).keeps
  simp only [store, Prod.mk.injEq]
    at clock badWords crystal verdict staged applied timing expiry question life diag ship changeover graft lastEvent
  refine ⟨?clock, ?badWords, ?crystal, ?verdict, ?staged, ?applied, ?timing, ?address, ?expiry, ?question, ?life, ?arming, ?flashOp,
    ?rng, ?diag, ?failed, ?button, ?ship, ?changeover, ?graft, ?irq, ?lastEvent⟩
  case clock => clear * - clock; cases c <;> first | exact clock id | exact trivial
  case badWords => clear * - badWords; cases c <;> first | exact badWords id | exact trivial
  case crystal => clear * - crystal; cases c <;> first | exact crystal id | exact trivial
  case verdict => clear * - verdict; cases c <;> first | exact verdict id | exact trivial
  case staged => clear * - staged; cases c <;> first | exact staged id | exact trivial
  case applied => clear * - applied; cases c <;> first | exact applied id | exact trivial
  case timing => clear * - timing; cases c <;> first | exact timing id | exact trivial
  case address => clear * - address; cases c <;> first | exact address id | exact trivial
  case expiry => clear * - expiry; cases c <;> first | exact expiry id | exact trivial
  case question => clear * - question; cases c <;> first | exact question id | exact trivial
  case life => clear * - life; cases c <;> first | exact life id | exact trivial
  case arming => clear * - arming; cases c <;> first | exact arming id | exact trivial
  case flashOp => clear * - flashOp; cases c <;> first | exact flashOp id | exact trivial
  case rng => clear * - rng; cases c <;> first | exact rng id | exact trivial
  case diag => clear * - diag; cases c <;> first | exact diag id | exact trivial
  case failed => clear * - failed; cases c <;> first | exact failed id | exact trivial
  case button => clear * - button; cases c <;> first | exact button id | exact trivial
  case ship => clear * - ship; cases c <;> first | exact ship id | exact trivial
  case changeover => clear * - changeover; cases c <;> first | exact changeover id | exact trivial
  case graft => clear * - graft; cases c <;> first | exact graft id | exact trivial
  case irq => clear * - irq; cases c <;> first | exact irq id | exact trivial
  case lastEvent => clear * - lastEvent; cases c <;> first | exact lastEvent id | exact trivial

end Sys2Proof.Laws
end

section
/-! SUPPORT. The staged bank: the refusals that a write and a command meet, the outcomes of a check, and the rows of its writes and
commands. -/

namespace Sys2Proof.Laws
open Sys2Proof Sys2Proof.Machine

section
variable {s : State} {a : Agent}

/-! ### Writes to the bank (R260 to R262, R271) -/

/-- In a working mode the bank serves every agent. -/
theorem stgMode_of_working (works : working s.sys.mode = true) : stgMode s a = true := by simp [stgMode, works]

theorem stgRefusal_empty (works : working s.sys.mode = true) (empty : s.stg.state = .empty) : stgRefusal s a = 0 := by
  simp [stgRefusal, stgMode_of_working works, empty]

theorem stgRefusal_owner (works : working s.sys.mode = true) (isOpen : s.stg.state = .open_) (owner : s.stg.owner = some a) :
    stgRefusal s a = 0 := by
  simp [stgRefusal, stgMode_of_working works, isOpen, owner]

theorem stgRefusal_armed (works : working s.sys.mode = true) (armed : s.stg.state = .armed) : stgRefusal s a = 1 := by
  simp [stgRefusal, stgMode_of_working works, armed]

theorem stgRefusal_foreign {b : Agent} (works : working s.sys.mode = true) (isOpen : s.stg.state = .open_)
    (owner : s.stg.owner = some b) (other : b ≠ a) : stgRefusal s a = 4 := by
  simp [stgRefusal, stgMode_of_working works, isOpen, owner, other]

theorem stgWrite_accepted {o : Nat} {d : Word} (free : stgRefusal s a = 0) :
    stgWrite a o d s = { stgOpen a s with stg := stgRegs o d (stgOpen a s).stg } := by
  simp [stgWrite, free]

theorem stgWrite_refused {o r : Nat} {d : Word} (refused : stgRefusal s a = r) (r_ne : r ≠ 0) : stgWrite a o d s = stgRefuse r s := by
  simp [stgWrite, refused, r_ne]

/-! ### The bank's commands (R263 to R271, Table 10-6) -/

/-- No shared refusal stops a command of the owner while the set is open, checked or scheduled. -/
theorem stgCmdRefusal_owner (works : working s.sys.mode = true) (owner : s.stg.owner = some a)
    (ready : s.stg.state = .open_ ∨ s.stg.state = .checked ∨ s.stg.state = .scheduled) : stgCmdRefusal s a = 0 := by
  rcases ready with state | state | state <;> simp [stgCmdRefusal, stgMode_of_working works, owner, state]

/-- A COMMIT_AT whose time R269 admits schedules the set for its tick. -/
theorem schedule_inTime (inTime : atRefusal s = 0) : schedule s = stgRes 3 0 { s with stg :=
    { s.stg with state := .scheduled, at_ := true, k := tickAt s, tick := BitVec.ofNat 32 (tickAt s), tries := 0 } } := by
  simp [schedule, inTime]

/-- A CHECK that passes leaves its verdict and a checked set with its digest. -/
theorem exec_checkComplete_passes (awake : Awake s) (checking : s.stg.state = .checking) (stay : s.stg.after = .stay)
    (mode : s.sys.mode ≠ .limp) (passes : (checkSet s).1.reason = 0) :
    exec .checkComplete s = .next (settle s
      (let u := putVerdict (checkSet s).1 (checkSet s).2 s
       { u with stg := { u.stg with state := .checked, after := .stay, digest := setDigest u, cmd := cmdAnswer u.stg.cmd 0 } })) := by
  have stays : (putVerdict (checkSet s).1 (checkSet s).2 s).stg.after = .stay := stay
  change execCheckComplete s = _
  rw [execCheckComplete, act_awake s _ awake, if_neg (by simp [checking])]
  simp only [mode, decide_false, Bool.false_and, Bool.false_eq_true, if_false, passes, ne_eq, not_true_eq_false, stays]

/-- A check that fails outside LIMP leaves its verdict and reopens the set. -/
theorem exec_checkComplete_fails (awake : Awake s) (checking : s.stg.state = .checking) (mode : s.sys.mode ≠ .limp)
    (fails : (checkSet s).1.reason ≠ 0) :
    exec .checkComplete s = .next (settle s (checkFails (checkSet s).1 (putVerdict (checkSet s).1 (checkSet s).2 s))) := by
  have modeKept : (putVerdict (checkSet s).1 (checkSet s).2 s).sys.mode ≠ .limp := mode
  change execCheckComplete s = _
  rw [execCheckComplete, act_awake s _ awake, if_neg (by simp [checking])]
  simp only [mode, decide_false, Bool.false_and, Bool.false_eq_true, if_false, fails, ne_eq, not_false_eq_true, if_true, modeKept]

/-- A failed set that is not the update sequencer's is open again, with RESULT 2 and the reason it was given. -/
theorem checkFails_reopens {v : Verdict} (alone : s.stg.bySeq = false) : (checkFails v s).stg.state = .open_ ∧
    (checkFails v s).stg.cmd.result = 2 ∧ (checkFails v s).stg.reason = s.stg.reason := by
  simp only [checkFails, alone, Bool.false_eq_true, if_false]
  split <;> exact ⟨rfl, rfl, rfl⟩

end

/-- Settles O44: a write by what it finds in the bank, then each command by the state of its owner's set. -/
theorem stagingBankRows : Obligations.StagingBankRows := by
  refine ⟨fun s a d awake works => ⟨?opens, ?readOnly, ?imageWord, ?overrun, ?busy, ?foreign⟩,
    fun s a awake works owner => ⟨?check, ?passes, ?fails, ?arms, ?commitChecks, ?commitAtChecks, ?noCheck, ?schedules, ?cancels, ?clears,
      rfl, rfl⟩⟩
  case opens =>
    intro empty
    refine ⟨_, act_awake s _ awake, ?_⟩
    simp [stgWritable, stgWrite_accepted (stgRefusal_empty works empty), stgOpen, empty, stgRegs]
  case readOnly =>
    intro o readOnly
    change execStgWrite a o d s = _
    simp [execStgWrite, act_awake s _ awake, readOnly]
  case imageWord =>
    intro isOpen own room
    refine ⟨_, act_awake s _ awake, ?_⟩
    simp [stgWrite_accepted (stgRefusal_owner works isOpen own), stgOpen, isOpen, stgRegs, room]
  case overrun =>
    intro isOpen own full
    refine ⟨_, act_awake s _ awake, ?_⟩
    simp [stgWrite_accepted (stgRefusal_owner works isOpen own), stgOpen, isOpen, stgRegs, full.not_gt]
  case busy =>
    intro armed
    change execStgImgDataWrite a d s = _
    simp [execStgImgDataWrite, act_awake s _ awake, stgWrite_refused (stgRefusal_armed works armed), stgRefuse]
  case foreign =>
    intro b isOpen own other
    refine ⟨_, act_awake s _ awake, ?_⟩
    simp [stgWrite_refused (stgRefusal_foreign works isOpen own other), stgRefuse, cmdAnswer]
  case check =>
    intro isOpen
    change execCheck a s = _
    simp [execCheck, act_awake s _ awake, stgCheck, stgCmdRefusal_owner works owner (.inl isOpen), isOpen, startCheck, stgRes]
  case passes =>
    intro checking stay mode passes
    exact ⟨_, exec_checkComplete_passes awake checking stay mode passes, rfl, rfl, passes⟩
  case fails =>
    intro checking mode fails alone
    exact ⟨_, exec_checkComplete_fails awake checking mode fails, checkFails_reopens alone⟩
  case arms =>
    intro checked
    have commits : stgCommit a s = armCommit { s with stg := { s.stg with actAt := s.now } } := by
      simp [stgCommit, stgCmdRefusal_owner works owner (.inr (.inl checked)), checked]
    change execCommit a s = _
    rw [execCommit, act_awake s _ awake, commits]
    rfl
  case commitChecks =>
    intro isOpen
    change execCommit a s = _
    simp [execCommit, act_awake s _ awake, stgCommit, stgCmdRefusal_owner works owner (.inl isOpen), isOpen, startCheck, stgRes]
  case commitAtChecks =>
    intro isOpen
    change execCommitAt a s = _
    simp [execCommitAt, act_awake s _ awake, stgCommitAt, stgCmdRefusal_owner works owner (.inl isOpen), isOpen, startCheck, stgRes]
  case noCheck =>
    intro idle
    change execCheckComplete s = _
    simp [execCheckComplete, act_awake s _ awake, idle]
  case schedules =>
    intro checked inTime
    have schedules : stgCommitAt a s = schedule { s with stg := { s.stg with actAt := s.now } } := by
      simp [stgCommitAt, stgCmdRefusal_owner works owner (.inr (.inl checked)), checked]
    refine ⟨_, act_awake s _ awake, ?_⟩
    rw [schedules, schedule_inTime inTime]
    exact ⟨rfl, rfl, rfl, rfl⟩
  case cancels =>
    intro scheduled
    change execCancel a s = _
    simp [execCancel, act_awake s _ awake, stgCancel, stgCmdRefusal_owner works owner (.inr (.inr scheduled)), scheduled, stgRes]
  case clears =>
    intro isOpen
    change execClear a s = _
    simp [execClear, act_awake s _ awake, stgClear, stgMode_of_working works, isOpen, stgRes]

end Sys2Proof.Laws
end

section
/-! SUPPORT. The queue, what every step keeps of the memories, the frame that ends a command, and the records of the Cellar. -/

namespace Sys2Proof.Laws
open Sys2Proof Sys2Proof.Machine

/-! ### One step -/

/-- A step is the idling of an empty queue, or the front command on the state with the queue's rest. -/
theorem step_cases {s t : State} (h : step s = .next t) :
    t = s ∨ ∃ c q, s.pending = c :: q ∧ exec c { s with pending := q } = .next t := by
  unfold step at h
  split at h
  next => exact .inl (Host.Outcome.next.inj h).symm
  next c q front => exact .inr ⟨c, q, front, h⟩

/-- Settles O1. -/
theorem stepRunsFront : Obligations.StepRunsFront :=
  ⟨fun _ _ _ => rfl, fun s empty => by rw [step, empty]⟩

/-- Settles O10: an idle step changes nothing, and every command keeps the form of the memories (`exec_good`). -/
theorem everyStepKeepsMemOk : Obligations.EveryStepKeepsMemOk := by
  intro s t ok h
  rcases step_cases h with rfl | ⟨c, q, -, h⟩
  · exact ok
  · exact (exec_good c h).keeps.ok ok

/-- Settles O11: an idle step changes nothing, and every command keeps the bits of the array (`exec_good`). -/
theorem noStepClearsAnOtpBit : Obligations.NoStepClearsAnOtpBit := by
  intro s t h
  rcases step_cases h with rfl | ⟨c, q, -, h⟩
  · exact fun _ => BitVec.and_self
  · exact (exec_good c h).keeps.bits

/-- Settles O13, store by store: a command that the store's list does not name may not write it (`MayWrite`), so it is kept
(`exec_good`); of one that is named there is nothing to show. -/
theorem storageFrame : Obligations.StorageFrame := by
  intro c s t h
  have k := (exec_good c h).keeps
  have cellar := k.cellar; have flash := k.flash; have otp := k.otp; have image := k.image; have page := k.page
  refine ⟨?cellar, ?flash, ?otp, ?image, ?page⟩
  case cellar => clear * - cellar; cases c <;> first | exact cellar id | exact trivial
  case flash => clear * - flash; cases c <;> first | exact flash id | exact trivial
  case otp => clear * - otp; cases c <;> first | exact otp id | exact trivial
  case image => clear * - image; cases c <;> first | exact image id | exact trivial
  case page => clear * - page; cases c <;> first | exact page id | exact trivial

/-! ### What ends a command (R468) -/

/-- Where no level source begins or ends none is raised or lowered. -/
theorem edges_quiet {old new : State} (quiet : QuietEdges old new) : edges old new = new := by
  suffices all : ∀ (l : List Nat) (t : State), (∀ n ∈ l, levelCond old n = levelCond new n) →
      l.foldl (fun t n =>
        let a := levelCond old n
        let b := levelCond new n
        if a = b then t
        else if b then raiseSrc n (sourceArg new n) (sourceAddr new n) t
        else lower n t) t = t from all _ _ quiet
  intro l t same
  induction l with
  | nil => rfl
  | cons n l ih =>
    rw [List.foldl_cons]
    simp only [same n (by simp), if_true]
    exact ih fun m hm => same m (by simp [hm])

/-- The context slots of the crypto engine show no level source. -/
theorem levelCond_tidyCrypto (s : State) (n : Nat) : levelCond (tidyCrypto s) n = levelCond s n := rfl

/-- A command that begins and ends no level source ends in the latched interrupt bits. -/
theorem settle_quiet {old new : State} (quiet : QuietEdges old new) (path : tidyPath new = new) :
    settle old new = latchIrq old (tidyCrypto new) := by
  have first : edges old (tidyCrypto new) = tidyCrypto new := edges_quiet quiet
  have again : edges (tidyCrypto new) (tidyCrypto new) = tidyCrypto new := edges_quiet fun _ _ => rfl
  unfold settle
  simp only [path, first, again]

/-- Latching keeps the interrupt bits that are pending. -/
theorem and_or_self_left (a b : BitVec 10) : a &&& (a ||| b) = a := by ext; simp; grind

/-- Settles O5: settling is the release of crypto slots and the latching of interrupts (`settle_quiet`). -/
theorem settleFrame : Obligations.SettleFrame := by
  intro old new quiet path t
  have latched : t = latchIrq old (tidyCrypto new) := settle_quiet quiet path
  rw [latched]
  refine ⟨rfl, rfl, rfl, rfl, rfl, rfl, rfl, rfl, rfl, rfl, rfl, rfl, rfl, rfl, rfl, rfl, rfl, rfl, rfl, rfl, rfl, rfl, rfl, rfl, rfl, rfl,
    rfl, rfl, rfl, rfl, rfl, rfl, rfl, ?irq, rfl⟩
  case irq => exact and_or_self_left ..

/-! ### Byte memories (log entry 9) -/

/-- Canonical memories that read the same are the same, above any bound. -/
theorem mem_ext_from {f : Byte} {m k : Mem} {lo : Nat} (hm : memWfFrom f lo m = true) (hk : memWfFrom f lo k = true)
    (same : ∀ a, memRead f m a = memRead f k a) : m = k := by
  induction m generalizing k lo with
  | nil =>
    cases k with
    | nil => rfl
    | cons e k =>
      simp only [memWfFrom, Bool.and_eq_true, decide_eq_true_eq] at hk
      exact absurd (by simpa [memRead] using (same e.1).symm) hk.1.2
  | cons d m ih =>
    have first := hm
    simp only [memWfFrom, Bool.and_eq_true, decide_eq_true_eq] at hm
    obtain ⟨⟨-, d_ne⟩, hm⟩ := hm
    have reads : memRead f (d :: m) d.1 = d.2 := by simp [memRead]
    cases k with
    | nil => exact absurd ((same d.1).symm.trans reads).symm d_ne
    | cons e k =>
      simp only [memWfFrom, Bool.and_eq_true, decide_eq_true_eq] at hk
      obtain ⟨⟨-, e_ne⟩, hk⟩ := hk
      have reads' : memRead f (e :: k) e.1 = e.2 := by simp [memRead]
      have addr : d.1 = e.1 := by
        rcases Nat.lt_trichotomy d.1 e.1 with lt | eq | lt
        · have : memRead f (e :: k) d.1 = f := by rw [memRead, if_neg (by omega), memRead_below hk (by omega)]
          exact absurd (reads.symm.trans ((same _).trans this)) d_ne
        · exact eq
        · have : memRead f (d :: m) e.1 = f := by rw [memRead, if_neg (by omega), memRead_below hm (by omega)]
          exact absurd (reads'.symm.trans ((same _).symm.trans this)) e_ne
      have byte : d.2 = e.2 := by rw [← reads, same, addr, reads']
      have rest : m = k := by
        refine ih hm (addr ▸ hk) fun a => ?_
        by_cases h : a ≤ d.1
        · rw [memRead_below hm (by omega), memRead_below hk (by omega)]
        · have := same a
          rwa [memRead, if_neg (by omega), memRead, if_neg (by omega)] at this
      rw [rest, Prod.ext addr byte]

/-- Settles O6, by the laws of the byte memories. -/
theorem memoryReadsAndForm : Obligations.MemoryReadsAndForm := fun _ _ _ =>
  ⟨fun _ _ wf => memRead_memWrite_self wf, fun _ _ _ ne => memRead_memWrite_ne ne, fun _ _ wf => memReadList_memWriteList wf,
    fun _ _ _ out => memRead_memWriteList_out out, fun _ _ wf => memWrite_wf wf, mem_ext_from⟩

/-! ### Records of the Cellar (R404 to R407) -/

/-- Bytes 0 to 55 of a record, and only these. -/
theorem recordBody_length (seq : BitVec 32) (flags : Nat) (r : Record) : (recordBody seq flags r).length = 56 := by
  simp [recordBody, le_length, wordBytes]

/-- A unit written leaves every byte outside it. -/
theorem unitWrite_mem_out {u a : Nat} {body : List Byte} (len : body.length = 56) (out : a / 64 ≠ u) (s : State) :
    memRead ff (unitWrite u body s).clr.mem a = memRead ff s.clr.mem a := by
  have apart : a < 64 * u ∨ 64 * u + 64 ≤ a := by omega
  have mark : ∀ w : Word, (wordBytes w ++ le 4 doneMark).length = 8 := fun w => by simp [wordBytes, le_length]
  simp only [unitWrite, clrPut_mem]
  rw [memRead_memWriteList_out (by rw [mark]; omega), memRead_memWriteList_out (by omega),
    memRead_memWriteList_out (by rw [le_length]; omega)]

/-- The first-fault unit that a record takes: for the kinds RESET and FAULT the lowest unused one of the present state (R407). -/
def faultUnit (r : Record) (s : State) : Option Nat :=
  if r.kind = 3 ∨ r.kind = 4 then ((List.range 64).map (fun k => ffFirst s.lcs.state + k)).find? (unitUnused s) else none

/-- A record leaves every byte outside its circular and its first-fault unit. -/
theorem writeRecord_mem_out {r : Record} {s : State} {a : Nat} (circular : a / 64 ≠ nextUnit s) (first : ∀ f ∈ faultUnit r s, a / 64 ≠ f) :
    memRead ff (writeRecord r s).clr.mem a = memRead ff s.clr.mem a := by
  unfold faultUnit at first
  unfold writeRecord
  extract_lets u seq ffu flags body t v
  have len : body.length = 56 := recordBody_length ..
  have atT : memRead ff t.clr.mem a = memRead ff s.clr.mem a := unitWrite_mem_out len circular s
  change memRead ff v.clr.mem a = _
  change ∀ f ∈ ffu, a / 64 ≠ f at first
  clear_value t body ffu
  simp only [v]
  split
  next => exact atT
  next => exact (unitWrite_mem_out len (first _ rfl) t).trans atT

/-- The circular region begins at unit 896 (R407). -/
theorem nextUnit_ge (s : State) : 896 ≤ nextUnit s := by
  unfold nextUnit circFirst circLast; split <;> omega

/-- A first-fault unit taken is unused and of the region from unit 512 on. -/
theorem faultUnit_unused {r : Record} {s : State} {f : Nat} (h : f ∈ faultUnit r s) : unitUnused s f = true ∧ 512 ≤ f := by
  unfold faultUnit at h
  split at h
  case isFalse => cases h
  obtain ⟨k, -, rfl⟩ := List.mem_map.1 (List.mem_of_find?_eq_some h)
  exact ⟨List.find?_some h, by unfold ffFirst; omega⟩

/-- Settles O9: the circular region is above, and the first-fault unit that a record takes is unused. -/
theorem firstFaultWriteOnce : Obligations.FirstFaultWriteOnce := by
  intro r s f a below unit kept
  refine writeRecord_mem_out (by have := nextUnit_ge s; omega) fun g taken => ?_
  obtain ⟨unused, low⟩ := faultUnit_unused taken
  rintro same
  rcases kept with h | h
  · omega
  · rw [← unit, same, unused] at h
    cases h

/-- A state whose Cellar is not in canonical form: an entry of unit 896 stands behind one of a higher address. -/
def unorderedCellar : State := { State.reset with clr := { State.reset.clr with mem := [(0x100000, 0), (64 * 896 + 4, 0)] } }
/-- A record whose kind is the fill byte of the Cellar. -/
def fillKindRecord : Record := { kind := 255, mode := 0, flags := 0, source := 0, time := 0, arg := 0, addr := 0, uptime := 0, words := [] }

/-- The kind, written as fill, does not remove the entry out of order: the unit shows kind 0. -/
theorem unorderedCellar_kind : clrNum (writeRecord fillKindRecord unorderedCellar) (64 * nextUnit unorderedCellar + 4) 1 = 0 := by
  decide +kernel

/-- Refutes O8: the statement asks no canonical form of the Cellar's bytes (`MemOk`), and over bytes out of order a write of the fill
byte is lost: a record of kind 255 does not show its kind. -/
theorem not_recordWrittenComplete : ¬ Obligations.RecordWrittenComplete := by
  intro h
  obtain ⟨-, -, -, -, -, -, kind, -⟩ := h fillKindRecord unorderedCellar
  rw [unorderedCellar_kind] at kind
  exact absurd kind (by decide)

end Sys2Proof.Laws
end

section
/-! SUPPORT. Values that rules give by arithmetic: the CRC-8 of a frame, the watchdog's token, the life-cycle state and the fields of a
compatibility message. -/

namespace Sys2Proof.Laws
open Sys2Proof Sys2Proof.Machine

/-! ### The CRC-8 of a frame (R283) -/

/-- The bits of a number by their places. -/
theorem bitsMsb_eq_map (n v : Nat) : bitsMsb n v = (List.range n).map (fun k => v.testBit (n - 1 - k)) := by
  induction n with
  | zero => rfl
  | succ n ih =>
    rw [bitsMsb, ih, List.range_succ_eq_map, List.map_cons, List.map_map]
    refine congrArg₂ List.cons ?_ (List.map_congr_left fun k _ => ?_)
    · simp [Nat.testBit_eq_decide_div_mod_eq]
    · simp only [Function.comp, Nat.succ_eq_add_one]; congr 1; omega

/-- The bits of a number of two parts are those of its upper part and then those of its lower one. -/
theorem bitsMsb_append (m n v c : Nat) (low : c < 2 ^ n) : bitsMsb (m + n) (v * 2 ^ n + c) = bitsMsb m v ++ bitsMsb n c := by
  induction m with
  | zero =>
    simp only [Nat.zero_add, bitsMsb_eq_map]
    refine List.map_congr_left fun k hk => ?_
    rw [List.mem_range] at hk
    rw [Nat.mul_comm, Nat.testBit_two_pow_mul_add _ low, if_pos (by omega)]
  | succ m ih =>
    rw [Nat.add_right_comm, bitsMsb, bitsMsb, ih, List.cons_append, Nat.pow_add, Nat.mul_comm (2 ^ m), ← Nat.div_div_eq_div_mul,
      Nat.add_comm, Nat.add_mul_div_right _ _ (Nat.two_pow_pos n), Nat.div_eq_of_lt low, Nat.zero_add]

/-- One step of the rule's loop, on the incoming bit. -/
def crc8Loop (crc : Nat) (b : Bool) : Nat :=
  let fb := Bool.xor b (decide (crc / 128 % 2 = 1))
  let c := crc * 2 % 256
  if fb then c ^^^ 0x2F else c

/-- A CRC of 8 bits stays one. -/
theorem crc8Bit_lt (c : Nat) (b : Bool) : crc8Bit c b < 256 := by
  have twice : c * 2 % 256 < 2 ^ 8 := Nat.mod_lt _ (by decide)
  simp only [crc8Bit]
  split
  · exact Nat.xor_lt_two_pow twice (by decide)
  · exact twice

/-- On a CRC of 8 bits the model's step is the rule's: its top bit is the comparison with 128. -/
theorem crc8Bit_eq_loop {c : Nat} (low : c < 256) (b : Bool) : crc8Bit c b = crc8Loop c b := by
  have top : decide (128 ≤ c) = decide (c / 128 % 2 = 1) := decide_eq_decide.2 (by omega)
  simp only [crc8Bit, crc8Loop, top, Bool.xor_comm b]

/-- The model's steps over a run of bits are the rule's. -/
theorem foldl_crc8Bit (bits : List Bool) {c : Nat} (low : c < 256) : bits.foldl crc8Bit c = bits.foldl crc8Loop c := by
  induction bits generalizing c with
  | nil => rfl
  | cons b bits ih => rw [List.foldl_cons, List.foldl_cons, ← crc8Bit_eq_loop low, ih (crc8Bit_lt c b)]

/-- A CRC of 8 bits followed by its own bits leaves 0. -/
theorem crc8_residue : ∀ c < 256, (bitsMsb 8 c).foldl crc8Bit c = 0 := by decide +kernel

/-- So does one over a run of bits. -/
theorem foldl_crc8Bit_lt (bits : List Bool) {c : Nat} (low : c < 256) : bits.foldl crc8Bit c < 256 := by
  induction bits generalizing c with
  | nil => exact low
  | cons b bits ih => exact ih (crc8Bit_lt c b)
theorem crc8_lt (v : Nat) : crc8 v < 256 := foldl_crc8Bit_lt _ (by decide)

/-- Settles O20: the model's step is the rule's loop, a CRC after its own bits leaves 0, and the example evaluates. -/
theorem spiFrameCrc : Obligations.SpiFrameCrc := by
  refine ⟨fun v _ => ⟨?loop, ?residue⟩, ?example_⟩
  case loop =>
    rw [crc8, foldl_crc8Bit _ (by decide), bitsMsb_eq_map, List.foldl_map]
    rfl
  case residue =>
    have bits : bitsMsb 64 (v * 256 + crc8 v) = bitsMsb 56 v ++ bitsMsb 8 (crc8 v) := bitsMsb_append 56 8 v _ (crc8_lt v)
    rw [bits, List.foldl_append]
    exact crc8_residue _ (crc8_lt v)
  case example_ => decide +kernel

/-! ### Words of the life cycle, the watchdog and the fault collector (R377, R395, R418) -/

/-- Settles O19: the model's attempts of RETURN and FIELD are the four places of the rule, each a done word and a void word. -/
theorem lifeStateFromWords : Obligations.LifeStateFromWords := by
  intro s
  simp only [lifeFrom, attempts, List.foldl, Bool.and_eq_true, Bool.not_eq_true']
  rfl

/-- A rotation by less than the width is two shifts. -/
theorem rotateLeft_of_lt (w : Word) {r : Nat} (low : r < 32) :
    w.rotateLeft r = if r = 0 then w else (w <<< r) ||| (w >>> (32 - r)) := by
  rw [BitVec.rotateLeft_def, Nat.mod_eq_of_lt low]
  split
  next zero => simp [zero, BitVec.ushiftRight_eq_zero]
  next => rfl

/-- Settles O16: the model rotates by the question modulo 32, the rule by its five low bits. -/
theorem watchdogToken : Obligations.WatchdogToken := by
  refine ⟨fun q salt => ?rotates, by decide, by decide, by decide⟩
  case rotates =>
    intro word r
    have places : r = q.toNat % 32 := Nat.and_two_pow_sub_one_eq_mod q.toNat 5
    rw [token, ← places, rotateLeft_of_lt word (by omega)]

theorem field_lt (w : Word) (lo n : Nat) : field w lo n < 2 ^ n := Nat.mod_lt _ (Nat.two_pow_pos n)

/-- The fields of a word of the layout of Table 14-7 are the values put there, where they fit. -/
theorem compatPack_fields {src kind die sub block macro_ leaf : Nat} (hsrc : src < 256) (hkind : kind < 16) (hdie : die < 2 ^ 3)
    (hsub : sub < 2 ^ 4) (hblock : block < 2 ^ 5) (hmacro : macro_ < 2 ^ 6) :
    let w := pack [(24, 8, src), (20, 4, kind), (16, 4, die), (12, 4, sub), (7, 5, block), (1, 6, macro_), (0, 1, leaf)]
    field w 24 8 = src ∧ field w 20 4 = kind ∧ field w 16 4 = die ∧ field w 12 4 = sub ∧ field w 7 5 = block ∧ field w 1 6 = macro_ := by
  simp only [pack, field, List.foldl_cons, List.foldl_nil, BitVec.toNat_ofNat]
  refine ⟨?_, ?_, ?_, ?_, ?_, ?_⟩ <;> omega

theorem compatSource_lt (g : Nat) : compatSource g < 256 := by unfold compatSource; split_ifs <;> omega

/-- Settles O21: the message packs the fields in the places of Table 14-7, and each fits its place. -/
theorem compatMessageFields : Obligations.CompatMessageFields := by
  intro s b n k a kind _
  obtain ⟨src, kind, die, sub, block, macro_⟩ := compatPack_fields (leaf := (decide (field a 8 6 ≠ 63)).toNat) (compatSource_lt (n / 16)) kind
    (field_lt a 29 3) (field_lt a 25 4) (field_lt a 20 5) (field_lt a 14 6)
  refine ⟨src, kind, die, sub, block, macro_, fun empty => ?_⟩
  have read : regValue s b 0x3200 = s.flt.cmq.headD 0 := rfl
  rw [read, empty]
  rfl

end Sys2Proof.Laws
end

section
/-! SUPPORT. The watchdog: what leaves its registers alone, the judgement of an answer, its periods, and its rows. -/

namespace Sys2Proof.Laws
open Sys2Proof Sys2Proof.Machine

/-! ### What leaves the watchdog's registers alone -/

/-- A fold of steps that keep a part of the state keeps it. -/
theorem foldl_keeps {α β : Type} (part : State → β) {f : State → α → State} (keeps : ∀ t a, part (f t a) = part t) (l : List α) (s : State) :
    part (l.foldl f s) = part s := by
  induction l generalizing s with
  | nil => rfl
  | cons a l ih => exact (ih _).trans (keeps s a)

theorem BoardOnly.wdg {s t : State} (h : BoardOnly s t) : t.wdg = s.wdg := by obtain ⟨_, _, _, _, rfl⟩ := h.elim; rfl
theorem LimpOnly.wdg {s t : State} (h : LimpOnly s t) : t.wdg = s.wdg := by obtain ⟨_, _, _, _, _, _, _, _, rfl⟩ := h.elim; rfl
theorem CellarOnly.wdg {s t : State} (h : CellarOnly s t) : t.wdg = s.wdg := by obtain ⟨_, rfl⟩ := h.elim; rfl

theorem modCells_wdg (ns : List Nat) (f : Nat → Cell → Cell) (s : State) : (s.modCells ns f).wdg = s.wdg :=
  ((BoardOnly.refl s).modCells ns f).wdg
theorem aliveStop_wdg (k : Nat) (s : State) : (aliveStop k s).wdg = s.wdg := by unfold aliveStop; split <;> rfl
theorem setMode_wdg (m : Mode) (s : State) : (setMode m s).wdg = s.wdg := by
  unfold setMode
  split
  · rfl
  · exact (queueRecord_cellar ..).wdg

/-- Latching a source leaves the watchdog. -/
theorem collect_wdg (n a : Nat) (w : Word) (s : State) : (collect n a w s).wdg = s.wdg := by
  unfold collect
  extract_lets f g cls t masked opens action word rec_ u v window x
  have atT : t.wdg = s.wdg := by simp only [t]; split <;> rfl
  have atX : x.wdg = t.wdg := by simp only [x]; split <;> rfl
  clear_value t x
  split
  · exact atT
  · split
    · exact atT
    · split
      · exact (queueRecord_cellar ..).wdg.trans (atX.trans atT)
      · exact atX.trans atT

/-- Loading the copy for LIMP leaves the watchdog. -/
theorem installImage_wdg (im : Image) (s : State) : (installImage im s).wdg = s.wdg := by
  unfold installImage
  extract_lets str t u
  have atU : u.wdg = s.wdg := modCells_wdg ..
  exact (foldl_keeps State.wdg (fun t c => (rephase_board c t).wdg) ..).trans ((modCells_wdg ..).trans atU)
theorem loadCopy_wdg (v : Option Verdict) (s : State) : (loadCopy v s).wdg = s.wdg := by
  unfold loadCopy
  extract_lets p t
  have atT : t.wdg = s.wdg := rfl
  clear_value t
  split
  · exact (collect_wdg ..).trans atT
  · split
    · exact atT
    · exact (installImage_wdg ..).trans atT
theorem loadForLimp_wdg (s : State) : (loadForLimp s).wdg = s.wdg := by
  unfold loadForLimp
  extract_lets t u
  have atT : t.wdg = s.wdg := loadCopy_wdg none s
  have atU : u.wdg = t.wdg := by simp only [u, applyClasses, applyChecks]; split <;> rfl
  clear_value t u
  split_ifs
  · rfl
  · exact atT
  · exact atU.trans atT

/-- The end of STAGING in LIMP leaves the watchdog. -/
theorem settleStart_wdg (i : Nat) (s : State) : (settleStart i s).wdg = s.wdg := by
  unfold settleStart
  extract_lets b
  split
  · exact (driveCordon_board ..).wdg
  · rfl
theorem limpFromStaging_wdg (s : State) : (limpFromStaging s).wdg = s.wdg := by
  unfold limpFromStaging
  extract_lets sys t u
  have atU : u.wdg = s.wdg := (foldl_keeps State.wdg (fun t i => settleStart_wdg i t) ..).trans (queueRecord_cellar ..).wdg
  clear_value u
  split
  · unfold startRise; split <;> exact atU
  · exact atU

/-- LIMP cause 1, the watchdog's own, holds no core in reset and leaves the watchdog as it is. -/
theorem limpEntry_one_wdg (k : Nat) (a : Word) (s : State) : (limpEntry 1 k a s).wdg = s.wdg := by
  unfold limpEntry
  split
  · rfl
  extract_lets fl st sg s8 a1 a2 a3 s7 sv s6 a4 s5 s4 s3 e1 e2 e3 e4 e5 e6 e7 e8 s2 s1 s0
  have h8 : s8.wdg = s.wdg := by
    simp only [s8]
    split
    · rfl
    · exact loadForLimp_wdg s
  have h6 : s6.wdg = s8.wdg := setMode_wdg ..
  have h5 : s5.wdg = s.wdg := h6.trans h8
  clear_value s5
  have h3 : s3.wdg = s.wdg := (aliveStop_wdg ..).trans ((modCells_wdg ..).trans h5)
  have h1 : s1.wdg = s3.wdg := by simp only [s1]; split <;> rfl
  clear_value s1
  rw [if_pos rfl]
  simp only [s0]
  rw [(limpSet_limp _).wdg]
  split
  · exact (limpFromStaging_wdg _).trans (h1.trans h3)
  · exact h1.trans h3

/-! ### Expiry and service (R376 to R381, Table 14-2) -/

/-- The class of source 240 is fixed (Table 14-6): it has no reaction of its own. -/
theorem srcClass_watchdog (s : State) : srcClass s 240 = 0 := by
  unfold srcClass; split <;> rfl
/-- Source 240 leaves the watchdog. -/
theorem raiseSrc_watchdog_wdg (a : Nat) (w : Word) (s : State) : (raiseSrc 240 a w s).wdg = s.wdg := by
  unfold raiseSrc
  extract_lets f
  split
  · rfl
  · simp only [react, srcClass_watchdog]
    exact collect_wdg ..

/-- What an expiry with a result at a count leaves in the watchdog. -/
theorem expire_wdg (r c : Nat) (s : State) : (expire r c s).wdg =
    { s.wdg with state := .trap, answer := none, lastResult := r, lastCount := c, count := c, expiries := satInc 255 s.wdg.expiries } := by
  rw [expire, limpEntry_one_wdg, raiseSrc_watchdog_wdg, aliveStop_wdg]

/-! ### Periods (R384) -/

/-- A period begins with its question, its count at 0 and no answer under way; it runs. -/
theorem wdgPeriod_begins (q : BitVec 16) (s : State) : (wdgPeriod q s).wdg.q = q ∧ (wdgPeriod q s).wdg.count = 0 ∧
    (wdgPeriod q s).wdg.answer = none ∧ wdgRuns (wdgPeriod q s).wdg = true := by
  unfold wdgPeriod
  extract_lets b t w p f o
  refine ⟨rfl, rfl, rfl, ?_⟩
  by_cases zero : o = 0 <;> simp [wdgRuns, zero]

/-- Deciding whether a write has crossed draws at most a free value. -/
theorem periodCrossed_wdg (s : State) : (periodCrossed s).2.wdg = s.wdg := by
  simp only [periodCrossed]; split_ifs <;> rfl

/-- A new period keeps what the judgement before it recorded. -/
theorem wdgPeriod_last (q : BitVec 16) (s : State) : (wdgPeriod q s).wdg.lastResult = s.wdg.lastResult ∧
    (wdgPeriod q s).wdg.lastCount = s.wdg.lastCount := by
  have kept : (if s.wdg.newPeriod.isSome then periodCrossed s else (false, s)).2.wdg = s.wdg := by
    split
    · exact periodCrossed_wdg s
    · rfl
  refine ⟨Eq.trans ?_ (congrArg Wdg.lastResult kept), Eq.trans ?_ (congrArg Wdg.lastCount kept)⟩ <;> rfl

/-- A write that has crossed gives the new period its length. -/
theorem wdgPeriod_crossed (q : BitVec 16) {s : State} {p : Nat} (written : s.wdg.newPeriod = some p) (old : 110 ≤ s.now - s.wdg.newAt) :
    (wdgPeriod q s).wdg.period = p ∧ (wdgPeriod q s).wdg.newPeriod = none := by
  have crossed : periodCrossed s = (true, s) := by rw [periodCrossed, if_neg (by omega), if_pos old]
  simp [wdgPeriod, written, crossed]

/-- A write that cannot have crossed leaves the length and waits. -/
theorem wdgPeriod_crossing (q : BitVec 16) {s : State} {p : Nat} (written : s.wdg.newPeriod = some p) (young : s.now - s.wdg.newAt < 50) :
    (wdgPeriod q s).wdg.period = s.wdg.period ∧ (wdgPeriod q s).wdg.newPeriod = some p := by
  have crossing : periodCrossed s = (false, s) := by rw [periodCrossed, if_pos young]
  simp [wdgPeriod, written, crossing]

/-- Without a write the length stays. -/
theorem wdgPeriod_unwritten (q : BitVec 16) {s : State} (none_ : s.wdg.newPeriod = none) : (wdgPeriod q s).wdg.period = s.wdg.period := by
  simp [wdgPeriod, none_]

/-- A core reset unlocks the watchdog and gives it the period of 16,384 ticks (Table 16-19). -/
theorem coreReset_wdg (n : Nat) (a : Word) (s : State) : (coreReset n a s).wdg =
    { s.wdg with state := .reset, answer := none, period := 16384, newPeriod := none, wake := false, lock := false } :=
  (queueRecord_cellar ..).wdg

/-! ### The commands of the watchdog -/

section
variable {s : State} (awake : Awake s)
include awake

/-- An answer that becomes effective while the cores are watched is judged. -/
theorem exec_wdgAnswerEffective_judges {t : Word} (runs : wdgRuns s.wdg = true) (answer : s.wdg.answer = some t) (c : Nat) :
    exec (.wdgAnswerEffective c) s = .next (settle s (judge t c s)) := by
  change execWdgAnswerEffective c s = _
  simp [execWdgAnswerEffective, act_awake s _ awake, runs, answer]
/-- One that becomes effective while they are not is lost. -/
theorem exec_wdgAnswerEffective_stopped (stopped : wdgRuns s.wdg = false) (c : Nat) :
    exec (.wdgAnswerEffective c) s = .next (settle s s) := by
  change execWdgAnswerEffective c s = _
  rw [execWdgAnswerEffective, act_awake s _ awake]
  cases s.wdg.answer <;> simp [stopped]
/-- A period without an answer expires. -/
theorem exec_wdgExpiry_runs (runs : wdgRuns s.wdg = true) :
    exec .wdgExpiry s = .next (settle s (expire 5 s.wdg.period s)) := by
  change execWdgExpiry s = _
  rw [execWdgExpiry, act_awake s _ awake, if_pos runs]
/-- A period written within its limits, unlocked and outside TRAP waits for its crossing. -/
theorem exec_wdgPeriodWrite_taken {d : Word} (unlocked : s.wdg.lock = false) (state : s.wdg.state ≠ .trap) (low : 33 ≤ field d 0 18)
    (high : field d 0 18 ≤ 131072) : exec (.wdgPeriodWrite d) s =
      .next (settle s { s with wdg := { s.wdg with newPeriod := some (field d 0 18), newAt := s.now } }) := by
  change execWdgPeriodWrite d s = _
  rw [execWdgPeriodWrite, act_awake s _ awake, wdgPeriodWrite, if_neg (by simp [unlocked, state]; omega)]
/-- Any other is rejected. -/
theorem exec_wdgPeriodWrite_rejected {d : Word}
    (rejected : s.wdg.lock = true ∨ s.wdg.state = .trap ∨ field d 0 18 < 33 ∨ 131072 < field d 0 18) :
    exec (.wdgPeriodWrite d) s = .next (settle s { s with wdg := { s.wdg with rej := true } }) := by
  change execWdgPeriodWrite d s = _
  rw [execWdgPeriodWrite, act_awake s _ awake, wdgPeriodWrite, if_pos (by tauto)]
/-- The window opens at its count. -/
theorem exec_wdgWindowOpen_opens (closed : s.wdg.state = .closed) : exec .wdgWindowOpen s =
    .next (settle s { s with wdg := { s.wdg with state := .open_, count := s.wdg.opensAt, wakeReq := s.wdg.wake } }) := by
  change execWdgWindowOpen s = _
  rw [execWdgWindowOpen, act_awake s _ awake, if_pos closed]
/-- The hard timer's end holds the cores in reset. -/
theorem exec_wdgHardTimerEnd_resets (trap : s.wdg.state = .trap) :
    exec .wdgHardTimerEnd s = .next (settle s (coreReset 1 wdgAddr s)) := by
  change execWdgHardTimerEnd s = _
  rw [execWdgHardTimerEnd, act_awake s _ awake, if_pos trap]
/-- An answer written while none crosses begins to cross. -/
theorem exec_wdgAnswer_crosses (t : Word) (runs : wdgRuns s.wdg = true) (free : s.wdg.answer = none) :
    exec (.wdgAnswer t) s = .next (settle s { s with wdg := { s.wdg with answer := some t } }) := by
  change execWdgAnswer t s = _
  simp [execWdgAnswer, act_awake s _ awake, wdgAnswer, runs, free]
/-- A further one is ignored and counted. -/
theorem exec_wdgAnswer_ignored (t : Word) {u : Word} (runs : wdgRuns s.wdg = true) (crossing : s.wdg.answer = some u) :
    exec (.wdgAnswer t) s = .next (settle s { s with wdg := { s.wdg with ignored := satInc 255 s.wdg.ignored } }) := by
  change execWdgAnswer t s = _
  simp [execWdgAnswer, act_awake s _ awake, wdgAnswer, runs, crossing]
end

section
variable {s : State} {c : Nat} {t : Word}

/-! ### Table 14-2 -/

theorem judge_early (early : c < s.wdg.opensAt) : judge t c s = expire 2 c s := by rw [judge, if_pos early]
theorem judge_late (opened : s.wdg.opensAt ≤ c) (late : s.wdg.period ≤ c) : judge t c s = expire 3 s.wdg.period s := by
  rw [judge, if_neg opened.not_gt, if_pos late]
theorem judge_right (opened : s.wdg.opensAt ≤ c) (inTime : c < s.wdg.period) : judge (token s.wdg.q (wdgSalt s)) c s = serviced c s := by
  rw [judge, if_neg opened.not_gt, if_neg inTime.not_ge, if_pos rfl]
theorem judge_wrong (opened : s.wdg.opensAt ≤ c) (inTime : c < s.wdg.period) (wrong : t ≠ token s.wdg.q (wdgSalt s)) :
    judge t c s = expire 4 c s := by
  rw [judge, if_neg opened.not_gt, if_neg inTime.not_ge, if_neg wrong]

/-- What an expiry records. -/
theorem expire_records (r c : Nat) (s : State) :
    (expire r c s).wdg.lastResult = r ∧ (expire r c s).wdg.lastCount = c ∧ (expire r c s).wdg.state = .trap := by
  rw [expire_wdg]; exact ⟨rfl, rfl, rfl⟩
/-- What a service records, and the period that it begins. -/
theorem serviced_records (c : Nat) (s : State) : (serviced c s).wdg.lastResult = 1 ∧ (serviced c s).wdg.lastCount = c ∧
    (serviced c s).wdg.count = 0 ∧ (serviced c s).wdg.q = lfsrNext s.wdg.q ∧ (serviced c s).wdg.answer = none ∧
    wdgRuns (serviced c s).wdg = true := by
  unfold serviced
  obtain ⟨question, count, answer, runs⟩ := wdgPeriod_begins (lfsrNext s.wdg.q)
    { s with wdg := { s.wdg with lastResult := 1, lastCount := c, serviced := s.wdg.serviced + 1 } }
  obtain ⟨result, at_⟩ := wdgPeriod_last (lfsrNext s.wdg.q)
    { s with wdg := { s.wdg with lastResult := 1, lastCount := c, serviced := s.wdg.serviced + 1 } }
  exact ⟨result, at_, count, question, answer, runs⟩

/-- The open window is part of a period. -/
theorem wdgRuns_open (isOpen : s.wdg.state = .open_) : wdgRuns s.wdg = true := by simp [wdgRuns, isOpen]
end

/-- Settles O17, row by row of Table 14-2. -/
theorem watchdogJudgement : Obligations.WatchdogJudgement := by
  intro s awake
  refine ⟨fun c t runs answer early => ⟨_, exec_wdgAnswerEffective_judges awake runs answer c, ?early⟩,
    fun c runs answer opened inTime => ⟨_, exec_wdgAnswerEffective_judges awake runs answer c, ?right⟩,
    fun c t runs answer wrong opened inTime => ⟨_, exec_wdgAnswerEffective_judges awake runs answer c, ?wrong⟩,
    fun runs => ⟨_, exec_wdgExpiry_runs awake runs, expire_records ..⟩,
    fun t runs answer opened => ⟨_, exec_wdgAnswerEffective_judges awake runs answer _, ?late⟩,
    fun c stopped => exec_wdgAnswerEffective_stopped awake stopped c⟩
  case early => rw [judge_early early]; exact expire_records ..
  case right => rw [judge_right opened inTime]; exact serviced_records ..
  case wrong => rw [judge_wrong opened inTime wrong]; exact expire_records ..
  case late => rw [judge_late opened le_rfl]; exact expire_records ..

/-- Settles O18: the writes, the crossing at the start of a period, and the resets. -/
theorem watchdogPeriodWrites : Obligations.WatchdogPeriodWrites := by
  intro s awake
  refine ⟨fun d unlocked state low high => exec_wdgPeriodWrite_taken awake unlocked state low high,
    fun d rejected => exec_wdgPeriodWrite_rejected awake rejected, fun q p written old => wdgPeriod_crossed q written old,
    fun q p written young => wdgPeriod_crossing q written young, fun q none_ => wdgPeriod_unwritten q none_, fun d => rfl,
    fun n a => ?reset, rfl, rfl, rfl⟩
  case reset => rw [coreReset_wdg]; exact ⟨rfl, rfl, rfl⟩

/-- Settles O58: each command of the watchdog by the state it finds. -/
theorem watchdogRows : Obligations.WatchdogRows := by
  intro s awake
  refine ⟨fun closed => exec_wdgWindowOpen_opens awake closed, fun t runs free => exec_wdgAnswer_crosses awake t runs free,
    fun t u runs crossing => exec_wdgAnswer_ignored awake t runs crossing, fun c isOpen answer opened inTime => ?right,
    fun c t runs answer early => ?early, fun c t isOpen answer wrong opened inTime => ?wrong,
    fun runs => exec_wdgExpiry_runs awake runs, fun trap => exec_wdgHardTimerEnd_resets awake trap,
    fun d unlocked state low high => exec_wdgPeriodWrite_taken awake unlocked state low high,
    fun d rejected => exec_wdgPeriodWrite_rejected awake (rejected.imp_right .inr)⟩
  case right => rw [exec_wdgAnswerEffective_judges awake (wdgRuns_open isOpen) answer, judge_right opened inTime]
  case early => rw [exec_wdgAnswerEffective_judges awake runs answer, judge_early early]
  case wrong => rw [exec_wdgAnswerEffective_judges awake (wdgRuns_open isOpen) answer, judge_wrong opened inTime wrong]

end Sys2Proof.Laws
end

section
/-! SUPPORT. The rows of the fault collector and ALIVE, of the Cellar's records and of the one-time programmable array. -/

namespace Sys2Proof.Laws
open Sys2Proof Sys2Proof.Machine

/-- A command of an awake module is its effect followed by what ends every command. -/
theorem exec_row {s u : State} {c : Instr} {f : State → State} (awake : Awake s) (meaning : exec c s = act s f) (effect : f s = u) :
    exec c s = .next (settle s u) := by
  rw [meaning, act_awake s f awake, effect]

section
variable {s : State}

/-! ### Forces of a source (R391) -/

theorem fltForce_refused {d : Word} (refused : forceRefusal d s ≠ 0) :
    fltForce d s = { s with flt := { s.flt with cmd := cmdRes (field d 0 8) (forceRefusal d s) } } := by
  rw [fltForce]; exact if_pos refused
/-- A force of the wire of a source latches source 241 and disturbs the pair. -/
theorem fltForce_wire {d : Word} (accepted : forceRefusal d s = 0) (wire : field d 8 2 ≠ 0) : fltForce d s =
    wireFault (field d 0 8) (raise 241 (field d 0 8) { s with flt :=
      { s.flt with cmd := cmdRes (field d 0 8) 0, force := some { source := field d 0 8, kind := field d 8 2 } } }) := by
  simp only [fltForce, accepted, ne_eq, not_true_eq_false, if_false, wire]

/-! ### Reads of the queues (R390, R395) -/

theorem eventRead_oldest {e : FltEvent} {q : List FltEvent} (queue : s.flt.evq = e :: q) :
    eventRead s = { s with flt := { s.flt with evq := q, last := e.word, lastAddr := e.addr } } := by
  simp [eventRead, eventHead, queue]
theorem compatRead_oldest {m : Word} {q : List Word} (queue : s.flt.cmq = m :: q) :
    compatRead s = { s with flt := { s.flt with cmq := q, cmLast := m } } := by
  simp [compatRead, queue]
end

/-- Settles O59: each command by whether the variant has the source, the queue's head or the refusal that it meets. -/
theorem faultRows : Obligations.FaultRows := by
  refine ⟨fun s awake => ⟨fun n a w known other => exec_row awake (execFaultSourceActive.eq_1 ..) ?active,
      fun n a w unknown => exec_row awake (execFaultSourceActive.eq_1 ..) ?unnamed,
      fun n known other ended => exec_row awake (execFaultSourceInactive.eq_1 ..) ?inactive,
      fun n l known => exec_row awake (execWireFault.eq_1 _ l _) (if_pos known),
      fun g w isOpen => exec_row awake (execC2WindowEscalation.eq_1 ..) ?escalates⟩,
    fun s awake => ⟨fun k d low => exec_row awake (execFltPendClear.eq_1 ..) (if_pos low),
      fun b e q queue => exec_row awake (execFltEventRead.eq_1 b _) (eventRead_oldest queue),
      fun b m q queue => exec_row awake (execFltCompatRead.eq_1 b _) (compatRead_oldest queue),
      fun d refused => exec_row awake (execFltForce.eq_1 ..) (fltForce_refused refused),
      fun d accepted wire => exec_row awake (execFltForce.eq_1 ..) (fltForce_wire accepted wire),
      fun ok => exec_row awake (execAliveEdge.eq_1 _) (if_pos ok), exec_row awake (execAliveFeedback.eq_1 _) rfl⟩⟩
  case active => simp [known, other]
  case unnamed => simp [unknown]
  case inactive => simp [known, other, ended]
  case escalates => simp [isOpen]

section
variable {s : State}

/-! ### Notes and words of the one-time programmable array (R406, R415) -/

/-- NOTE with room in the queue. -/
theorem clrNote_queues (room : s.clr.queue.length < 32) : ∃ r : Record, clrNote s =
    { s with clr := { s.clr with queue := s.clr.queue ++ [r], cmd := cmdRes 1 0 } } ∧ r.kind = 10 ∧ r.words = s.clr.notes.toList := by
  refine ⟨_, if_neg room.not_ge, rfl, rfl⟩
theorem clrNote_full (full : 32 ≤ s.clr.queue.length) : clrNote s = { s with clr := { s.clr with cmd := cmdRes 1 1 } } := if_pos full
theorem serveQueue_oldest {r : Record} {q : List Record} (queue : s.clr.queue = r :: q) :
    serveQueue s = writeRecord r { s with clr := { s.clr with queue := q } } := by simp only [serveQueue, queue]

theorem lcsProgram_programs {w : Nat} (isOpen : wordOpen s w = true) (blank : otpRaw s w = 0) (data : s.lcs.data ≠ 0) : lcsProgram w s =
    lcsRes 1 (if s.lcs.data &&& (freeWord s).1 = s.lcs.data then 0 else 6) (otpPut false w (s.lcs.data &&& (freeWord s).1) (freeWord s).2) := by
  rw [lcsProgram, if_neg (by simpa [isOpen, blank] using data)]
theorem lcsProgram_refused {w : Nat} (refused : wordOpen s w = false ∨ otpRaw s w ≠ 0 ∨ s.lcs.data = 0) : lcsProgram w s = lcsRes 1 5 s := by
  rw [lcsProgram, if_pos (by simpa using refused)]

/-! ### Transitions (R416 to R419) -/

theorem lcsArm_arms (t : Nat) (mode : lcsMode s = true) : lcsArm 0xC3 t s =
    lcsRes 2 0 { s with lcs := { s.lcs with arm := some { target := t, until_ := s.now + 10 * oneSec } } } := by
  rw [lcsArm, if_neg (by simp [mode]), if_neg (not_not.2 rfl)]
theorem lcsArm_wrongKey {k : Nat} (t : Nat) (key : k ≠ 0xC3) (mode : lcsMode s = true) : lcsArm k t s = lcsRes 2 3 s := by
  rw [lcsArm, if_neg (by simp [mode]), if_pos key]
/-- An armed transition that the state has is made by an agent of its view once its conditions hold. -/
theorem lcsTransition_made {b : Agent} {m : ArmT} {p : Nat × Nat} (mode : lcsMode s = true) (armed : s.lcs.arm = some m)
    (inTime : s.now < m.until_) (known : transOf s m.target = some p) (view : transView s p.1 b = true) (ready : transOk s p.1 = true) :
    lcsTransition b 0xC3 m.target s = lcsRes 3 0 (transition p.1 p.2 s) := by
  rw [lcsTransition, if_neg (by simp [mode]), if_neg (not_not.2 rfl)]
  simp [armed, inTime, known, view, ready]
end

/-- Settles O60: the queue of records by its room, a word by its refusals, a transition by its arming. -/
theorem lifeCycleRows : Obligations.LifeCycleRows := by
  refine ⟨fun s awake => ⟨fun r q queue => exec_row awake (execCellarRecordWrite.eq_1 _) (serveQueue_oldest queue), fun room => ?queues,
      fun full => exec_row awake (execNote.eq_1 _) (clrNote_full full)⟩,
    fun s b awake => ⟨fun w isOpen blank data => exec_row awake (execProgramWord.eq_1 b _ _) (lcsProgram_programs isOpen blank data),
      fun w refused => exec_row awake (execProgramWord.eq_1 b _ _) (lcsProgram_refused refused),
      fun t mode => exec_row awake (execArmTransition.eq_1 b _ _ _) (lcsArm_arms t mode),
      fun t k key mode => exec_row awake (execArmTransition.eq_1 b _ _ _) (lcsArm_wrongKey t key mode),
      fun m p mode armed inTime known view ready =>
        exec_row awake (execTransition.eq_1 ..) (lcsTransition_made mode armed inTime known view ready),
      exec_row awake (execArmTransitionExpiry.eq_1 _) rfl⟩⟩
  case queues =>
    obtain ⟨r, queued, kind, words⟩ := clrNote_queues room
    exact ⟨_, r, exec_row awake (execNote.eq_1 _) queued, rfl, kind, words, rfl, rfl⟩

end Sys2Proof.Laws
end

section
/-! SUPPORT. The host SPI interface: frames and their responses, RESEND, discarded frames, and privileged sessions. -/

namespace Sys2Proof.Laws
open Sys2Proof Sys2Proof.Machine

/-! ### Frames and responses (R284 to R290) -/

/-- The state in which the access of an accepted frame acts: the frame counted, the response prepared before it loaded. -/
def accepted (s : State) : State := { s with spi := { s.spi with loaded := s.spi.next, frames := s.spi.frames + 1 } }
/-- A response prepared for the next frame. -/
def prepared (r : Resp) (s : State) : State := { s with spi := { s.spi with next := r } }

section
variable {s : State} {a : Nat} {f : State → Access}

/-- A frame of a serving interface does its access in the accepted state. -/
theorem frame_serves (late : Bool) (a : Nat) (f : State → Access) (serves : s.spi.serving = true) : frame late a f s =
    respond late { status := (f (accepted s)).code, addr := a, data := (f (accepted s)).data }
      (countDenied (f (accepted s)).code (f (accepted s)).st) := by
  rw [frame, if_neg (by simp [serves])]; rfl

/-- While the interface serves, the response in time is prepared as it is. -/
theorem respond_inTime (r : Resp) (serves : s.spi.serving = true) : respond false r s = prepared r s := by
  rw [respond, if_neg (by simp [serves]), if_neg (by decide)]; rfl
/-- One that came too late is answered LATE. -/
theorem respond_late (r : Resp) (serves : s.spi.serving = true) :
    respond true r s = { s with spi := { s.spi with late := true, next := { status := 0x26, addr := r.addr, data := 0 } } } := by
  rw [respond, if_neg (by simp [serves]), if_pos rfl]

/-- Only a denied access is counted as one, and counting leaves the service. -/
theorem countDenied_granted {code : Nat} (granted : code ≠ 0x23) (s : State) : countDenied code s = s := if_neg granted
theorem countDenied_serving (code : Nat) (s : State) : (countDenied code s).spi.serving = s.spi.serving := by
  unfold countDenied; split <;> rfl

/-- A frame in time whose access is granted prepares its code, its address and its data. -/
theorem frame_granted (serves : s.spi.serving = true) (granted : (f (accepted s)).code ≠ 0x23)
    (goesOn : (f (accepted s)).st.spi.serving = true) : frame false a f s =
    prepared { status := (f (accepted s)).code, addr := a, data := (f (accepted s)).data } (f (accepted s)).st := by
  rw [frame_serves _ _ _ serves, countDenied_granted granted, respond_inTime _ goesOn]
/-- One whose access is denied is flagged and counted besides. -/
theorem frame_denied (serves : s.spi.serving = true) (denied : (f (accepted s)).code = 0x23)
    (goesOn : (f (accepted s)).st.spi.serving = true) : frame false a f s =
    prepared { status := 0x23, addr := a, data := (f (accepted s)).data } (countDenied 0x23 (f (accepted s)).st) := by
  rw [frame_serves _ _ _ serves, denied, respond_inTime _ ((countDenied_serving ..).trans goesOn)]

/-- Every interface register is read with code 0x16; only SPI_AUTH_DATA advances its pointer. -/
theorem ifRead_mapped {o : Nat} (low : o ≤ 7) (s : State) : ifRead o s = ⟨0x16, ifValue s o, s⟩ := by
  rw [ifRead, if_neg (by omega), if_neg (by omega)]
end

/-- Settles O46: each command is a frame with its access, and the code of the access decides the response. -/
theorem hostFrameRows : Obligations.HostFrameRows := by
  intro s a awake serves
  refine ⟨exec_row awake (execNop.eq_1 ..) (frame_granted serves (show (0x15 : Nat) ≠ 0x23 by decide) serves), exec_row awake (execNop.eq_1 ..) ?late,
    fun granted goesOn => exec_row awake (execSpiRead.eq_1 ..) (frame_granted serves granted goesOn),
    fun d granted goesOn => exec_row awake (execSpiWrite.eq_1 ..) (frame_granted serves granted goesOn),
    fun d denied goesOn => exec_row awake (execSpiWrite.eq_1 ..) (frame_denied serves denied goesOn),
    fun low => exec_row awake (execIfRead.eq_1 ..) ?ifRead,
    fun d => exec_row awake (execIfWrite.eq_1 ..) (frame_granted serves (show (0x16 : Nat) ≠ 0x23 by decide) serves),
    exec_row awake (execUnknownCmd.eq_1 ..) (frame_granted serves (show (0x22 : Nat) ≠ 0x23 by decide) serves)⟩
  case late =>
    rw [frame_serves _ _ _ serves, countDenied_granted (show (0x15 : Nat) ≠ 0x23 by decide)]
    exact respond_late (s := accepted s) _ serves
  case ifRead =>
    have access := ifRead_mapped low (accepted s)
    rw [frame_granted serves (by simp [access]) (by rw [access]; exact serves), access]
    rfl

/-- A RESEND with a response to repeat takes it with bit 7 of its status set. -/
theorem resendCopy_loaded {s : State} (loaded : s.spi.loaded.status ≠ 0) :
    resendCopy s = ({ s.spi.loaded with status := s.spi.loaded.status ||| 0x80 }, s) := if_neg loaded
theorem resendFrame_loaded {s : State} (serves : s.spi.serving = true) (loaded : s.spi.loaded.status ≠ 0) : resendFrame false s =
    prepared { s.spi.loaded with status := s.spi.loaded.status ||| 0x80 } (accepted s) := by
  rw [resendFrame, if_neg (by simp [serves]), resendCopy_loaded loaded]
  exact respond_inTime (s := accepted s) _ serves

/-- A discarded frame: its flags and counts, and the response with its edge count at a free address. -/
theorem discardFrame_serves {s : State} (e : Nat) (serves : s.spi.serving = true) : discardFrame e false s =
    prepared { status := if decide (e = 64) then 0x21 else 0x20, addr := (freeNat 16 (loadNext s)).1, data := pack [(24, 8, sat 8 e)] }
      { s with freeIx := s.freeIx + 1, spi := { s.spi with
        loaded := s.spi.next, frameErr := true, crcErr := s.spi.crcErr || decide (e = 64), discarded := satInc 65535 s.spi.discarded,
        crcCount := if decide (e = 64) then satInc 255 s.spi.crcCount else s.spi.crcCount } } := by
  rw [discardFrame, if_neg (by simp [serves])]
  exact respond_inTime (s := { s with spi := _, freeIx := _ }) _ serves

/-- Settles O47: the response of a RESEND is the copy, that of a discarded frame depends on its edge count alone. -/
theorem resendAndDiscardRows : Obligations.ResendAndDiscardRows := by
  intro s a awake serves
  refine ⟨fun loaded => exec_row awake (execResend.eq_1 a _ _) (resendFrame_loaded serves loaded),
    ⟨_, exec_row awake (execFrameDiscarded.eq_1 ..) (discardFrame_serves 64 serves), rfl, ?edges, rfl, ?crcErr, rfl, rfl, rfl, rfl⟩,
    fun e length low => ⟨_, exec_row awake (execFrameDiscarded.eq_1 ..) (discardFrame_serves e serves), ?_⟩⟩
  case edges => exact (by decide : pack [(24, 8, sat 8 64)] = 0x40000000)
  case crcErr => exact Bool.or_true _
  have fits : sat 8 e = e := by unfold sat; omega
  simp [prepared, length, fits]

/-! ### Privileged sessions (R298 to R300) -/

section
variable {s : State}

/-- Drawing random words leaves both sessions. -/
theorem randomWord_sess (i : SessIface) (s : State) : sess i (randomWord s).2 = sess i s := by
  unfold randomWord; split <;> cases i <;> rfl
theorem drawWords_sess (n : Nat) (i : SessIface) (s : State) : sess i (drawWords n s).2 = sess i s := by
  induction n generalizing s with
  | zero => rfl
  | succ n ih => exact (ih _).trans (randomWord_sess i s)

/-- A session after its own change. -/
@[simp] theorem modSess_sess (i : SessIface) (f : Session → Session) (s : State) : sess i (modSess i f s) = f (sess i s) := by
  cases i <;> rfl

/-- The session with its challenge formed from random words, before the frame that tells a Trellis requester. -/
def challenged (i : SessIface) (s : State) : State :=
  modSess i (fun x =>
    let x := { x with count := (x.count + 1) % 65536 }
    { x with state := .challenge, until_ := s.now + 10 * oneSec, buf := memWriteList 0 [] 0 (challengeBlock i x s.unitId (drawWords 8 s).1) })
    (drawWords 8 s).2

theorem sessRequest_eq (l : Nat) (s : State) : sessRequest .spi l s = if requestRefusal .spi l s = 0 then modSess .spi (fun x =>
    { x with state := .waitRng, result := 0, waitCrypto := false, lease := l, until_ := 0, buf := [] }) s
    else sessRes .spi (requestRefusal .spi l s) s := by
  by_cases accepted : requestRefusal .spi l s = 0 <;> simp [sessRequest, accepted]

theorem sessVerify_challenge (challenge : s.spi.sess.state = .challenge) :
    sessVerify .spi s = sessSlot .spi (modSess .spi (fun x => { x with state := .verifying }) s) := by
  rw [sessVerify, if_neg (not_not.2 (show (sess .spi s).state = .challenge from challenge))]

/-- A valid signature opens the session for its own lease. -/
theorem sessOpen_eq (i : SessIface) (s : State) : sessOpen i s = modSess i (fun x =>
    { x with state := .open_, result := 1, fails := 0, until_ := s.now + (sess i s).lease * oneMin }) s := by
  cases i <;> simp only [sessOpen, modSess, sess]

theorem sessClose_open (isOpen : s.spi.sess.state = .open_) : sessClose .spi s = sessNone .spi 7 s := by
  rw [sessClose, if_pos (show (sess .spi s).state = .open_ from isOpen)]

/-- A write to words 12 to 34 of SPI_AUTH_DATA is kept and advances the pointer. -/
theorem authWrite_kept {w : Word} (low : 12 ≤ s.spi.authPtr) (high : s.spi.authPtr ≤ 34) :
    (authWrite w s).spi.authPtr = s.spi.authPtr + 1 ∧ (authWrite w s).spi.sess.buf = memPutWord 0 s.spi.sess.buf (4 * s.spi.authPtr) w := by
  have step : ¬ 35 ≤ s.spi.authPtr := by omega
  simp [authWrite, authStep, modSess, low, step, show s.spi.authPtr ≤ 35 by omega]
end

/-- Settles O49: each command of a session by the state of the session. -/
theorem sessionRows : Obligations.SessionRows := by
  intro s i awake
  refine ⟨fun l => exec_row awake (execRequest.eq_1 ..) (sessRequest_eq l s), fun waits ready => ⟨challenged i s, ?formed, ?challenge⟩,
    fun idle => exec_row awake (execChallengeFormed.eq_1 ..) (if_neg fun h => idle h.1),
    fun challenge => exec_row awake (execVerify.eq_1 _) (sessVerify_challenge challenge),
    fun verifying granted => exec_row awake (execVerifyComplete.eq_1 ..) ?verified, rfl,
    fun isOpen => exec_row awake (execClose.eq_1 _) (sessClose_open isOpen),
    fun challenge => exec_row awake (execChallengeExpiry.eq_1 ..) (if_pos challenge),
    fun isOpen => exec_row awake (execSessionLeaseExpiry.eq_1 ..) (if_pos isOpen),
    fun locked => exec_row awake (execLockoutEnd.eq_1 ..) (if_pos locked), act_awake s _ awake,
    fun w low high => ⟨authWrite w s, act_awake s _ awake, authWrite_kept low high⟩⟩
  case formed => cases i <;> exact exec_row awake (execChallengeFormed.eq_1 ..) (if_pos ⟨waits, ready⟩)
  case challenge => simp [challenged, drawWords_sess]
  case verified => simp [verifying, granted, sessOpen_eq]

end Sys2Proof.Laws
end

section
/-! SUPPORT. Flash commands, the crypto engine's register interface, and the random number generator. -/

namespace Sys2Proof.Laws
open Sys2Proof Sys2Proof.Machine

section
variable {s : State}

/-! ### Flash commands (R350, R351) -/

/-- A flash command without a ground of refusal is under way; its data are the page buffer. -/
theorem flsBegin_begun {b k p : Nat} (program : Bool) (free : flsRefusal s b k p = 0) : flsBegin program b k p s =
    flsRes (if program then 2 else 1) 1 { s with fls := { s.fls with
      op := some { program := program, bank := b, sector := k, page := p, data := memReadList 0 s.fls.buf 0 256 } } } := by
  rw [flsBegin]; exact if_neg (not_not.2 free)
theorem flsBegin_refused {b k p : Nat} (program : Bool) (refused : flsRefusal s b k p ≠ 0) :
    flsBegin program b k p s = flsRes (if program then 2 else 1) (flsRefusal s b k p) s := by
  rw [flsBegin]; exact if_pos refused
end

/-- Settles O56: a command is refused or begun, an erase completed leaves the sector erased, and an access steps the pointer. -/
theorem flashRows : Obligations.FlashRows := by
  intro s awake
  refine ⟨fun b k free => exec_row awake (execEraseSector.eq_1 ..) (flsBegin_begun false free),
    fun b k p free => exec_row awake (execProgramPage.eq_1 ..) (flsBegin_begun true free),
    fun b k p refused => exec_row awake (execProgramPage.eq_1 ..) (flsBegin_refused true refused),
    fun o ok running erases => exec_row awake (execFlashOpComplete.eq_1 ..) ?erased,
    act_awake s flsStep awake, fun w => act_awake s (flsWrite w) awake⟩
  case erased => simp [running, erases]

section
variable {s : State}

/-! ### Context slots and operations (R368 to R370) -/

/-- A user without a slot takes the first while it is free. -/
theorem acquire_first {u : Nat} (free : s.cry.slot0 = 0) (other : s.cry.slot1 ≠ u) (user : u ≠ 0) :
    acquire u s = (true, { s with cry := { s.cry with slot0 := u } }) := by
  simp [acquire, slotHeld, free, other, user.symm]
/-- While others hold both slots the request is counted. -/
theorem acquire_busy {u : Nat} (first : s.cry.slot0 ≠ u) (second : s.cry.slot1 ≠ u) (held0 : s.cry.slot0 ≠ 0) (held1 : s.cry.slot1 ≠ 0) :
    acquire u s = (false, { s with cry := { s.cry with busyCnt := satInc 255 s.cry.busyCnt } }) := by
  simp [acquire, slotHeld, first, second, held0, held1]

/-- An operation starts on the free first slot. -/
theorem cryStart_started {code : Nat} {f : State → State} (idle : s.cry.mode = .none) (free : s.cry.slot0 = 0) (other : s.cry.slot1 ≠ 5) :
    cryStart code f s = f { s with cry := { s.cry with slot0 := 5 } } := by
  simp [cryStart, idle, acquire_first free other (by decide)]
theorem cryStart_outOfSequence {code : Nat} {f : State → State} (busy : s.cry.mode ≠ .none) : cryStart code f s = cryRes code 5 s :=
  if_pos busy

/-- A message in GCM starts with its own code and mode; key and IV are what the buffer holds. -/
theorem cryGcmStart_started (enc : Bool) (n : Nat) (idle : s.cry.mode = .none) (free : s.cry.slot0 = 0) (other : s.cry.slot1 ≠ 5) :
    cryGcmStart enc n s = cryRes (if enc then 4 else 5) 0 { s with cry := { s.cry with
      slot0 := 5, mode := if enc then .gcmEnc else .gcmDec, fin := false, aad := n, stream := [], out := [], ctx := bufWords s 0 11 } } := by
  rw [cryGcmStart, cryStart_started idle free other]; rfl

/-- A stream word of a hash only extends the stream. -/
theorem cryFeed_sha (w : Word) (sha : s.cry.mode = .sha) (open_ : s.cry.fin = false) :
    cryFeed w s = { s with cry := { s.cry with stream := w :: s.cry.stream } } := by
  simp [cryFeed, sha, open_, gcmMode]

/-- The end of a hash posts its digest and its result. -/
theorem cryFinish_sha (sha : s.cry.mode = .sha) : cryFinish s = cryRes 2 0 { s with cry := { s.cry with
    buf := (bufPut 0 (msbWords 12 (Config.sha384 (shaMessage s.cry)).toNat) s).cry.buf, mode := .none, fin := false } } := by
  simp only [cryFinish, sha, bufPut]

/-- RELEASE gives up every slot of the user. -/
theorem slotHeld_releaseSlot {u : Nat} (user : u ≠ 0) : slotHeld (releaseSlot u s) u = false := by
  unfold slotHeld releaseSlot
  by_cases h0 : s.cry.slot0 = u <;> by_cases h1 : s.cry.slot1 = u <;> simp [h0, h1, user.symm]
theorem cryReleaseCmd_released (idle : s.cry.fin = false) (held : slotHeld s 5 = true) : cryReleaseCmd s =
    cryRes 7 0 (releaseSlot 5 { s with cry := { s.cry with mode := .none, aad := 0, stream := [], out := [], ctx := [], buf := [] } }) := by
  simp [cryReleaseCmd, idle, held]

/-! ### The generator (R421 to R424) -/

/-- A window that fails, noted with the windows of the last 64. -/
def windowFailed (t : RngTest) (s : State) : State :=
  { s with lcs := { s.lcs with rngFails := satInc 255 s.lcs.rngFails, rngTimes := s.now :: s.lcs.rngTimes.filter (within s windows64),
                               lastTest := match t with | .repetition => 1 | .proportion => 2 } }

theorem CellarOnly.cry {s t : State} (h : CellarOnly s t) : t.cry = s.cry := by obtain ⟨_, rfl⟩ := h.elim; rfl
theorem CellarOnly.lcs {s t : State} (h : CellarOnly s t) : t.lcs = s.lcs := by obtain ⟨_, rfl⟩ := h.elim; rfl
/-- The record of a generator that failed leaves its state and its counts. -/
theorem rngFailed_rng (s : State) : (rngFailed s).cry.rng = .failed := by
  rw [rngFailed, record, CellarOnly.cry (queueRecord_cellar ..)]
theorem rngFailed_lcs (s : State) : (rngFailed s).lcs = s.lcs := by
  rw [rngFailed, record, CellarOnly.lcs (queueRecord_cellar ..)]
end

/-- Settles O57: each operation by the mode and the slots it finds, and the generator by its state. -/
theorem cryptoRows : Obligations.CryptoRows := by
  refine ⟨fun s awake => ⟨fun idle free other => ⟨exec_row awake (execShaStart.eq_1 ..) (cryStart_started idle free other),
      exec_row awake (execEcdsaVerify.eq_1 ..) (cryStart_started idle free other),
      fun n => exec_row awake (execGcmEncStart.eq_1 ..) (cryGcmStart_started true n idle free other),
      fun n => exec_row awake (execGcmDecStart.eq_1 ..) (cryGcmStart_started false n idle free other)⟩,
    fun busy => exec_row awake (execShaStart.eq_1 ..) (cryStart_outOfSequence busy),
    fun idle first second => exec_row awake (execShaStart.eq_1 ..) ?bothHeld,
    fun n sha open_ atLeast atMost fed => exec_row awake (execShaFinal.eq_1 ..) ?shaFinal,
    fun enc open_ aad => exec_row awake (execGcmFinal.eq_1 ..) ?gcmFinal,
    fun idle held => ⟨_, exec_row awake (execCryRelease.eq_1 ..) (cryReleaseCmd_released idle held), slotHeld_releaseSlot (by decide), rfl, rfl⟩,
    fun w sha open_ => (act_awake s (cryFeed w) awake).trans (by rw [cryFeed_sha w sha open_]),
    act_awake s cryTake awake, fun w => ⟨cryBufWrite w s, act_awake s _ awake, rfl, ?kept⟩,
    fun final sha => ⟨cryFinish s, exec_row awake (execCryptoOpComplete.eq_1 ..) ?ends, ?posted⟩⟩, fun s awake => ⟨fun ready => exec_row awake (execRngDataRead.eq_1 ..) ?drawn,
    fun starting => exec_row awake (execRngReady.eq_1 ..) (if_pos starting),
    fun t starting => ⟨rngFailed (windowFailed t s), exec_row awake (execRngWindowFail.eq_def t s) ?failed, rngFailed_rng _, ?counted⟩,
    fun t ready none_ => ⟨windowFailed t s, exec_row awake (execRngWindowFail.eq_def t s) ?goesOn, ready, ?noted⟩⟩⟩
  case bothHeld =>
    have busy := acquire_busy (s := s) (u := 5) (by omega) (by omega) (by omega) (by omega)
    simp [cryShaStart, cryStart, idle, busy]
  case shaFinal => exact if_neg (by simp [sha, open_, fed]; omega)
  case gcmFinal => exact if_neg (by simp [gcmMode, enc, open_, aad])
  case kept => simp [cryBufWrite, cryStep, bufPut, memPutWord]
  case ends => rw [if_pos final]
  case posted => rw [cryFinish_sha sha]; exact ⟨rfl, rfl, rfl⟩
  case drawn => simp [randomWord, ready]
  case failed => cases t <;> simp [starting, windowFailed]
  case counted => rw [rngFailed_lcs]; rfl
  case goesOn => cases t <;> simp [ready, none_, windowFailed]
  case noted => simp [windowFailed, none_]

end Sys2Proof.Laws
end

section
/-! SUPPORT. The Trellis: frames of the segment, frames for this module and others, sending, timers and TRL_CMD. -/

namespace Sys2Proof.Laws
open Sys2Proof Sys2Proof.Machine

section
variable (s : State) (p : TrlPort)

/-! ### Ports -/

@[simp] theorem modPort_port_same (f : Port → Port) : (s.modPort p f).port p = f (s.port p) := by cases p <;> rfl
@[simp] theorem modPort_addr (f : Port → Port) : (s.modPort p f).trl.addr = s.trl.addr := by cases p <;> rfl
@[simp] theorem learnSrc_port (r : TrlPort) (a : Nat) (q : TrlPort) : (learnSrc r a s).port q = s.port q := by cases q <;> rfl
@[simp] theorem learnSrc_addr (r : TrlPort) (a : Nat) : (learnSrc r a s).trl.addr = s.trl.addr := rfl
@[simp] theorem trlFlt_port (k : Nat) (q : TrlPort) : (trlFlt k s).port q = s.port q := by cases q <;> rfl
@[simp] theorem flushPort_port (q : TrlPort) : (flushPort p s).port q = s.port q := by cases q <;> rfl

/-- A frame heard leaves who is behind the port. -/
@[simp] theorem portHear_state (a : Nat) (m : Bool) (c t : Nat) (x : Port) : (portHear a m c t x).state = x.state := by
  simp only [portHear]; split_ifs <;> rfl
@[simp] theorem portHear_peer (a : Nat) (m : Bool) (c t : Nat) (x : Port) : (portHear a m c t x).peer = x.peer := by
  simp only [portHear]; split_ifs <;> rfl
@[simp] theorem portHear_hasPeer (a : Nat) (m : Bool) (c t : Nat) (x : Port) : (portHear a m c t x).hasPeer = x.hasPeer := by
  simp only [portHear]; split_ifs <;> rfl
/-- The credits a module returns within the bound are held. -/
theorem portHear_held {a c t : Nat} {x : Port} (peer : x.hasPeer = true) (fits : x.held + c ≤ 6) :
    (portHear a true c t x).held = x.held + c := by
  simp [portHear, peer, show ¬ 6 < x.held + c by omega]
/-- The census does not touch the neighbour. -/
@[simp] theorem censusModule_state (a t : Nat) (x : Port) : (censusModule a t x).state = x.state := by
  unfold censusModule; split_ifs <;> rfl
@[simp] theorem censusModule_peer (a t : Nat) (x : Port) : (censusModule a t x).peer = x.peer := by
  unfold censusModule; split_ifs <;> rfl

/-- The state after a frame was heard on a port. -/
abbrev heardOn (a : Nat) (m : Bool) (c : Nat) : State := s.modPort p (portHear a m c s.now)
end

section
variable {s : State} {p : TrlPort}

/-! ### Frames of the segment (R320 to R323, R328, R332, R334) -/

theorem hearLocal_inService {a c : Nat} {m : Bool} (on : (s.port p).state ≠ .off) :
    hearLocal p a m c s = some (heardOn s p a m c) := if_neg on

/-- The neighbour of a linked port is heard again. -/
theorem heardModule_neighbour {hb : Hb} (linked : (s.port p).state = .linked) (known : hb.src = (s.port p).peer) :
    ((heardModule p hb s).port p).peerHb = hb.tHb ∧ ((heardModule p hb s).port p).state = .linked := by
  simp [heardModule, linked, known]

/-- A HEARTBEAT of another module that asks for no long frames goes to the port's state machine. -/
theorem heartbeat_otherModule {hb : Hb} (awake : Awake s) (on : (s.port p).state ≠ .off) (other : hb.src ≠ s.trl.addr)
    (fromModule : hb.isModule = true) (short : hb.longReq = false) : exec (.heartbeat p hb) s =
    .next (settle s (heardModule p hb (heardOn s p hb.src true hb.cr))) := by
  refine exec_row awake (execHeartbeat.eq_1 ..) ?_
  rw [hearLocal_inService on]
  simp [other, fromModule, short]
end

/-- Settles O50: a port in service hears the frame and then does what its kind asks. -/
theorem trellisSegmentRows : Obligations.TrellisSegmentRows := by
  intro s p awake on
  refine ⟨fun hb other fromModule short => heartbeat_otherModule awake on other fromModule short,
    fun hb other fromModule short linked known => ⟨_, heartbeat_otherModule awake on other fromModule short, ?_⟩,
    fun t => exec_row awake (execTime.eq_1 ..) (if_neg on),
    fun v a t1 t2 t3 here => exec_row awake (execDelayReq.eq_1 v a t1 t2 t3 s) ?delayReq,
    fun v a t1 t2 t3 t4 here fromModule peer known => ⟨_, exec_row awake (execDelayRsp.eq_1 ..) rfl, ?delay⟩,
    fun n peer fits => ⟨heardOn s p (s.port p).peer true n, exec_row awake (execCredit.eq_1 ..) ?credit, ?held⟩,
    exec_row awake (execLongReqExpiry.eq_1 ..) rfl⟩
  · exact heardModule_neighbour (by simpa using linked) (by simpa using known)
  case delayReq =>
    subst here
    rw [hearLocal_inService on]
  case delay =>
    subst here
    simp [hearLocal_inService on, peer, known]
  case credit => rw [hearLocal_inService on]; rfl
  case held => simpa using portHear_held peer fits

/-! ### Frames for this module and for others (R326 to R331, R336 to R339) -/

section
variable {s : State} {v : Via} {a : Nat}

/-- A frame heard with its source learned. -/
abbrev learnedFrom (v : Via) (a : Nat) (s : State) : State := learnSrc v.port a (heardOn s v.port a v.isModule v.cr)

/-- With no module behind the port, a unicast frame of another is heard, learned and run. -/
theorem consume_run (f : State → State) (on : (s.port v.port).state ≠ .off) (free : bufFree (s.port v.port) v.isModule = true)
    (other : a ≠ s.trl.addr) (alone : (s.port v.port).hasPeer = false) : consume v a f s = f (learnedFrom v a s) := by
  have heard : hear v a s = some (learnedFrom v a s) := if_neg (by simp [on, free])
  simp [consume, heard, alone, other]

theorem dropWindow_none (none_ : s.upd.window = none) : dropWindow a s = s := by simp [dropWindow, none_]
end

/-- Settles O51: the frame is heard, then its kind decides; one for another module is held for the other port. -/
theorem trellisFrameRows : Obligations.TrellisFrameRows := by
  intro s v a awake on free other alone t
  have run (f : State → State) : consume v a f s = f t := consume_run f on free other alone
  have upd : t.upd = s.upd := modPort_upd ..
  refine ⟨fun r src => exec_row awake (execRegReq.eq_1 ..) (src ▸ run _), fun op => exec_row awake (execAuth.eq_1 ..) (run _),
    fun o => exec_row awake (execGraftOffer.eq_1 ..) (run _), fun g f n => exec_row awake (execGraftWant.eq_1 ..) (run _),
    fun w => exec_row awake (execGraftWindow.eq_1 ..) (run _), fun bs => exec_row awake (execGraftChunk.eq_1 ..) (run _),
    fun bs w window src port room => exec_row awake (execGraftChunk.eq_1 ..) ((run _).trans ?chunk),
    fun w want window => exec_row awake (execGraftWindow.eq_1 ..) ((run _).trans ?window),
    fun g f n gid window => exec_row awake (execGraftWant.eq_1 ..) ((run _).trans ?want),
    fun r src kept bad => exec_row awake (execRegReq.eq_1 ..) ((src ▸ run _ : consume v r.src _ s = _).trans ?request),
    fun f src fromModule cr typ uni dest learned => exec_row awake (execTrellisForward.eq_1 ..) ?forward,
    fun f src fromModule cr typ uni dest => exec_row awake (execTrellisForward.eq_1 ..) ?freed⟩
  case chunk => simp [heardChunk, upd, window, src, port, room]
  case window => simp [heardWindow, dropWindow_none (upd ▸ window : t.upd.window = none), upd, want]
  case want => simp [heardWant, dropWindow_none (upd ▸ window : t.upd.window = none), upd, gid]
  case request => simp [regRequest, kept, bad]
  case forward =>
    rw [if_neg (by omega), if_neg (by simp [on, fromModule, free]), if_neg (src ▸ other)]
    simp only [src, fromModule, cr, uni]
    exact if_pos (by simpa [dest] using learned)
  case freed =>
    rw [if_neg (by omega), if_neg (by simp [on, fromModule, free]), if_neg (src ▸ other)]
    simp only [src, fromModule, cr, uni]
    exact if_neg (by simp [dest])

/-! ### Sending (R312, R316 to R318, R330) -/

/-- Settles O52: an error is counted on its port, and the result of an attempt acts on the frame that may leave. -/
theorem trellisSendRows : Obligations.TrellisSendRows := by
  intro s p awake
  refine ⟨fun on => exec_row awake (execTrellisFrameError.eq_def p .clash s) (if_neg on), fun on => exec_row awake (execTrellisFcrcFail.eq_1 ..) (if_neg on),
    exec_row awake (execClashBackoffEnd.eq_1 ..) rfl, fun k q may front => ⟨exec_row awake (execTrellisSendResult.eq_def p .taken s) ?taken,
      exec_row awake (execTrellisSendResult.eq_def p .noTake s) ?noTake, exec_row awake (execTrellisSendResult.eq_def p .error s) ?error,
      exec_row awake (execTrellisSendResult.eq_def p .arbLost s) ?arbLost⟩,
    fun on => exec_row awake (execHeartbeatSend.eq_1 ..) (if_neg on),
    fun owed idle => exec_row awake (execCreditOwedSend.eq_1 ..) (if_pos ⟨owed, idle⟩)⟩
  all_goals simp [may, front]

/-! ### Timers and TRL_CMD (R310, R324, R329, R332 to R335, R339) -/

section
variable {s : State} {p : TrlPort}

/-- The module behind a port is lost: what is kept of it there. -/
def neighbourGone (p : TrlPort) (s : State) : State :=
  (newCredits p 0 s).modPort p (fun x => { x with peer := 0, hasPeer := false, farNamed := 0, losses := satInc 255 x.losses })
/-- A linked port whose module is lost: merged, the fault flagged. -/
def linkLost (p : TrlPort) (s : State) : State :=
  trlFlt (1 + portIx p) ((flushPort p (neighbourGone p s)).modPort p (fun x => { x with state := .merged, changedAt := s.now }))

theorem neighbourGone_port : ((neighbourGone p s).port p).hasPeer = false ∧ ((neighbourGone p s).port p).held = 0 ∧
    ((neighbourGone p s).port p).losses = satInc 255 (s.port p).losses := by
  cases p <;> simp [neighbourGone, newCredits, modPort_port]
theorem linkLost_port : ((linkLost p s).port p).state = .merged ∧ ((linkLost p s).port p).hasPeer = false ∧
    ((linkLost p s).port p).held = 0 ∧ ((linkLost p s).port p).losses = satInc 255 (s.port p).losses := by
  simpa [linkLost] using neighbourGone_port

section
variable (w : working s.sys.mode = true)
include w
theorem trlSetAddr_working (a : Nat) : trlSetAddr a s =
    trlRes 1 0 (saveIdentity (electSelf { s with trl := { s.trl with addr := a % 65536 } })) := if_neg (by simp [trlCmdMode, w])
theorem trlFlush_working : trlFlush s = trlRes 2 0 { s with trl := { s.trl with learn := [], noBcastB := false } } :=
  if_neg (by simp [trlCmdMode, w])
theorem trlMeasure_working : trlMeasure s = trlRes 3 0 (askDelay .b (askDelay .a s)) := if_neg (by simp [trlCmdMode, w])
theorem trlEndSession_working : trlEndSession s = if s.trl.sess.state ≠ .open_ then trlRes 4 4 s
    else trlRes 4 0 { s with trl := { s.trl with sess := endSession9 s.trl.sess } } := if_neg (by simp [trlCmdMode, w])
end

section
variable (w : working s.sys.mode = false)
include w
theorem trlSetAddr_refused (a : Nat) : trlSetAddr a s = trlRes 1 2 s := if_pos (by simp [trlCmdMode, w])
theorem trlFlush_refused : trlFlush s = trlRes 2 2 s := if_pos (by simp [trlCmdMode, w])
theorem trlMeasure_refused : trlMeasure s = trlRes 3 2 s := if_pos (by simp [trlCmdMode, w])
theorem trlEndSession_refused : trlEndSession s = trlRes 4 2 s := if_pos (by simp [trlCmdMode, w])
end
end

/-- Settles O53: each timer in the state it finds, and TRL_CMD by the mode. -/
theorem trellisTimerRows : Obligations.TrellisTimerRows := by
  refine ⟨fun s p awake => ⟨fun linked => ⟨linkLost p s, exec_row awake (execNeighbourLost.eq_1 ..) ?lost, linkLost_port⟩,
    exec_row awake (execTimeSend.eq_1 ..) rfl, fun locked => exec_row awake (execTimeLockLost.eq_1 ..) (if_pos locked),
    exec_row awake (execDelayMeasure.eq_1 ..) rfl, fun a => exec_row awake (execLearnAge.eq_1 ..) rfl,
    fun a => exec_row awake (execCensusAge.eq_1 ..) rfl, fun serves => exec_row awake (execPassThroughOpen.eq_1 ..) (if_pos serves)⟩,
    fun s awake => ⟨fun w => ⟨fun a => exec_row awake (execSetAddr.eq_1 ..) (trlSetAddr_working w a),
      exec_row awake (execFlushLearn.eq_1 ..) (trlFlush_working w), exec_row awake (execMeasureDelay.eq_1 ..) (trlMeasure_working w),
      fun isOpen => exec_row awake (execEndSession.eq_1 ..) ((trlEndSession_working w).trans (if_neg (not_not.2 isOpen))),
      fun closed => exec_row awake (execEndSession.eq_1 ..) ((trlEndSession_working w).trans (if_pos closed))⟩,
    fun w => ⟨fun a => exec_row awake (execSetAddr.eq_1 ..) (trlSetAddr_refused w a), exec_row awake (execFlushLearn.eq_1 ..) (trlFlush_refused w),
      exec_row awake (execMeasureDelay.eq_1 ..) (trlMeasure_refused w), exec_row awake (execEndSession.eq_1 ..) (trlEndSession_refused w)⟩⟩⟩
  case lost => simp only [linked]; rfl

end Sys2Proof.Laws
end

section
/-! SUPPORT. Graft transfer, verification and UPD_CMD, and the phases of an activation. -/

namespace Sys2Proof.Laws
open Sys2Proof Sys2Proof.Machine

section
variable {s : State}

/-! ### Transfer (R345, R353 to R358) -/

/-- STORE_CHUNK of a chunk other than 0 by what refuses the chunk. -/
theorem updStore_chunk {a : Agent} (receiving : s.upd.state = .receiving) (noTrial : s.fls.trial = false) (notFirst : (s.agent a).hxIdx ≠ 0) :
    updStore a s = if chunkRefusal s (s.agent a).hxIdx ≠ 0 then updRes 1 (chunkRefusal s (s.agent a).hxIdx) s
      else updRes 1 0 (storeOne (s.agent a).hxIdx (memReadList 0 (s.agent a).hxBuf 0 256) s) := by
  simp [updStore, receiving, noTrial, notFirst]

/-! ### Verification and the codes of UPD_CMD (R346 to R348, R359 to R362, R364) -/

theorem CellarOnly.upd {s t : State} (h : CellarOnly s t) : t.upd = s.upd := by obtain ⟨_, rfl⟩ := h.elim; rfl
theorem saveState_upd (s : State) : (saveState s).upd = s.upd := (saveState_cellar s).upd
theorem saveActivation_upd (s : State) : (saveActivation s).upd = s.upd := CellarOnly.upd (blockWrite_cellar ..)
theorem clearBitmap_bitmap (s : State) : (clearBitmap s).upd.bitmap = 0 := rfl

/-- A verification that finds a slot free runs and gives it back. -/
theorem graftVerify_runs (complete : s.upd.state = .complete) (ready : s.cry.rng = .ready) (free : s.cry.slot0 = 0) (other : s.cry.slot1 = 0)
    (awake : Awake s) : exec .graftVerify s = .next (settle s (verified (releaseSlot 2 { s with cry := { s.cry with slot0 := 2 } }))) := by
  refine exec_row awake (execGraftVerify.eq_1 ..) ?_
  have took := acquire_first (s := s) (u := 2) free (by omega) (by decide)
  simp [complete, ready, took]
/-- One that finds none is counted and waits. -/
theorem graftVerify_waits (complete : s.upd.state = .complete) (ready : s.cry.rng = .ready) (first : s.cry.slot0 = 3) (second : s.cry.slot1 = 5)
    (awake : Awake s) : exec .graftVerify s = .next (settle s { s with cry := { s.cry with busyCnt := satInc 255 s.cry.busyCnt } }) := by
  refine exec_row awake (execGraftVerify.eq_1 ..) ?_
  have busy := acquire_busy (s := s) (u := 2) (by omega) (by omega) (by omega) (by omega)
  simp [complete, ready, busy]

/-- What DISCARD leaves of a Graft. -/
theorem updDiscard_upd (verified : s.upd.state = .verified) : (updDiscard s).upd.state = .none ∧ (updDiscard s).upd.gid = 0 ∧
    (updDiscard s).upd.total = 0 ∧ (updDiscard s).upd.bitmap = 0 ∧ (updDiscard s).upd.cmd = cmdRes 2 0 := by
  rw [updDiscard, if_neg (by simp [verified])]
  simp only [updRes, saveState_upd, saveActivation_upd, clearBitmap_bitmap, and_self]

section
variable (mode : working s.sys.mode = true) (noShip : s.eis.shipRun = false)
include mode noShip
/-- In a working mode ACTIVATE needs a Graft that is VERIFIED. -/
theorem updActivate_working : updActivate s = if s.upd.state ≠ .verified then updRes 3 3 s else beginActivation (limpIdle s) (updRes 3 0 s) :=
  if_neg (by simp [mode, noShip])
theorem updActivateAt_scheduled (verified : s.upd.state = .verified) (locked : s.trl.locked = true) (early : 100000 ≤ trlUntil s (activateTime s))
    (late : trlUntil s (activateTime s) ≤ 86400000000) :
    updActivateAt s = updRes 4 0 (saveActivation { s with upd := { s.upd with phase := .scheduled } }) := by
  rw [updActivateAt, if_neg (by simp [mode, noShip]), if_neg (by simp [verified]), if_neg (by simp [locked, early, late])]
end
end

/-- Settles O54: windows and chunks by the window open, and each command by the state of the Graft. -/
theorem graftRows : Obligations.GraftRows := by
  refine ⟨fun s awake => ⟨fun w window whole crc => exec_row awake (execGraftWindowComplete.eq_1 ..) ?right,
      fun w window whole crc => exec_row awake (execGraftWindowComplete.eq_1 ..) ?wrong,
      fun w window => exec_row awake (execGraftWindowTimeout.eq_1 ..) ?dropped,
      fun verified held => exec_row awake (execGraftOfferSend.eq_1 ..) (if_pos (Bool.and_eq_true_iff.2 ⟨by simp [serves, verified], decide_eq_true held⟩)),
      fun receiving => exec_row awake (execGraftWantRepeat.eq_1 ..) (if_pos receiving),
      fun receiving unchecked held => exec_row awake (execManifestComplete.eq_1 ..) (if_neg (by simp [receiving, unchecked, held])),
      fun a receiving noTrial notFirst free => exec_row awake (execStoreChunk.eq_1 ..)
        ((updStore_chunk receiving noTrial notFirst).trans (if_neg (not_not.2 free))),
      fun a receiving noTrial notFirst refused => exec_row awake (execStoreChunk.eq_1 ..)
        ((updStore_chunk receiving noTrial notFirst).trans (if_pos refused))⟩,
    fun s awake => ⟨fun complete ready free other => graftVerify_runs complete ready free other awake,
      fun complete ready first second => graftVerify_waits complete ready first second awake,
      fun verified => ⟨updDiscard s, exec_row awake (execDiscard.eq_1 ..) rfl, updDiscard_upd verified⟩,
      fun none_ => exec_row awake (execDiscard.eq_1 ..) (if_pos (.inl none_)),
      fun mode noShip verified => exec_row awake (execActivate.eq_1 ..) ((updActivate_working mode noShip).trans (if_neg (not_not.2 verified))),
      fun mode noShip carried => exec_row awake (execActivate.eq_1 ..) ((updActivate_working mode noShip).trans (if_pos (by simp [carried]))),
      fun mode noShip verified locked early late => exec_row awake (execActivateAt.eq_1 ..)
        (updActivateAt_scheduled mode noShip verified locked early late),
      fun scheduled => exec_row awake (execCancelAct.eq_1 ..) (if_neg (not_not.2 scheduled)),
      fun scheduled verified mode => exec_row awake (execActivationTimeReached.eq_1 ..) (if_pos ⟨scheduled, verified, mode⟩)⟩⟩
  case right => simp [window, whole, crc]
  case wrong => simp [window, whole, crc]
  case dropped => simp [window]

/-! ### The phases of an activation (R360 to R366) -/

/-- Settles O55: each phase's command by the phase it finds. -/
theorem activationRows : Obligations.ActivationRows := by
  intro s awake
  refine ⟨fun active guard mode clear => exec_row awake (execPeerGuardRecheck.eq_1 ..) ?entered,
    fun active guard mode limp late => ⟨refuseActivation 0x21 s, exec_row awake (execPeerGuardRecheck.eq_1 ..) ?refused, rfl, rfl, rfl⟩,
    fun trial own mode => exec_row awake (execTrialEnd.eq_1 ..) (if_pos (by simp [trial, own, mode])),
    fun active cells mode => exec_row awake (execActivationCellStep.eq_1 ..) (if_pos ⟨active, cells, mode⟩),
    fun n active cells waits => exec_row awake (execActStalled.eq_1 ..) (if_pos ⟨active, cells, waits⟩),
    fun active structure_ noRepair mode written => exec_row awake (execActivationStructure.eq_1 ..) ?staged,
    fun limp rom power vResult verified bound fits => exec_row awake (execRepairActivation.eq_1 ..)
      (if_pos ⟨limp, rom, power, vResult, verified, bound, fits⟩)⟩
  case entered => simp [active, guard, mode, clear]
  case refused => simp [active, guard, mode, limp, late]
  case staged => simp [active, structure_, mode, written]

end Sys2Proof.Laws
end
